-- ==== Sys2Proof/Word.lean ====
section
/-! DEFINITION. The word types of the PX8812: every register, object, flit field and memory byte is a bit vector (R2). -/

namespace Sys2Proof

/-- A byte of memory or of a frame (R3). -/
abbrev Byte := BitVec 8
/-- A 16-bit value of the dictionary (R452). -/
abbrev U16 := BitVec 16
/-- A 32-bit value of the dictionary (R452). -/
abbrev U32 := BitVec 32
/-- A 64-bit value of the dictionary, and one word of any record (R452, R464). -/
abbrev U64 := BitVec 64
/-- An address of the device map, 44 bits (R256). -/
abbrev Addr := BitVec 44

end Sys2Proof
end

