-- ==== Sys2Proof/Syntax.lean ====
section
/-! DEFINITION. The syntax of the commands: one constructor of `Instr` for each row of spec/opcode_table.json, in the table's order,
with the operands the rule of the row names. What comes from outside the block (data a host or a peer returns, a sample, the outcome
of an electrical test) is an operand. -/

namespace Sys2Proof

/-! ## The device's resources (R9) -/

/-- A grove, package grove number n = 56d + g (R9, R557). -/
abbrev GroveId := Fin 224
/-- A fabric die F0-F3 (R9), and its steward. -/
abbrev DieId := Fin 4
/-- A Stand S0-S7 (R9). -/
abbrev StandId := Fin 8
/-- A stream slot q of a stream engine, and a command slot of a near-memory engine (R217, R286). -/
abbrev SlotIx := Fin 8
/-- A root stack M0-M7 (R9). -/
abbrev StackId := Fin 8
/-- A pseudo-channel of a stack (R265). -/
abbrev PcId := Fin 32
/-- A Xannus port X0-X11 (R9). -/
abbrev PortId := Fin 12
/-- A lane of a Xannus port (R9). -/
abbrev LaneIx := Fin 8
/-- A PCI Express function: 0 the physical function, s + 1 the virtual function of Stand s (R21, R512). -/
abbrev FuncId := Fin 9
/-- A node of the on-package network (R300). -/
abbrev NodeId := Fin 800
/-- A router of the on-package network (R299). -/
abbrev RouterId := Fin 400
/-- A Clearing, 24d + c (R9, R559). -/
abbrev ClearingId := Fin 96
/-- A multicast tree (R312). -/
abbrev TreeId := Fin 256
/-- A rail number (R516). -/
abbrev RailId := Fin 20

/-- A tile, or the vector context of the same number in the same grove (R9, R126). -/
structure TileRef where
  /-- the grove -/
  grove : GroveId
  /-- the tile T0-T3, or context 0-3 -/
  tile : Fin 4
  deriving DecidableEq, Repr

/-- A stream slot of a grove's stream engine (R217). -/
structure SlotRef where
  /-- the grove -/
  grove : GroveId
  /-- the slot -/
  slot : SlotIx
  deriving DecidableEq, Repr

/-- An input or output of a router (R299, R306). -/
inductive OutPort where
  | e | w | n | s | l0 | l1
  deriving DecidableEq, Repr

/-- A virtual channel of the network (R309). -/
inductive Channel where
  | request | response | multicast
  deriving DecidableEq, Repr

/-- A unit that can be reset by itself (R34, domain unit). -/
inductive UnitRef where
  | tile (t : TileRef)
  | engine (g : GroveId)
  | stream (g : GroveId)
  | iface (g : GroveId)
  deriving DecidableEq, Repr

/-! ## Requests for objects -/

/-- Who makes an access to the dictionary (R454). -/
inductive Requester where
  /-- a PCI Express function, over BAR0 -/
  | func (f : FuncId)
  /-- the Harip session in place k of the session table -/
  | session (k : Fin 4)
  /-- a frame with SESSION 0 -/
  | stranger
  deriving DecidableEq, Repr

/-- A BAR0 write request as the endpoint receives it (R10, R453). -/
structure Bar0Write where
  /-- the function whose BAR0 is written -/
  func : FuncId
  /-- the offset in the 256 MiB of BAR0 -/
  offset : BitVec 28
  /-- the access's size in bytes, minus one -/
  bytesM1 : BitVec 6
  /-- the data, in the low bytes -/
  data : U64
  deriving DecidableEq, Repr

/-- A pending change of an assignment between Stands (R28, R260, R406). -/
inductive AssignObj where
  | groveRect (s : StandId)
  | stackShare (s : StandId)
  | memRange (s : StandId) (i : Fin 16)
  | clearingOwner (c : ClearingId)
  deriving DecidableEq, Repr

/-! ## Errors -/

/-- The checked errors of R537, and the overrun of a recovery stage that R547 logs. -/
inductive CheckedError where
  | tileResidue | tileAccParity | vecRegParity | sramCe | sramUe
  | stkCe | stkUe | stkAddr | stkLink | stkTrain | stkFail
  | netLink | netParity | netRoute
  | xanLane | xanRetry | xanDown | xanTrain
  | cfgCe | cfgUe | cfgShadowUe | cfgScrubParity
  | unitHang | stewardHang | resetTimeout | rangerWatchdog | pcieInternal
  | stageOverrun
  deriving DecidableEq, Repr

/-- The kind of the unit an error record names (R557, UNIT_KIND). -/
inductive UnitKind where
  | none | tile | engine | stream | sramWord | stackLine | link | router | lane | frame | steward | rail
  deriving DecidableEq, Repr

/-- An error record (R31, R557). -/
structure ErrorReport where
  /-- the error -/
  err : CheckedError
  /-- the die where it is reported (R30) -/
  die : DieId
  /-- the Stands named by the records of the resource; empty for "none" (R31) -/
  stands : List StandId
  /-- the kind of the unit -/
  kind : UnitKind
  /-- the unit's number, as FaultLog UNIT gives it (R557) -/
  unit : U16
  /-- command TAG or stage number (R557, DETAIL) -/
  detail : U16
  /-- the address (R557, ADDR) -/
  addr : U64
  /-- a tile or vector engine read the word (R537, SRAM_UE) -/
  byEngine : Bool
  /-- the frame is marked ESSENTIAL (R537, CFG_CE) -/
  essential : Bool
  deriving DecidableEq, Repr

/-! ## What comes back from outside -/

/-- What a read of host space returns (R251, R510): the bytes, or an error completion, poisoned data or a timeout. -/
inductive ExtRead where
  | data (bytes : List Byte)
  | error
  deriving DecidableEq, Repr

/-- A fetch ahead: the slot, and what a read of host space returns (R248). -/
structure FetchAhead where
  slot : SlotRef
  ext : ExtRead
  deriving DecidableEq, Repr

/-- One run of a tile's writer: the tile, and the vector at whose read the accumulator file shows a parity mismatch (R106, R112). -/
structure WriterRun where
  tile : TileRef
  parity : Option (Fin 128)
  deriving DecidableEq, Repr

/-- The flit at the front of a router input: its channel, and whether the router finds a parity mismatch in it (R302, R310). -/
structure HopFlit where
  chan : Channel
  parity : Bool
  deriving DecidableEq, Repr

/-- The control word and the status word of a training frame, as received (R341). -/
structure TrainingWords where
  control : BitVec 32
  status : BitVec 32
  deriving DecidableEq, Repr

/-- The completion of a Translation Request (R250, R506). -/
inductive TransResult where
  /-- the page is present and the access permitted: the translated page -/
  | present (page : BitVec 52)
  /-- the page is not present or the access not permitted -/
  | missing
  /-- the request itself received an error completion or timed out -/
  | failed
  deriving DecidableEq, Repr

/-- The code of a Page Request Group Response (R251). -/
inductive PageCode where
  | success | invalidRequest | responseFailure
  deriving DecidableEq, Repr

/-- A unit of SRAM that has a patrol of its own (R264). -/
inductive PatrolUnit where
  | tileSram (t : TileRef)
  | localStore (g : GroveId)
  | blockRam (d : DieId) (b : Fin 4608)
  | understory (d : DieId)
  /-- the shadow store of a fabric die's configuration (R436) -/
  | shadow (d : DieId)
  deriving DecidableEq, Repr

/-- One element a smov with OP 1 or 2 sends to a root stack's reduction path (R235, R275). -/
structure Reduction where
  /-- the element's device address -/
  addr : Addr
  /-- OPX of the request (R304) -/
  opx : BitVec 5
  /-- the element: Hazel16 in the low 16 bits, or Hazel32 -/
  value : U32
  deriving DecidableEq, Repr

/-- The sweep of train_lane on one lane (R281): for each reference v the delays t that pass. -/
structure LaneSweep where
  /-- the lane, 0-287 -/
  lane : Fin 288
  /-- read training: row v, bit t set where test(read, v, t) passes -/
  readPass : List (BitVec 256)
  /-- write training -/
  writePass : List (BitVec 256)
  deriving DecidableEq, Repr

/-- A barrier message a job Stand receives from another device (R380). -/
structure BarrierMsg where
  /-- the StepSeq of the step concerned -/
  stepSeq : U64
  /-- STATUS of R380 -/
  status : Byte
  /-- the attempt number -/
  attempt : Byte
  deriving DecidableEq, Repr

/-- A request user logic puts on UTX_REQ (R402). -/
structure UtxReq where
  /-- KIND -/
  kind : BitVec 4
  /-- TARGET -/
  target : BitVec 2
  /-- DEV -/
  dev : BitVec 10
  /-- ADDR -/
  addr : BitVec 57
  /-- OPX -/
  opx : BitVec 5
  /-- TXN -/
  txn : BitVec 7
  /-- GROUP -/
  group : BitVec 9
  /-- DATA -/
  data : BitVec 1024
  deriving DecidableEq, Repr

/-- An answer user logic puts on UTX_RSP (R402, R404). -/
structure UtxRsp where
  /-- KIND -/
  kind : BitVec 4
  /-- TAG -/
  tag : BitVec 6
  /-- CODE -/
  code : Byte
  /-- DATA -/
  data : BitVec 1024
  deriving DecidableEq, Repr

/-- A frame of the field network as the MAC receives it (R470, R474). -/
structure FieldFrame where
  /-- destination, first octet in bits 7:0 (R474) -/
  dst : BitVec 48
  /-- source, first octet in bits 7:0 -/
  src : BitVec 48
  /-- the frame carries an IEEE 802.1Q tag -/
  tagged : Bool
  /-- the EtherType -/
  etherType : U16
  /-- the frame check sequence is good -/
  fcsOk : Bool
  /-- the bytes after the Ethernet header, without the frame check sequence -/
  body : List Byte
  deriving DecidableEq, Repr

/-- What is asked of the signing engine (R568, R570). -/
inductive SignKind where
  /-- a report for a nonce (R572) -/
  | report (nonce : BitVec 256)
  /-- a KEY_EXCHANGE transcript (R575) -/
  | transcript (digest : BitVec 384)
  deriving DecidableEq, Repr

/-- A command entry as the device fetches it from the host (R500), with what the read of LIST_ADDR returned. -/
structure HostEntry where
  /-- W0 -/
  w0 : U64
  /-- W1, LIST_ADDR -/
  w1 : U64
  /-- the launch records at LIST_ADDR, or none where the list cannot be read (R504) -/
  records : Option (List (BitVec 128))
  deriving DecidableEq, Repr

/-- A BAR2 request (R497). -/
structure Bar2Req where
  /-- the function -/
  func : FuncId
  /-- the offset in BAR2 -/
  offset : BitVec 57
  /-- a write, with its bytes, or a read of so many bytes -/
  write : Bool
  /-- the bytes of a write -/
  data : List Byte
  /-- the length of a read in bytes -/
  len : BitVec 13
  /-- the write is poisoned (R510) -/
  poisoned : Bool
  /-- the tag of a read -/
  tag : BitVec 10
  deriving DecidableEq, Repr

/-- A sensor of R515. -/
inductive Sensor where
  /-- thermal diode i of die d -/
  | diode (d : DieId) (i : Fin 64)
  /-- management-die diode -/
  | mgmtDiode (i : Fin 4)
  /-- root-die thermometer of stack k -/
  | stack (k : StackId)
  /-- voltage of a rail -/
  | voltage (r : RailId)
  /-- current of a rail -/
  | current (r : RailId)
  deriving DecidableEq, Repr

/-- An access through the test port (R584). -/
inductive TestPort where
  | boundaryScan (level : Bool)
  | internal (cell : BitVec 32)
  deriving DecidableEq, Repr

/-- What one port of a block RAM does in a cycle (R396): nothing, a read, or a write of 8 << width bits at a lane of the word. -/
inductive BramOp where
  | none
  | read (word : BitVec 9)
  | write (word : BitVec 9) (width : BitVec 2) (lane : BitVec 3) (data : U64)
  deriving DecidableEq, Repr

/-- The commands of the block. -/
inductive Instr where
  /-- OBJECT_WRITE (R456): A dictionary write to an object that has no row of its own is applied atomically, in completion order, at the object's effect point. -/
  | objectWrite (a : Bar0Write)
  /-- GUARD_LATCH_LOAD (R458): A BAR0 write to the plain slot of an RG object loads the function's guard latch instead of applying the value. -/
  | guardLatchLoad (a : Bar0Write)
  /-- ALIAS_WRITE (R458): A complement write to the alias slot that matches the latch applies the latched value, and a mismatch empties the latch and sets GUARD_FAIL. -/
  | aliasWrite (a : Bar0Write)
  /-- GUARD_LATCH_EXPIRY (R458): After 1 ms without the alias write the guard latch empties, the value is discarded and GUARD_FAIL is set. -/
  | guardLatchExpiry (f : FuncId)
  /-- STATUS_SEQ_WRITE (R460): A write to a status object clears its named bits only when the written SEQ equals the current SEQ. -/
  | statusSeqWrite (a : Bar0Write)
  /-- BAR0_HOLD_TIMEOUT (R463): A BAR0 request held while Ranger is down for 20 ms is answered as a bus error. -/
  | bar0HoldTimeout (f : FuncId)
  /-- STAND_ENABLE (R29): A write of StandCtrl.ENABLE = 1 creates the Stand with the objects then in force, or is refused with CONFIG_ERR. -/
  | standEnable (r : Requester) (sd : StandId) (v : BitVec 32)
  /-- STAND_DISABLE (R29): A write of StandCtrl.ENABLE = 0 makes the Stand give up its groves, Clearings and memory in the apply phase of its next boundary. -/
  | standDisable (r : Requester) (sd : StandId) (v : BitVec 32)
  /-- HOLD (R24): StandCtrl.HOLD set keeps the Stand at each boundary, and cleared lets it release its next step. -/
  | hold (r : Requester) (sd : StandId) (v : BitVec 32)
  /-- ASSIGNMENT_TAKES_EFFECT (R28): A pending GroveRect, StackShare or Clearing-owner change takes effect once every Stand that gains or loses is at a boundary, or is refused with CONFIG_ERR. -/
  | assignmentTakesEffect (o : AssignObj)
  /-- DRAIN_REPORT (R38): A steward reports to the lead steward that the Stand's groves on its die are drained. -/
  | drainReport (sd : StandId) (d : DieId)
  /-- DRAIN_POINT (R38): The lead steward holds every drain report and starts the boundary. -/
  | drainPoint (sd : StandId)
  /-- COMMIT (R39): Once the flush is acknowledged, the commit record with the finished StepSeq is written and StepSeq advances by one. -/
  | commit (sd : StandId)
  /-- APPLY (R39): Once the commit record is acknowledged, buffered writes apply, pending self-tests and calibrations run, and any staged switch is performed. -/
  | applyPhase (sd : StandId)
  /-- RELEASE (R40): When apply and barrier have both finished, the Stand starts its next step, or enters STATE 3 if HOLD is set. -/
  | release (sd : StandId)
  /-- ERROR_RECORD (R30): An error record is carried up the management hierarchy of the detecting die to the steward and Ranger, and is assigned to Stands. -/
  | errorRecord (e : ErrorReport)
  /-- FENCE (R544): A steward fences the Stand's units on its die and sends fence orders to the other stewards of the Stand. -/
  | fence (sd : StandId) (d : DieId)
  /-- FENCE_COMPLETE (R546): The fence completes when every outstanding request has been answered, or after 50 µs. -/
  | fenceComplete (sd : StandId) (afterLimit : Bool)
  /-- UNIT_RESET (R34): A grove agent resets one tile, vector engine, stream engine or grove interface. -/
  | unitReset (u : UnitRef)
  /-- GROVE_RESET (R34): The four tiles, engine, stream engine and interface of one grove are reset. -/
  | groveReset (g : GroveId)
  /-- CLEARING_RESET (R34): The user logic and user interfaces of one Clearing are reset. -/
  | clearingReset (c : ClearingId)
  /-- STAND_RESET (R34): Every grove and Clearing of the Stand, with their engines and interfaces, is reset. -/
  | standReset (sd : StandId)
  /-- COMPUTE_RESET (R34): Every compute-side unit on all four dies is reset. -/
  | computeReset
  /-- RESET_TIMEOUT (R550): A reset level that does not finish within its timeout escalates to the next level and is logged. -/
  | resetTimeout (sd : StandId)
  /-- TARGETED_SELF_TEST (R538): When the reset completes, the recovery-stage self-tests of the reset units run and classify the fault as transient or lasting. -/
  | targetedSelfTest (sd : StandId) (failing : List UnitRef)
  /-- CONFIG_RESTORE (R37): Frames of reset regions are restored from the shadow, unit registers reloaded, and reset Clearings released. -/
  | configRestore (sd : StandId)
  /-- MIRROR_RESTORE (R47): Every persistent line is restored from the slot with the highest tag not above the committed StepSeq. -/
  | mirrorRestore (sd : StandId)
  /-- REJOIN (R547): Stewards report ready and the Stand releases its interrupted step again under the same StepSeq. -/
  | rejoin (sd : StandId)
  /-- HANG_SAMPLE (R542): Every 10 µs a steward samples unit progress counters and raises UNIT_HANG for a unit stalled for HANG_US. -/
  | hangSample (d : DieId)
  /-- HEARTBEAT_TIMEOUT (R543): Five missing steward heartbeats make Ranger raise STEWARD_HANG, fence the affected Stands and restart the steward. -/
  | heartbeatTimeout (d : DieId)
  /-- STEWARD_RESTART_TIMEOUT (R543): A restarted steward whose heartbeat does not resume within 100 µs is restarted once more, then marked failed. -/
  | stewardRestartTimeout (d : DieId)
  /-- RANGER_WATCHDOG (R552): Ranger's failure to restart the 500 µs hardware watchdog causes a management reset. -/
  | rangerWatchdog
  /-- MANAGEMENT_RESET (R554): Ranger verifies its firmware, replays its journal, serves the dictionary and resumes held records and recoveries. -/
  | managementReset
  /-- SELF_TEST_REQ (R561): A SelfTestReq write requests a targeted test of a unit at its owner's boundary, or at once, and the result replaces its failed mark. -/
  | selfTestReq (r : Requester) (v : BitVec 32)
  /-- TILE_SELF_TEST (R114): The tile runs all format pairs on both axes against stored signatures in 4,500 cycles. -/
  | tileSelfTest (t : TileRef) (pass : Bool)
  /-- ENGINE_SELF_TEST (R163): The vector engine runs every instruction class on every lane and context in 3,600 cycles. -/
  | engineSelfTest (g : GroveId) (pass : Bool)
  /-- SRAM_LINE_TEST (R538): Test T3 saves an SRAM line, writes and reads four patterns, and rewrites the saved data. -/
  | sramLineTest (addr : BitVec 44) (pass : Bool)
  /-- DRAM_LINE_TEST (R538): Test T4 runs the line patterns on a stack line, one per refresh of its pseudo-channel. -/
  | dramLineTest (addr : BitVec 44) (pass : Bool)
  /-- DRAM_LINK_TEST (R538): Test T5 sends 1,024 pattern bursts through the pattern register and fails on any CRC mismatch. -/
  | dramLinkTest (k : StackId) (pc : PcId) (pass : Bool)
  /-- NETWORK_LINK_TEST (R538): Test T6 sends 4,096 pattern flits over a failed network link. -/
  | networkLinkTest (r : RouterId) (o : OutPort) (pass : Bool)
  /-- ROUTER_TEST (R538): Test T7 passes pattern flits through every buffer and arbiter of a router. -/
  | routerTest (r : RouterId) (pass : Bool)
  /-- FRAME_REREAD (R538): Test T8 re-reads a corrected or rewritten configuration frame in the next three scrub passes. -/
  | frameReread (frame : BitVec 32) (pass : Bool)
  /-- STREAM_ENGINE_TEST (R538): Test T9 runs every stream instruction class and generator kind against stored signatures. -/
  | streamEngineTest (g : GroveId) (pass : Bool)
  /-- WLOAD (R89): A wload reads 34 lines from a grove tile into the shadow nibble and scale registers of each tile in its TMASK. -/
  | wload (g : GroveId) (k : Fin 32)
  /-- MMUL (R124): An mmul reached by its tiles with weights ready feeds its wave bit-serially through the live weights into the accumulators. -/
  | mmul (g : GroveId) (k : Fin 32) (residue : Vector Nat 4) (parity : BitVec 4)
  /-- OUTPUT_WRITER (R106): After a LAST command's final partials, the writer converts the accumulators, writes them or hands them to AQ, and raises flags and histogram counts. -/
  | outputWriter (w : WriterRun)
  /-- EPI_RETURN (R176): A whole output vector pushed to OQ is converted to OFMT and written by the writer at its handed vector's position. -/
  | epiReturn (t : TileRef)
  /-- VSTART (R135): A vstart starts context t of an idle tile's engine with PC, ARG and tile number, or waits while the context runs. -/
  | vstart (g : GroveId) (k : Fin 32)
  /-- TSIG (R243): A tsig is taken when every tile of its TMASK reaches it, and those tiles go on at once. -/
  | tsig (g : GroveId) (k : Fin 32)
  /-- TSIG_TOKEN_SIGNAL (R243): Once every earlier command of the tsig's tiles has ended, its token counter is raised by COUNT. -/
  | tsigTokenSignal (g : GroveId)
  /-- ISSUE_SLICE (R137): At the end of a slice, the issue unit grants the next slice of up to 8 cycles to the first ready context in rotation. -/
  | issueSlice (g : GroveId)
  /-- VADD (R147): vadd adds VA and VB per enabled lane. -/
  | vadd (c : TileRef)
  /-- VSUB (R147): vsub subtracts VB from VA per enabled lane. -/
  | vsub (c : TileRef)
  /-- VMUL (R147): vmul multiplies VA by VB per enabled lane. -/
  | vmul (c : TileRef)
  /-- VMAC (R147): vmac forms VA × VB + VC with one rounding per enabled lane. -/
  | vmac (c : TileRef)
  /-- VNMAC (R147): vnmac forms VC − VA × VB with one rounding per enabled lane. -/
  | vnmac (c : TileRef)
  /-- VMIN (R148): vmin writes the lane minimum of VA and VB. -/
  | vmin (c : TileRef)
  /-- VMAX (R148): vmax writes the lane maximum of VA and VB. -/
  | vmax (c : TileRef)
  /-- VABS (R148): vabs writes the absolute value of VA. -/
  | vabs (c : TileRef)
  /-- VNEG (R148): vneg writes the negation of VA. -/
  | vneg (c : TileRef)
  /-- VRCP (R148): vrcp writes the correctly rounded reciprocal of VA. -/
  | vrcp (c : TileRef)
  /-- VRSQRT (R148): vrsqrt writes the correctly rounded reciprocal square root of VA. -/
  | vrsqrt (c : TileRef)
  /-- VEXP2 (R158): vexp2 computes 2^VA by the defined table and polynomial algorithm. -/
  | vexp2 (c : TileRef)
  /-- VNORM (R152): vnorm converts a Hazel32 block to a Berry block lane form, or writes each lane's exponent. -/
  | vnorm (c : TileRef)
  /-- VCVT (R150): vcvt converts lanes between Hazel and integer types and widths, part by part. -/
  | vcvt (c : TileRef)
  /-- VREDADD (R151): vredadd writes the tree sum of the enabled lanes to every lane. -/
  | vredadd (c : TileRef)
  /-- VREDMAX (R151): vredmax writes the maximum of the enabled lanes to every lane. -/
  | vredmax (c : TileRef)
  /-- VREDMIN (R151): vredmin writes the minimum of the enabled lanes to every lane. -/
  | vredmin (c : TileRef)
  /-- VAND (R148): vand writes the bitwise and of VA and VB. -/
  | vand (c : TileRef)
  /-- VOR (R148): vor writes the bitwise or of VA and VB. -/
  | vor (c : TileRef)
  /-- VXOR (R148): vxor writes the bitwise exclusive-or of VA and VB. -/
  | vxor (c : TileRef)
  /-- VSHL (R147): vshl shifts VA left by VB mod w. -/
  | vshl (c : TileRef)
  /-- VSHR (R147): vshr shifts VA right logically by VB mod w. -/
  | vshr (c : TileRef)
  /-- VSRA (R147): vsra shifts VA right arithmetically by VB mod w. -/
  | vsra (c : TileRef)
  /-- VCMP (R149): vcmp writes a predicate bit per lane from the comparison selected by IMM. -/
  | vcmp (c : TileRef)
  /-- VSEL (R147): vsel writes VA in enabled lanes and VB elsewhere. -/
  | vsel (c : TileRef)
  /-- VPLOG (R147): vplog combines two predicates bit by bit through the truth table in IMM. -/
  | vplog (c : TileRef)
  /-- VMOV (R147): vmov copies VA to VD. -/
  | vmov (c : TileRef)
  /-- VPERM (R147): vperm writes each lane from the VA lane indexed by VB. -/
  | vperm (c : TileRef)
  /-- VBCAST (R147): vbcast broadcasts one VA lane to every lane. -/
  | vbcast (c : TileRef)
  /-- VEXT (R147): vext extracts one VA lane into a scalar. -/
  | vext (c : TileRef)
  /-- VINS (R147): vins inserts a scalar's low bits into one lane. -/
  | vins (c : TileRef)
  /-- VLANE (R147): vlane writes each lane's index. -/
  | vlane (c : TileRef)
  /-- VLD (R141): vld loads 128 B from the local store or tile SRAM into a register. -/
  | vld (c : TileRef)
  /-- VST (R141): vst stores the enabled lanes of a register to 128 B of memory. -/
  | vst (c : TileRef)
  /-- VLDB (R153): vldb reads one row of a Berry sub-tile into the block lane form. -/
  | vldb (c : TileRef)
  /-- VSTB (R153): vstb writes a block lane form register into one row of a Berry sub-tile. -/
  | vstb (c : TileRef)
  /-- SLD (R147): sld loads 8 B of the local store into a scalar. -/
  | sld (c : TileRef)
  /-- SST (R147): sst stores a scalar to 8 B of the local store. -/
  | sst (c : TileRef)
  /-- SADD (R142): sadd adds two scalars modulo 2^64. -/
  | sadd (c : TileRef)
  /-- SSUB (R142): ssub subtracts two scalars modulo 2^64. -/
  | ssub (c : TileRef)
  /-- SMUL (R147): smul writes the low 64 bits of a scalar product. -/
  | smul (c : TileRef)
  /-- SAND (R147): sand writes the bitwise and of two scalars. -/
  | sand (c : TileRef)
  /-- SOR (R147): sor writes the bitwise or of two scalars. -/
  | sor (c : TileRef)
  /-- SXOR (R147): sxor writes the bitwise exclusive-or of two scalars. -/
  | sxor (c : TileRef)
  /-- SSHL (R147): sshl shifts a scalar left. -/
  | sshl (c : TileRef)
  /-- SSHR (R147): sshr shifts a scalar right logically. -/
  | sshr (c : TileRef)
  /-- SSRA (R147): ssra shifts a scalar right arithmetically. -/
  | ssra (c : TileRef)
  /-- SADDI (R147): saddi adds a sign-extended immediate to a scalar. -/
  | saddi (c : TileRef)
  /-- SLI (R147): sli loads a sign-extended immediate into a scalar. -/
  | sli (c : TileRef)
  /-- SLIH (R147): slih loads an immediate into the upper half of a scalar. -/
  | slih (c : TileRef)
  /-- VCMD (R156): vcmd appends a 128-bit command to the grove command queue. -/
  | vcmd (c : TileRef)
  /-- VGETF (R161): vgetf reads the context's flag register into a scalar. -/
  | vgetf (c : TileRef)
  /-- VBR (R143): vbr branches unconditionally. -/
  | vbr (c : TileRef)
  /-- VBZ (R147): vbz branches if a scalar is zero. -/
  | vbz (c : TileRef)
  /-- VBNZ (R147): vbnz branches if a scalar is not zero. -/
  | vbnz (c : TileRef)
  /-- VBP (R147): vbp branches on any or all enabled predicate bits. -/
  | vbp (c : TileRef)
  /-- VLOOP (R154): vloop decrements its counter and the rotating base, and branches while the counter is not zero. -/
  | vloop (c : TileRef)
  /-- VRB (R147): vrb sets the rotating base. -/
  | vrb (c : TileRef)
  /-- VSIG (R157): vsig signals its token by one once every earlier store is acknowledged. -/
  | vsig (c : TileRef)
  /-- VWAIT (R157): vwait waits until its token counter holds at least one and then subtracts one. -/
  | vwait (c : TileRef)
  /-- VCLRF (R161): vclrf clears the context's flag register. -/
  | vclrf (c : TileRef)
  /-- VNOP (R147): vnop does nothing. -/
  | vnop (c : TileRef)
  /-- VTRAP (R162): vtrap raises VE_TRAP with its code. -/
  | vtrap (c : TileRef)
  /-- VEND (R138): vend ends the context once its stores are acknowledged, or raises VE_QUEUE. -/
  | vend (c : TileRef)
  /-- LAUNCH (R219): A launch record starts a stream in its slot from the idle state, or is refused. -/
  | launch (g : GroveId)
  /-- SGEN (R229): sgen configures a generator and checks its window or reads and checks its descriptor. -/
  | sgen (u : SlotRef)
  /-- SSTEP (R227): sstep maps a loop level to a dimension of a generator with a step. -/
  | sstep (u : SlotRef)
  /-- SOFF (R227): soff sets a generator's start offset in one dimension. -/
  | soff (u : SlotRef)
  /-- SMOV (R233): smov moves and converts one unit from the source generator to the destination generator. -/
  | smov (u : SlotRef) (ext : ExtRead)
  /-- SPACK (R244): spack packs one weight set or activation wave into port W or port A layout. -/
  | spack (u : SlotRef) (ext : ExtRead)
  /-- SCOPY (R245): scopy copies a whole local tensor with a dimension permutation through the unit R214 assigns. -/
  | scopy (u : SlotRef) (ext : ExtRead)
  /-- SLOOP (R228): sloop opens a loop level with an extent. -/
  | sloop (u : SlotRef)
  /-- SNEXT (R228): snext advances a loop level and branches while below its extent. -/
  | snext (u : SlotRef)
  /-- SSIG (R241): ssig signals a token by COUNT once every earlier write of the stream is acknowledged. -/
  | ssig (u : SlotRef)
  /-- SWAIT (R240): swait waits until its token counter holds COUNT and then subtracts it. -/
  | swait (u : SlotRef)
  /-- TOKEN_WAIT_SATISFIED (R240): A waiting context or stream is satisfied in order when its counter reaches the count awaited. -/
  | tokenWaitSatisfied (g : GroveId) (ctr : Fin 64)
  /-- SBTK (R227): sbtk branches if a token counter holds at least COUNT, cancelling fetched work on the untaken path. -/
  | sbtk (u : SlotRef)
  /-- SCMD (R242): scmd appends its literal to the grove command queue after earlier writes are acknowledged. -/
  | scmd (u : SlotRef)
  /-- SFORK (R220): sfork launches the record in the next slot, or raises SE_FORK. -/
  | sfork (u : SlotRef)
  /-- SKILL (R249): skill cancels the stream in a named slot and completes when that slot is idle. -/
  | skill (u : SlotRef)
  /-- SEND (R221): send ends the stream. -/
  | send (u : SlotRef)
  /-- STREAM_END (R221): An ended stream's slot becomes idle once every write it issued has completed. -/
  | streamEnd (u : SlotRef)
  /-- PREFETCH (R248): A slot issues reads for later units while its read buffer and regulator allow. -/
  | prefetch (a : FetchAhead)
  /-- TRANSLATION_MISS (R250): A host-space unit without a translation sends a Translation Request. -/
  | translationMiss (u : SlotRef)
  /-- TRANSLATION_COMPLETION (R250): A translation completion installs the translation, or sends a Page Request, or aborts the step with PAGE_FAULT. -/
  | translationCompletion (u : SlotRef) (r : TransResult)
  /-- PAGE_RESPONSE (R251): A Page Request Group Response resumes the halted stream, or aborts the step with PAGE_FAULT. -/
  | pageResponse (u : SlotRef) (r : PageCode)
  /-- PAGE_REQUEST_TIMEOUT (R251): PageRequestTimeout expiring aborts the step with PAGE_FAULT and SE_PAGE. -/
  | pageRequestTimeout (u : SlotRef)
  /-- SRAM_WRITE_BACK (R263): A corrected SRAM word is written back in the next free port cycle unless it was written meanwhile. -/
  | sramWriteBack (addr : BitVec 44)
  /-- SRAM_PATROL (R264): The patrol reads and corrects the next SRAM word of each tier at its patrol rate. -/
  | sramPatrol (u : PatrolUnit)
  /-- STACK_REQUEST (R270): A request from the stack port enters the queue of its bank, or waits while that queue is full. -/
  | stackRequest (k : StackId)
  /-- DRAM_SCHEDULE (R271): Each DCLK the scheduler of a pseudo-channel issues at most one command chosen by refresh, urgency, share, row hit and pointer. -/
  | dramSchedule (k : StackId) (pc : PcId) (crcBad : Bool)
  /-- STACK_REDUCTION (R275): The root die's reduction path reads a word, adds or maximises the sent value, and writes it as one line operation. -/
  | stackReduction (k : StackId) (q : Reduction)
  /-- SHARE_WINDOW (R274): Each 4,096 DCLK window ends and the per-Stand served byte counts restart. -/
  | shareWindow (k : StackId)
  /-- REFRESH (R276): A pseudo-channel receives its all-bank refresh in its tREFI slot. -/
  | refresh (k : StackId) (pc : PcId) (lowPass : BitVec 5) (highPass : BitVec 5)
  /-- STACK_TRAINING (R280): After root die reset release, the stack trains command, read and write lanes and zero-fills itself. -/
  | stackTraining (k : StackId) (res : List LaneSweep)
  /-- RETRAIN_ALL (R282): Writing StackCtrl.RETRAIN_ALL trains a failed stack again from its first event. -/
  | retrainAll (r : Requester) (k : StackId) (v : BitVec 32)
  /-- RELEARN_REQ (R284): Writing StackCtrl.RELEARN_REQ queues one lane for relearning. -/
  | relearnReq (r : Requester) (k : StackId) (v : BitVec 32)
  /-- RELEARN_COMPLETE (R284): A relearning sweep ends and installs new settings, or raises STK_TRAIN and keeps the old ones. -/
  | relearnComplete (k : StackId) (rows : List (BitVec 256))
  /-- RESHAPE (R289): A near-memory reshape command copies a large reshape with conversion. -/
  | reshape (k : StackId) (q : SlotIx)
  /-- STAGED_COPY (R290): A near-memory staged copy reads the whole source into the staging buffer before writing the destination. -/
  | stagedCopy (k : StackId) (q : SlotIx) (ext : ExtRead)
  /-- FILL (R289): A near-memory fill from Ranger writes zeros over a range. -/
  | fill (k : StackId) (base : BitVec 44) (len : BitVec 64)
  /-- DATAPATH_SLICE (R287): A 64-DCLK slice of the near-memory datapath or slice group ends and the next active slot or group is served. -/
  | datapathSlice (k : StackId)
  /-- ROUTER_HOP (R306): A router checks an arriving flit, acts on its lowest hop code and forwards or delivers it. -/
  | routerHop (r : RouterId) (i : OutPort) (f : HopFlit)
  /-- LINK_REPLAY (R322): A check mismatch makes the receiver request a replay, and a fourth mismatch marks the link failed. -/
  | linkReplay (r : RouterId) (i : OutPort) (ch : Channel)
  /-- READ_REQ (R304): A read request is answered with one READ_RSP per 128-B block or an ERROR. -/
  | readReq (n : NodeId)
  /-- READ_RSP (R304): A read response delivers one block to its requester. -/
  | readRsp (n : NodeId)
  /-- WRITE (R304): A 128-B write request is written, possibly as an add or maximum, and acknowledged. -/
  | write (n : NodeId)
  /-- WRITE_MASKED (R304): A masked write writes the enabled bytes of a 64-B half and is acknowledged. -/
  | writeMasked (n : NodeId)
  /-- WRITE_ACK (R304): A write acknowledgement completes its write at the requester and returns credit. -/
  | writeAck (n : NodeId)
  /-- SIGNAL (R241): A SIGNAL flit adds its count to a token counter where the counter lives, or is discarded on overflow. -/
  | signal (n : NodeId)
  /-- COMMAND (R304): A COMMAND flit carries a near-memory command record and is acknowledged on completion. -/
  | command (n : NodeId)
  /-- ERROR (R321): An ERROR response delivers its code to the requester, which records SE_REMOTE. -/
  | error (n : NodeId)
  /-- DETACH (R314): A DETACH makes a member interface discard the tree's multicast flits until the next release. -/
  | detach (n : NodeId)
  /-- MC_WRITE (R313): A multicast write is copied along the tree and each member writes and acknowledges it. -/
  | mcWrite (n : NodeId)
  /-- NET_TIMEOUT (R321): A request with no response after NetResponseTimeout is answered NET_TIMEOUT by its sending interface. -/
  | netTimeout (n : NodeId) (txn : BitVec 7)
  /-- TREE_DETACH_TIMEOUT (R314): A member that holds no credit for DETACH_LIMIT × 256 cycles while a write waits is detached. -/
  | treeDetachTimeout (t : TreeId) (m : Fin 64)
  /-- XREF_CHANGE (R332): A Xannus reference becoming absent or out of tolerance holds its ports in STATE 1. -/
  | xrefChange (x : Fin 3) (good : Bool)
  /-- PORT_ENABLE (R364): PortCtrl.ENABLE starts port training, or holds the port in reset with transmitters idle. -/
  | portEnable (r : Requester) (p : PortId) (v : BitVec 32)
  /-- TRAINING_FRAME (R341): A received training frame delivers a control and status word for the tap handshake. -/
  | trainingFrame (p : PortId) (l : LaneIx) (marker : BitVec 32) (words : TrainingWords)
  /-- LANE_TRAINED (R344): A lane leaves training after RX_READY both ways, sends 16 frames and the IDLE sequence, and checks codeword lock. -/
  | laneTrained (p : PortId) (l : LaneIx) (line : List (BitVec 5440))
  /-- PORT_UP (R345): With all 8 lanes trained and deskewed, LANEMAP 0xFF is exchanged and the link layer starts. -/
  | portUp (p : PortId)
  /-- XAN_TRAIN (R345): Training not reached within XanTrainTimeout fails the lane, retraining the port up to 3 times. -/
  | xanTrain (p : PortId) (l : LaneIx)
  /-- FRAME (R352): A received frame is accepted in sequence and its flit passed to the network, or discarded with a RETRY. -/
  | frame (p : PortId) (head : BitVec 66) (body : Vector (BitVec 66) 19)
  /-- IDLE (R352): An IDLE block carries acknowledgement and credit returns. -/
  | idle (p : PortId) (block : BitVec 66)
  /-- RETRY (R353): A RETRY block makes the transmitter resend from the expected SEQ, and the retry limit resets the port. -/
  | retry (p : PortId) (block : BitVec 66)
  /-- RETRY_RESEND_TIMER (R352): After 4,096 frame times without the expected frame the receiver sends another RETRY. -/
  | retryResendTimer (p : PortId)
  /-- CONTROL_BLOCK_TIMER (R352): A port sends a control block if none has been sent for 256 frame times. -/
  | controlBlockTimer (p : PortId)
  /-- LANEMAP (R349): A received LANEMAP changes the receive striping and drops matching lanes from the transmit map. -/
  | laneMap (p : PortId) (block : BitVec 66)
  /-- DESKEW (R350): DESKEW blocks align a lane's deskew queue, and 16 agreeing blocks report it aligned. -/
  | deskew (p : PortId) (l : LaneIx) (block : BitVec 66)
  /-- XAN_DOWN (R355): No valid block within XanKeepAliveTimeout sets LINK_LOSS and resets the port. -/
  | xanDown (p : PortId)
  /-- XAN_LANE (R359): A lane that loses codeword or block lock leaves the map and is tested. -/
  | xanLane (p : PortId) (l : LaneIx)
  /-- PORT_RESET (R359): A port reset discards the port's queues and buffers and retrains it. -/
  | portReset (p : PortId)
  /-- TEST_REQ (R358): PortCtrl.TEST_REQ takes a lane out of the map for a loopback test. -/
  | testReq (r : Requester) (p : PortId) (v : BitVec 32)
  /-- LANE_TEST (R358): A 1 ms loopback counts bit errors, then the lane retrains, deskews and rejoins or fails. -/
  | laneTest (p : PortId) (l : LaneIx) (errors : BitVec 32)
  /-- RETRAIN_REQ (R361): PortCtrl.RETRAIN_REQ retrains one lane in service from its previous taps. -/
  | retrainReq (r : Requester) (p : PortId) (v : BitVec 32)
  /-- LANE_EYE_UPDATE (R367): LaneEye is updated every 1 ms, and three low updates start retraining under AUTO_RETRAIN. -/
  | laneEyeUpdate (p : PortId) (l : LaneIx) (vert : BitVec 8) (horiz : BitVec 8)
  /-- DEVICE_ID_WRITE (R368): A DeviceId write sets the identifier and coordinate, or is refused while a Stand is in a job or off the topology. -/
  | deviceIdWrite (r : Requester) (v : BitVec 32)
  /-- TOPOLOGY_WRITE (R370): A Topology write sets the machine shape, or is refused. -/
  | topologyWrite (r : Requester) (v : BitVec 32)
  /-- TRANSIT (R374): A flit for another device is forwarded through the port switch to the next-hop port, or stopped at the hop limit. -/
  | transit (p : PortId)
  /-- PEER_REQUEST (R375): A request for this device is checked, given a peer tag, and sent onto the on-package network. -/
  | peerRequest (p : PortId)
  /-- PEER_RESPONSE (R376): A response to a peer request frees its tag and is sent back to the originating device. -/
  | peerResponse (p : PortId)
  /-- JOB_TOKEN_SIGNAL (R379): A job-token SIGNAL adds its count to the counter named by the receiving device's JobTokenMap entry. -/
  | jobTokenSignal (sd : StandId) (token : BitVec 16) (count : BitVec 32)
  /-- BARRIER (R380): A member sends BARRIER with the highest STATUS once its own part and every child's BARRIER are in. -/
  | barrier (sd : StandId)
  /-- BARRIER_RELEASE (R380): A RELEASE message makes each member release, restore or restart, and forward it to its children. -/
  | barrierRelease (sd : StandId) (m : BarrierMsg)
  /-- BARRIER_TIMEOUT (R381): A member that waits JobBarrierTimeout for its children sets BARRIER_TIMEOUT and keeps waiting. -/
  | barrierTimeout (sd : StandId)
  /-- ABORT_ORIGINATE (R382): A job Stand's step ending other than by drain makes the job unit send an ABORT within 1 µs. -/
  | abortOriginate (sd : StandId)
  /-- ABORT (R384): A received ABORT is deduplicated, forwarded on every other port and applied to the job's Stand by its step position. -/
  | abort (p : PortId) (block : BitVec 66)
  /-- UTX_REQ (R403): User logic originates a request that the interface routes, or refuses with NET_FORMAT. -/
  | utxReq (c : ClearingId) (q : UtxReq)
  /-- URX_REQ (R404): A request to an unbound block is handed to user logic with a tag. -/
  | urxReq (c : ClearingId)
  /-- UTX_RSP (R404): User logic answers a tagged request, and the interface restores its fields and sends the response. -/
  | utxRsp (c : ClearingId) (q : UtxRsp)
  /-- STAGE_ISSUE (R408): The steward issues the next release stage to every declared UCLK domain of a Clearing. -/
  | stageIssue (c : ClearingId) (sensed : BitVec 2)
  /-- STAGE_ACK (R408): A domain acknowledges a release stage, and the last acknowledgement of stage 3 completes the release. -/
  | stageAck (c : ClearingId) (domain : BitVec 8)
  /-- RELEASE_STALL (R409): A stage not acknowledged within 1 ms returns the Clearing to stage 0 and STATE 5. -/
  | releaseStall (c : ClearingId)
  /-- RETRY_RELEASE (R409): ClearingCtrl.RETRY_RELEASE starts the staged release again from stage 1. -/
  | retryRelease (r : Requester) (c : ClearingId) (v : BitVec 32)
  /-- RECONFIGURATION (R413): A Clearing is isolated, its frames and INIT blocks are written, it is released and the shadow takes the new frames. -/
  | reconfiguration (c : ClearingId)
  /-- PLL_LOCK_LOSS (R400): A user PLL losing lock sets PLL_LOST and stops its outputs low. -/
  | pllLockLoss (d : DieId) (pll : Fin 4)
  /-- BOOT_LOAD (R434): Ranger reads, checks and decodes the active slot and configures the dies, falling back to Heartwood on failure. -/
  | bootLoad
  /-- PARTIAL_REQ (R439): A PartialReq write checks and decodes a partial image and starts a Clearing or grove reconfiguration, or is refused. -/
  | partialReq (r : Requester) (w0 : BitVec 64) (w1 : BitVec 64)
  /-- SCRUB_FRAME (R440): Every 781 MCLK the scrubber checks one frame and corrects, rewrites or reports it. -/
  | scrubFrame (d : DieId)
  /-- CFG_SCRUB_PARITY (R441): A scrubber register parity mismatch stops the scrubber and Ranger rewrites and restarts it. -/
  | cfgScrubParity (d : DieId)
  /-- NV_WRITE_REQ (R442): NvWriteReq erases, writes, verifies and completes an image in the NV store, or leaves it empty. -/
  | nvWriteReq (r : Requester) (w0 : BitVec 64) (w1 : BitVec 64) (w2 : BitVec 64) (interrupted : Bool)
  /-- SWITCH_REQ (R443): ImageCtrl.SWITCH_REQ verifies and decodes the inactive slot into the staged copy. -/
  | switchReq (r : Requester)
  /-- FIRMWARE_HANDOFF (R443): New firmware takes the handoff record and confirms, and the switch becomes staged. -/
  | firmwareHandoff
  /-- HANDOFF_TIMEOUT (R443): No confirmation within FwHandoffTimeout resumes the old firmware and sets SWITCH_FAIL. -/
  | handoffTimeout
  /-- SWITCH_APPLY (R443): When every enabled Stand is at a boundary, differing regions are reconfigured and the staged copy becomes current. -/
  | switchApply
  /-- SWITCH_COMMIT (R443): The boot control record is updated to name the new slot, and the minimum may auto-raise. -/
  | switchCommit
  /-- ABANDON (R446): ImageCtrl.ABANDON discards the staged copy before phase 4 and ends the switch. -/
  | abandon (r : Requester)
  /-- MAILBOX_READ (R465): A read transfer captures the object and copies the requested words into MailboxData. -/
  | mailboxRead (r : Requester) (ctrl : BitVec 32)
  /-- MAILBOX_WRITE (R466): A write transfer copies MailboxData words into the object, guarded for RG targets. -/
  | mailboxWrite (r : Requester) (ctrl : BitVec 32) (guarded : Bool)
  /-- MAC_FRAME_RECEIVE (R474): The field MAC receives a frame and passes it to Harip only if address, EtherType and version match. -/
  | macFrameReceive (f : FieldFrame)
  /-- BEACON_CONFLICT (R472): A coordinator receiving a foreign BEACON sets COORDINATOR_CONFLICT and becomes follower 0. -/
  | beaconConflict
  /-- PLCA_STATUS_CHANGE (R472): plca_status leaving or reaching OK switches the MAC between CSMA/CD fallback and PLCA. -/
  | plcaStatusChange (good : Bool)
  /-- HARIP_READ (R476): A Harip READ reads up to 32 objects and is answered with READ_RSP. -/
  | haripRead
  /-- HARIP_WRITE (R456): A Harip WRITE applies up to 16 entries in order with no apply phase between them. -/
  | haripWrite
  /-- DISCOVER (R484): A DISCOVER is answered with identity after a random delay. -/
  | discover
  /-- HELLO (R478): A HELLO starts a half-open session exchange answered by a signed HELLO_RSP. -/
  | hello
  /-- FINISH (R480): A verified FINISH brings a session into force and is answered FINISH_RSP, or ERR_AUTH. -/
  | finish
  /-- CLOSE (R478): A CLOSE ends the session. -/
  | close
  /-- HALF_OPEN_EXPIRY (R480): A half-open exchange is discarded after 1 s. -/
  | halfOpenExpiry
  /-- SESSION_IDLE_TIMEOUT (R480): A session with no accepted request for HaripSessionIdle ends. -/
  | sessionIdleTimeout (k : Fin 4)
  /-- FIELD_REVERT_TIMEOUT (R473): An unconfirmed FieldPlca or HaripEtherType change is reverted after FieldRevertTimeout. -/
  | fieldRevertTimeout
  /-- CHALLENGE_REQ (R485): The hardware answers a CHALLENGE_REQ with the current or a new nonce. -/
  | challengeReq (f : FieldFrame)
  /-- CHALLENGE_EXPIRY (R485): A challenge becomes invalid 10 s after issue. -/
  | challengeExpiry
  /-- RECOVERY (R486): The hardware authenticates a RECOVERY frame against the challenge and answers RECOVERY_RSP. -/
  | recovery (f : FieldFrame)
  /-- RESET_MANAGEMENT_ACTION (R487): Recovery action 0x01 performs a management reset. -/
  | resetManagementAction
  /-- FAULT_LOG_SNAPSHOT (R487): Recovery action 0x02 copies the fault log into an alternating NV snapshot area. -/
  | faultLogSnapshot (completes : Bool)
  /-- POWER_CYCLE_ACTION (R487): Recovery action 0x03 starts a power cycle of the compute rails. -/
  | powerCycleAction
  /-- ATTEST_REQ (R577): An ATTEST_REQ makes the engine sign a report for the nonce and is answered ATTEST_RSP. -/
  | attestReq
  /-- ATTEST_GET (R577): An ATTEST_GET returns a chunk of a held report in ATTEST_DATA. -/
  | attestGet
  /-- SIGN_REQUEST (R570): The security engine signs one request in order with the next HSS index, or refuses it. -/
  | signRequest (q : SignKind)
  /-- CMD_TAIL (R499): A CMD_TAIL doorbell makes command entries pending, or is ignored with BAD_DOORBELL. -/
  | cmdTail (f : FuncId) (v : BitVec 32)
  /-- RESUME (R504): A CMD_TAIL write with RESUME clears STOPPED and lets a stopped ring fetch again. -/
  | resume (f : FuncId) (v : BitVec 32)
  /-- CPL_HEAD (R499): A CPL_HEAD doorbell frees completion entries, or is ignored with BAD_DOORBELL. -/
  | cplHead (f : FuncId) (v : BitVec 32)
  /-- STEP (R502): A STEP entry is fetched and its launch records are read and taken at the Stand's release. -/
  | step (f : FuncId) (e : HostEntry)
  /-- MARK (R502): A MARK completes when every STEP fetched before it from the ring has completed. -/
  | mark (f : FuncId) (e : HostEntry)
  /-- COMPLETION (R503): A completion is written after its commit into a free entry, then the MSI-X vector is sent if IRQ is set. -/
  | completion (f : FuncId)
  /-- STATUS_VECTOR (R505): MSI-X vector 0 is sent when RingStatus, StandState or DictStatus SEQ advances. -/
  | statusVector (f : FuncId)
  /-- RING_ENABLE (R513): RingCtrl.ENABLE set starts both rings from index 0, and cleared disables them and abandons unfetched entries. -/
  | ringEnable (r : Requester) (f : FuncId) (v : BitVec 32)
  /-- BAR2_ACCESS (R497): A BAR2 access reaches device memory at Bar2Base plus offset if the function owns it. -/
  | bar2Access (a : Bar2Req)
  /-- FUNCTION_LEVEL_RESET (R508): An FLR of a VF is a Stand reset and returns the function state to defaults; of the PF, only function state. -/
  | functionLevelReset (f : FuncId)
  /-- HOT_RESET (R508): A hot reset or link-down returns every function's state to defaults and disables their rings. -/
  | hotReset
  /-- D3HOT (R508): A D3hot transition disables the function's rings and keeps its state. -/
  | d3hot (f : FuncId)
  /-- PERST_N (R601): An assertion of PERST_N after t0 resets the PCI Express endpoint alone. -/
  | perstN (level : Bool)
  /-- CONFIG_REQUEST (R507): A configuration request is answered with Request Retry Status until the endpoint is ready. -/
  | configRequest (f : FuncId) (tag : BitVec 10)
  /-- INVALIDATE_REQUEST (R506): An ATS Invalidate Request completes once every request using the translation has been sent. -/
  | invalidateRequest (f : FuncId) (page : BitVec 52) (pages : BitVec 20)
  /-- COMPLETION_TIMEOUT (R510): A host request with no completion within the Completion Timeout gives HOST_ERR to its requester. -/
  | completionTimeout (f : FuncId) (tag : BitVec 10)
  /-- VENDOR_DEFINED_REQUEST (R575): An SPDM VENDOR_DEFINED_REQUEST with a nonce returns a signed attestation report in chunks. -/
  | vendorDefinedRequest (standard : BitVec 16) (vendor : BitVec 16) (nonce : BitVec 256)
  /-- KEY_EXCHANGE (R575): An SPDM KEY_EXCHANGE sets up a secured session signed with the ECDSA identity key. -/
  | keyExchange (transcript : List (BitVec 8))
  /-- IDE_KM (R575): IDE_KM messages within a secured session set the IDE keys, and are refused outside one. -/
  | ideKm (stream : Fin 5) (key : BitVec 256) (secured : Bool)
  /-- GET_MEASUREMENTS (R574): SPDM GET_MEASUREMENTS returns measurement digests without signature. -/
  | getMeasurements (index : BitVec 8)
  /-- GET_CERTIFICATE (R574): SPDM GET_CERTIFICATE returns IdentityCertChain from slot 0. -/
  | getCertificate (slot : BitVec 8) (offset : BitVec 16) (len : BitVec 16)
  /-- SENSOR_SAMPLE (R517): A sensor sample is calibrated and published, and faulted sensors are excluded. -/
  | sensorSample (x : Sensor) (raw : BitVec 32) (inRange : Bool)
  /-- POWER_DECISION (R526): Every 100 µs each die takes the slowest point of the cap, thermal, current and top limits. -/
  | powerDecision
  /-- CURRENT_LIMIT (R528): A VDD_CORE rail above 600 A for 20 µs moves its die to P7 and sets CURRENT_LIMIT. -/
  | currentLimit (d : DieId)
  /-- THERMTRIP (R530): A diode over the fixed trip threshold asserts THERMTRIP_N, drives CORE_EN low and latches. -/
  | thermtrip (x : Sensor)
  /-- RAIL_FAULT (R531): A rail outside ±5% of setpoint for 1 ms sets RAIL_FAULT. -/
  | railFault (r : RailId)
  /-- DROOP (R525): A droop trip doubles the die's ACLK period for at least 32 cycles and counts in DroopCount. -/
  | droop (d : DieId)
  /-- AGEING_UPDATE (R523): Every 10 s Ranger sets each die's guardband from its ageing monitors and withdraws points over 0.85 V. -/
  | ageingUpdate (d : DieId) (ppm : List (BitVec 32))
  /-- POINT_RAISE_SETTLED (R524): Once sensed VDD_CORE is within 1% of a faster point's setpoint, the die's frequency is raised. -/
  | pointRaiseSettled (d : DieId) (sensed : BitVec 32)
  /-- POWER_CYCLE (R532): A compute power cycle clamps queues, drops CORE_EN, re-enables the rails in turn and restores the dies. -/
  | powerCycle (slow : List RailId)
  /-- CALIBRATION_WRITE (R520): An accepted calibration value takes effect at the next sample and is written to the NV store. -/
  | calibrationWrite (r : Requester) (idx : BitVec 16) (sub : BitVec 8) (v : BitVec 32) (stored : Bool)
  /-- CALIBRATION_SET_WRITE (R521): Writing word 84 of CalibrationSet applies the staged record if it checks, or discards it. -/
  | calibrationSetWrite (r : Requester) (v : BitVec 64)
  /-- IMAGE_KEY_REVOKE (R567): ImageKeyRevoke blows a revocation fuse unless it would leave no valid set or invalidate a stored image. -/
  | imageKeyRevoke (r : Requester) (v : BitVec 32)
  /-- KEY_SLOT_WRITE (R579): A key slot write installs a key and role and ends sessions opened with that slot. -/
  | keySlotWrite (r : Requester) (k : Fin 8) (words : List (BitVec 64))
  /-- RECOVERY_KEY_WRITE (R580): A RecoveryKey write installs or removes the recovery HMAC key. -/
  | recoveryKeyWrite (r : Requester) (key : BitVec 384)
  /-- SECURITY_MINIMUM_WRITE (R582): A security minimum write raises the minimum and blows a raise-counter bit, or is refused. -/
  | securityMinimumWrite (r : Requester) (partialImages : Bool) (v : BitVec 32)
  /-- DEBUG_UNLOCK (R584): A DebugUnlock token signed by a vendor key set unlocks debug access until device reset. -/
  | debugUnlock (r : Requester) (token : List (BitVec 8))
  /-- DEV_RST_N (R601): DEV_RST_N asserted is a device reset, and its rise samples straps and starts the power-up sequence. -/
  | devRstN (level : Bool) (strapBoot : BitVec 2) (strapTest : Bool)
  /-- RANGER_START (R564): The boot ROM starts Ranger once its firmware and image pass the checks. -/
  | rangerStart
  /-- AREF_LOSS (R599): An absent or out-of-tolerance AREF leaves its die unconfigured and the device never compute ready. -/
  | arefLoss (d : DieId)
  /-- RAIL_DROP (R596): A supply falling in service causes a device reset, stack failure or RAIL_FAULT by rail. -/
  | railDrop (r : RailId)
  /-- PLL_LOCK (R400): A user PLL that lost lock locks again and its outputs run once more. -/
  | pllLock (d : DieId) (pll : Fin 4)
  /-- DROOP_END (R525): When the droop has lasted its course and at least 32 doubled cycles have passed, the die's ACLK returns to its normal period. -/
  | droopEnd (d : DieId)
  /-- MCLK_PLL_LOCK (R599): The MCLK PLL locks to MREF and the device may leave device reset. -/
  | mclkPllLock
  /-- TEST_PORT_ACCESS (R584): An access through the IEEE 1149.1 test port performs boundary scan, or reaches internal state only while debug is unlocked. -/
  | testPortAccess (a : TestPort)
  /-- MSIX_VECTOR_UNMASK (R505): Unmasking an MSI-X vector in BAR4 sends the message whose PBA bit is pending. -/
  | msixVectorUnmask (f : FuncId) (v : BitVec 11)
  /-- BLOCK_RAM_PORT_ACCESS (R396): User logic reads or writes a block RAM word through port A or an unbound port B, with ECC correction and the read-first rule. -/
  | blockRamPortAccess (d : DieId) (b : BitVec 13) (pa : BramOp) (pb : BramOp)
  deriving DecidableEq, Repr

end Sys2Proof
end

