-- ==== Sys2Proof/Decode.lean ====
section
/-! DEFINITION. The words that spell commands. spec/opcode_table.json gives no bits to any row: the commands enter as transactions and
events, not as words, so no word spells one. -/

namespace Sys2Proof

/-- The command that a word of `nbits` bits spells by the table's bits: none, since no row of the table gives bits. -/
def decodeTableWord (_nbits _w : Nat) : Option Instr := none

end Sys2Proof
end

