-- ==== Sys2Proof/Machine/Bits.lean ====
section
/-! DEFINITION. Bit fields, byte order, signs, integer roots and cyclic redundancy checks: the helpers every rule of the spec uses. -/

namespace Sys2Proof.Machine

/-- The field of `n` bits of `v` whose lowest bit is `lo` (R2). -/
def fld {w : Nat} (v : BitVec w) (lo n : Nat) : Nat := (v.toNat >>> lo) % 2 ^ n

/-- Bit `i` of `v` (R2). -/
def bitOf {w : Nat} (v : BitVec w) (i : Nat) : Bool := v.getLsbD i

/-- `v` with its field of `n` bits at `lo` set to `x` (R2). -/
def setFld {w : Nat} (v : BitVec w) (lo n x : Nat) : BitVec w :=
  (v &&& ~~~(BitVec.ofNat w ((2 ^ n - 1) <<< lo))) ||| BitVec.ofNat w ((x % 2 ^ n) <<< lo)

/-- `v` with bit `i` set to `b`. -/
def setBit {w : Nat} (v : BitVec w) (i : Nat) (b : Bool) : BitVec w := setFld v i 1 (if b then 1 else 0)

/-- A Boolean as a number. -/
def b2n (b : Bool) : Nat := if b then 1 else 0

/-- The two's-complement reading of the low `n` bits of `x`. -/
def signed (n x : Nat) : Int :=
  let y := x % 2 ^ n
  if y < 2 ^ (n - 1) then (y : Int) else (y : Int) - 2 ^ n

/-- The `n` low bits of an integer, in two's complement. -/
def toBits (n : Nat) (x : Int) : Nat := (x % (2 ^ n : Int)).toNat

/-- The number of bits of a natural number: one more than the position of its leading one (R69). -/
def bitLength (g : Nat) : Nat := if g = 0 then 0 else g.log2 + 1

/-- `n` bytes of `v`, little-endian (R3). -/
def leBytes : Nat → Nat → List Byte
  | 0, _ => []
  | n + 1, v => BitVec.ofNat 8 v :: leBytes n (v / 256)

/-- The number that bytes spell, little-endian (R3). -/
def ofLe : List Byte → Nat
  | [] => 0
  | b :: t => b.toNat + 256 * ofLe t

/-- The number that big-endian bytes spell: the Ethernet header's order (R3). -/
def ofBe (l : List Byte) : Nat := ofLe l.reverse

/-- `n` bytes of a list from `off`; bytes beyond its end read as 0. -/
def sliceBytes (l : List Byte) (off n : Nat) : List Byte :=
  (List.range n).map (fun i => l.getD (off + i) 0)

/-- The number of bits of `x` that are set, over its low `n` bits. -/
def popCount : Nat → Nat → Nat
  | 0, _ => 0
  | n + 1, x => x % 2 + popCount n (x / 2)

/-- The parity of the low `n` bits of `x`. -/
def parity (n x : Nat) : Bool := popCount n x % 2 = 1

/-- The low `n` bits of `x`, least significant first. -/
def bitsLsb : Nat → Nat → List Bool
  | 0, _ => []
  | n + 1, x => (x % 2 = 1) :: bitsLsb n (x / 2)

/-- The number whose 64-bit words, least significant first, are `l`. -/
def ofLeWords : List (BitVec 64) → Nat
  | [] => 0
  | w :: l => w.toNat + 2 ^ 64 * ofLeWords l

/-- The number whose bits, least significant first, are `l`. -/
def ofBitsLsb : List Bool → Nat
  | [] => 0
  | b :: t => b2n b + 2 * ofBitsLsb t

/-- One bit through a cyclic redundancy check of `w` bits, most significant bit first, without reflection. -/
def crcStep (w poly acc : Nat) (b : Bool) : Nat :=
  let top := (acc >>> (w - 1)) % 2 = 1
  let sh := (acc * 2) % 2 ^ w
  if top != b then sh ^^^ poly else sh

/-- The check of a bit sequence, in order. -/
def crcBits (w poly init : Nat) (l : List Bool) : Nat := l.foldl (crcStep w poly) init

/-- The bits of `l`'s bytes, each most significant first: the order of a check without reflection. -/
def bitsMsbFirst (l : List Byte) : List Bool :=
  l.flatMap (fun b => (bitsLsb 8 b.toNat).reverse)

/-- The check of bytes, each most significant bit first. -/
def crcBytes (w poly init : Nat) (l : List Byte) : Nat := crcBits w poly init (bitsMsbFirst l)

/-- The integer square root, by bits from 2^(k-1) down. -/
def isqrtLoop : Nat → Nat → Nat → Nat
  | 0, _, r => r
  | k + 1, n, r => let c := r + 2 ^ k; isqrtLoop k n (if c * c ≤ n then c else r)

/-- The integer square root of `n`. -/
def isqrt (n : Nat) : Nat := isqrtLoop ((bitLength n + 1) / 2) n 0

/-- The longest run of `true` in `l` as (first index, length), the lowest on a tie. -/
def longestRun (l : List Bool) : Nat × Nat :=
  let step := fun (st : (Nat × Nat) × (Nat × Nat)) (b : Bool) =>
    let ((i, cur), best) := st
    let cur' := if b then cur + 1 else 0
    let i' := i + 1
    ((i', cur'), if cur' > best.2 then (i' - cur', cur') else best)
  (l.foldl step ((0, 0), (0, 0))).2

end Sys2Proof.Machine
end

