-- ==== Sys2Proof/Machine/Ecc.lean ====
section
/-! DEFINITION. The error-correcting codes of SRAM and of the root stacks, and the checks of the links (R262, R266, R267, R302). -/

namespace Sys2Proof.Machine

/-- The eight-bit numbers of weight `k` in increasing order. -/
def weightCodes (k : Nat) : List Nat := (List.range 256).filter (fun x => popCount 8 x == k)

/-- The column code of each data bit of the (72, 64) code (R262). -/
def sramColumns : List Nat := weightCodes 3 ++ (weightCodes 5).take 8

/-- The eight check bits of a 64-bit word (R262). -/
def sramEncode (w : U64) : Nat :=
  sramColumns.zipIdx.foldl (fun acc (c, i) => if w.getLsbD i then acc ^^^ c else acc) 0

/-- What a read of a coded word finds (R262, R266). -/
inductive EccFinding (w : Nat) where
  /-- no error -/
  | ok
  /-- one bit in error: the corrected word -/
  | corrected (data : BitVec w)
  /-- uncorrectable -/
  | uncorrectable
  /-- the address field does not match (R266) -/
  | wrongAddress
  deriving DecidableEq, Repr

/-- The finding of a read of an SRAM word with its check bits (R262). -/
def sramCheckWord (w : U64) (check : Nat) : EccFinding 64 :=
  let syn := (sramEncode w ^^^ check) % 256
  if syn = 0 then .ok
  else
    match sramColumns.zipIdx.find? (fun e => e.1 == syn) with
    | some (_, i) => .corrected (w ^^^ BitVec.ofNat 64 (2 ^ i))
    | none => if popCount 8 syn = 1 then .corrected w else .uncorrectable

/-- Check bits that give syndrome 0xFF, which is no column code: the word reads as uncorrectable (R538, T3). -/
def sramPoisonCheck (w : U64) : Nat := sramEncode w ^^^ 0xFF

/-- The Hamming positions of the 256 data bits: counting up from 3, those that are no power of two (R266). -/
def stackPositions : List Nat :=
  ((List.range 266).filter (fun n => 3 ≤ n && n != 4 && n != 8 && n != 16 && n != 32 && n != 64 && n != 128 && n != 256)).take 256

/-- The exclusive-or of the positions of the set data bits (R266). -/
def stackSyndrome (w : BitVec 256) : Nat :=
  stackPositions.zipIdx.foldl (fun acc (p, i) => if w.getLsbD i then acc ^^^ p else acc) 0

/-- The address field: the six 6-bit groups of the line number, exclusive-ored (R266). -/
def stackAddrField (line : Nat) : Nat :=
  (List.range 6).foldl (fun acc i => acc ^^^ (line / 2 ^ (6 * i)) % 64) 0

/-- The 16 check bits of a 256-bit word of line `line` (R266). -/
def stackEncode (w : BitVec 256) (line : Nat) : Nat :=
  let ck := stackSyndrome w % 512
  let par := b2n (parity 256 w.toNat != parity 9 ck)
  ck + par * 512 + stackAddrField line * 1024

/-- The finding of a read of a stack word with its check field (R266). -/
def stackCheckWord (w : BitVec 256) (check line : Nat) : EccFinding 256 :=
  let syn := (stackSyndrome w ^^^ check) % 512
  let odd := parity 256 w.toNat != parity 10 check
  if (check / 1024) % 64 ≠ stackAddrField line then .wrongAddress
  else if syn = 0 then (if odd then .corrected w else .ok)
  else if odd && decide (syn ≤ 265) then
    match stackPositions.zipIdx.find? (fun e => e.1 == syn) with
    | some (_, i) => .corrected (w ^^^ BitVec.ofNat 256 (2 ^ i))
    | none => .corrected w
  else .uncorrectable

/-- CRC-8 of a burst: x^8 + x^2 + x + 1, initial value 0 (R267). -/
def crc8 (l : List Bool) : Nat := crcBits 8 0x07 0 l

/-- CRC-24, polynomial 0x86_4CFB, initial value 0 (R347). -/
def crc24 (l : List Bool) : Nat := crcBits 24 0x864CFB 0 l

/-! ## Frames (R436, R440) -/

/-- The findings of a frame's words: for each word its data and what the code finds. -/
def frameFindings (frame : BitVec 8192) (diff : Nat → Byte) : List (EccFinding 64) :=
  (List.range 128).map (fun i =>
    let v : U64 := frame.extractLsb' (64 * i) 64
    sramCheckWord v (sramEncode v ^^^ (diff i).toNat))

/-- A frame with its correctable words corrected. -/
def correctFrame (frame : BitVec 8192) (l : List (EccFinding 64)) : BitVec 8192 :=
  BitVec.ofNat 8192 ((l.zipIdx).foldl (fun acc x =>
    acc + (match x.1 with | .corrected d => d.toNat | _ => fld frame (64 * x.2) 64) * 2 ^ (64 * x.2)) 0)

/-- An uncorrectable word among findings. -/
def hasBad (l : List (EccFinding 64)) : Bool := l.any (fun x => match x with | .ok => false | .corrected _ => false | _ => true)
/-- Every word is good. -/
def allGood (l : List (EccFinding 64)) : Bool := l.all (fun x => x == .ok)

end Sys2Proof.Machine
end

