-- ==== Sys2Proof/Config.lean ====
section
/-! DEFINITION. What one device fixes and the spec leaves open: the constants set at factory, the free values, and the cryptographic
functions the spec names by their standards. None of them has a body, so no proof can see a value of one. -/

namespace Sys2Proof.Config

/-- DESIGN CHOICE (log entry 2). The free values: the n-th value the model draws where the spec leaves a value open (R14, R7). -/
opaque freeWord : Nat → BitVec 64

/-- DESIGN CHOICE (log entry 2). The byte at an address of SRAM whose contents the n-th reset left unpredictable (R48). -/
opaque freeByte : Nat → Nat → BitVec 8

/-- DESIGN CHOICE (log entry 7). What the factory set: the word of the object store with that key, for the objects whose default
the spec gives as "set at factory" or not at all (R489, R533, R585). -/
opaque factory : Nat → BitVec 64

/-- DESIGN CHOICE (log entry 7). The NV store as it left the factory: the byte at an offset (R427). -/
opaque nvFactory : Nat → BitVec 8

/-- DESIGN CHOICE (log entry 7). The digest fuses of image key set k (R563). -/
opaque keySetDigest : Nat → BitVec 384

/-- SHA-384 of a byte string (R565, R433). -/
opaque sha384 : List (BitVec 8) → BitVec 384

/-- ECDSA P-384 verification over a SHA-384 digest: public key (96 bytes), digest, signature (96 bytes) (R478, R566). -/
opaque ecdsaVerify : List (BitVec 8) → BitVec 384 → List (BitVec 8) → Bool

/-- HSS verification: public key (60 bytes), message, signature (R566). -/
opaque hssVerify : List (BitVec 8) → List (BitVec 8) → List (BitVec 8) → Bool

/-- The device's ECDSA P-384 signature with its identity key over a digest (R568). -/
opaque ecdsaSign : BitVec 384 → List (BitVec 8)

/-- The device's HSS signature with one index over a message (R568, R569). -/
opaque hssSign : Nat → List (BitVec 8) → List (BitVec 8)

/-- A point of P-384 (R579). -/
opaque onCurve : List (BitVec 8) → Bool

/-- The public point of an ephemeral private scalar (R478). -/
opaque ephemeralPoint : BitVec 384 → List (BitVec 8)

/-- The x-coordinate of ECDH on a peer's point and an ephemeral private scalar (R479). -/
opaque ecdhX : List (BitVec 8) → BitVec 384 → BitVec 384

/-- HKDF-SHA-384 with salt, input keying material and info, 32 bytes out (R479). -/
opaque hkdf : List (BitVec 8) → BitVec 384 → List (BitVec 8) → BitVec 256

/-- HMAC-SHA-384 under a key (R486). -/
opaque hmac384 : BitVec 384 → List (BitVec 8) → BitVec 384

/-- AES-256-GCM encryption: key, nonce, additional data, plaintext; the ciphertext followed by the 16-byte tag (R475, R479). -/
opaque gcmSeal : BitVec 256 → List (BitVec 8) → List (BitVec 8) → List (BitVec 8) → List (BitVec 8)

/-- AES-256-GCM opening: none where the tag fails (R479). -/
opaque gcmOpen : BitVec 256 → List (BitVec 8) → List (BitVec 8) → List (BitVec 8) → Option (List (BitVec 8))

/-- DESIGN CHOICE (log entry 26). ATS is enabled for a function, in a configuration space whose registers the spec does not give (R506). -/
opaque atsEnabled : Nat → Bool

/-- DESIGN CHOICE (log entry 26). The size that the host gave a function's resizable BAR2 before the run: 2^(28 + n) bytes, 256 MiB to
64 GiB (R496). -/
opaque bar2Size : Nat → Fin 9

/-- DESIGN CHOICE (log entry 26). PRI is enabled for a function (R506). -/
opaque priEnabled : Nat → Bool

/-- DESIGN CHOICE (log entry 36). The hops Ranger picks from a node to a router where links have failed (R323). -/
opaque reroute : Nat → Nat → List Nat → BitVec 96

/-- DESIGN CHOICE (log entry 32). What a configuration binds: port B of block `b` of Clearing `c` goes to the interface (R398). -/
opaque blockBound : Nat → Nat → Nat → Bool

/-- DESIGN CHOICE (log entry 32). How many clock domains a configuration declares for a Clearing (R408). -/
opaque clockDomains : Nat → Nat → BitVec 5

/-- DESIGN CHOICE (log entry 32). The voltage code a configuration declares for a bank (R416, R426). -/
opaque bankVoltage : Nat → Nat → BitVec 2

/-- DESIGN CHOICE (log entry 32). The Clearing that a configuration attaches to a user I/O bank, if any (R416). -/
opaque bankClearing : Nat → Nat → Option Nat

/-- DESIGN CHOICE (log entry 32). The bank declarations of an image meet R416 to R418: check 0x6 (R433). -/
opaque banksOk : Nat → Bool

/-! ## What a configuration makes of logic cells, routing and pins (R394, R395, R411, R420; log entry 124) -/

/-- A source that routing can bring to an input. -/
inductive Net where
  /-- a constant level -/
  | level (high : Bool)
  /-- an output of a cell's lookup: 0 the 6-input function, a memory or the first 5-input function, 1 the second -/
  | lookup (cell : Nat) (out : Bool)
  /-- a cell's flip-flop -/
  | flop (cell : Nat) (second : Bool)
  /-- the carry out of a cell -/
  | carry (cell : Nat)
  /-- a routing segment -/
  | segment (seg : Nat)
  /-- an incoming border signal, from the Clearing before or after in the chain of R411 -/
  | border (after : Bool) (signal : Nat)
  /-- an input register of a pin of bank `bank`; the second one in double-data-rate mode -/
  | pin (bank pin : Nat) (second : Bool)
  /-- a bit of a pair's deserialiser -/
  | pair (bank pair bit : Nat)
  /-- a signal of the user network interface or of a block RAM's port -/
  | device (signal : Nat)
  deriving DecidableEq, Repr, Inhabited

/-- What one logic cell is configured to be (R394). -/
structure Cell where
  /-- 0 one 6-input function, 1 two 5-input functions, 2 a 64 × 1 RAM, 3 a 32-bit shift register -/
  mode : BitVec 2
  /-- the sources of the lookup's inputs, input 0 first -/
  inputs : List Net
  /-- the source of the memory's data -/
  memData : Net
  /-- the source of the memory's write enable -/
  memWrite : Net
  /-- the carry comes from the cell before in the chain; else from `carryStart` -/
  chained : Bool
  /-- where a chain begins -/
  carryStart : Net
  /-- the sources of the two flip-flops -/
  data : List Net
  /-- their init values -/
  init : BitVec 2
  /-- their resets are asynchronous -/
  asyncReset : BitVec 2
  /-- which of the cluster's two clocks they and the memory take -/
  clock : Bool
  deriving DecidableEq, Repr, Inhabited

/-- The nets that the 16 cells of a cluster share (R394). -/
structure Cluster where
  /-- the clock domains of its two clocks -/
  clocks : Nat × Nat
  /-- the source of the clock enable -/
  enable : Net
  /-- the source of the user reset -/
  reset : Net
  deriving DecidableEq, Repr, Inhabited

/-- A routing segment's driver (R395). -/
structure Segment where
  /-- its wire register is used -/
  registered : Bool
  /-- what it drives -/
  source : Net
  /-- the driving cluster's clock that the register takes -/
  domain : Nat
  deriving DecidableEq, Repr, Inhabited

/-- An outgoing border signal (R411). -/
structure BorderSignal where
  /-- declared VALID; else DATA -/
  valid : Bool
  /-- the asserted level of a VALID -/
  asserted : Bool
  /-- what drives it -/
  source : Net
  deriving DecidableEq, Repr, Inhabited

/-- A pin (R420). Its delays are held as settings: they are times, which this model leaves out. -/
structure Pin where
  /-- double data rate at the input, the output and the output enable -/
  ddr : BitVec 3
  /-- sources of the output registers, the second for double data rate -/
  output : List Net
  /-- sources of the output-enable registers -/
  enable : List Net
  /-- input and output delay, 0 to 127 steps -/
  delays : BitVec 7 × BitVec 7
  /-- the clock domain of its registers -/
  domain : Nat
  deriving DecidableEq, Repr, Inhabited

/-- A pair's serialiser and deserialiser (R420). -/
structure Pair where
  /-- used -/
  used : Bool
  /-- ratio 8; else 4 -/
  ratio8 : Bool
  /-- sources of the bits sent -/
  source : List Net
  /-- the clock domain of the serial side -/
  domain : Nat
  deriving DecidableEq, Repr, Inhabited

/-- DESIGN CHOICE (log entry 124). A configuration's cell: image, Clearing, cell (R394). -/
opaque cell : Nat → Nat → Nat → Cell
/-- DESIGN CHOICE (log entry 124). A configuration's cluster: image, Clearing, cluster (R394). -/
opaque cluster : Nat → Nat → Nat → Cluster
/-- DESIGN CHOICE (log entry 124). A configuration's routing segment: image, Clearing, segment (R395). -/
opaque segment : Nat → Nat → Nat → Segment
/-- DESIGN CHOICE (log entry 124). A configuration's outgoing border signal: image, Clearing, towards the Clearing after it, signal (R411). -/
opaque borderSignal : Nat → Nat → Bool → Nat → BorderSignal
/-- DESIGN CHOICE (log entry 124). A configuration's pin: image, bank, pin (R420). -/
opaque pin : Nat → Nat → Nat → Pin
/-- DESIGN CHOICE (log entry 124). A configuration's pair: image, bank, pair (R420). -/
opaque pair : Nat → Nat → Nat → Pair
/-- DESIGN CHOICE (log entry 124). The user PLL that a clock domain of a Clearing comes from, if one: image, Clearing, domain (R400). -/
opaque domainPll : Nat → Nat → Nat → Option (Fin 4)
/-- DESIGN CHOICE (log entry 124). The word of a Clearing's frames that holds a cell's lookup table or memory (R440). -/
opaque cellWord : Nat → Fin 98304
/-- DESIGN CHOICE (log entry 124). The row of a cluster in its column: cluster k + 1 stands above cluster k unless its row is 0 (R394). -/
opaque clusterRow : Nat → Nat
/-- DESIGN CHOICE (log entry 124). How many routing segments a Clearing has (R395). -/
opaque segments : Nat
/-- DESIGN CHOICE (log entry 124). The carry out of a cell of its lookup inputs and its carry in, which R394 does not state. -/
opaque carryOut : List Bool → Bool → Bool
/-- DESIGN CHOICE (log entry 124). Levels the rules do not give: the n-th tick's level of a source outside the cells, or of a loop without a
register (R394, R402). -/
opaque outerLevel : Nat → Nat → Net → Bool
/-- DESIGN CHOICE (log entry 124). Whether a clock domain of a Clearing has an edge at the n-th tick (R400, R423). -/
opaque clockEdge : Nat → Nat → Nat → Bool

/-- DESIGN CHOICE (log entry 32). The dictionary defaults that an image carries: (Index, Subindex, value) (R430, type 0x08). -/
opaque imageDefaults : Nat → List (Nat × Nat × BitVec 64)

/-- DESIGN CHOICE (log entry 7). The SHA-384 of the boot ROM (R563, R573). -/
opaque bootRomDigest : BitVec 384

/-- DESIGN CHOICE (log entry 7). The PCI-SIG StandardID of SPDM and the Vendor ID of the functions' configuration space, which the spec
names without values (R575). -/
opaque spdmVendor : BitVec 16 × BitVec 16

end Sys2Proof.Config
end

