-- ==== Sys2Proof/Machine/Topology.lean ====
section
/-! DEFINITION. Where things are: the grid of groves (R17), the routers and the interfaces on them (R299 to R301), the device address
map (R256 to R258), and the default routes (R308). -/

namespace Sys2Proof.Machine

/-! ## Groves (R9, R17) -/

/-- The die of a grove. -/
def groveDie (n : Nat) : Nat := n / 56
/-- The grove's number on its die. -/
def groveLocal (n : Nat) : Nat := n % 56
/-- Column of a grove in the package grid (R17). -/
def groveX (n : Nat) : Nat := 8 * (groveDie n % 2) + groveLocal n % 8
/-- Row of a grove in the package grid (R17). -/
def groveY (n : Nat) : Nat := 7 * (groveDie n / 2) + groveLocal n / 8
/-- The grove at a position of the grid (R17). -/
def groveAt (x y : Nat) : Nat := 56 * (x / 8 + 2 * (y / 7)) + (x % 8 + 8 * (y % 7))
/-- The die at a position of the grid (R17). -/
def dieAt (x y : Nat) : Nat := x / 8 + 2 * (y / 7)

/-! ## Routers and nodes (R299, R300) -/

/-- Die of a router. -/
def routerDie (r : Nat) : Nat := (r % 20) / 10 + 2 * (r / 20 / 10)
/-- Column of a router on its die. -/
def routerLx (r : Nat) : Nat := r % 20 % 10
/-- Row of a router on its die. -/
def routerLy (r : Nat) : Nat := r / 20 % 10
/-- The router (lx, ly) of die d. -/
def routerAt (d lx ly : Nat) : Nat := 20 * (10 * (d / 2) + ly) + (10 * (d % 2) + lx)

/-- What an interface serves (R300). -/
inductive Attach where
  | grove (n : Nat)
  | understory (d bank : Nat)
  | stack (k segment : Nat)
  | clearing (c : Nat)
  | xannus (p : Nat)
  | pcie
  | management (d : Nat)
  | none
  deriving DecidableEq, Repr

/-- The interface attached to node 2r + p (R300). -/
def attachOf (node : Nat) : Attach :=
  let r := node / 2
  let d := routerDie r
  let lx := routerLx r
  let ly := routerLy r
  if node % 2 = 0 then
    if ly = 0 then .stack (2 * d) lx
    else if ly = 9 then .stack (2 * d + 1) lx
    else if lx = 0 then .clearing (24 * d + (ly - 1))
    else if lx = 9 then .clearing (24 * d + (ly + 7))
    else if ly = 8 then .none
    else .grove (56 * d + ((lx - 1) + 8 * (ly - 1)))
  else
    if ly = 9 then .none
    else if ly = 0 then (if 1 ≤ lx ∧ lx ≤ 8 then .clearing (24 * d + (15 + lx)) else .none)
    else if lx = 0 then
      (if ly = 1 then .xannus (3 * d) else if ly = 3 then .xannus (3 * d + 1) else if ly = 5 then .xannus (3 * d + 2)
       else if ly = 7 ∧ d = 0 then .pcie else .none)
    else if lx = 9 then (if ly = 1 then .management d else .none)
    else if ly = 8 then .understory d (55 + lx)
    else .understory d ((lx - 1) + 8 * (ly - 1))

/-- The node of a grove's interface (R300). -/
def groveNode (n : Nat) : Nat := 2 * routerAt (groveDie n) (groveLocal n % 8 + 1) (groveLocal n / 8 + 1)
/-- The node of an Understory bank's port (R300). -/
def understoryNode (d b : Nat) : Nat :=
  if b < 56 then 2 * routerAt d (b % 8 + 1) (b / 8 + 1) + 1 else 2 * routerAt d (b - 55) 8 + 1
/-- The node of segment lx of stack k (R300). -/
def stackNode (k seg : Nat) : Nat := 2 * routerAt (k / 2) seg (if k % 2 = 0 then 0 else 9)
/-- The node of a Clearing's user interface (R300). -/
def clearingNode (c : Nat) : Nat :=
  let d := c / 24
  let i := c % 24
  if i < 8 then 2 * routerAt d 0 (i + 1)
  else if i < 16 then 2 * routerAt d 9 (i - 7)
  else 2 * routerAt d (i - 15) 0 + 1
/-- The node of a Xannus port (R300). -/
def xannusNode (p : Nat) : Nat := 2 * routerAt (p / 3) 0 (2 * (p % 3) + 1) + 1
/-- The node of the PCI Express endpoint (R300). -/
def pcieNode : Nat := 2 * routerAt 0 0 7 + 1
/-- The node of a die's management interface (R300). -/
def managementNode (d : Nat) : Nat := 2 * routerAt d 9 1 + 1

/-- The router a mesh output leads to, where it is not at the package edge (R299). -/
def neighbour (r : Nat) : OutPort → Option Nat
  | .e => if r % 20 < 19 then some (r + 1) else none
  | .w => if 0 < r % 20 then some (r - 1) else none
  | .n => if r / 20 < 19 then some (r + 20) else none
  | .s => if 0 < r / 20 then some (r - 20) else none
  | _ => none

/-- The input of the neighbour that an output feeds. -/
def oppositePort : OutPort → OutPort
  | .e => .w | .w => .e | .n => .s | .s => .n | .l0 => .l0 | .l1 => .l1

/-- The number of an output: E, W, N, S, L0, L1 = 0-5 (R557). -/
def portNum : OutPort → Nat
  | .e => 0 | .w => 1 | .n => 2 | .s => 3 | .l0 => 4 | .l1 => 5

/-- The output with a number. -/
def portOf (n : Nat) : OutPort :=
  match n with
  | 0 => .e | 1 => .w | 2 => .n | 3 => .s | 4 => .l0 | _ => .l1

/-- The number of a channel (R309). -/
def chanNum : Channel → Nat
  | .request => 0 | .response => 1 | .multicast => 2

/-! ## Default routes (R305, R308) -/

/-- The codes of `n` moves in one direction: one move code, code 6 while four or more remain, then single moves (R308). -/
def runCodes (code n : Nat) : List Nat :=
  if n = 0 then []
  else code :: (List.replicate ((n - 1) / 4) 6 ++ List.replicate ((n - 1) % 4) code)

/-- The hop codes of the default route between two routers (R308): W, S, E, N, then EXIT. -/
def defaultCodes (src dst : Nat) : List Nat :=
  let sx := src % 20
  let sy := src / 20
  let dx := dst % 20
  let dy := dst / 20
  runCodes 1 (sx - dx) ++ runCodes 3 (sy - dy) ++ runCodes 0 (dx - sx) ++ runCodes 2 (dy - sy) ++ [7]

/-- Hop codes packed, code i in bits 3i + 2:3i (R305). -/
def packCodes : List Nat → Nat
  | [] => 0
  | c :: t => c % 8 + 8 * packCodes t

/-- The default entry of a route table (R305, R308). -/
def defaultRoute (node e : Nat) : BitVec 128 :=
  if e < 400 then BitVec.ofNat 128 (2 ^ 126 + packCodes (defaultCodes (node / 2) e)) else 0

/-! ## The device address map (R256) -/

/-- What an address of the device map names (R256). -/
inductive Region where
  | stackUser
  | mirror
  | understory (d : Nat)
  | tileSram (tile : Nat)
  | localStore (n : Nat)
  | blockRam (d b : Nat)
  | gap
  deriving DecidableEq, Repr

/-- First byte of the Understory (R256). -/
def understoryBase : Nat := 0x010000000000
/-- First byte of tile SRAM (R256). -/
def tileSramBase : Nat := 0x020000000000
/-- First byte of the local stores (R256). -/
def localStoreBase : Nat := 0x021000000000
/-- First byte of block RAM (R256). -/
def blockRamBase : Nat := 0x022000000000

/-- The region of an address (R256). -/
def regionOf (a : Nat) : Region :=
  if a < 0x0045C0000000 then .stackUser
  else if a < 0x004800000000 then .mirror
  else if a < understoryBase then .gap
  else if a < understoryBase + 0xC0000000 then .understory ((a - understoryBase) / 0x30000000)
  else if a < tileSramBase then .gap
  else if a < tileSramBase + 0x38000000 then .tileSram ((a - tileSramBase) / 0x100000)
  else if a < localStoreBase then .gap
  else if a < localStoreBase + 0x3800000 then .localStore ((a - localStoreBase) / 0x40000)
  else if a < blockRamBase then .gap
  else if a < blockRamBase + 0x8000000 then
    let o := a - blockRamBase
    let b := o % 0x2000000 / 0x1000
    if b < 4608 then .blockRam (o / 0x2000000) b else .gap
  else .gap

/-- Address of byte `o` of a tile's SRAM, tiles numbered 4n + t (R256). -/
def tileAddr (tile o : Nat) : Nat := tileSramBase + tile * 0x100000 + o
/-- Address of byte `o` of a grove's local store (R256). -/
def storeAddr (n o : Nat) : Nat := localStoreBase + n * 0x40000 + o
/-- Address of byte `o` of a block RAM (R256). -/
def bramAddr (d b o : Nat) : Nat := blockRamBase + d * 0x2000000 + b * 0x1000 + o

/-- An address in one of the four SRAM tiers. -/
def isSram (a : Nat) : Bool :=
  match regionOf a with
  | .understory _ => true
  | .tileSram _ => true
  | .localStore _ => true
  | .blockRam _ _ => true
  | _ => false

/-- An address in the root stacks, the mirror reservation included. -/
def isStack (a : Nat) : Bool := a < 0x004800000000

/-- The die of an SRAM address. -/
def sramDie (a : Nat) : Nat :=
  match regionOf a with
  | .understory d => d
  | .tileSram t => t / 224
  | .localStore n => n / 56
  | .blockRam d _ => d
  | _ => 0

/-- The Understory bank that holds an offset of a die (R257). -/
def understoryBank (o : Nat) : Nat :=
  let ln := o / 256
  (ln % 64) ^^^ (ln / 64 % 64)

/-- Where a line of a root stack lies (R258). -/
structure StackLoc where
  /-- stack -/
  stack : Nat
  /-- pseudo-channel -/
  pc : Nat
  /-- stack level -/
  level : Nat
  /-- bank group -/
  bg : Nat
  /-- bank in its group -/
  bank : Nat
  /-- row -/
  row : Nat
  /-- column -/
  col : Nat
  deriving DecidableEq, Repr

/-- The mapping of a root-stack address (R258). -/
def stackMap (a : Nat) : StackLoc :=
  let l := a / 256
  let l1 := l / 8
  let l2 := l1 / 32
  let qq := l2 / 2 ^ 19
  { stack := (l % 8) ^^^ (l / 2 ^ 11 % 8) ^^^ (l / 2 ^ 21 % 8)
    pc := (l1 % 32) ^^^ (l1 / 2 ^ 12 % 32)
    level := qq % 3
    bg := l2 / 4 % 4
    bank := l2 / 16 % 4
    row := l2 / 64 % 8192 + 8192 * (qq / 3)
    col := l2 % 4 }

/-- The bank's number in its pseudo-channel: level, bank group, bank, 0-47 (R265). -/
def bankIndex (x : StackLoc) : Nat := 16 * x.level + 4 * x.bg + x.bank

/-- The node that serves a device address (R301), where the map has the address. -/
def nodeOfAddr (a : Nat) : Option Nat :=
  match regionOf a with
  | .stackUser => some (stackNode (stackMap a).stack ((a / 256 / 8) % 10))
  | .mirror => some (stackNode (stackMap a).stack ((a / 256 / 8) % 10))
  | .understory d => some (understoryNode d (understoryBank ((a - understoryBase) % 0x30000000)))
  | .tileSram t => some (groveNode (t / 4))
  | .localStore n => some (groveNode n)
  | .blockRam d b => some (clearingNode (24 * d + b / 192))
  | .gap => none

/-! ## Hop codes (R306, R307) -/

/-- The moves of hop codes up to their end: the directions 0-3, and the code that ends them; none where the codes are not those of
R307. -/
def routeMoves : Nat → Nat → Option Nat → Nat → Option (List Nat × Nat)
  | 0, _, _, _ => none
  | k + 1, hops, last, seen =>
    let c := hops % 8
    if c < 4 then
      (if (c = 1 ∨ c = 3) ∧ seen = 1 then none
       else (routeMoves k (hops / 8) (some c) (if c = 0 ∨ c = 2 then 1 else seen)).map (fun r => (c :: r.1, r.2)))
    else if c = 6 then
      (match last with
       | none => none
       | some m => (routeMoves k (hops / 8) last seen).map (fun r => (m :: m :: m :: m :: r.1, r.2)))
    else if hops / 8 = 0 then some ([], c) else none

/-- The router a move leads to. -/
def moveTo (r dir : Nat) : Option Nat := neighbour r (portOf dir)

/-- The routers and outputs of a path of moves; none where it leaves the grid. -/
def pathFrom (r : Nat) : List Nat → Option (List (Nat × Nat) × Nat)
  | [] => some ([], r)
  | m :: t =>
    match moveTo r m with
    | none => none
    | some r' => (pathFrom r' t).map (fun x => ((r, m) :: x.1, x.2))

end Sys2Proof.Machine
end

