-- ==== Sys2Proof/Machine/ObjectTable.lean ====
section
/-! DEFINITION. The object dictionary as a table: which Index:Sub is implemented, its type, access code and effect point, its length
and its default (R11, R12, R450 to R452, and the object tables of every chapter). -/

namespace Sys2Proof.Machine

/-- The access codes (R11). -/
inductive Access where
  | co | ro | rw | rb | rg | wo
  deriving DecidableEq, Repr

/-- The effect points (R12). -/
inductive EffectPoint where
  | never | immediate | boundary | boundaryAll | frame | refresh
  deriving DecidableEq, Repr

/-- The types (R452). -/
inductive ObjType where
  | unsigned (bits : Nat)
  | signed (bits : Nat)
  | octets
  | str
  | record
  deriving DecidableEq, Repr

/-- One object of the dictionary. -/
structure ObjInfo where
  /-- access code -/
  acc : Access
  /-- effect point -/
  eff : EffectPoint
  /-- type -/
  ty : ObjType
  /-- length in 64-bit words, rounded up (R469) -/
  words : Nat
  deriving DecidableEq, Repr

/-- A 64-bit-or-narrower object. -/
def scalarObj (acc : Access) (eff : EffectPoint) (bits : Nat) : Option ObjInfo := some ⟨acc, eff, .unsigned bits, 1⟩
/-- A read-only unsigned object. -/
def roObj (bits : Nat) : Option ObjInfo := scalarObj .ro .never bits
/-- A read-write object with immediate effect. -/
def rwObj (bits : Nat) : Option ObjInfo := scalarObj .rw .immediate bits
/-- A guarded object with immediate effect. -/
def rgObj (bits : Nat) : Option ObjInfo := scalarObj .rg .immediate bits
/-- A buffered object with effect at a step boundary. -/
def rbObj (bits : Nat) : Option ObjInfo := scalarObj .rb .boundary bits
/-- A read-only signed 16-bit object. -/
def roS16 : Option ObjInfo := some ⟨.ro, .never, .signed 16, 1⟩
/-- A record. -/
def recObj (acc : Access) (eff : EffectPoint) (words : Nat) : Option ObjInfo := some ⟨acc, eff, .record, words⟩
/-- An octet string. -/
def octObj (acc : Access) (words : Nat) : Option ObjInfo :=
  some ⟨acc, if acc = .wo then .immediate else .never, .octets, words⟩

/-- Number of telemetry values of 0x3000 to 0x3033 (R533). -/
def telemetryCount : Nat := 343

/-- Identity and communication, 0x1000-0x1FFF (R1, R489, R512, R607). DESIGN CHOICE, unsafe (log entry 111): no rule gives the length of the
STRINGs FamilyCode and its fellow; the model holds each in 2 words, 16 bytes padded with zeros. -/
def objIdentity (ix sb : Nat) : Option ObjInfo :=
  match ix, sb with
  | 0x1001, 1 => some ⟨.co, .never, .str, 2⟩
  | 0x1001, 2 => scalarObj .co .never 8
  | 0x1001, 3 => some ⟨.co, .never, .str, 2⟩
  | 0x1002, 1 => roObj 32
  | 0x1002, 2 => roObj 32
  | 0x1010, 1 => rwObj 32
  | 0x1010, 2 => rwObj 32
  | 0x1010, 3 => roObj 32
  | 0x1010, k => if 0x10 ≤ k ∧ k ≤ 0x1F then rwObj 64 else none
  | 0x1011, 1 => rwObj 32
  | 0x1011, 2 => roObj 32
  | 0x1020, 1 => scalarObj .co .never 64
  | 0x1020, 2 => rgObj 64
  | 0x1020, 3 => rgObj 16
  | 0x1020, 4 => rwObj 32
  | 0x1020, 5 => rwObj 32
  | 0x1030, k => if 1 ≤ k ∧ k ≤ 10 then roObj 32 else none
  | 0x1031, 1 => rwObj 32
  | 0x1031, 2 => rwObj 16
  | 0x1031, 3 => recObj .ro .never 4
  | 0x1040, 1 => roObj 32
  | _, _ => none

/-- Security, 0x2000-0x2FFF (R585). The lengths of the octet strings whose length the spec does not state are 16 KiB (log entry 9). -/
def objSecurity (ix sb : Nat) : Option ObjInfo :=
  match ix, sb with
  | 0x2000, 1 => rwObj 32
  | 0x2001, 1 => octObj .ro 12
  | 0x2001, 2 => octObj .ro 8
  | 0x2001, 3 => octObj .ro 2048
  | 0x2001, 4 => recObj .ro .never 2048
  | 0x2001, 5 => roObj 64
  | 0x2002, 5 => rgObj 32
  | 0x2002, k => if 1 ≤ k ∧ k ≤ 4 then recObj .ro .never 20 else none
  | 0x2003, k => if 1 ≤ k ∧ k ≤ 8 then recObj .rg .immediate 13 else none
  | 0x2004, 1 => octObj .wo 6
  | 0x2004, 2 => roObj 32
  | 0x2005, 1 => rgObj 32
  | 0x2005, 2 => rgObj 32
  | 0x2005, 3 => rgObj 32
  | 0x2005, 4 => roObj 8
  | 0x2006, 1 => octObj .ro 4
  | 0x2006, 2 => octObj .wo 2048
  | _, _ => none

/-- Telemetry, 0x3000-0x33FF (R533). -/
def objTelemetry (ix sb : Nat) : Option ObjInfo :=
  if ix = 0x3000 then (if sb = 1 then roObj 32 else if sb = 2 then roObj 64 else none)
  else if ix = 0x3001 then (if 1 ≤ sb ∧ sb ≤ 13 then roS16 else none)
  else if 0x3010 ≤ ix ∧ ix ≤ 0x3013 then (if 1 ≤ sb ∧ sb ≤ 64 then roS16 else none)
  else if ix = 0x3014 then (if 1 ≤ sb ∧ sb ≤ 4 then roS16 else none)
  else if 0x3020 ≤ ix ∧ ix ≤ 0x3022 then (if 1 ≤ sb ∧ sb ≤ 20 then roObj 32 else none)
  else if 0x3030 ≤ ix ∧ ix ≤ 0x3033 then (if sb = 1 then roObj 64 else if sb = 2 then roObj 32 else none)
  else if ix = 0x3040 then (if sb = 1 then recObj .ro .never (1 + 2 * telemetryCount) else none)
  else if ix = 0x3100 then
    (if sb = 1 ∨ sb = 2 then rgObj 32 else if sb = 3 ∨ sb = 5 then rwObj 32 else if sb = 4 then roObj 32 else none)
  else if ix = 0x3101 then (if 1 ≤ sb ∧ sb ≤ 4 then roObj 16 else none)
  else if 0x3400 ≤ ix ∧ ix < 0x3400 + 224 then roObj 32
  else none

/-- Calibration, 0x4000-0x4FFF (R519, R533). -/
def objCalibration (ix sb : Nat) : Option ObjInfo :=
  if ix < 0x4004 ∧ 0x4000 ≤ ix then (if 1 ≤ sb ∧ sb ≤ 64 then some ⟨.rg, .immediate, .signed 16, 1⟩ else none)
  else if ix = 0x4004 then (if 1 ≤ sb ∧ sb ≤ 4 then some ⟨.rg, .immediate, .signed 16, 1⟩ else none)
  else if ix = 0x4005 then (if 1 ≤ sb ∧ sb ≤ 8 then some ⟨.rg, .immediate, .signed 16, 1⟩ else none)
  else if ix = 0x4010 then (if 1 ≤ sb ∧ sb ≤ 20 then rgObj 32 else none)
  else if ix = 0x4011 then (if 1 ≤ sb ∧ sb ≤ 20 then some ⟨.rg, .immediate, .signed 16, 1⟩ else none)
  else if ix = 0x4100 ∧ sb = 1 then recObj .rg .immediate 85
  else none

/-- Images and configuration, 0x5000-0x5FFF (R445). -/
def objImages (ix sb : Nat) : Option ObjInfo :=
  match ix, sb with
  | 0x5000, 1 => rgObj 32
  | 0x5000, 2 => rwObj 32
  | 0x5000, 3 => recObj .rg .immediate 3
  | 0x5000, 4 => recObj .ro .never 3
  | 0x5000, 5 => recObj .ro .never 3
  | 0x5000, 6 => recObj .ro .never 3
  | 0x5000, 7 => recObj .rg .immediate 2
  | 0x5000, 8 => rwObj 32
  | 0x5000, 9 => rwObj 32
  | 0x5000, 10 => rwObj 32
  | i, 1 => if 0x5010 ≤ i ∧ i ≤ 0x5013 then roObj 64 else none
  | _, _ => none

/-- Stands, 0x6100 + 0x10s and 0x6101 + 0x10s (R23). -/
def objStand (ix sb : Nat) : Option ObjInfo :=
  if ix % 16 = 0 then
    match sb with
    | 1 => scalarObj .rg .boundary 32
    | 2 => scalarObj .rg .boundary 32
    | 3 => scalarObj .rg .boundary 32
    | 4 => rwObj 32
    | 5 => roObj 64
    | 6 => roObj 32
    | _ => none
  else if ix % 16 = 1 then (if 1 ≤ sb ∧ sb ≤ 64 then rbObj 64 else none)
  else none

/-- A grove's objects, 0x6200 + n (R116, R166). -/
def objGrove (sb : Nat) : Option ObjInfo :=
  if sb = 1 then rbObj 32
  else if sb = 2 then roObj 32
  else if 0x10 ≤ sb ∧ sb < 0x50 then
    match sb % 16 with
    | 0 => scalarObj .rg .boundary 32
    | 1 => rwObj 32
    | 2 => rwObj 32
    | 3 => roObj 64
    | 4 => roObj 64
    | 5 => roObj 32
    | 6 => roObj 32
    | 7 => roObj 64
    | _ => none
  else if sb = 0x50 then scalarObj .rg .boundary 32
  else if sb = 0x51 then roObj 64
  else if 0x60 ≤ sb ∧ sb < 0x80 then
    match sb % 8 with
    | 0 => rwObj 32
    | 1 => roObj 64
    | 2 => rwObj 32
    | 3 => roObj 64
    | _ => none
  else none

/-- A grove's stream slots, 0x6300 + n (R254). -/
def objStreams (sb : Nat) : Option ObjInfo :=
  if 0x10 ≤ sb ∧ sb < 0x90 then
    match sb % 16 with
    | 0 => rwObj 32
    | 1 => recObj .ro .never 16
    | 2 => roObj 64
    | 3 => roObj 64
    | _ => none
  else none

/-- A PCI Express function's objects, 0x6400 + f (R512). -/
def objFunc (sb : Nat) : Option ObjInfo :=
  match sb with
  | 1 => rwObj 32
  | 2 => rwObj 64
  | 3 => rwObj 64
  | 4 => rwObj 32
  | 5 => rwObj 64
  | 6 => rwObj 32
  | _ => none

/-- A router's objects and those of the interfaces on it, 0x6600 + r (R326). -/
def objRouter (r sb : Nat) : Option ObjInfo :=
  if sb = 1 then rwObj 32
  else if sb = 2 then roObj 64
  else if 0x10 ≤ sb ∧ sb < 0x30 then
    if attachOf (2 * r + (sb / 16 - 1)) = .none then none
    else
      match sb % 16 with
      | 0 => rwObj 32
      | 1 => recObj .rb .boundaryAll 1024
      | 2 => roObj 64
      | _ => none
  else none

/-- A multicast tree's objects, 0x6800 + t (R326). -/
def objTree (sb : Nat) : Option ObjInfo :=
  if sb = 1 then rbObj 32
  else if sb = 2 then recObj .rb .boundary 16
  else if sb = 3 then rwObj 32
  else if 0x40 ≤ sb ∧ sb < 0x80 then roObj 64
  else none

/-- Stands and compute, 0x6000-0x6FFF. -/
def objCompute (ix sb : Nat) : Option ObjInfo :=
  if ix = 0x6020 then (if 1 ≤ sb ∧ sb ≤ 8 then rbObj 64 else none)
  else if ix = 0x6021 ∨ ix = 0x6022 then (if sb = 1 then rwObj 32 else none)
  else if 0x6100 ≤ ix ∧ ix < 0x6180 then objStand ix sb
  else if 0x6200 ≤ ix ∧ ix < 0x6200 + 224 then objGrove sb
  else if 0x6300 ≤ ix ∧ ix < 0x6300 + 224 then objStreams sb
  else if 0x6400 ≤ ix ∧ ix < 0x6409 then objFunc sb
  else if 0x6600 ≤ ix ∧ ix < 0x6600 + 400 then objRouter (ix - 0x6600) sb
  else if 0x6800 ≤ ix ∧ ix < 0x6900 then objTree sb
  else none

/-- Xannus and jobs, 0x7000-0x7FFF (R363, R389). -/
def objXannus (ix sb : Nat) : Option ObjInfo :=
  if ix = 0x7000 then
    (if sb = 1 ∨ sb = 2 ∨ sb = 4 then rwObj 32 else if sb = 3 then rwObj 8 else none)
  else if ix = 0x7001 then
    (if sb = 1 ∨ sb = 2 then rgObj 32 else if sb = 3 then recObj .rg .immediate 256 else if sb = 4 then rwObj 32 else none)
  else if 0x7100 ≤ ix ∧ ix < 0x710C then
    (match sb with
     | 1 => scalarObj .rb .frame 32
     | 2 => rwObj 32
     | 3 => roObj 64
     | 4 => roObj 64
     | _ => none)
  else if 0x7200 ≤ ix ∧ ix < 0x7260 then
    (match sb with
     | 1 => rwObj 32
     | 2 => roObj 32
     | 3 => roObj 32
     | 4 => roObj 64
     | _ => none)
  else if 0x7400 ≤ ix ∧ ix < 0x7480 ∧ ix % 16 = 0 then
    (match sb with
     | 1 => rbObj 32
     | 2 => recObj .rb .boundary 4
     | 3 => recObj .rb .boundary 2048
     | 4 => rwObj 32
     | _ => none)
  else none

/-- Memory, 0x8000-0x8FFF (R273, R294). -/
def objMemory (ix sb : Nat) : Option ObjInfo :=
  if ix = 0x8010 then (if 1 ≤ sb ∧ sb ≤ 7 then scalarObj .rb .refresh 32 else none)
  else if 0x8020 ≤ ix ∧ ix < 0x8028 then
    (match sb with
     | 1 => scalarObj .rb .refresh 32
     | 2 => rwObj 32
     | 3 => recObj .rb .refresh 5
     | 4 => roObj 64
     | 5 => roObj 64
     | 6 => recObj .ro .never 144
     | _ => none)
  else if 0x8080 ≤ ix ∧ ix < 0x8084 then (if sb = 1 ∨ sb = 2 then roObj 64 else none)
  else if 0x8100 ≤ ix ∧ ix < 0x8108 then (if 1 ≤ sb ∧ sb ≤ 16 then scalarObj .rg .boundary 64 else none)
  else none

/-- Fabric and user I/O, 0x9000-0x9FFF (R421). -/
def objFabric (ix sb : Nat) : Option ObjInfo :=
  if 0x9000 ≤ ix ∧ ix < 0x9004 then (if sb = 1 ∨ sb = 2 then rwObj 32 else none)
  else if 0x9100 ≤ ix ∧ ix < 0x9160 then
    (if sb = 1 then scalarObj .rg .boundary 32 else if sb = 2 then rwObj 32 else none)
  else if 0x9200 ≤ ix ∧ ix < 0x9208 then
    (if sb = 1 then rwObj 32 else if sb = 2 then recObj .rw .immediate 6 else none)
  else none

/-- Faults and self-test, 0xA000-0xAFFF (R558). -/
def objFaults (ix sb : Nat) : Option ObjInfo :=
  match ix, sb with
  | 0xA000, 1 => recObj .ro .never 2048
  | 0xA000, 2 => rwObj 32
  | 0xA000, 3 => recObj .ro .never 2048
  | 0xA001, 1 => rgObj 32
  | 0xA001, 2 => scalarObj .rg .boundary 32
  | 0xA002, 1 => recObj .ro .never 34
  | 0xA002, 2 => recObj .ro .never 256
  | 0xA003, 1 => roObj 64
  | 0xA003, 2 => roObj 32
  | 0xA003, 3 => roObj 32
  | _, _ => none

/-- The object at an Index:Sub, where it is implemented (R450, R451). The vendor range 0xF000 is not in the table. -/
def objInfo (ix sb : Nat) : Option ObjInfo :=
  match ix / 0x1000 with
  | 1 => objIdentity ix sb
  | 2 => objSecurity ix sb
  | 3 => objTelemetry ix sb
  | 4 => objCalibration ix sb
  | 5 => objImages ix sb
  | 6 => objCompute ix sb
  | 7 => objXannus ix sb
  | 8 => objMemory ix sb
  | 9 => objFabric ix sb
  | 0xA => objFaults ix sb
  | _ => none

/-- A banked object: each function and each session has its own (R454, R489). -/
def isBanked (ix : Nat) : Bool := ix == 0x1010 || ix == 0x1011

/-- The width of an object in bits; a word for records. -/
def ObjInfo.bits (o : ObjInfo) : Nat :=
  match o.ty with
  | .unsigned n => n
  | .signed n => n
  | _ => 64

/-- An object of R452 reached through the mailbox only. -/
def ObjInfo.mailboxOnly (o : ObjInfo) : Bool :=
  match o.ty with
  | .octets => true
  | .str => true
  | .record => true
  | _ => false

/-- The default latency target of a class (R273). -/
def latencyDefault (sb : Nat) : Nat :=
  match sb with
  | 1 => 512 | 2 => 512 | 3 => 1024 | 4 => 768 | 5 => 4096 | 6 => 8192 | _ => 256

/-- The default DRAM timings in table order, row by row (R293). -/
def dramDefaults : List Nat :=
  [1, 2, 14, 4, 14, 16, 33, 16, 47, 4, 1, 3, 2, 8, 20, 6, 10, 3900, 350, 200]

/-- Word `w` of a record of `size`-bit entries. -/
def packWord (entries : List Nat) (size w : Nat) : Nat :=
  (List.range (64 / size)).foldl (fun acc i => acc + entries.getD (w * (64 / size) + i) 0 * 2 ^ (size * i)) 0

/-- Word `w` of an ASCII string padded with zeros (R452). -/
def strWord (t : String) (w : Nat) : Nat :=
  ofLe ((List.range 8).map (fun i => BitVec.ofNat 8 ((t.toList.map Char.toNat).getD (8 * w + i) 0)))

/-- The word of an object in the store of the dictionary: bank 0 shared, 1 + f of function f, 10 + k of session place k. -/
def objKey (bank ix sb w : Nat) : Nat := ((bank * 65536 + ix) * 256 + sb) * 2048 + w

/-- The bank of a requester (R454). -/
def bankOf : Requester → Nat
  | .func f => 1 + f.val
  | .session k => 10 + k.val
  | .stranger => 14

/-- Defaults of 0x1000-0x1FFF. -/
def defIdentity (ix sb w : Nat) : Nat :=
  match ix, sb with
  | 0x1001, 1 => strWord "VK-PX8812-288-L" w
  | 0x1001, 2 => 0xB0
  | 0x1001, 3 => strWord "Pliorale" w
  | 0x1020, 1 => (Config.factory (objKey 0 0x1020 1 0)).toNat
  | 0x1020, 2 => 0x000080002008FF00
  | 0x1020, 3 => 0x88B5
  | 0x1020, 4 => 0x01C9C380
  | 0x1031, 1 => 0x03938700
  | 0x1031, 2 => 0x0010
  | _, _ => 0

/-- Defaults of 0x2000-0x2FFF. -/
def defSecurity (ix sb w : Nat) : Nat :=
  if ix = 0x2001 ∨ (ix = 0x2002 ∧ sb ≤ 4) ∨ (ix = 0x2006 ∧ sb = 1) then (Config.factory (objKey 0 ix sb w)).toNat
  else if ix = 0x2005 ∧ sb = 4 then 0x40
  else 0

/-- Defaults of 0x6000-0x6FFF. -/
def defCompute (ix sb w : Nat) : Nat :=
  if ix = 0x6021 then 0x000186A0
  else if ix = 0x6022 then 0x00100000
  else if 0x6200 ≤ ix ∧ ix < 0x6200 + 224 then
    (if sb = 1 then 0x3E00 else if sb = 0x10 ∨ sb = 0x20 ∨ sb = 0x30 ∨ sb = 0x40 then 2 else 0)
  else if 0x6400 ≤ ix ∧ ix < 0x6409 ∧ sb = 1 then 0x00420008
  else if 0x6600 ≤ ix ∧ ix < 0x6600 + 400 ∧ (sb = 0x11 ∨ sb = 0x21) then
    (defaultRoute (2 * (ix - 0x6600) + (sb / 16 - 1)) (w / 2)).toNat / 2 ^ (64 * (w % 2)) % 2 ^ 64
  else if 0x6800 ≤ ix ∧ ix < 0x6900 ∧ sb = 1 then 0x400
  else 0

/-- Defaults of 0x7000-0x7FFF. -/
def defXannus (ix sb : Nat) : Nat :=
  if ix = 0x7000 then (match sb with | 1 => 0x000186A0 | 2 => 10 | 3 => 8 | 4 => 0x060C | _ => 0)
  else if ix = 0x7001 ∧ sb = 4 then 0x2710
  else if 0x7100 ≤ ix ∧ ix < 0x710C ∧ sb = 1 then 0x4F
  else 0

/-- Defaults of 0x8000-0x8FFF. -/
def defMemory (ix sb w : Nat) : Nat :=
  if ix = 0x8010 then latencyDefault sb
  else if 0x8020 ≤ ix ∧ ix < 0x8028 then (if sb = 1 then 0x0C13 else if sb = 3 then packWord dramDefaults 16 w else 0)
  else 0

/-- The default of a word of an object (the object tables). -/
def objDefault (ix sb w : Nat) : Nat :=
  match ix / 0x1000 with
  | 1 => defIdentity ix sb w
  | 2 => defSecurity ix sb w
  | 3 =>
    if ix = 0x3100 then
      (match sb with | 1 => 0x80000960 | 2 => 0x005F695F | 5 => 0x3F | _ => 0)
    else 0
  | 4 => if (objInfo ix sb).isSome then (Config.factory (objKey 0 ix sb w)).toNat else 0
  | 5 => if ix = 0x5000 ∧ sb = 8 then 0x000186A0 else 0
  | 6 => defCompute ix sb w
  | 7 => defXannus ix sb
  | 8 => defMemory ix sb w
  | 9 => if 0x9000 ≤ ix ∧ ix < 0x9004 ∧ sb = 1 then 0x40 else 0
  | 0xA => if ix = 0xA001 ∧ sb = 1 then 0x00010032 else 0
  | _ => 0

/-- The default of the word with a key. -/
def dictDefault (key : Nat) : U64 :=
  BitVec.ofNat 64 (objDefault (key / 2048 / 256 % 65536) (key / 2048 % 256) (key % 2048))

/-- A public object, readable without a session (R454, R533). -/
def isPublic (ix sb : Nat) : Bool :=
  (ix == 0x1001 && sb == 2) || (ix == 0x1020 && (sb == 1 || sb == 5)) || (ix == 0x1002 && (sb == 1 || sb == 2)) ||
  (ix == 0x3000 && sb == 1) || (ix == 0x3001 && decide (1 ≤ sb) && decide (sb ≤ 4)) || (ix == 0x3100 && sb == 3)

end Sys2Proof.Machine
end

