-- ==== Sys2Proof/Machine/SMap.lean ====
section
/-! DEFINITION. Sparse maps in one canonical form: the keys rise strictly and no entry equals what an unlisted key reads as.
Memory, the dictionary and every sparse store of the state are such maps, so that equal stores are equal data. -/

namespace Sys2Proof.Machine

/-- A sparse map from numbers. -/
abbrev SMap (α : Type) := List (Nat × α)

namespace SMap

/-- The entry at `k`. -/
def find? {α : Type} : SMap α → Nat → Option α
  | [], _ => none
  | (i, v) :: t, k => if i = k then some v else find? t k

/-- What key `k` reads as, `d` where it is not listed. -/
def get {α : Type} (d : α) (m : SMap α) (k : Nat) : α := (find? m k).getD d

/-- The map without the entries whose key satisfies `p`. -/
def eraseAll {α : Type} (m : SMap α) (p : Nat → Bool) : SMap α := m.filter (fun e => !p e.1)

/-- The map without an entry at `k`. -/
def erase {α : Type} (m : SMap α) (k : Nat) : SMap α := eraseAll m (fun i => i == k)

/-- The map with the entry `v` at `k`. -/
def insert {α : Type} : SMap α → Nat → α → SMap α
  | [], k, v => [(k, v)]
  | (i, u) :: t, k, v =>
    if i = k then (k, v) :: t else if k < i then (k, v) :: (i, u) :: t else (i, u) :: insert t k v

/-- Writes `v` at `k`; writing what an unlisted key reads as removes the entry. -/
def set {α : Type} [DecidableEq α] (d : α) (m : SMap α) (k : Nat) (v : α) : SMap α :=
  if v = d then erase m k else insert m k v

/-- The keys rise strictly from above `lo` and no value is the default of its key. -/
def wfFrom {α : Type} [DecidableEq α] (d : Nat → α) : Nat → SMap α → Bool
  | _, [] => true
  | lo, (k, v) :: t => decide (lo ≤ k) && decide (v ≠ d k) && wfFrom d (k + 1) t

/-- The canonical form. -/
def wf {α : Type} [DecidableEq α] (d : Nat → α) (m : SMap α) : Bool := wfFrom d 0 m

end SMap

end Sys2Proof.Machine
end

