-- ==== Sys2Proof/Machine/State.lean ====
section
/-! DEFINITION. The state of the PX8812 as plain data, its reset value, and the reasons a step can stop. Every dictionary object is
held in `State.dict`; what the units hold beside their objects is held in the unit structures below. -/

namespace Sys2Proof.Machine

/-! ## Matrix tiles and groves (03_matrix_tiles.md) -/

/-- One nibble of a 128 × 128 weight block with its scale bytes (R81, R89): a live or a shadow set. -/
structure WeightSet where
  /-- the 32 nibble-set lines (R207) -/
  lines : List (BitVec 2048)
  /-- the 2 scale lines (R208) -/
  scales : List (BitVec 2048)
  /-- weight format code -/
  wfmt : BitVec 4
  /-- nibble index j -/
  nib : BitVec 2
  /-- marked square (R94) -/
  square : Bool
  deriving DecidableEq, Repr

/-- An accumulator slot of one output (R74, R81, R87). -/
structure AccSlot where
  /-- the Hazel64 value -/
  val : U64
  /-- the inexact mark -/
  inexact : Bool
  /-- the origin lane of a NaN (R77) -/
  origin : BitVec 48
  deriving DecidableEq, Repr

/-- The accumulator at a release: +0 (R87). -/
def AccSlot.reset : AccSlot := ⟨0, false, 0⟩

/-- A multi-nibble weight set between its passes (R100). -/
structure PassSet where
  /-- word 0 of the first pass -/
  w0 : U64
  /-- NIB of the next pass -/
  next : BitVec 2
  deriving DecidableEq, Repr

/-- A command with LAST = 1 whose outputs the writer has still to produce (R106, R173). -/
structure WriterJob where
  /-- number of the job at its tile, in queue order -/
  id : Nat
  /-- word 0 of the mmul -/
  w0 : U64
  /-- word 1 of the mmul -/
  w1 : U64
  /-- bit v set: vector v is masked -/
  masked : BitVec 128
  /-- number of draws of each writer lane before this command (R177) -/
  drawBase : Nat
  /-- unmasked vectors handed over (R175) -/
  handed : Nat
  /-- unmasked vectors returned and written (R176) -/
  returned : Nat
  /-- accumulators handed over that were NaN: 128 v + output, with the origin lane (R181) -/
  nanOrigins : SMap (BitVec 48)
  deriving DecidableEq, Repr

/-- What a tile holds beside its SRAM and objects (R81). -/
structure Tile where
  /-- the live set -/
  live : Option WeightSet
  /-- the shadow set, loaded since the last swap -/
  shadow : Option WeightSet
  /-- exact integer block partials between passes: (128 v + output) · 4 + block, s37 (R85) -/
  pass : SMap (BitVec 37)
  /-- the set of passes in progress (R100) -/
  passSet : Option PassSet
  /-- the accumulator file: 128 slot + output (R81) -/
  acc : SMap AccSlot
  /-- accumulating commands since each slot was initialised (R86) -/
  chunk : SMap Nat
  /-- live histogram counters (R110) -/
  hist : SMap U32
  /-- the writer's commands, oldest first -/
  jobs : List WriterJob
  /-- number the next job takes -/
  nextJob : Nat
  /-- draws taken by each writer lane since the release (R177) -/
  draws : Nat
  /-- a refused command: later commands are discarded until the step ends (R105) -/
  discard : Bool
  /-- stopped on a checked error (R113) -/
  stopped : Bool
  deriving DecidableEq, Repr

/-- A tile after a reset or at a release (R87). -/
def Tile.reset : Tile := ⟨none, none, [], none, [], [], [], [], 0, 0, false, false⟩

/-- An entry of the grove command queue (R101). -/
structure QEntry where
  /-- the 128-bit command -/
  word : BitVec 128
  /-- tiles that have executed it -/
  done : BitVec 4
  deriving DecidableEq, Repr

/-- Who waits on a token counter (R240). -/
inductive Waiter where
  | context (t : Fin 4)
  | slot (q : Fin 8)
  deriving DecidableEq, Repr

/-- A wait that has begun (R240). -/
structure TokenWait where
  /-- the counter of the grove -/
  ctr : Fin 64
  /-- the waiter -/
  who : Waiter
  /-- the count waited for -/
  count : Nat
  deriving DecidableEq, Repr

/-- A tsig taken by its tiles whose token is not yet signalled (R243). -/
structure TsigPending where
  /-- the token -/
  token : U16
  /-- the amount -/
  count : Nat
  /-- for each tile of the TMASK, the number below which its jobs must have ended -/
  upto : SMap Nat
  deriving DecidableEq, Repr

/-- What a grove holds: its command queue, token counters, issue unit and instruction cache (R81, R126, R239). -/
structure Grove where
  /-- the command queue, oldest first -/
  queue : List QEntry
  /-- token counters -/
  tokens : SMap U32
  /-- waits in the order they began -/
  waits : List TokenWait
  /-- TOKEN_OVF (R118) -/
  tokenOvf : Bool
  /-- tsig commands whose signal is awaited -/
  tsigs : List TsigPending
  /-- owner of the present or last time slice (R137); none at a release -/
  owner : Option (Fin 4)
  /-- issue cycles left in the slice -/
  sliceLeft : Nat
  /-- line numbers of the local store held in the instruction cache, newest first (R126) -/
  icache : List Nat
  /-- the engine stopped issuing on a checked error (R163) -/
  engineStopped : Bool
  /-- launch records of the step not yet taken (R219) -/
  launches : List (BitVec 128)
  /-- slot served last by the stream decoder (R217) -/
  lastSlot : Nat
  /-- MODE of GroveCtrl in force this step (R118) -/
  modeActive : BitVec 2
  deriving DecidableEq, Repr

/-- A grove at a release. -/
def Grove.reset : Grove := ⟨[], [], [], false, [], none, 0, [], false, [], 7, 0⟩

/-! ## The vector engine (04_vector_engine.md) -/

/-- The run state of a context (R168). -/
inductive CtxState where
  | idle | running | waiting | exception
  deriving DecidableEq, Repr

/-- A context of a vector engine (R126, R129). -/
structure Context where
  /-- physical vector registers 0-63 -/
  v : SMap (BitVec 1024)
  /-- predicates 1-15 -/
  p : SMap (BitVec 128)
  /-- scalars 1-31 -/
  sc : SMap U64
  /-- program counter -/
  pc : BitVec 18
  /-- rotating base -/
  rb : BitVec 5
  /-- flag register -/
  vf : BitVec 6
  /-- accumulator queue, oldest first -/
  aq : List (BitVec 1024)
  /-- output queue, oldest first -/
  oq : List (BitVec 1024)
  /-- TAG of the vstart -/
  tag : Byte
  /-- idle, running, waiting on a token, or stopped -/
  st : CtxState
  /-- the wait of the vwait at the program counter is satisfied and its count is taken (R157, R240) -/
  granted : Bool
  /-- draws of each lane since the release (R160) -/
  draws : SMap Nat
  deriving DecidableEq, Repr

/-- A context at a release (R132). -/
def Context.reset : Context := ⟨[], [], [], 0, 0, 0, [], [], 0, .idle, false, []⟩

/-! ## The stream engine (07_stream_programs.md) -/

/-- The kind of a generator (R222). -/
inductive GenKind where
  | linear | local | global
  deriving DecidableEq, Repr

/-- An address generator that sgen has configured (R217, R222). -/
structure Gen where
  /-- linear, descriptor-local or descriptor-global -/
  kind : GenKind
  /-- LSPACE -/
  space : BitVec 3
  /-- ADDR -/
  addr : U64
  /-- WINDOW -/
  window : BitVec 48
  /-- the descriptor's words W0-W23 as read (R194); empty for a linear generator -/
  desc : List U64
  /-- STEP of (level, dimension): 8 level + dim, summed over sstep (R230) -/
  steps : SMap Int
  /-- OFF of each dimension -/
  offs : SMap Int
  deriving DecidableEq, Repr

/-- The run state of a slot (R255). -/
inductive SlotState where
  | idle | running | waiting | halted | error
  deriving DecidableEq, Repr

/-- What a slot awaits from outside before its next instruction. -/
inductive SlotHold where
  | none
  /-- a near-memory engine performs its scopy, with the words of the source's and the destination's descriptor as they were read (R194,
  R245) -/
  | copying (src dst : List U64)
  /-- the stream has ended; writes it issued are still to complete (R221) -/
  | ending
  deriving DecidableEq, Repr

/-- A host-space unit without a translation, and what the host was asked (R250). -/
structure Miss where
  /-- the host address without a translation -/
  addr : U64
  /-- the unit is a write -/
  write : Bool
  /-- its generator -/
  gen : Fin 4
  /-- address of its instruction, and the loop counters and extents there -/
  pc : BitVec 18
  cnt : SMap (BitVec 48)
  ext : SMap (BitVec 48)
  /-- the Page Request Group index of the Page Request that is out; none while a Translation Request is -/
  prg : Option (BitVec 9)
  deriving DecidableEq, Repr

/-- A block fetched ahead of its use (R248). -/
structure Fetched where
  /-- address of the 128-byte block: in the device map, 2^60 + 2^44 · device + address for a block of another device, or 2^61 + address for
  one of host space -/
  addr : Nat
  /-- the transaction tag of its read, while that is in flight -/
  txn : BitVec 7
  /-- its bytes; none while its read is in flight -/
  bytes : Option (List Byte)
  deriving DecidableEq, Repr

/-- Where the writes of a run go (R231, R236). -/
inductive RunTo where
  /-- to a place of this device or of host space -/
  | here
  /-- to another device, with an OPX -/
  | peer (dev opx : Nat)
  /-- to the members of a route table entry -/
  | group (entry : Nat)
  deriving DecidableEq, Repr

/-- The unit moved last, and the run it ends (R234). -/
structure RunMark where
  /-- address of the smov -/
  pc : Nat
  /-- byte after the source unit; for a Berry unit, after its scale byte -/
  srcEnd : Nat
  /-- byte after the destination unit -/
  dstEnd : Nat
  /-- 128-byte blocks of the source -/
  src : List Nat
  /-- 128-byte blocks of the destination -/
  dst : List Nat
  /-- where its writes go -/
  dest : RunTo
  /-- the bytes of the run that no flit carries yet -/
  out : List (Nat × Byte)
  deriving DecidableEq, Repr

/-- A stream slot (R217). -/
structure Slot where
  /-- program counter -/
  pc : BitVec 18
  /-- loop counters C_0 to C_5 -/
  cnt : SMap (BitVec 48)
  /-- loop extents -/
  ext : SMap (BitVec 48)
  /-- generators configured -/
  gens : SMap (Option Gen)
  /-- TAG of the launch record -/
  tag : Byte
  /-- RATE of the regulator (R247) -/
  rate : BitVec 12
  /-- BURST of the regulator -/
  burst : U16
  /-- flits the bucket has given since it was full -/
  spent : Nat
  /-- idle, running, waiting, halted or stopped -/
  st : SlotState
  /-- what the slot awaits -/
  hold : SlotHold
  /-- a host-space unit at or ahead of the program position without a translation (R250) -/
  miss : Option Miss
  /-- the read buffer (R248) -/
  buffer : List Fetched
  /-- the run in progress (R234) -/
  run : Option RunMark
  /-- draws of each lane since the launch (R216) -/
  draws : SMap Nat
  deriving DecidableEq, Repr

/-- A slot at a launch or a release (R218). -/
def Slot.reset : Slot := ⟨0, [], [], [], 0, 0, 0, 0, .idle, .none, none, [], none, []⟩

/-! ## The step discipline and recovery (01_architecture.md, 17_faults_recovery.md) -/

/-- A line's slot of the boundary mirror (R45). -/
structure MirrorSlot where
  /-- the 256-byte line -/
  data : BitVec 2048
  /-- StepSeq of the step that wrote it; none where the tag is cleared (R44) -/
  tag : Option U64
  deriving DecidableEq, Repr

/-- A mirror slot with nothing committed. -/
def MirrorSlot.reset : MirrorSlot := ⟨0, none⟩

/-- Where a Stand is in its step discipline (R27, R39). -/
inductive Phase where
  /-- STATE 0 -/
  | disabled
  /-- STATE 1 -/
  | stepping
  /-- STATE 2, flushed -/
  | drained
  /-- STATE 2, committed: the apply phase has begun -/
  | committed
  /-- STATE 2, the apply phase has finished; also a Stand that waits for its first step -/
  | applied
  /-- STATE 3 -/
  | held
  /-- STATE 4 -/
  | fenced
  /-- STATE 5 -/
  | recovering
  deriving DecidableEq, Repr

/-- A STEP entry taken from a ring: the next work of a Stand (R500, R502). -/
structure StepWork where
  /-- entry word W0 (R500) -/
  w0 : U64
  /-- the launch records -/
  records : List (BitVec 128)
  /-- the function whose ring held it -/
  func : FuncId
  /-- how often that ring had been enabled when it was fetched -/
  gen : Nat
  /-- its number among the entries fetched from the ring -/
  id : Nat
  /-- number of the doorbell that made it pending (R502) -/
  bell : Nat
  deriving DecidableEq, Repr

/-- A Stand (R21). -/
structure Stand where
  /-- place in the step discipline -/
  phase : Phase
  /-- dies that have reported drain (R38) -/
  drainDies : BitVec 4
  /-- the barrier phase has finished (R40) -/
  barrierDone : Bool
  /-- StepSeq in the commit record (R45, R47) -/
  commitRec : Option U64
  /-- persistent entries in force whose lines count as written at the next flush (R46) -/
  fresh : SMap Bool
  /-- steps fetched and not yet released, oldest first (R502) -/
  steps : List StepWork
  /-- the step in progress, or the interrupted one -/
  current : Option StepWork
  /-- the step in progress has committed and the Stand has not released since (R39) -/
  done : Bool
  /-- recoveries and re-runs of the step in progress, the ATTEMPT of its completion (R503) -/
  attempt : Nat
  /-- STATUS of a step failure; 0 none (R501, R504) -/
  failure : Byte
  /-- GROVE, UNIT_KIND and UNIT of the first failing unit (R501) -/
  failWho : U16
  /-- dies on which the Stand is fenced (R544) -/
  fencedDies : BitVec 4
  /-- recovery stage to come next (R547); 0 outside a recovery -/
  stage : Nat
  /-- reset level of the recovery, as FaultLog LEVEL counts (R557) -/
  level : Nat
  /-- the level already reset in this recovery; 0 before the reset completes -/
  resetDone : Nat
  /-- units that the recovery resets and tests (R551) -/
  units : List UnitRef
  /-- Clearings that the recovery resets and tests -/
  clearings : List ClearingId
  /-- units still to be reset at the present level (R550) -/
  left : List UnitRef
  /-- Clearings still to be reset -/
  leftClearings : List ClearingId
  /-- the apply phase of the present boundary has run (R39, R50) -/
  applyDone : Bool
  /-- a lasting fault was found in the recovery, or the Stand is held for it (R541) -/
  unitFailed : Bool
  /-- a checked error arrived after stage 5: recovery restarts at stage 3 (R551) -/
  again : Bool
  /-- the Stand stays fenced (R540, R548, R550) -/
  stuck : Bool
  /-- serial numbers of the fault log entries that its recovery still updates (R556) -/
  logs : List Nat
  /-- moved memory still to be filled with 0 before the next release: first byte and length (R260) -/
  fills : List (Nat × Nat)
  /-- the accepted words that wait for this Stand and that the apply phase of its present boundary takes, by `objKey`: those accepted before
  the commit (R41, R50) -/
  due : SMap (Option U64)
  /-- a drain point has been reached since the Stand was enabled (R40) -/
  drained : Bool
  deriving DecidableEq, Repr

/-- A disabled Stand. -/
def Stand.reset : Stand where
  phase := .disabled
  drainDies := 0
  barrierDone := true
  commitRec := none
  fresh := []
  steps := []
  current := none
  done := false
  attempt := 0
  failure := 0
  failWho := 0
  fencedDies := 0
  stage := 0
  level := 0
  resetDone := 0
  units := []
  clearings := []
  left := []
  leftClearings := []
  applyDone := false
  unitFailed := false
  again := false
  stuck := false
  logs := []
  fills := []
  due := []
  drained := false

/-- What leaves the device (log entry 3). -/
inductive Output where
  /-- a write to host memory by a function -/
  | hostWrite (func : Nat) (addr : U64) (bytes : List Byte)
  /-- a Translation Request for a page (R250) -/
  | translation (func : Nat) (page : Nat)
  /-- a Page Request (R250) -/
  | pageRequest (func : Nat) (page : Nat) (write : Bool) (prg : Nat)
  /-- an Invalidate Completion (R506) -/
  | invalidated (func : Nat) (page : Nat)
  /-- a completion: function, tag, status (0 successful, 1 Unsupported Request, 2 Request Retry, 4 Completer Abort, 5 successful with poisoned data), data -/
  | completion (func tag status : Nat) (data : List Byte)
  /-- a Completer Abort reported for a write (R462) -/
  | busError (func : Nat)
  /-- an MSI-X message (R505) -/
  | msix (func vector : Nat)
  /-- a fatal error message of the endpoint (R510) -/
  | fatal
  /-- a control block on a Xannus port, as the link layer hands it to the coding pipeline (R348) -/
  | block (port : Nat) (b : U64)
  /-- a frame on a Xannus port, as the link layer hands it to the coding pipeline (R347) -/
  | frame (port : Nat) (head : BitVec 64) (body : BitVec 1216)
  /-- a codeword on a lane: its 2,720 PAM4 level codes, the first in bits 1:0 (R338, R339) -/
  | line (port lane : Nat) (codes : BitVec 5440)
  /-- a training frame on a lane (R341) -/
  | training (port lane : Nat) (control status : U32)
  /-- a frame on the field network: destination, body after the Ethernet header (R474, R475) -/
  | field (dst : BitVec 48) (body : List Byte)
  /-- a response or request handed to the user logic of a Clearing (R402, R404) -/
  | user (clearing : Nat) (kind tag : Nat) (addr : U64) (data : BitVec 1024)
  /-- the data a block RAM port reads (R396) -/
  | bram (die block : Nat) (data : U64) (bad : Bool)
  /-- an answer of the security engine (R570, R574, R575): 0 refused, 1 certificate, 2 measurements, 3 KEY_EXCHANGE signature, 4 report,
  5 IDE_KM taken; and its bytes -/
  | spdm (code : Nat) (bytes : List Byte)
  deriving DecidableEq, Repr

/-! ## Root stacks (08_memory.md) -/

/-- A request at a root die (R270, R273). -/
structure StackReq where
  /-- a write, or a read -/
  write : Bool
  /-- device address -/
  addr : Nat
  /-- bytes -/
  len : Nat
  /-- OP of R304: 0 write, 1 add, 2 maximum -/
  op : Nat
  /-- OPX -/
  opx : Nat
  /-- enable mask of a masked write, one bit a byte; all ones otherwise -/
  mask : Nat
  /-- the data of a write -/
  data : BitVec 1024
  /-- port class (R273) -/
  cls : Nat
  /-- Stand of the request; none for NO_STAND -/
  stand : Option StandId
  /-- the requester's node, and its TXN and GROUP -/
  node : Nat
  txn : Nat
  group : Nat
  /-- DCLK of its pseudo-channel at its entry into the stack port queue (R273) -/
  since : Nat
  /-- bursts still to be moved -/
  bursts : Nat
  /-- retries of the present burst (R267) -/
  retries : Nat
  deriving DecidableEq, Repr

/-- A command the scheduler has issued (R271, R293). -/
inductive DramCmd where
  | act | pre | rd | wr
  deriving DecidableEq, Repr

/-- A command in the history that the timings of R293 look back on. -/
structure DramIssue where
  /-- DCLK of the pseudo-channel -/
  at' : Nat
  /-- the command -/
  cmd : DramCmd
  /-- bank 0-47, 16 · level + 4 · bank group + bank -/
  bank : Nat
  deriving DecidableEq, Repr

/-- A pseudo-channel (R265, R271, R272, R276). -/
structure PChan where
  /-- DCLK cycles scheduled -/
  cycle : Nat
  /-- the bank queues, oldest first, 8 requests each (R270) -/
  queues : SMap (List StackReq)
  /-- open row of each bank, plus one; 0 where closed -/
  rows : SMap Nat
  /-- column commands in a row to each bank (R271, rule 4) -/
  runs : SMap Nat
  /-- the rotating pointer 0-47 (R271) -/
  pointer : Nat
  /-- writes still to issue in the present batch (R272) -/
  batch : Nat
  /-- commands issued, newest first, as far back as a timing reaches -/
  history : List DramIssue
  /-- refreshes postponed (R276) -/
  postponed : Nat
  /-- DCLK at which the last refresh ends -/
  busyUntil : Nat
  /-- next line of the patrol (R269), in lines of the pseudo-channel -/
  patrol : Nat
  /-- next probe: 2 · turn parity and lane, 0-17 (R283) -/
  probe : Nat
  deriving DecidableEq, Repr

/-- A pseudo-channel after a device reset. -/
def PChan.reset : PChan := ⟨0, [], [], [], 0, 0, [], 0, 0, 0, 0⟩

/-- A command slot of a near-memory engine: the commands of one stream slot, oldest first (R286, R287). -/
structure NmCommand where
  /-- the 64-byte record (R289) -/
  record : BitVec 512
  /-- the node that sent it, its TXN and GROUP -/
  node : Nat
  txn : Nat
  group : Nat
  /-- the descriptors of its source and destination, as the issuing stream's sgen read them (R194) -/
  descs : Option (List U64 × List U64)
  deriving DecidableEq, Repr

/-- The staging buffer of a near-memory engine while a copy holds it (R286, R290). -/
structure Staged where
  /-- the command slot whose copy holds it -/
  slot : Nat
  /-- the source as read: its bytes by their address in the source's space -/
  cells : List (Nat × Byte)
  deriving DecidableEq, Repr

/-- A root stack (R265, R286). -/
structure Stack where
  /-- the stack port queue, oldest first (R270) -/
  port : List StackReq
  /-- the pseudo-channels -/
  pchans : SMap PChan
  /-- bytes served to each Stand in the present window (R274) -/
  served : SMap Nat
  /-- poisoned lines by line number: 1 until a whole-line write, 2 lasting (R267, R539) -/
  poison : SMap Nat
  /-- write reference code of each lane (R281) -/
  wrVref : SMap Nat
  /-- settings queued for relearning: 2 · lane, plus 1 for the write setting (R283, R284) -/
  relearn : List Nat
  /-- settings learned that the next refresh of their pseudo-channel installs, by 2 · lane + kind: delay, reference, margin (R284) -/
  learned : SMap (Option (Nat × Nat × Nat))
  /-- command slots of the near-memory engine -/
  nm : SMap (List NmCommand)
  /-- slot served by the datapath (R287) -/
  turn : Nat
  /-- slice group served (R288) -/
  sliceGroup : Nat
  /-- the staging buffer -/
  staging : Option Staged
  deriving DecidableEq, Repr

/-- A stack after a device reset. -/
def Stack.reset : Stack := ⟨[], [], [], [], [], [], [], [], 0, 0, none⟩

/-! ## The on-package network (09_network.md) -/

/-- A flit (R302, R303), without its check, which every router regenerates. -/
structure Flit where
  /-- remaining hop codes; for MC_WRITE bits 7:0 hold TREE -/
  route : BitVec 96
  /-- KIND (R304) -/
  kind : BitVec 4
  /-- SRC -/
  src : Nat
  /-- Stand of the packet; none for NO_STAND -/
  stand : Option StandId
  /-- CLASS (R273) -/
  cls : BitVec 3
  /-- RUN (R306) -/
  run : BitVec 2
  /-- OPX -/
  opx : BitVec 5
  /-- TXN -/
  txn : BitVec 7
  /-- ADDR -/
  addr : BitVec 57
  /-- payload -/
  data : BitVec 1024
  /-- the bytes of an MC_WRITE's block that its run covers; 0 for a whole block (log entry 29) -/
  part : BitVec 128 := 0
  deriving DecidableEq, Repr

/-- Who awaits the responses to a request. -/
inductive Origin where
  /-- stream slot 8n + q -/
  | slot (u : Nat)
  /-- user logic of a Clearing: its TXN and GROUP (R402) -/
  | user (c : Nat) (txn : BitVec 7) (group : BitVec 9)
  deriving DecidableEq, Repr

/-- A request whose responses are outstanding at its sending interface (R304). -/
structure Outst where
  /-- who awaits them -/
  origin : Origin
  /-- a write, or a read -/
  write : Bool
  /-- the address of a read's block, as `Fetched.addr`; of an MC_WRITE its ADDR; 2^62 for the COMMAND of
  an scopy -/
  addr : Nat
  /-- responses still to come -/
  left : Nat
  deriving DecidableEq, Repr

/-! ## Xannus ports (10_xannus_links.md) -/

/-- What a lane holds beside its objects (R341 to R361). -/
structure Lane where
  /-- taps of the lane's transmitter: PRE 7:0, MAIN 15:8, POST 23:16 (R342) -/
  taps : BitVec 24
  /-- bits 15:0 of the control word it sends (R341) -/
  control : U16
  /-- bits 15:0 of the status word it sends -/
  status : U16
  /-- consecutive frames received with RX_READY, to 3 (R344) -/
  farReady : Nat
  /-- trainings failed in service (R359) -/
  fails : Nat
  /-- SLOT of the last DESKEW block plus one, and how many agreed in a row (R350) -/
  deskew : Nat × Nat
  /-- LaneEye updates in a row below the threshold (R360) -/
  low : Nat
  /-- the lane's number is known to the receiver in this training (R335, R345) -/
  heard : Bool
  /-- the lane has finished training and sends DESKEW (R344, R350) -/
  locked : Bool
  /-- the far end asked for a far-end loopback (R357) -/
  loop : Bool
  /-- of the physical lane with this number: a signal is detected (R345) -/
  signal : Bool
  /-- of the physical lane: frame markers found in a row, to 3, and whether they are inverted (R335, R345) -/
  markers : Nat
  inverted : Bool
  /-- last 58 bits of the lane's scrambled stream, sent and received, the newest in bit 0 (R336) -/
  scrambled : BitVec 58
  descrambled : BitVec 58
  /-- bits sent that the codeword in progress holds, the first first: fewer than 5,140 (R338) -/
  codeBits : List Bool
  /-- the last level code sent (R339) -/
  level : Nat
  /-- of the last 64 blocks received, newest first, whether the sync header was invalid (R340) -/
  headers : List Bool
  deriving DecidableEq, Repr

/-- A lane at a port reset. -/
def Lane.reset : Lane := ⟨0, 0, 0, 0, 0, (0, 0), 0, false, false, false, false, 0, false, 0, 0, [], 0, []⟩

/-- Why a lane is out of the map (R360). -/
inductive LaneOp where
  | retrain
  /-- a test, with its TEST_KIND (R357) -/
  | test (kind : BitVec 2)
  deriving DecidableEq, Repr

/-- A peer tag of a port (R375). -/
structure PeerTag where
  /-- ORIG_DEV -/
  dev : BitVec 10
  /-- SRC on the requesting device -/
  src : Nat
  /-- TXN -/
  txn : BitVec 7
  /-- responses still to come -/
  left : Nat
  deriving DecidableEq, Repr

/-- A Xannus port (R346 to R361, R375). -/
structure Port where
  /-- SEQ of the next frame sent -/
  txSeq : BitVec 12
  /-- SEQ of the last frame accepted -/
  rxSeq : BitVec 12
  /-- unacknowledged frames, oldest first: SEQ, CREDIT and flit (R353) -/
  retry : List (BitVec 12 × BitVec 4 × BitVec 1216)
  /-- times the oldest unacknowledged frame was retried -/
  retried : Nat
  /-- SEQ for which a RETRY was sent (R352) -/
  asked : Option (BitVec 12)
  /-- flits that wait to be sent, oldest first, by channel -/
  txq : SMap (List (BitVec 1216))
  /-- credits taken from the peer's buffer, by channel (R354) -/
  taken : SMap Nat
  /-- the receive buffer, oldest first, by channel (R354) -/
  rxq : SMap (List (BitVec 1216))
  /-- channels of credits to return, in order of freeing -/
  freed : List (BitVec 2)
  /-- trainings failed at port-up (R345) -/
  fails : Nat
  /-- lanes in the receive map (R349) -/
  rxMap : Byte
  /-- the last control block without a check, and its identical copies in a row (R348) -/
  last : Option U64
  /-- copies of it received in a row -/
  copies : Nat
  /-- the lane out of the map and why (R360) -/
  outLane : Option (LaneIx × LaneOp)
  /-- a request for that lane, carried out after the present operation (R360) -/
  next : Option LaneOp
  /-- the lane marked failed (R360) -/
  failed : Option LaneIx
  /-- peer tags in use (R375) -/
  tags : SMap (Option PeerTag)
  /-- blocks sent and received since the lane map of each direction took effect (R337) -/
  txBlocks : Nat
  rxBlocks : Nat
  /-- a receive map that takes effect at the next frame boundary, and whether one copy of its LANEMAP still comes before (R337, R349) -/
  rxNext : Option (Byte × Bool)
  deriving DecidableEq, Repr

/-- A port after a port reset (R345, R359). -/
def Port.reset : Port := ⟨0, 0xFFF, [], 0, none, [], [], [], [], 0, 0, none, 0, none, none, none, [], 0, 0, none⟩

/-! ## Jobs (11_multi_device_jobs.md) -/

/-- The job unit's place in a Stand's barriers (R380 to R386). -/
structure JobState where
  /-- BARRIERs of the round that have arrived: child, and STATUS plus one -/
  heard : SMap Nat
  /-- BARRIER was sent in this round, or the root has released it -/
  sent : Bool
  /-- attempt number of the barrier messages (R386) -/
  attempt : Byte
  /-- the step was aborted and has not started again (R384) -/
  aborted : Bool
  /-- the next step is aborted unrun once the present boundary is released (R384) -/
  unrun : Bool
  /-- RELEASE STATUS 1 has arrived for a Stand in recovery: stage 8 may run (R547) -/
  go : Bool
  /-- the restore of R385 is complete -/
  restored : Bool
  /-- a reset of a Xannus port ended the step: an ABORT is to be originated (R382) -/
  portEnded : Bool
  deriving DecidableEq, Repr

/-- A Stand at the start of a round. -/
def JobState.reset : JobState := ⟨[], false, 0, false, false, false, false, false⟩

/-! ## Clearings (12_fabric.md) -/

/-- A request handed to user logic (R404). -/
structure UserTag where
  /-- the request, whose SRC, TXN and ADDR bits 56:44 the interface keeps -/
  req : Flit
  /-- responses given so far -/
  given : Nat
  deriving DecidableEq, Repr

/-- A decoded configuration for one region (R413, R415, R438). -/
structure Reconfig where
  /-- the number its image's SHA-384 digest spells (log entry 32) -/
  image : Nat
  /-- its frames, by package frame number 20480 d + frame of the die -/
  frames : SMap (BitVec 8192)
  /-- their entries of the frame map: bit 0 ESSENTIAL, bit 1 DYNAMIC (R430) -/
  map : SMap (BitVec 2)
  /-- contents marked INIT: device address and bytes -/
  fills : List (Nat × List Byte)
  /-- isolation has begun -/
  begun : Bool
  /-- the configuration that was in force before it -/
  before : Nat
  deriving DecidableEq, Repr

/-- A Clearing (R395, R402, R407). -/
structure Clearing where
  /-- identity of the configuration in force: the number its SHA-384 digest spells; 0 for none (log entry 32) -/
  image : Nat
  /-- stage of the release issued last, 0-3 (R408) -/
  issued : Nat
  /-- clock domains that have acknowledged it -/
  acks : List Nat
  /-- requests handed to user logic, by TAG (R404) -/
  tags : SMap (Option UserTag)
  /-- a reconfiguration that waits for the owner's boundary or is in progress (R413) -/
  next : Option Reconfig
  deriving DecidableEq, Repr

/-- A Clearing without a configuration. -/
def Clearing.reset : Clearing := ⟨0, 0, [], [], none⟩

/-- The registers of a pin (R420); the second of each is for double data rate. -/
structure PinRegs where
  /-- input registers -/
  input : BitVec 2
  /-- output registers -/
  output : BitVec 2
  /-- output-enable registers -/
  enable : BitVec 2
  /-- the value driven last (R419) -/
  last : Bool
  deriving DecidableEq, Repr

/-- A pin's registers before anything has clocked them. DESIGN CHOICE (log entry 124): the spec gives no init value. -/
def PinRegs.reset : PinRegs := ⟨0, 0, 0, false⟩

/-- The serialiser and the deserialiser of a pair (R420). -/
structure PairRegs where
  /-- bits still to be sent, the next in bit 0 -/
  sending : BitVec 8
  /-- bits received since the word last handed on, the newest in the highest place -/
  receiving : BitVec 8
  /-- the word handed on -/
  word : BitVec 8
  /-- serial clock edges since the last word -/
  count : Nat
  deriving DecidableEq, Repr

/-- A pair before anything has clocked it. DESIGN CHOICE (log entry 124): the spec gives no init value. -/
def PairRegs.reset : PairRegs := ⟨0, 0, 0, 0⟩

/-! ## Images (13_configuration.md) -/

/-- A copy of the boot control record (R428). -/
structure BootCopy where
  /-- the active slot: false A, true B -/
  slotB : Bool
  /-- sequence number -/
  seq : U32
  /-- its CRC is good -/
  valid : Bool
  deriving DecidableEq, Repr

/-- A copy that was never written. -/
def BootCopy.reset : BootCopy := ⟨false, 0, false⟩

/-- A switch in progress (R443). -/
structure Switch where
  /-- the slot whose image is staged -/
  slotB : Bool
  /-- the decoded image; `begun` from phase 4 -/
  conf : Reconfig
  /-- RELEASE -/
  release : U64
  /-- SECURITY_VERSION -/
  version : U32
  /-- Clearings reconfigured in phase 4, with the image each had before, plus one (R444) -/
  changed : SMap Nat
  /-- every changed region is reconfigured and the staged copy is the current one: phase 4 is over -/
  current : Bool
  deriving DecidableEq, Repr

/-! ## The field network and the mailboxes (14_management.md) -/

/-- The capture buffer of a mailbox (R465). -/
structure Capture where
  /-- Index of the object -/
  ix : Nat
  /-- Subindex -/
  sb : Nat
  /-- its words -/
  words : List U64
  deriving DecidableEq, Repr

/-- A Harip session in force (R480, R481). -/
structure Session where
  /-- SESSION -/
  num : U16
  /-- KEY_SLOT -/
  slot : Byte
  /-- request key -/
  reqKey : BitVec 256
  /-- response key -/
  rspKey : BitVec 256
  /-- H, the highest SEQ executed -/
  high : U64
  /-- bit i: H − i was executed -/
  ran : U64
  /-- the last responses, newest first: SEQ and frame body after the Ethernet header -/
  cache : List (U64 × List Byte)
  /-- requests accepted -/
  count : Nat
  /-- when it was last used, as a place in the order of uses of all sessions -/
  used : Nat
  deriving DecidableEq, Repr

/-- A half-open exchange (R480). -/
structure HalfOpen where
  /-- SESSION -/
  num : U16
  /-- KEY_SLOT -/
  slot : Byte
  /-- HELLO body followed by HELLO_RSP body -/
  transcript : List Byte
  /-- request key -/
  reqKey : BitVec 256
  /-- response key -/
  rspKey : BitVec 256
  deriving DecidableEq, Repr

/-- A report kept for ATTEST_GET (R577). -/
structure KeptReport where
  /-- REPORT_ID -/
  id : U16
  /-- the session's SESSION, or 0 -/
  owner : U16
  /-- the report -/
  bytes : List Byte
  deriving DecidableEq, Repr

/-! ## The host interface (15_host_interface.md) -/

/-- A completion that waits to be written (R501, R503). -/
structure Completion where
  /-- W0 with PHASE 0 -/
  w0 : U64
  /-- W1 -/
  w1 : U64
  /-- IRQ of the entry -/
  irq : Bool
  /-- how often the ring had been enabled when the entry was fetched -/
  gen : Nat
  /-- the Stand whose next release waits for it; none for a MARK -/
  stand : Option StandId
  /-- number of the entry in the order of fetching -/
  id : Nat
  deriving DecidableEq, Repr

/-- A function's rings and doorbells (R498 to R505). -/
structure Func where
  /-- fetch index of the command ring -/
  fetch : Nat
  /-- its tail -/
  tail : Nat
  /-- write index of the completion ring -/
  cplWrite : Nat
  /-- its head -/
  cplHead : Nat
  /-- PHASE in use -/
  phase : Bool
  /-- how often the rings were enabled -/
  gen : Nat
  /-- for each pending entry, oldest first, the number of the doorbell that made it pending -/
  bells : List Nat
  /-- entries fetched since the rings were enabled -/
  fetched : Nat
  /-- numbers of the fetched STEPs whose completions are not yet written -/
  openSteps : List Nat
  /-- MARKs that wait: number in the order of fetching, and W0 -/
  marks : List (Nat × U64)
  /-- completions to write, oldest first -/
  done : List Completion
  /-- MSI-X vectors that are unmasked (R505) -/
  unmasked : SMap Bool
  /-- PBA bits -/
  pba : SMap Bool
  /-- a Function Level Reset waits for a recovery (R508, R551) -/
  flr : Bool
  deriving DecidableEq, Repr

/-- A function after a reset of its state (R508). -/
def Func.reset : Func := ⟨0, 0, 0, 0, true, 0, [], 0, [], [], [], [], [], false⟩

/-! ## Sensors and power (16_sensors_power.md) -/

/-- A sensor (R515, R518). -/
structure SensorState where
  /-- the last raw code -/
  raw : U32
  /-- consecutive samples with the same reading -/
  same : Nat
  /-- faulted -/
  faulted : Bool
  deriving DecidableEq, Repr

/-- A sensor that has not been sampled. -/
def SensorState.reset : SensorState := ⟨0, 0, false⟩

/-- The power state of a fabric die beside its objects (R522 to R529). -/
structure DiePower where
  /-- ageing guardband in mV (R523) -/
  guard : Nat
  /-- fastest point that is not withdrawn (R523) -/
  fastest : Nat
  /-- a faster point whose voltage is raised and whose frequency follows (R524) -/
  raising : Option Nat
  /-- at or above CRITICAL_C and not yet below THROTTLE_C − 5 °C (R529) -/
  crit : Bool
  /-- held at P4 or slower: 4 or more faulted diodes (R518) -/
  slow : Bool
  /-- droop in progress: ACLK periods are doubled (R525) -/
  droop : Bool
  /-- sent to P7 by the current limit since the last decision (R528) -/
  limited : Bool
  deriving DecidableEq, Repr

/-- A die after a device reset. -/
def DiePower.reset : DiePower := ⟨0, 0, none, false, false, false, false⟩

/-! ## Ranger, the stewards and the tests that wait (17_faults_recovery.md) -/

/-- Ranger (R552, R564). -/
inductive Ranger where
  /-- not started since the device reset -/
  | off
  /-- in a management reset -/
  | down
  /-- handing over to new firmware (R443) -/
  | handoff
  /-- serving -/
  | up
  deriving DecidableEq, Repr

/-- A targeted self-test in service, at a boundary or at once (R538). -/
inductive TestUnit where
  | sramLine (addr : Nat)
  | dramLine (addr : Nat)
  | dramLink (k pc : Nat)
  | netLink (r o : Nat)
  | router (r : Nat)
  | frame (addr : Nat) (passes : Nat)
  | lane (n : Nat)
  deriving DecidableEq, Repr

/-- A test that waits, with the fault log entries its result updates (R556). -/
structure TestWait where
  /-- what is tested -/
  unit : TestUnit
  /-- serial numbers of the entries -/
  logs : List Nat
  deriving DecidableEq, Repr

/-! ## Security (18_security.md) -/

/-- A copy of the HSS mark (R569). -/
structure HssMark where
  /-- the mark M -/
  mark : U64
  /-- sequence number -/
  seq : U32
  deriving DecidableEq, Repr

/-- A mark as the factory left it. -/
def HssMark.reset : HssMark := ⟨0, 0⟩


/-- The state of the device. -/
structure State where
  /-- the commands that are waiting, first in first out: the model's own -/
  pending : List Instr
  /-- DESIGN CHOICE (log entry 2): how many free values the machine has drawn; the model's own -/
  free : Nat
  /-- DESIGN CHOICE (log entry 3): what the device has sent outside it, oldest first; the model's own -/
  out : List Output
  /-- every dictionary object's value in force, by `objKey` -/
  dict : SMap U64
  /-- accepted values that wait for their effect point, by `objKey` (R41, R455) -/
  accepted : SMap (Option U64)
  /-- the bytes of the device map (R256) -/
  mem : List Host.Cell
  /-- SRAM units whose contents a reset made unpredictable (R48): unit number, the free value's number plus one -/
  scram : SMap Nat
  /-- corrected SRAM words (address / 8) whose write-back waits for a port cycle (R263) -/
  writeBack : SMap Bool
  /-- errors detected whose records are not yet carried up (R30, R544) -/
  reports : List ErrorReport
  /-- per 64-bit SRAM word (address / 8): how its check bits differ from its data's code (R262) -/
  sramDiff : SMap Byte
  /-- per 256-bit stack word (address / 32): how its check field differs from its data's code (R266) -/
  stackDiff : SMap U16
  /-- SRAM lines (address / 256) written since the last flush (R46) -/
  written : SMap Bool
  /-- the boundary mirror's slots: 2 · line + slot (R45) -/
  mirror : SMap MirrorSlot
  /-- the Stands -/
  stands : SMap Stand
  /-- the groves, by package grove number -/
  groves : SMap Grove
  /-- the tiles, 4n + t -/
  tiles : SMap Tile
  /-- the vector contexts, 4n + t -/
  ctxs : SMap Context
  /-- the stream slots, 8n + q -/
  slots : SMap Slot
  /-- memory given up by Stands: first unit of 2 MiB, the unit after the last, and the Stand that held it (R260) -/
  freed : List (Nat × Nat × Nat)
  /-- the root stacks (R265) -/
  rootStacks : SMap Stack
  /-- buffered memory objects of which a pseudo-channel has a value of its own in force: 256 · key + 32 · stack + pseudo-channel; 1 where it
  is the one accepted last, 2 where an earlier one (R279) -/
  windowTaken : SMap Nat
  /-- next line (block RAM: next word) of the patrol of each SRAM unit (R264) -/
  patrol : SMap Nat
  /-- router input buffers, oldest first: (6 · router + input) · 3 + channel; inputs L0 and L1 hold what the interface sends (R309) -/
  fifos : SMap (List Flit)
  /-- interface receive queues, oldest first: 3 · node + channel (R316) -/
  rx : SMap (List Flit)
  /-- outstanding requests: 128 · node + TXN -/
  outst : SMap (Option Outst)
  /-- consecutive check mismatches of the flit at each router input (R322) -/
  mismatches : SMap Nat
  /-- the input and channel that each router output served last, 3 · input + channel plus one: 6 · router + output (R310) -/
  turns : SMap Nat
  /-- credits taken from each member of each tree: 64 · tree + member, of 64 (R313) -/
  treeDebts : SMap Nat
  /-- detached members, by 64 · tree + member: 1 the root has detached it, 2 the DETACH has reached it too (R314) -/
  treeOff : SMap Nat
  /-- MC_WRITE transactions whose acknowledgements are awaited: 128 · root node + TXN, the 64 · tree + member still to acknowledge (R313) -/
  treeSent : SMap (List Nat)
  /-- router branch masks of installed trees: 400 · tree + router (R312) -/
  treeMasks : SMap (BitVec 6)
  /-- the Xannus ports (R331) -/
  ports : SMap Port
  /-- their lanes: 8 · port + lane -/
  lanes : SMap Lane
  /-- the Xannus references that are present and in tolerance (R332) -/
  xrefs : BitVec 3
  /-- the job unit's state for each Stand (R380) -/
  jobs : SMap JobState
  /-- the last STEP_LO sent or received for each job number (R383) -/
  abortLog : SMap (Option U16)
  /-- the Clearings, 24d + c -/
  clearings : SMap Clearing
  /-- flip-flops of logic cells, as they differ from their init values: 50000 · Clearing + cell (R394, R407) -/
  flops : SMap (BitVec 2)
  /-- wire registers: 2^32 · Clearing + segment (R395) -/
  wires : SMap Bool
  /-- the pins' registers: 48 · bank + pin (R420) -/
  pins : SMap PinRegs
  /-- the pairs' serialisers: 24 · bank + pair (R420) -/
  pairs : SMap PairRegs
  /-- the NV store, where it differs from what the factory wrote (R427) -/
  nv : SMap Byte
  /-- the two copies of the boot control record (R428) -/
  bootCopies : SMap BootCopy
  /-- the configuration frames in the dies: 20480 d + frame (R432) -/
  cfg : SMap (BitVec 8192)
  /-- per 64-bit word of a frame (128 · frame + word): how its check bits differ from its data's code (R440) -/
  cfgDiff : SMap Byte
  /-- the current shadow copy (R436) -/
  shadow : SMap (BitVec 8192)
  /-- per word of the shadow: how its check bits differ (R436) -/
  shadowDiff : SMap Byte
  /-- the frames as the images they were loaded from give them: what Ranger decodes again (R440) -/
  decoded : SMap (BitVec 8192)
  /-- the frame map in force: bit 0 ESSENTIAL, bit 1 DYNAMIC (R430) -/
  frameMap : SMap (BitVec 2)
  /-- RELEASE of the current copy (R436) -/
  shadowRelease : U64
  /-- the staged copy and the switch that uses it (R443) -/
  switch : Option Switch
  /-- grove reconfigurations that wait for their boundary (R415) -/
  groveNext : SMap (Option Reconfig)
  /-- next frame of each die's scrubber (R440) -/
  scrubAt : SMap Nat
  /-- the mailboxes' capture buffers, by bank (R465) -/
  captures : SMap (Option Capture)
  /-- the MAC's receive queue, oldest first (R32) -/
  rxFrames : List FieldFrame
  /-- plca_status of Clause 148 is OK (R472) -/
  plcaOk : Bool
  /-- a coordinator that met a foreign BEACON acts as a follower (R472) -/
  plcaDown : Bool
  /-- FieldPlca and HaripEtherType before a change that is not yet confirmed (R473) -/
  revert : Option (U64 × U64)
  /-- the session table (R480) -/
  sessions : SMap (Option Session)
  /-- half-open exchanges, oldest first (R480) -/
  halfOpen : List HalfOpen
  /-- the SESSION number assigned last (R480) -/
  lastSession : U16
  /-- uses of sessions so far (R480) -/
  sessionUse : Nat
  /-- the valid challenge (R485) -/
  challenge : Option (BitVec 128)
  /-- recovery actions accepted and not yet carried out, oldest first (R486, R487) -/
  actions : List Nat
  /-- the fault log snapshot areas 0 and 1 of the NV store (R487) -/
  snapAreas : SMap (List U64)
  /-- the area of the newest complete snapshot plus one; 0 for none (R487) -/
  snapNewest : Nat
  /-- attestation reports kept, newest first (R577) -/
  kept : List KeptReport
  /-- REPORT_ID of the next report (R576) -/
  nextReport : U16
  /-- translations held for host pages: 2 · (2^52 · function + page) + write (R250, R506) -/
  ats : SMap (Option (BitVec 52))
  /-- functions whose host-space requests receive HOST_ERR (R508) -/
  hostOff : BitVec 9
  /-- the PCI Express functions (R495) -/
  funcs : SMap Func
  /-- doorbells that have made entries pending (R502) -/
  bells : Nat
  /-- BAR0 writes held while Ranger is down, oldest first (R463) -/
  heldBar0 : List Bar0Write
  /-- the guard latch of each function (R458) -/
  latches : SMap (Option Bar0Write)
  /-- the PCI Express endpoint answers requests (R507) -/
  endpointReady : Bool
  /-- the SEQ values that the status vectors have signalled: 16 · function + (0 ring, 1 + Stand, 9 dictionary) (R505) -/
  statusSent : SMap U16
  /-- sensors: diode 64 d + i, management diode 256 + i, stack 260 + k, voltage 268 + rail, current 288 + rail (R515) -/
  sensors : SMap SensorState
  /-- package-power samples since the last decision, in mW (R526) -/
  packageSamples : List Nat
  /-- PackageEnergy below one mJ, in 10⁻⁵ mJ (R533) -/
  energyRest : Nat
  /-- samples taken: the count of TelemetrySnapshot (R533) -/
  telemetrySamples : U64
  /-- the fabric dies' power state -/
  diePower : SMap DiePower
  /-- root dies that throttle activates (R529) -/
  stackHot : SMap Bool
  /-- Ranger (R552) -/
  ranger : Ranger
  /-- the management reset in progress was the watchdog's (R554) -/
  watchdog : Bool
  /-- a link failed since the routes were last loaded (R323) -/
  rerouteDue : Bool
  /-- records the stewards hold while Ranger is down, oldest first (R553) -/
  heldRecords : List ErrorReport
  /-- restarts of a steward since its heartbeat stopped (R543); 0 in order -/
  stewards : SMap Nat
  /-- consecutive samples without progress: tile 4n + t, engine 1000 + n, stream engine 2000 + n (R542) -/
  stalls : SMap Nat
  /-- serial number of the next fault log entry (R557) -/
  logSerial : Nat
  /-- entries written since FaultLogStatus was last cleared, to 512 (R562) -/
  logUnread : Nat
  /-- targeted self-tests that wait (R538) -/
  tests : List TestWait
  /-- the self-test that SelfTestReq has in progress: its value (R561) -/
  selfTest : Option Nat
  /-- the two copies of the HSS mark (R569) -/
  hssMarks : SMap HssMark
  /-- the stored minima pass their MAC and count (R583) -/
  minimaOk : Bool
  /-- a secured SPDM session is in force (R575) -/
  spdmSecured : Bool
  /-- the IDE keys of streams 0-4 (R494, R575) -/
  ideKeys : SMap (BitVec 256)
  /-- level of DEV_RST_N (R601) -/
  devRstN : Bool
  /-- level of PERST_N (R601) -/
  perstN : Bool
  /-- the MCLK PLL has locked to MREF (R599) -/
  mclkLocked : Bool
  /-- t0 has passed: the device is out of device reset (R601) -/
  booted : Bool
  /-- array references that are absent or out of tolerance (R599) -/
  arefLost : BitVec 4
  /-- compute is ready (R603) -/
  computeReady : Bool
  /-- the compute power cycle that a rail out of tolerance at power-up starts has been used (R604) -/
  coreRetry : Bool
  /-- a root or stack supply has dropped: refresh has stopped (R278, R596) -/
  refreshOff : Bool
  deriving DecidableEq, Repr

/-- The reasons a step stops with a fault. No command of this model faults: every abnormal event of the spec is an effect on the
state (R536). -/
inductive Fault where
  /-- raised by nothing; safe -/
  | none
  deriving DecidableEq, Repr

/-- The reasons a command is refused. -/
inductive Refusal where
  /-- raised by an arm of `exec` whose command has no meaning yet; safe -/
  | notModelled (mnemonic : String)
  /-- raised by an access to internal state through the test port while the debug lock is open, for which the spec gives no effect
  (R584); safe -/
  | testPortInternal
  deriving DecidableEq, Repr

/-- The machine right after reset: in device reset with the power-up sequence still to run (R595, R603); every register at its
default; memory lists nothing. -/
def State.reset : State where
  pending := []
  free := 0
  out := []
  dict := []
  accepted := []
  mem := []
  scram := []
  writeBack := []
  reports := []
  sramDiff := []
  stackDiff := []
  written := []
  mirror := []
  stands := []
  groves := []
  tiles := []
  ctxs := []
  slots := []
  freed := []
  rootStacks := []
  windowTaken := []
  patrol := []
  fifos := []
  rx := []
  outst := []
  mismatches := []
  turns := []
  treeDebts := []
  treeOff := []
  treeSent := []
  treeMasks := []
  ports := []
  lanes := []
  xrefs := 7
  jobs := []
  abortLog := []
  clearings := []
  flops := []
  wires := []
  pins := []
  pairs := []
  nv := []
  bootCopies := []
  cfg := []
  cfgDiff := []
  shadow := []
  shadowDiff := []
  decoded := []
  frameMap := []
  shadowRelease := 0
  switch := none
  groveNext := []
  scrubAt := []
  captures := []
  rxFrames := []
  plcaOk := false
  plcaDown := false
  revert := none
  sessions := []
  halfOpen := []
  lastSession := 0
  sessionUse := 0
  challenge := none
  actions := []
  snapAreas := []
  snapNewest := 0
  kept := []
  nextReport := 0
  ats := []
  hostOff := 0
  funcs := []
  bells := 0
  heldBar0 := []
  latches := []
  endpointReady := false
  statusSent := []
  sensors := []
  packageSamples := []
  energyRest := 0
  telemetrySamples := 0
  diePower := []
  stackHot := []
  ranger := .off
  watchdog := false
  rerouteDue := false
  heldRecords := []
  stewards := []
  stalls := []
  logSerial := 0
  logUnread := 0
  tests := []
  selfTest := none
  hssMarks := []
  minimaOk := true
  spdmSecured := false
  ideKeys := []
  devRstN := false
  perstN := false
  mclkLocked := false
  booted := false
  arefLost := 0
  computeReady := false
  coreRetry := false
  refreshOff := false

end Sys2Proof.Machine
end

