-- ==== Sys2Proof/Machine/Ops.lean ====
section
/-! DEFINITION. The named operations over the state: objects and their fields, status events, free values, the stores of the units,
memory with its error-correcting codes, and who owns what. -/

namespace Sys2Proof

/-- The number of a tile or context. -/
def TileRef.num (t : TileRef) : Nat := 4 * t.grove.val + t.tile.val
/-- The number of a stream slot. -/
def SlotRef.num (u : SlotRef) : Nat := 8 * u.grove.val + u.slot.val

end Sys2Proof

namespace Sys2Proof.Machine

/-! ## Objects -/

/-- The value in force of a word of the dictionary store. -/
def State.word (s : State) (key : Nat) : U64 := (SMap.find? s.dict key).getD (dictDefault key)

/-- Puts a value in force: the one operation that writes the dictionary store. -/
def State.setWord (s : State) (key : Nat) (v : U64) : State := { s with dict := SMap.set (dictDefault key) s.dict key v }

/-- An object of one word. -/
def State.obj (s : State) (ix sb : Nat) : U64 := s.word (objKey 0 ix sb 0)

/-- Sets an object of one word. -/
def State.setObj (s : State) (ix sb : Nat) (v : U64) : State := s.setWord (objKey 0 ix sb 0) v

/-- A word of a record. -/
def State.objW (s : State) (ix sb w : Nat) : U64 := s.word (objKey 0 ix sb w)

/-- Sets a word of a record. -/
def State.setObjW (s : State) (ix sb w : Nat) (v : U64) : State := s.setWord (objKey 0 ix sb w) v

/-- A field of an object. -/
def State.getF (s : State) (ix sb lo n : Nat) : Nat := fld (s.obj ix sb) lo n

/-- A bit of an object. -/
def State.bit (s : State) (ix sb i : Nat) : Bool := bitOf (s.obj ix sb) i

/-- Sets a field of an object. -/
def State.setF (s : State) (ix sb lo n x : Nat) : State := s.setObj ix sb (setFld (s.obj ix sb) lo n x)

/-- Entry `i` of a record of entries of `size` bits, `size` dividing 64 (R3). -/
def State.entry (s : State) (ix sb size i : Nat) : Nat :=
  fld (s.objW ix sb (i * size / 64)) (i * size % 64) size

/-- Sets an entry of a record of entries of `size` bits. -/
def State.setEntry (s : State) (ix sb size i x : Nat) : State :=
  s.setObjW ix sb (i * size / 64) (setFld (s.objW ix sb (i * size / 64)) (i * size % 64) size x)

/-- Adds to a field that counts modulo its width. -/
def State.count (s : State) (ix sb lo n amount : Nat) : State := s.setF ix sb lo n (s.getF ix sb lo n + amount)

/-- Adds to a field that saturates (R297). -/
def State.countSat (s : State) (ix sb lo n amount : Nat) : State :=
  s.setF ix sb lo n (min (2 ^ n - 1) (s.getF ix sb lo n + amount))

/-- A status word after an event that sets `bits`: the bits are set and SEQ advances by one (R460). -/
def statusEvent (v : U64) (bits : Nat) : U64 :=
  setFld (v ||| BitVec.ofNat 64 bits) 16 16 (fld v 16 16 + 1)

/-- How many of the low 16 bits of `bits` a word does not hold yet. -/
def newBits (v : U64) (bits : Nat) : Nat := (List.range 16).countP (fun i => bits.testBit i && !bitOf v i)

/-- A status word after arithmetic flags are raised: SEQ advances by one for each bit that changes from 0 to 1, also where several change at
once (R121, R170, R255, R460; DEDUCED, log entry 100). -/
def flagEvent (v : U64) (bits : Nat) : U64 :=
  setFld (v ||| BitVec.ofNat 64 bits) 16 16 (fld v 16 16 + newBits v bits)

/-- An event of a status object (R460). -/
def State.event (s : State) (ix sb bits : Nat) : State := s.setObj ix sb (statusEvent (s.obj ix sb) bits)

/-- An event of a status object of a bank (R454, R460). -/
def State.eventIn (s : State) (bank ix sb bits : Nat) : State :=
  s.setWord (objKey bank ix sb 0) (statusEvent (s.word (objKey bank ix sb 0)) bits)

/-- A write of a status word (R460): the named bits are cleared where the written SEQ equals SEQ. -/
def statusWritten (v w : U64) (mask : Nat) : U64 :=
  if fld w 16 16 = fld v 16 16 then v &&& ~~~(BitVec.ofNat 64 mask) else v

/-- CORE_EN of a fabric die is high: its compute units are powered and ACLK runs (R36, R315, R532, R597). -/
def State.coreOn (s : State) (die : Nat) : Bool := s.bit 0x3100 3 (4 + die)

/-! ## Free values and outgoing messages -/

/-- The free value the machine draws next (R14). -/
def State.drawn (s : State) : U64 := Config.freeWord s.free

/-- The state after a free value is drawn. -/
def State.advance (s : State) : State := { s with free := s.free + 1 }

/-- Appends a message that leaves the device. -/
def State.send (s : State) (o : Output) : State := { s with out := s.out ++ [o] }

/-- The steward of a die takes no records: it hangs or restarts, or is marked failed (R292, R540, R543). -/
def State.stewardOut (s : State) (d : Nat) : Bool := SMap.get 0 s.stewards d != 0 || bitOf (s.objW 0xA002 1 33) (12 + d)

/-- The object that counts the records lost by the detector of an error: StackLastError of its stack, or SramLastError of its die; none for
an error that neither a root die nor an SRAM tier detects (R292, R297). -/
def lostObject (e : ErrorReport) : Option (Nat × Nat) :=
  match e.err with
  | .stkCe | .stkUe | .stkAddr | .stkLink => some (0x8020 + (stackMap e.addr.toNat).stack, 5)
  | .stkTrain | .stkFail => some (0x8020 + e.unit.toNat % 8, 5)
  | .sramCe | .sramUe => some (0x8080 + e.die.val, 2)
  | _ => none

/-- Reports an error (R30). While its steward takes no records, a root die or the SRAM tiers of a die hold up to 16 and count the rest in
LOST, up to 15 (R292, R297; log entry 115). -/
def State.report (s : State) (e : ErrorReport) : State :=
  match lostObject e with
  | some (ix, sb) =>
    if s.stewardOut e.die.val && decide (16 ≤ s.reports.countP (fun r => lostObject r == some (ix, sb))) then
      s.countSat ix sb 56 4 1
    else { s with reports := s.reports ++ [e] }
  | none => { s with reports := s.reports ++ [e] }

/-! ## The stores of the units -/

/-- A Stand. -/
def State.stand (s : State) (d : Nat) : Stand := SMap.get Stand.reset s.stands d
/-- Sets a Stand. -/
def State.setStand (s : State) (d : Nat) (x : Stand) : State := { s with stands := SMap.set Stand.reset s.stands d x }
/-- A grove. -/
def State.grove (s : State) (n : Nat) : Grove := SMap.get Grove.reset s.groves n
/-- Sets a grove. -/
def State.setGrove (s : State) (n : Nat) (x : Grove) : State := { s with groves := SMap.set Grove.reset s.groves n x }
/-- A tile, numbered 4n + t. -/
def State.tile (s : State) (t : Nat) : Tile := SMap.get Tile.reset s.tiles t
/-- Sets a tile. -/
def State.setTile (s : State) (t : Nat) (x : Tile) : State := { s with tiles := SMap.set Tile.reset s.tiles t x }
/-- A context, numbered 4n + t. -/
def State.ctx (s : State) (c : Nat) : Context := SMap.get Context.reset s.ctxs c
/-- Sets a context. -/
def State.setCtx (s : State) (c : Nat) (x : Context) : State := { s with ctxs := SMap.set Context.reset s.ctxs c x }
/-- A stream slot, numbered 8n + q. -/
def State.slot (s : State) (q : Nat) : Slot := SMap.get Slot.reset s.slots q
/-- Sets a stream slot. -/
def State.setSlot (s : State) (q : Nat) (x : Slot) : State := { s with slots := SMap.set Slot.reset s.slots q x }

/-! ## Bytes (R256, R3) -/

/-- The number of the SRAM unit that holds an address: tiles from 0, local stores from 1000, Understory pieces from 2000, block RAMs
from 3000; none elsewhere. -/
def sramUnit (a : Nat) : Option Nat :=
  match regionOf a with
  | .tileSram t => some t
  | .localStore n => some (1000 + n)
  | .understory d => some (2000 + d)
  | .blockRam d b => some (3000 + 4608 * d + b)
  | _ => none

/-- What an address that is not listed reads as (log entry 8): 0, or a free value in SRAM that a reset left unpredictable (R48). -/
def unlistedByte (scram : SMap Nat) (a : Nat) : Byte :=
  match sramUnit a with
  | none => 0
  | some u =>
    match SMap.get 0 scram u with
    | 0 => 0
    | n + 1 => Config.freeByte n a

/-- The byte at an address. -/
def State.byte (s : State) (a : Nat) : Byte := (SMap.find? s.mem a).getD (unlistedByte s.scram a)

/-- Writes a byte: the one operation that writes the byte store. -/
def State.setByte (s : State) (a : Nat) (b : Byte) : State := { s with mem := SMap.set (unlistedByte s.scram a) s.mem a b }

/-- The canonical form of the byte store. -/
def Memory.wf (scram : SMap Nat) (mem : List Host.Cell) : Bool := SMap.wf (unlistedByte scram) mem

/-- `n` bytes from an address. -/
def State.bytes (s : State) (a n : Nat) : List Byte := (List.range n).map (fun i => s.byte (a + i))

/-- Writes bytes from an address. -/
def State.setBytes (s : State) (a : Nat) : List Byte → State
  | [] => s
  | b :: t => (s.setByte a b).setBytes (a + 1) t

/-- `n` bytes as a number, little-endian. -/
def State.readNat (s : State) (a n : Nat) : Nat := ofLe (s.bytes a n)

/-- Makes the contents of an SRAM unit unpredictable, its check bits consistent (R48). -/
def State.scramble (s : State) (u : Nat) : State :=
  { s with
    mem := SMap.eraseAll s.mem (fun a => sramUnit a == some u)
    sramDiff := SMap.eraseAll s.sramDiff (fun w => sramUnit (8 * w) == some u)
    writeBack := SMap.eraseAll s.writeBack (fun w => sramUnit (8 * w) == some u)
    scram := SMap.set 0 s.scram u (s.free + 1)
    free := s.free + 1 }

/-! ## Who owns what (R21, R25, R259, R406) -/

/-- The Stand is enabled. -/
def State.enabled (s : State) (d : Nat) : Bool := (s.stand d).phase != .disabled

/-- A rectangle value meets the limits of R25. -/
def rectValid (v : U64) : Bool := decide (fld v 0 4 + fld v 8 4 ≤ 15) && decide (fld v 4 4 + fld v 12 4 ≤ 13)

/-- SHARE_Mn of a value (R26). -/
def shareOf (v : U64) (k : Nat) : Nat := fld v (4 * k) 4

/-- Groves of a rectangle value (R25). -/
def inRect (v : U64) (n : Nat) : Bool :=
  decide (fld v 0 4 ≤ groveX n) && decide (groveX n ≤ fld v 0 4 + fld v 8 4) &&
  decide (fld v 4 4 ≤ groveY n) && decide (groveY n ≤ fld v 4 4 + fld v 12 4)

/-- GroveRect of a Stand, in force. -/
def State.rect (s : State) (d : Nat) : U64 := s.obj (0x6100 + 16 * d) 2

/-- A grove belongs to a Stand. -/
def State.ownsGrove (s : State) (d n : Nat) : Bool := s.enabled d && inRect (s.rect d) n

/-- The Stand that owns a grove (R21). -/
def State.groveOwner (s : State) (n : Nat) : Option Nat := (List.range 8).find? (fun d => s.ownsGrove d n)

/-- The groves of a Stand. -/
def State.grovesOf (s : State) (d : Nat) : List Nat := (List.range 224).filter (s.ownsGrove d)

/-- The enabled Stand that ClearingCtrl names as owner: OWNED, OWNER (R424). -/
def State.clearingOwner (s : State) (c : Nat) : Option Nat :=
  let v := s.obj (0x9100 + c) 1
  if bitOf v 3 then (if s.enabled (fld v 0 3) then some (fld v 0 3) else none) else none

/-- A MemRange value names a byte (R259). -/
def rangeHas (v : U64) (a : Nat) : Bool :=
  bitOf v 63 && decide (fld v 0 23 * 0x200000 ≤ a) && decide (a < (fld v 0 23 + fld v 36 23) * 0x200000)

/-- A byte lies in the Stand's memory ranges, or in its groves' or Clearings' SRAM, whether or not it is enabled (R29, R43). -/
def State.holdsByte (s : State) (d a : Nat) : Bool :=
  match regionOf a with
  | .tileSram t => inRect (s.rect d) (t / 4)
  | .localStore n => inRect (s.rect d) n
  | .blockRam k b =>
    let v := s.obj (0x9100 + (24 * k + b / 192)) 1
    bitOf v 3 && decide (fld v 0 3 = d)
  | .understory _ => (List.range 16).any (fun i => rangeHas (s.obj (0x8100 + d) (i + 1)) a)
  | .stackUser => (List.range 16).any (fun i => rangeHas (s.obj (0x8100 + d) (i + 1)) a)
  | _ => false

/-- A byte belongs to an enabled Stand. -/
def State.ownsByte (s : State) (d a : Nat) : Bool := s.enabled d && s.holdsByte d a

/-- Every byte of [a, a + n) belongs to the Stand; ownership is uniform within 4 KiB blocks. -/
def State.ownsRange (s : State) (d a n : Nat) : Bool :=
  n == 0 || (List.range ((a + n - 1) / 4096 - a / 4096 + 1)).all
    (fun i => s.ownsByte d (max a ((a / 4096 + i) * 4096)))

/-- The lead die of a Stand (R22). -/
def State.leadDie (s : State) (d : Nat) : Nat := dieAt (fld (s.rect d) 0 4) (fld (s.rect d) 4 4)

/-- The dies on which a Stand holds groves (R27, DIES). -/
def State.diesOf (s : State) (d : Nat) : BitVec 4 :=
  (s.grovesOf d).foldl (fun acc n => acc ||| BitVec.ofNat 4 (2 ^ groveDie n)) 0

end Sys2Proof.Machine
end

