-- ==== Sys2Proof/Machine/MemOps.lean ====
section
/-! DEFINITION. Memory as its users see it: checked reads and writes of SRAM and root stacks with the codes of R262 to R268, and the
answers of R256, R261, R285, R316 and R317. -/

namespace Sys2Proof.Machine

/-! ## Answers (R321) -/

/-- MEM_RANGE (R321). -/
def codeRange : Nat := 1
/-- MEM_UE (R321). -/
def codeUe : Nat := 2
/-- MEM_RESERVED (R321). -/
def codeReserved : Nat := 3
/-- REGION_BUSY (R321). -/
def codeBusy : Nat := 4
/-- NET_FENCED (R321). -/
def codeFenced : Nat := 5
/-- NET_STAND (R321). -/
def codeStand : Nat := 6
/-- NET_FORMAT (R321). -/
def codeFormat : Nat := 7
/-- NET_TIMEOUT (R321). -/
def codeTimeout : Nat := 8
/-- HOST_ERR (R321). -/
def codeHost : Nat := 9
/-- PEER_ERR (R321). -/
def codePeer : Nat := 10

/-- A stack. -/
def State.stack (s : State) (k : Nat) : Stack := SMap.get Stack.reset s.rootStacks k
/-- Sets a stack. -/
def State.setStack (s : State) (k : Nat) (x : Stack) : State := { s with rootStacks := SMap.set Stack.reset s.rootStacks k x }

/-- A Stand number as a list of Stands for a record (R31). -/
def standList : Option Nat → List StandId
  | none => []
  | some d => [Fin.ofNat 8 d]

/-- An error record of a resource (R31). -/
def mkReport (err : CheckedError) (die : Nat) (who : Option Nat) (kind : UnitKind) (unit addr : Nat) : ErrorReport :=
  { err := err, die := Fin.ofNat 4 die, stands := standList who, kind := kind, unit := BitVec.ofNat 16 unit, detail := 0,
    addr := BitVec.ofNat 64 addr, byEngine := false, essential := false }

/-- The word is entered in a failed-word table (R539, R558): its reads and writes are answered MEM_UE. -/
def State.wordFailed (s : State) (w : Nat) : Bool :=
  (List.range 256).any (fun i =>
    let v := s.objW 0xA002 2 i
    bitOf v 63 && decide (fld v 0 44 / 8 = w))

/-! ## SRAM (R262, R263) -/

/-- How the check bits of an SRAM word stand to its data: the difference from the data's own code. -/
def State.sramDiffAt (s : State) (w : Nat) : Byte := SMap.get 0 s.sramDiff w
/-- Sets that difference. -/
def State.setSramDiff (s : State) (w : Nat) (d : Byte) : State := { s with sramDiff := SMap.set 0 s.sramDiff w d }

/-- The stored data of an SRAM word. -/
def State.sramData (s : State) (w : Nat) : U64 := BitVec.ofNat 64 (s.readNat (8 * w) 8)

/-- The finding of a read of an SRAM word (R262). -/
def State.sramFinding (s : State) (w : Nat) : EccFinding 64 :=
  sramCheckWord (s.sramData w) (sramEncode (s.sramData w) ^^^ (s.sramDiffAt w).toNat)

/-- Marks a line of SRAM as written since the last flush (R46), and drops it from the instruction cache of its grove (R127). -/
def State.markLine (s : State) (a : Nat) : State :=
  let s := { s with written := SMap.set false s.written (a / 256) true }
  match regionOf a with
  | .localStore n =>
    let g := s.grove n
    let line := (a - localStoreBase) % 0x40000 / 256
    if g.icache.contains line then s.setGrove n { g with icache := g.icache.filter (· != line) } else s
  | _ => s

/-- Writes an SRAM word whole: its check bits agree again (R263). -/
def State.storeWord (s : State) (w : Nat) (v : U64) : State :=
  ({ (s.setBytes (8 * w) (leBytes 8 v.toNat)).setSramDiff w 0 with
     writeBack := SMap.set false s.writeBack w false }).markLine (8 * w)

/-- The effects of a read of an SRAM word on counts and records, and whether the read is uncorrectable (R262, R263, R291, R297). -/
def State.touchSram (s : State) (w : Nat) (who : Option Nat) (byEngine : Bool) : State × Bool :=
  if s.wordFailed w then (s, true)
  else
    let d := sramDie (8 * w)
    match s.sramFinding w with
    | .ok => (s, false)
    | .corrected _ =>
      (({ s with writeBack := SMap.set false s.writeBack w true }.countSat (0x8080 + d) 1 32 32 1).report
        (mkReport .sramCe d who .sramWord 0 (8 * w)), false)
    | _ =>
      ((((s.countSat (0x8080 + d) 1 0 32 1).setF (0x8080 + d) 2 60 4 1).setF (0x8080 + d) 2 0 52
          (8 * w + 2 ^ 48 * (match who with | none => 1 | some k => 2 * k))).report
        { mkReport .sramUe d who .sramWord 0 (8 * w) with byEngine := byEngine }, true)

/-- The data a reader of an SRAM word receives (R263). -/
def State.sramRead (s : State) (w : Nat) : U64 :=
  match s.sramFinding w with
  | .corrected d => d
  | _ => s.sramData w

/-! ## Root stacks (R266, R268) -/

/-- How the check field of a stack word stands to its data. -/
def State.stackDiffAt (s : State) (w : Nat) : U16 := SMap.get 0 s.stackDiff w
/-- Sets that difference. -/
def State.setStackDiff (s : State) (w : Nat) (d : U16) : State := { s with stackDiff := SMap.set 0 s.stackDiff w d }

/-- The stored data of a 256-bit stack word. -/
def State.stackData (s : State) (w : Nat) : BitVec 256 := BitVec.ofNat 256 (s.readNat (32 * w) 32)

/-- The finding of a read of a stack word (R266). -/
def State.stackFinding (s : State) (w : Nat) : EccFinding 256 :=
  stackCheckWord (s.stackData w) (stackEncode (s.stackData w) (w / 8) ^^^ (s.stackDiffAt w).toNat) (w / 8)

/-- A poisoned line (R267). -/
def State.poisoned (s : State) (line : Nat) : Bool := SMap.get 0 (s.stack (stackMap (256 * line)).stack).poison line != 0

/-- Writes a stack word whole. -/
def State.storeStackWord (s : State) (w : Nat) (v : BitVec 256) : State :=
  (s.setBytes (32 * w) (leBytes 32 v.toNat)).setStackDiff w 0

/-- StackLastError with a kind, a Stand and an address (R297); LOST stays. -/
def State.stackLastError (s : State) (k kind : Nat) (who : Option Nat) (addr : Nat) : State :=
  (s.setF (0x8020 + k) 5 60 4 kind).setF (0x8020 + k) 5 0 52
    (addr + 2 ^ 48 * (match who with | none => 1 | some d => 2 * d))

/-- The effects of a read of a stack word, and whether it is uncorrectable (R266 to R268, R291, R296, R297). A corrected word is
written back at once. -/
def State.touchStack (s : State) (w : Nat) (who : Option Nat) : State × Bool :=
  let k := (stackMap (32 * w)).stack
  if s.poisoned (w / 8) then (s, true)
  else
    match s.stackFinding w with
    | .ok => (s, false)
    | .corrected d =>
      ((((s.storeStackWord w d).countSat (0x8020 + k) 4 40 24 1).event (0x8020 + k) 2 0x100).report
        (mkReport .stkCe (k / 2) who .stackLine 0 (32 * w)), false)
    | .uncorrectable =>
      ((((s.countSat (0x8020 + k) 4 24 16 1).stackLastError k 1 who (32 * w)).event (0x8020 + k) 2 0x200).report
        (mkReport .stkUe (k / 2) who .stackLine 0 (32 * w)), true)
    | .wrongAddress =>
      ((((s.countSat (0x8020 + k) 4 24 16 1).stackLastError k 2 who (32 * w)).event (0x8020 + k) 2 0x200).report
        (mkReport .stkAddr (k / 2) who .stackLine 0 (32 * w)), true)

/-! ## Reads and writes of bytes -/

/-- The SRAM words of a range whose check bits differ or that are marked failed. -/
def State.badSram (s : State) (a n : Nat) : List Nat :=
  ((s.sramDiff.map (fun e => e.1)) ++
    ((List.range 256).filterMap (fun i =>
      let v := s.objW 0xA002 2 i
      if bitOf v 63 then some (fld v 0 44 / 8) else none))).filter
    (fun w => decide (a / 8 ≤ w) && decide (8 * w < a + n))

/-- The stack words of a range whose check fields differ or whose line is poisoned. -/
def State.badStack (s : State) (a n : Nat) : List Nat :=
  (List.range ((a + n - 1) / 32 - a / 32 + 1)).filterMap (fun i =>
    let w := a / 32 + i
    if s.stackDiffAt w != 0 || s.poisoned (w / 8) then some w else none)

/-- Reads `n` bytes at `a` through the code of its memory: the state with its records, the bytes the reader receives, and whether the
answer is MEM_UE (R263, R268). -/
def State.readMem (s : State) (a n : Nat) (who : Option Nat) (byEngine : Bool) : State × List Byte × Bool :=
  if n = 0 then (s, [], false)
  else if isStack a then
    let r := (s.badStack a n).foldl (fun (acc : State × Bool) w =>
      let t := acc.1.touchStack w who; (t.1, acc.2 || t.2)) (s, false)
    (r.1, r.1.bytes a n, r.2)
  else
    match s.badSram a n with
    | [] => (s, s.bytes a n, false)
    | bad =>
      let r := bad.foldl (fun (acc : State × Bool) w =>
        let t := acc.1.touchSram w who byEngine; (t.1, acc.2 || t.2)) (s, false)
      (r.1, (List.range n).map (fun i =>
        BitVec.ofNat 8 ((s.sramRead ((a + i) / 8)).toNat / 2 ^ (8 * ((a + i) % 8)))), r.2)

/-- How much of a word of `unit` bytes a write of `n` bytes at `a` covers: whether some byte, and whether every byte, of it is written. -/
def wordCover (unit a n : Nat) (en : Nat → Bool) (w : Nat) : Bool × Bool :=
  let hit (j : Nat) : Bool := decide (a ≤ unit * w + j) && decide (unit * w + j < a + n) && en (unit * w + j - a)
  ((List.range unit).any hit, (List.range unit).all hit)

/-- Writes bytes into SRAM words, each word merged and re-encoded (R263). -/
def State.mergeSram (s : State) (a : Nat) (data : List Byte) (en : Nat → Bool) : State :=
  (List.range ((a + data.length - 1) / 8 - a / 8 + 1)).foldl (fun s i =>
    let w := a / 8 + i
    let old := s.sramRead w
    let v := (List.range 8).foldl (fun v j =>
      let x := 8 * w + j
      if a ≤ x ∧ x < a + data.length ∧ en (x - a) then setFld v (8 * j) 8 (data.getD (x - a) 0).toNat else v) old
    if (wordCover 8 a data.length en w).1 then s.storeWord w v else s) s

/-- Writes bytes into stack words, each word written merged and re-encoded (R268). -/
def State.mergeStack (s : State) (a : Nat) (data : List Byte) (en : Nat → Bool) : State :=
  (List.range ((a + data.length - 1) / 32 - a / 32 + 1)).foldl (fun s i =>
    let w := a / 32 + i
    let v := (List.range 32).foldl (fun v j =>
      let x := 32 * w + j
      if a ≤ x ∧ x < a + data.length ∧ en (x - a) then setFld v (8 * j) 8 (data.getD (x - a) 0).toNat else v) (s.stackData w)
    if (wordCover 32 a data.length en w).1 then s.storeStackWord w v else s) s

/-- Clears the poison of the lines that [a, a + n) covers whole (R267). -/
def State.clearPoison (s : State) (a n : Nat) : State :=
  (List.range (n / 256 + 1)).foldl (fun s i =>
    let line := (a + 255) / 256 + i
    let k := (stackMap (256 * line)).stack
    if 256 * line + 256 ≤ a + n ∧ SMap.get 0 (s.stack k).poison line = 1 then
      s.setStack k { s.stack k with poison := SMap.set 0 (s.stack k).poison line 0 }
    else s) s

/-- Writes the enabled bytes of `data` at `a` (R263, R267, R268): refused with MEM_UE where a word written in part is uncorrectable or lies in
a poisoned line, or a word written lies in a failed line or is marked failed. -/
def State.writeMem (s : State) (a : Nat) (data : List Byte) (en : Nat → Bool) (who : Option Nat) : State × Bool :=
  let n := data.length
  if n = 0 then (s, false)
  else if isStack a then
    let bad := (s.badStack a n).filter (fun w =>
      (wordCover 32 a n en w).1 &&
        (SMap.get 0 (s.stack (stackMap (32 * w)).stack).poison (w / 8) == 2 || !(wordCover 32 a n en w).2))
    let r := bad.foldl (fun (acc : State × Bool) w =>
      let t := acc.1.touchStack w who; (t.1, acc.2 || t.2)) (s, false)
    if r.2 then (r.1, true)
    else ((r.1.mergeStack a data en).clearPoison a n, false)
  else
    let bad := (s.badSram a n).filter (fun w => (wordCover 8 a n en w).1 && (s.wordFailed w || !(wordCover 8 a n en w).2))
    let r := bad.foldl (fun (acc : State × Bool) w =>
      let t := acc.1.touchSram w who false; (t.1, acc.2 || t.2)) (s, false)
    if r.2 then (r.1, true) else (r.1.mergeSram a data en, false)

/-- Every byte enabled. -/
def allBytes : Nat → Bool := fun _ => true

/-! ## Answers before the memory is reached -/

/-- STATE of ClearingStatus (R425). -/
def State.clearingState (s : State) (c : Nat) : Nat := s.getF (0x9100 + c) 2 0 3

/-- A grove's interface answers NET_FENCED: its Stand is fenced, the grove is marked failed, or its die's VDD_CORE is off (R315, R316, R540). -/
def State.groveFenced (s : State) (n : Nat) : Bool :=
  !s.coreOn (groveDie n) || (match s.groveOwner n with
   | some d => (s.stand d).fencedDies.getLsbD (groveDie n) || decide ((s.stand d).phase = .recovering)
   | none => false) || bitOf (s.objW 0xA002 1 (18 + n / 64)) (n % 64)

/-- A Clearing's interface answers NET_FENCED where it is failed, in reset, without power, or fenced with its Stand, and REGION_BUSY where it
is not released; 0 where it serves (R315, R316, R317, R409, R540). -/
def State.clearingCode (s : State) (c : Nat) : Nat :=
  let fenced := match s.clearingOwner c with
    | some d => (s.stand d).fencedDies.getLsbD (c / 24) || decide ((s.stand d).phase = .recovering)
    | none => false
  if fenced || !s.coreOn (c / 24) || bitOf (s.objW 0xA002 1 (22 + c / 64)) (c % 64) || s.clearingState c == 4 then codeFenced
  else if s.clearingState c = 3 then 0 else codeBusy

/-- Everything that compute ready waits for has happened (R282, R434, R599, R603). A Clearing whose release stalled, or that is marked failed,
holds up no other (R409, R540). -/
def State.powerUpDone (s : State) : Bool :=
  let image := s.getF 0x5000 2 0 4
  image != 0 && image != 7 && s.getF 0x1002 1 8 4 == 15 && s.getF 0x3100 3 4 4 == 15 && !s.bit 0x3100 3 2 &&
  !bitOf (s.objW 0xA002 1 33) 21 && (List.range 8).all (fun k => s.getF (0x8020 + k) 2 0 2 == 2) &&
  (List.range 96).all (fun c => s.clearingState c == 3 || s.clearingState c == 5 || bitOf (s.objW 0xA002 1 (22 + c / 64)) (c % 64))

/-- Compute becomes ready once (R603); ComputeReadyTime is a free value (log entry 4). -/
def State.checkReady (s : State) : State :=
  if !s.computeReady && s.powerUpDone then ({ s with computeReady := true }.setObj 0x1002 2 (BitVec.ofNat 64 (s.drawn.toNat % 2 ^ 32))).advance
  else s

/-- The answer an access of `n` bytes at `a` gets before it reaches the memory; 0 where it is served (R256, R261, R285, R316, R317).
`who` is the Stand whose ownership is checked; none for accesses that may address any byte (R261). -/
def State.accessCode (s : State) (who : Option Nat) (a n : Nat) : Nat :=
  let last := a + n - 1
  if regionOf a = .gap ∨ regionOf last = .gap then codeRange
  else if regionOf a = .mirror ∨ regionOf last = .mirror then codeReserved
  else if (match who with | some d => !s.ownsRange d a n | none => false) then codeRange
  else
    match regionOf a with
    | .tileSram t => if s.groveFenced (t / 4) then codeFenced else 0
    | .localStore g => if s.groveFenced g then codeFenced else 0
    | .blockRam d b => s.clearingCode (24 * d + b / 192)
    | _ => 0

/-- A read as a requester on the network sees it: the state, the bytes, and the answer's code, 0 where it is data. -/
def State.readAs (s : State) (who : Option Nat) (a n : Nat) : State × List Byte × Nat :=
  let c := s.accessCode who a n
  if c ≠ 0 then (s, [], c)
  else
    let r := s.readMem a n who false
    (r.1, r.2.1, if r.2.2 then codeUe else 0)

/-- A write answered REGION_BUSY: the bytes it targets hold free values (R317). -/
def State.clobber (s : State) (a n : Nat) (en : Nat → Bool) : State :=
  { s.mergeSram a ((List.range n).map (fun i => Config.freeByte s.free (a + i))) en with free := s.free + 1 }

/-- A write as a requester on the network sees it. -/
def State.writeAs (s : State) (who : Option Nat) (a : Nat) (data : List Byte) (en : Nat → Bool) : State × Nat :=
  let c := s.accessCode who a data.length
  if c ≠ 0 then (if c = codeBusy then s.clobber a data.length en else s, c)
  else
    let r := s.writeMem a data en who
    (r.1, if r.2 then codeUe else 0)

end Sys2Proof.Machine
end

