-- ==== Sys2Proof/Machine/GroveOps.lean ====
section
/-! DEFINITION. What the commands of a grove share: failed units, the end of a step on a failure (R105, R162, R253), sending a flit
(R301, R305, R318), and the token counters (R239, R240). -/

namespace Sys2Proof.Machine

/-! ## Failed units (R559) -/

/-- A bit of FailedUnits, counted from bit 0 of word `w0` (R559). -/
def State.failedBit (s : State) (w0 k : Nat) : Bool := bitOf (s.objW 0xA002 1 (w0 + k / 64)) (k % 64)
/-- Sets or clears a bit of FailedUnits. -/
def State.setFailedBit (s : State) (w0 k : Nat) (b : Bool) : State :=
  s.setObjW 0xA002 1 (w0 + k / 64) (setBit (s.objW 0xA002 1 (w0 + k / 64)) (k % 64) b)
/-- The grove is failed as a whole. -/
def State.groveFailed (s : State) (n : Nat) : Bool := s.failedBit 18 n
/-- The tile is marked failed, alone or with its grove (R539). -/
def State.tileFailed (s : State) (t : Nat) : Bool := s.failedBit 0 t || s.groveFailed (t / 4)
/-- The vector engine is marked failed, alone or with its grove (R539). -/
def State.engineFailed (s : State) (n : Nat) : Bool := s.failedBit 14 n || s.groveFailed n

/-! ## The grove command queue (R101, R105, R173) -/

/-- OP of a tile command. -/
def qOp (w : BitVec 128) : Nat := fld w 60 4
/-- TMASK of a tile command. -/
def qMask (w : BitVec 128) : Nat := fld w 56 4
/-- TAG of a tile command (R102, R103, R134, R243). -/
def qTag (w : BitVec 128) : Nat := if qOp w = 1 then fld w 14 8 else fld w 0 8
/-- Tile t is in a mask. -/
def inMask (mask t : Nat) : Bool := mask / 2 ^ t % 2 == 1

/-- The tiles that a command concerns: its TMASK, or every tile where TMASK is 0 (R105). -/
def qTiles (w : BitVec 128) : List Nat := (List.range 4).filter (fun t => qMask w == 0 || inMask (qMask w) t)

/-- Tile t has reached entry k: no earlier entry that names it waits, but that a wload may pass mmul commands (R90, R101, R105). -/
def tileReached (s : State) (n : Nat) (q : List QEntry) (k t : Nat) (wload : Bool) : Bool :=
  !(s.tile (4 * n + t)).stopped &&
  (q.take k).all (fun e =>
    (qMask e.word != 0 && !inMask (qMask e.word) t) || bitOf e.done t || (wload && qOp e.word == 2 && qMask e.word != 0))

/-- Every tile of the command at entry k has reached it. -/
def cmdReached (s : State) (n : Nat) (q : List QEntry) (k : Nat) (w : BitVec 128) : Bool :=
  (qTiles w).all (fun t => tileReached s n q k t (qOp w == 1 && qMask w != 0))

/-- The EPI commands among the first k entries that tile t has reached and not yet executed: they are bound to the program of its context,
and their output lines are pending (R173, R176). -/
def State.reachedEpi (s : State) (n t k : Nat) : List (BitVec 128) :=
  let q := (s.grove n).queue
  ((q.take k).zipIdx.filter (fun (e, i) =>
    qOp e.word == 2 && bitOf e.word 8 && bitOf e.word 119 && inMask (qMask e.word) t && !bitOf e.done t &&
      tileReached s n q i t false)).map (fun e => e.1.word)

/-! ## Stopping (R105, R115, R139, R249) -/

/-- Empties a grove of its Stand's work: the command queue, the writer's commands, the contexts with AQ and OQ, the streams, and what
waits on tokens (R115, R139, R249). Contexts stopped on an exception and slots stopped on an error keep that state. -/
def State.stopGrove (s : State) (n : Nat) : State :=
  let s := s.setGrove n { s.grove n with queue := [], waits := [], tsigs := [], launches := [] }
  let s := (List.range 4).foldl (fun s t =>
    let x := s.tile (4 * n + t)
    let c := s.ctx (4 * n + t)
    (s.setTile (4 * n + t) { x with jobs := [], passSet := none }).setCtx (4 * n + t)
      { c with aq := [], oq := [], granted := false, st := if c.st = .exception then .exception else .idle }) s
  (List.range 8).foldl (fun s q =>
    let u := s.slot (8 * n + q)
    s.setSlot (8 * n + q)
      { u with st := if u.st = .error then .error else .idle, hold := .none, miss := none, buffer := [], run := none }) s

/-- OPC of a record (R289). -/
def nmOpc (r : BitVec 512) : Nat := fld r 60 4
/-- STAND of a record. -/
def nmStand (r : BitVec 512) : Nat := fld r 57 3
/-- SLOT of a record. -/
def nmSlot (r : BitVec 512) : Nat := fld r 54 3
/-- GROVE of a record. -/
def nmGrove (r : BitVec 512) : Nat := fld r 46 8

/-- The commands of a slot of a stack's near-memory engine. -/
def Stack.nmQueue (x : Stack) (q : Nat) : List NmCommand := SMap.get [] x.nm q

/-- The near-memory commands that a Stand's streams sent from some groves stop, and what they had staged is discarded (R290). -/
def State.dropNm (s : State) (d : Nat) (on : Nat → Bool) : State :=
  let gone (c : NmCommand) : Bool := nmStand c.record == d && on (nmGrove c.record)
  (List.range 8).foldl (fun s k =>
    let x := s.stack k
    if x.nm.isEmpty then s
    else
      let heldBy (g : Staged) : Bool := (x.nmQueue g.slot).head?.any gone
      s.setStack k { x with
        nm := x.nm.foldl (fun m e => SMap.set [] m e.1 (e.2.filter (fun c => !gone c))) x.nm
        staging := x.staging.filter (fun g => !heldBy g) }) s

/-- Stops every tile queue, context and stream of a Stand, and its near-memory commands (R105, R290). -/
def State.stopStand (s : State) (d : Nat) : State := ((s.grovesOf d).foldl (fun s n => s.stopGrove n) s).dropNm d (fun _ => true)

/-- Unit kinds of a completion (R501). -/
def unitTile : Nat := 1
/-- A vector context (R501). -/
def unitContext : Nat := 2
/-- A stream slot (R501). -/
def unitSlot : Nat := 3
/-- A token counter (R501). -/
def unitCounter : Nat := 4

/-- The step of a grove's Stand fails with a completion STATUS: the first failure is kept, and every unit of the Stand stops (R105,
R162, R253, R501, R504). -/
def State.failStep (s : State) (n : Nat) (status kind unit : Nat) : State :=
  match s.groveOwner n with
  | none => s.stopGrove n
  | some d =>
    let x := s.stand d
    let s := if x.failure = 0 then
        s.setStand d { x with failure := BitVec.ofNat 8 status, failWho := BitVec.ofNat 16 (256 * n + 16 * kind + unit) }
      else s
    s.stopStand d

/-- STATUS COMMAND_ERROR (R501). -/
def statusCommand : Nat := 1
/-- STATUS PAGE_FAULT (R501). -/
def statusPage : Nat := 2

/-! ## Sending a flit (R301, R305, R308, R318) -/

/-- The index and subindex offset of an interface's objects (R326): port L1 uses 0x20 in place of 0x10. -/
def ifaceSub (node k : Nat) : Nat := 16 * (node % 2 + 1) + k

/-- A route table entry of an interface (R305). -/
def State.routeEntry (s : State) (node e : Nat) : BitVec 128 :=
  s.objW (0x6600 + node / 2) (ifaceSub node 1) (2 * e + 1) ++ s.objW (0x6600 + node / 2) (ifaceSub node 1) (2 * e)

/-- HOPS with its EXIT replaced by the delivery at the destination's port (R306). -/
def exitTo (hops : BitVec 96) (port : Nat) : BitVec 96 :=
  match (List.range 32).find? (fun i => fld hops (3 * i) 3 == 7) with
  | none => hops
  | some i => setFld hops (3 * i) 3 (4 + port)

/-- The channel of a packet kind (R304). -/
def kindChannel (kind : BitVec 4) : Nat :=
  if kind = 0x2 ∨ kind = 0x5 ∨ kind = 0x8 then 1 else if kind = 0xA then 2 else 0

/-- The router input that an interface's flits enter, on a channel. -/
def localFifo (node ch : Nat) : Nat := (6 * (node / 2) + 4 + node % 2) * 3 + ch

/-- Depth in flits of the queue of R32 between an interface and the network, each way. -/
def ifaceDepth (node : Nat) : Nat :=
  match attachOf node with
  | .grove _ => 32
  | .clearing _ => 16
  | .management _ => 16
  | _ => 64

/-- Flits that a router input holds on a channel (R309). -/
def inputDepth : Nat := 8

/-- Flits of an interface that wait in its queue of R32 behind its router input's buffer. -/
def State.waitingOut (s : State) (node : Nat) : Nat :=
  (List.range 3).foldl (fun a c => a + ((SMap.get [] s.fifos (localFifo node c)).length - inputDepth)) 0

/-- The interface can take `k` more flits to send on a channel (R32, R309): they fit its router input's buffer and its own queue. -/
def State.sendRoom (s : State) (node ch k : Nat) : Bool :=
  let n := (SMap.get [] s.fifos (localFifo node ch)).length
  decide (s.waitingOut node + ((n + k - inputDepth) - (n - inputDepth)) ≤ ifaceDepth node)

/-- Puts a flit into the queue of its interface; IfaceFlits counts it (R32, R326). The first 8 flits of a channel stand in the router input's
buffer, the others behind them in the interface's queue. -/
def State.inject (s : State) (node : Nat) (f : Flit) : State :=
  let k := localFifo node (kindChannel f.kind)
  ({ s with fifos := SMap.set [] s.fifos k (SMap.get [] s.fifos k ++ [f]) }).count
    (0x6600 + node / 2) (ifaceSub node 2) 0 64 1

/-- Sends a flit to a node by the route of the sender's table (R308). -/
def State.sendFlit (s : State) (node dest : Nat) (f : Flit) : State :=
  s.inject node { f with route := exitTo ((s.routeEntry node (dest / 2)).extractLsb' 0 96) (dest % 2) }

/-- Sends a flit by a named entry of the route table (R236). -/
def State.sendFlitBy (s : State) (node e dest : Nat) (f : Flit) : State :=
  s.inject node { f with route := exitTo ((s.routeEntry node e).extractLsb' 0 96) (dest % 2) }

/-- The outstanding request with a transaction tag at a node. -/
def State.outstAt (s : State) (node txn : Nat) : Option Outst := SMap.get none s.outst (128 * node + txn)
/-- Sets it. -/
def State.setOutst (s : State) (node txn : Nat) (o : Option Outst) : State :=
  { s with outst := SMap.set none s.outst (128 * node + txn) o }
/-- What stands in place of an address in the outstanding entry of an scopy's COMMAND (R245). -/
def copyMark : Nat := 2 ^ 62

/-- A transaction tag of a node is in use: responses are outstanding, or members of a tree still have to return their credit (R304, R313). -/
def State.txnUsed (s : State) (node txn : Nat) : Bool := (s.outstAt node txn).isSome || !(SMap.get [] s.treeSent (128 * node + txn)).isEmpty
/-- The lowest transaction tag of a node that is not in use. -/
def State.freeTxn (s : State) (node : Nat) : Option Nat := (List.range 128).find? (fun t => !s.txnUsed node t)

/-- An interface with nothing received, nothing to send and nothing outstanding (R39). -/
def State.emptyNode (s : State) (node : Nat) : State :=
  { s with
    rx := SMap.eraseAll s.rx (fun k => k / 3 == node)
    fifos := SMap.eraseAll s.fifos (fun k => k / 3 == localFifo node 0 / 3)
    outst := SMap.eraseAll s.outst (fun k => k / 128 == node)
    treeSent := SMap.eraseAll s.treeSent (fun k => k / 128 == node) }

/-- An interface's queue is reset with its domain (R33): what it received, what it has still to send and what it awaits are gone; its router
input's buffer is the network's. -/
def State.resetNode (s : State) (node : Nat) : State :=
  let kept := (List.range 3).map (fun c => (c, (SMap.get [] s.fifos (localFifo node c)).take inputDepth))
  let s := s.emptyNode node
  { s with fifos := kept.foldl (fun m e => SMap.set [] m (localFifo node e.1) e.2) s.fifos }

/-! ## Token counters (R239, R240) -/

/-- The counter a token names for grove n: the grove and the counter (R239); none for job and reserved tokens. -/
def tokenCounter (n token : Nat) : Option (Nat × Nat) :=
  if token < 0x40 then some (n, token)
  else if 0x100 ≤ token ∧ token ≤ 0x38FF then some ((token - 0x100) / 64, (token - 0x100) % 64)
  else none

/-- The counter may be signalled from grove n: it is the grove's own or one of a grove of the same Stand (R239). -/
def State.maySignal (s : State) (n token : Nat) : Bool :=
  match tokenCounter n token with
  | none => false
  | some (m, _) => m == n || (s.groveOwner n != none && s.groveOwner m == s.groveOwner n)

/-- A token counter. -/
def State.token (s : State) (n ctr : Nat) : Nat := (SMap.get 0 (s.grove n).tokens ctr).toNat
/-- Sets a token counter. -/
def State.setToken (s : State) (n ctr v : Nat) : State :=
  s.setGrove n { s.grove n with tokens := SMap.set 0 (s.grove n).tokens ctr (BitVec.ofNat 32 v) }

/-- A signal applied where its counter lives (R240): discarded on an overflow, which sets TOKEN_OVF and fails the step. -/
def State.applySignal (s : State) (n ctr count : Nat) : State :=
  if 0xFFFFFFFF < s.token n ctr + count then
    (s.setGrove n { s.grove n with tokenOvf := true }).failStep n statusCommand unitCounter 0
  else s.setToken n ctr (s.token n ctr + count)

/-- A SIGNAL flit (R304). -/
def signalFlit (src : Nat) (stand : Option StandId) (cls token count : Nat) : Flit :=
  { route := 0, kind := 6, src := src, stand := stand, cls := BitVec.ofNat 3 cls, run := 0, opx := 0, txn := 0, addr := 0,
    data := BitVec.ofNat 1024 (token + 65536 * count) }

/-- The Stand of a grove as a stamp (R318). -/
def State.standOfGrove (s : State) (n : Nat) : Option StandId := (s.groveOwner n).map (Fin.ofNat 8)

/-- Signals a counter from grove n by its own unit (R240, R241): false where the grove's own counter would overflow. A counter of
another grove is signalled by a flit. -/
def State.signalFrom (s : State) (n token count : Nat) : State × Bool :=
  match tokenCounter n token with
  | none => (s, false)
  | some (m, ctr) =>
    if m = n then
      (if 0xFFFFFFFF < s.token n ctr + count then (s, false) else (s.setToken n ctr (s.token n ctr + count), true))
    else (s.sendFlit (groveNode n) (groveNode m) (signalFlit (groveNode n) (s.standOfGrove n) 0 token count), true)

/-- A signal of a token from grove n can go out: to its own counter, or while its interface can take the SIGNAL (R32, R240). -/
def State.signalRoom (s : State) (n token : Nat) : Bool :=
  (tokenCounter n token).any (fun c => c.1 == n) || s.sendRoom (groveNode n) 0 1

/-- The first wait on a counter, in the order they began (R240). -/
def firstWait (g : Grove) (ctr : Nat) : Option TokenWait := g.waits.find? (fun w => w.ctr.val == ctr)

/-- A wait begun now is satisfied at once: no earlier wait on the counter, and the count is there (R240). -/
def State.waitNow (s : State) (n ctr count : Nat) : Bool :=
  (firstWait (s.grove n) ctr).isNone && decide (count ≤ s.token n ctr)

/-- The wait of a unit on a token of its grove: the counter, where the grove may wait on it (R239). -/
def waitCounter (n token : Nat) : Option Nat :=
  match tokenCounter n token with
  | some (m, ctr) => if m = n then some ctr else none
  | none => none

end Sys2Proof.Machine
end

