-- ==== Sys2Proof/Machine/LineCode.lean ====
section
/-! DEFINITION. The coding pipeline of a Xannus lane (R336, R338, R339): sync headers and the scrambler, RS(544,514) over GF(2^10), and the PAM4
levels with precoding. -/

namespace Sys2Proof.Machine

/-! ## Blocks and the scrambler (R336) -/

/-- One step of the scrambler 1 + x^39 + x^58: the bit with those 39 and 58 places before it in the scrambled stream, whose last 58 bits are `t`,
the newest in bit 0. -/
def scrambleBit (t : BitVec 58) (b : Bool) : Bool := b ^^ t.getLsbD 38 ^^ t.getLsbD 57
/-- The last 58 bits after one bit more. -/
def scramblePush (t : BitVec 58) (b : Bool) : BitVec 58 := (t <<< 1) ||| BitVec.ofNat 58 (if b then 1 else 0)

/-- Scrambles the bits of a payload in the order they are sent. -/
def scrambleBits : BitVec 58 → List Bool → BitVec 58 × List Bool
  | t, [] => (t, [])
  | t, b :: l =>
    let c := scrambleBit t b
    let r := scrambleBits (scramblePush t c) l
    (r.1, c :: r.2)
/-- Undoes the scrambler. -/
def descrambleBits : BitVec 58 → List Bool → BitVec 58 × List Bool
  | t, [] => (t, [])
  | t, c :: l =>
    let r := descrambleBits (scramblePush t c) l
    (r.1, scrambleBit t c :: r.2)

/-- What a sync header marks. -/
inductive BlockKind where
  | data
  | control
  | invalid
  deriving DecidableEq, Repr

/-- The 66 bits of a block, in the order they are sent: header 0 1 for data, 1 0 for control, then the scrambled payload (R336). -/
def blockLine (t : BitVec 58) (control : Bool) (payload : BitVec 64) : BitVec 58 × List Bool :=
  let r := scrambleBits t (bitsLsb 64 payload.toNat)
  (r.1, control :: (!control) :: r.2)

/-- What a received block of 66 bits is: bits 1:0 the header, bits 65:2 the payload (R336). -/
def lineBlock (t : BitVec 58) (b : BitVec 66) : BitVec 58 × BlockKind × BitVec 64 :=
  let r := descrambleBits t (bitsLsb 64 (b.toNat / 4))
  (r.1, if b.toNat % 4 = 2 then .data else if b.toNat % 4 = 1 then .control else .invalid, BitVec.ofNat 64 (ofBitsLsb r.2))

/-! ## RS(544,514) over GF(2^10) (R338) -/

/-- A product in the field of x^10 + x^3 + 1, by the bits of the second factor from bit 9 down. -/
def gfMul (a b : Nat) : Nat :=
  if a = 0 ∨ b = 0 then 0
  else
    [9, 8, 7, 6, 5, 4, 3, 2, 1, 0].foldl (fun acc i =>
      let d := 2 * acc
      let d := if 1024 ≤ d then d ^^^ 1033 else d
      if b.testBit i then d ^^^ a else d) 0

/-- A power in the field. -/
def gfPow (a : Nat) : Nat → Nat
  | 0 => 1
  | n + 1 => gfMul (gfPow a n) a

/-- α^i. -/
def gfAlpha (i : Nat) : Nat := gfPow 2 (i % 1023)
/-- The inverse of a field element that is not 0. -/
def gfInv (a : Nat) : Nat := gfPow a 1022

/-- The value of a polynomial, its coefficients from the highest down. -/
def gfEval (l : List Nat) (x : Nat) : Nat := l.foldl (fun acc c => gfMul acc x ^^^ c) 0

/-- A polynomial times (x − r), coefficients from the highest down. -/
def gfTimes (l : List Nat) (r : Nat) : List Nat := List.zipWith (fun a b => a ^^^ gfMul b r) (l ++ [0]) (0 :: l)

/-- g(x): the product of (x − α^i) for i = 0 to 29, from x^30 down (R338). -/
def rsGenerator : List Nat := (List.range 30).foldl (fun l i => gfTimes l (gfAlpha i)) [1]

/-- The parity symbols: the remainder of message × x^30 by g (R338). -/
def rsParity (msg : List Nat) : List Nat :=
  let g := rsGenerator.drop 1
  msg.foldl (fun rem m =>
    let q := (rem.headD 0) ^^^ m
    List.zipWith (fun a b => a ^^^ gfMul q b) (rem.drop 1 ++ [0]) g) (List.replicate 30 0)

/-- The codeword of 514 message symbols (R338). -/
def rsEncode (msg : List Nat) : List Nat := msg ++ rsParity msg

/-- The syndromes of a received word. -/
def rsSyndromes (w : List Nat) : List Nat := (List.range 30).map (fun i => gfEval w (gfAlpha i))

/-- A polynomial plus another times c x^k, coefficients from the lowest up. -/
def gfAddScaled (a b : List Nat) (c k : Nat) : List Nat :=
  let b := List.replicate k 0 ++ b
  (List.range (max a.length b.length)).map (fun i => a.getD i 0 ^^^ gfMul c (b.getD i 0))

/-- The shortest error locator of some syndromes, coefficients from the lowest up, and its length. -/
def rsLocator (syn : List Nat) : List Nat × Nat :=
  let r := (List.range 30).foldl (fun (x : List Nat × List Nat × Nat × Nat × Nat) n =>
    let (c, b, len, m, d0) := x
    let d := (List.range (len + 1)).foldl (fun acc i => acc ^^^ gfMul (c.getD i 0) (syn.getD (n - i) 0)) 0
    if d = 0 then (c, b, len, m + 1, d0)
    else
      let c' := gfAddScaled c b (gfMul d (gfInv d0)) m
      if 2 * len ≤ n then (c', c, n + 1 - len, 1, d) else (c', b, len, m + 1, d0)) ([1], [1], 0, 1, 1)
  (r.1, r.2.2.1)

/-- Decodes a received word: the codeword, and how many symbols were corrected; none where more than 15 are wrong (R338). -/
def rsDecode (w : List Nat) : Option (List Nat × Nat) :=
  let syn := rsSyndromes w
  if syn.all (· == 0) then some (w, 0)
  else
    let loc := rsLocator syn
    let at' (l : List Nat) (x : Nat) : Nat := gfEval l.reverse x
    let wrong := (List.range 544).filter (fun j => at' loc.1 (gfInv (gfAlpha j)) == 0)
    if 15 < loc.2 ∨ wrong.length ≠ loc.2 then none
    else
      let omega := (List.range 30).map (fun k => (List.range (k + 1)).foldl (fun acc i => acc ^^^ gfMul (loc.1.getD i 0) (syn.getD (k - i) 0)) 0)
      let deriv := loc.1.zipIdx.map (fun (c, i) => if i % 2 = 1 then c else 0) |>.drop 1
      let fixed := wrong.foldl (fun v j =>
        let x := gfInv (gfAlpha j)
        let e := gfMul (gfAlpha j) (gfMul (at' omega x) (gfInv (at' deriv x)))
        v.modify (543 - j) (fun c => c ^^^ e)) w
      if (rsSyndromes fixed).all (· == 0) then some (fixed, loc.2) else none

/-- Symbols of 10 bits, the first bit bit 0. -/
def symbolsOf (n : Nat) (bits : List Bool) : List Nat := (List.range n).map (fun i => ofBitsLsb ((bits.drop (10 * i)).take 10))
/-- The bits of symbols, each bit 0 first. -/
def symbolBits (l : List Nat) : List Bool := l.flatMap (bitsLsb 10)

/-- Decodes a codeword's bits: its symbols, and how many were corrected (R338). -/
def rsWord (bits : List Bool) : Option (List Nat × Nat) := rsDecode (symbolsOf 544 bits)

/-! ## Levels (R339) -/

/-- The level code of a pair of bits, the first the more significant: 0 to 3 from −3 to +3, by the Gray code. -/
def grayLevel (a b : Bool) : Nat := if a then (if b then 2 else 3) else (if b then 1 else 0)
/-- The pair of a level code. -/
def grayPair (x : Nat) : List Bool := [decide (2 ≤ x), x == 1 || x == 2]

/-- The level codes of a bit stream, precoded after level code `y`: the codes and the last one. -/
def levelCodes (precode : Bool) : Nat → List Bool → List Nat × Nat
  | y, a :: b :: l =>
    let x := grayLevel a b
    let c := if precode then (x + 4 - y) % 4 else x
    let r := levelCodes precode c l
    (c :: r.1, r.2)
  | y, _ => ([], y)

/-- The bits of received level codes, the precoding undone after level code `y`. -/
def levelBits (precode : Bool) : Nat → List Nat → List Bool × Nat
  | y, c :: l =>
    let r := levelBits precode c l
    (grayPair (if precode then (c + y) % 4 else c) ++ r.1, r.2)
  | y, [] => ([], y)

/-- Level codes packed, code i in bits 2i + 1:2i. -/
def packLevels : List Nat → Nat
  | [] => 0
  | c :: l => c % 4 + 4 * packLevels l

/-- The level codes of a received codeword; an inverted polarity turns each level over (R335, R339). -/
def unpackLevels (inverted : Bool) (w : BitVec 5440) : List Nat :=
  (List.range 2720).map (fun i => let c := w.toNat / 4 ^ i % 4; if inverted then 3 - c else c)

end Sys2Proof.Machine
end

