-- ==== Sys2Proof/Machine/Peers.lean ====
section
/-! DEFINITION. Flits as bits (R302, R303), the frames and control blocks of the Xannus ports (R346, R347), how a port sends (R352 to
R354), and where a flit for another device goes (R368 to R377). -/

namespace Sys2Proof.Machine

/-! ## Flits as bits (R302, R303) -/

/-- Bits 1,215:0 of a flit: its header and payload. -/
def flitBits (f : Flit) : BitVec 1216 :=
  let w0 := f.route.toNat % 2 ^ 64
  let w1 := f.route.toNat / 2 ^ 64 + 2 ^ 35 * f.opx.toNat + 2 ^ 40 * f.run.toNat + 2 ^ 42 * f.cls.toNat +
    2 ^ 45 * (match f.stand with | none => 1 | some d => 2 * d.val) + 2 ^ 49 * (f.src % 2048) + 2 ^ 60 * f.kind.toNat
  let w2 := f.addr.toNat + 2 ^ 57 * f.txn.toNat
  BitVec.ofNat 1216 (w0 + 2 ^ 64 * w1 + 2 ^ 128 * w2 + 2 ^ 192 * f.data.toNat)

/-- The flit that 1,216 bits spell. -/
def flitOf (b : BitVec 1216) : Flit :=
  { route := BitVec.ofNat 96 (fld b 0 64 + 2 ^ 64 * fld b 64 32)
    kind := BitVec.ofNat 4 (fld b 124 4)
    src := fld b 113 11
    stand := if bitOf b 109 then none else some (Fin.ofNat 8 (fld b 110 3))
    cls := BitVec.ofNat 3 (fld b 106 3)
    run := BitVec.ofNat 2 (fld b 104 2)
    opx := BitVec.ofNat 5 (fld b 99 5)
    txn := BitVec.ofNat 7 (fld b 185 7)
    addr := BitVec.ofNat 57 (fld b 128 57)
    data := BitVec.ofNat 1024 (fld b 192 1024) }

/-- CRC-64 of a flit (R302). -/
def flitCheck (f : Flit) : Nat := crcBits 64 0x42F0E1EBA9EA3693 0 (bitsLsb 1216 (flitBits f).toNat)

/-- DEST_DEV, ORIG_DEV and HOP_COUNT of a peer header (R373). -/
def peerHeader (dest orig hops : Nat) : BitVec 96 := BitVec.ofNat 96 (dest % 1024 + 1024 * (orig % 1024) + 2 ^ 20 * (hops % 64))
/-- DEST_DEV. -/
def peerDest (f : Flit) : Nat := fld f.route 0 10
/-- ORIG_DEV. -/
def peerOrig (f : Flit) : Nat := fld f.route 10 10
/-- HOP_COUNT. -/
def peerHops (f : Flit) : Nat := fld f.route 20 6

/-! ## Ports and lanes -/

/-- A port. -/
def State.port (s : State) (p : Nat) : Port := SMap.get Port.reset s.ports p
/-- Sets a port. -/
def State.setPort (s : State) (p : Nat) (x : Port) : State := { s with ports := SMap.set Port.reset s.ports p x }
/-- A lane, numbered 8p + n. -/
def State.lane (s : State) (l : Nat) : Lane := SMap.get Lane.reset s.lanes l
/-- Sets a lane. -/
def State.setLane (s : State) (l : Nat) (x : Lane) : State := { s with lanes := SMap.set Lane.reset s.lanes l x }
/-- STATE of PortStatus (R365). -/
def State.portState (s : State) (p : Nat) : Nat := s.getF (0x7100 + p) 2 8 4
/-- The port is up (R365). -/
def State.portUp (s : State) (p : Nat) : Bool := s.portState p == 3 || s.portState p == 4
/-- LANE_MAP (R365). -/
def State.laneMap (s : State) (p : Nat) : Nat := s.getF (0x7100 + p) 2 0 8

/-! ## Blocks on the lanes (R336 to R339, R350) -/

/-- The lanes of a map, in ascending order; a port that is not up uses all of them (R337, R345). -/
def mapLanes (m : Nat) : List Nat := if m = 0 then List.range 8 else (List.range 8).filter (fun l => m / 2 ^ l % 2 == 1)

/-- A block is sent on a lane: scrambled behind its sync header, and with the 5,140th bit of a codeword the codeword goes out as PAM4 levels,
precoded where PRECODE_ON of the lane's transmitter is 1 (R336, R338, R339). -/
def State.lineSend (s : State) (p l : Nat) (control : Bool) (payload : U64) : State :=
  let n := 8 * p + l
  let x := s.lane n
  let b := blockLine x.scrambled control payload
  let bits := x.codeBits ++ b.2
  if bits.length < 5140 then s.setLane n { x with scrambled := b.1, codeBits := bits }
  else
    let c := levelCodes (bitOf x.status 10) x.level (symbolBits (rsEncode (symbolsOf 514 bits)))
    (s.setLane n { x with scrambled := b.1, codeBits := bits.drop 5140, level := c.2 }).send (.line p l (BitVec.ofNat 5440 (packLevels c.1)))

/-- A DESKEW block (R347, R350). -/
def deskewBlock (slot : Nat) : U64 := BitVec.ofNat 64 (0xC3 + 2 ^ 16 * (slot % 2 ^ 32))

/-- A block of a port's stream goes on the lane that is its turn; in the slot of the lowest lane every trained lane outside the map sends
DESKEW (R337, R350). -/
def State.sendStriped (s : State) (p : Nat) (control : Bool) (payload : U64) : State :=
  let lanes := mapLanes (s.laneMap p)
  let k := (s.port p).txBlocks
  let s := s.lineSend p (lanes.getD (k % lanes.length) 0) control payload
  let s := if k % lanes.length = 0 then
      (List.range 8).foldl (fun s l => if (s.lane (8 * p + l)).locked && !lanes.contains l then s.lineSend p l true (deskewBlock k) else s) s
    else s
  s.setPort p { s.port p with txBlocks := k + 1 }

/-- Sends a control block (R347). -/
def State.sendControl (s : State) (p : Nat) (b : U64) : State := (s.send (.block p b)).sendStriped p true b

/-! ## Control blocks (R347) -/

/-- The bits that the CRC-24 of a FRAME, IDLE or RETRY block covers. -/
def blockBits (b : Nat) (body : List Bool) : List Bool := bitsLsb 40 b ++ body

/-- The next CREDIT field: up to four credits of one channel, in order of freeing (R347, R354). -/
def creditField (freed : List (BitVec 2)) : Nat × List (BitVec 2) :=
  match freed with
  | [] => (3, [])
  | c :: _ =>
    let n := min 4 (freed.takeWhile (· == c)).length
    (c.toNat + 4 * (n - 1), freed.drop n)

/-- A FRAME, IDLE or RETRY block of a port with its ACK and a CREDIT (R347, R352). -/
def portBlockWith (x : Port) (type seq credit : Nat) (body : List Bool) : U64 :=
  let b := type + 256 * (seq % 4096) + 2 ^ 20 * x.rxSeq.toNat + 2 ^ 32 * (credit % 16)
  BitVec.ofNat 64 (b + 2 ^ 40 * crc24 (blockBits b body))

/-- An IDLE or RETRY block of a port; it takes the next CREDIT (R347, R352, R354). -/
def State.portBlock (s : State) (p type seq : Nat) : State × U64 :=
  let x := s.port p
  let c := creditField x.freed
  (s.setPort p { x with freed := c.2 }, portBlockWith x type seq c.1 [])

/-- The types of control blocks. -/
def typeFrame : Nat := 0x5A
/-- IDLE. -/
def typeIdle : Nat := 0x3C
/-- RETRY. -/
def typeRetry : Nat := 0x66
/-- ABORT. -/
def typeAbort : Nat := 0x96
/-- LANEMAP. -/
def typeLaneMap : Nat := 0xA5
/-- DESKEW. -/
def typeDeskew : Nat := 0xC3

/-- Sends a frame: its FRAME block and 19 data blocks of the flit's bits (R346). -/
def State.emitFrame (s : State) (p : Nat) (e : BitVec 12 × BitVec 4 × BitVec 1216) : State :=
  let head := portBlockWith (s.port p) typeFrame e.1.toNat e.2.1.toNat (bitsLsb 1216 e.2.2.toNat)
  let s := (s.send (.frame p head e.2.2)).sendStriped p true head
  ((List.range 19).foldl (fun s i => s.sendStriped p false (BitVec.ofNat 64 (fld e.2.2 (64 * i) 64))) s).count (0x7100 + p) 4 0 64 1

/-- Flits the peer's buffer holds, by channel (R354). -/
def peerBuffer (ch : Nat) : Nat := if ch = 2 then 256 else 896

/-- Sends the first flit of a channel where a credit and a place in the retry buffer are free (R353, R354). -/
def State.pumpChannel (s : State) (p ch : Nat) : State :=
  let x := s.port p
  match SMap.get [] x.txq ch with
  | [] => s
  | b :: rest =>
    if s.portUp p && decide (x.retry.length < 2047) && decide (SMap.get 0 x.taken ch < peerBuffer ch) then
      let c := creditField x.freed
      let e : BitVec 12 × BitVec 4 × BitVec 1216 := (x.txSeq, BitVec.ofNat 4 c.1, b)
      (s.setPort p { x with
        txq := SMap.set [] x.txq ch rest
        taken := SMap.set 0 x.taken ch (SMap.get 0 x.taken ch + 1)
        retry := x.retry ++ [e]
        freed := c.2
        txSeq := x.txSeq + 1 }).emitFrame p e
    else s

/-- Sends what can be sent, channel by channel. -/
def State.pump (s : State) (p : Nat) : State :=
  let n := ((s.port p).txq.map (fun e => e.2.length)).foldl (· + ·) 0
  (List.range n).foldl (fun s _ => (List.range 3).foldl (fun s ch => s.pumpChannel p ch) s) s

/-- The channel of a flit's kind as a port's channel. -/
def flitChannel (f : Flit) : Nat := kindChannel f.kind

/-- The flits in a port's transmit queue that a flit of a channel shares it with: responses are counted apart, so that they never wait on
requests (R32, R354, log entry 122). -/
def State.txCount (s : State) (p ch : Nat) : Nat :=
  let n (c : Nat) : Nat := (SMap.get [] (s.port p).txq c).length
  if ch = 1 then n 1 else n 0 + n 2

/-- The transmit queue of a port has room for one flit more of a channel (R32). -/
def State.txRoom (s : State) (p ch : Nat) : Bool := decide (s.txCount p ch < 64)

/-- The flits that an action put into the ports' transmit queues fit there; else the action waits: `s` before it, `t` after (R32). -/
def State.whereFits (s t : State) : State :=
  if (List.range 24).all (fun i => decide (t.txCount (i / 2) (i % 2) ≤ max 64 (s.txCount (i / 2) (i % 2)))) then t else s

/-- Puts a flit into a port's queue and sends what can be sent. -/
def State.portSend (s : State) (p : Nat) (f : Flit) : State :=
  let x := s.port p
  let ch := flitChannel f
  (s.setPort p { x with txq := SMap.set [] x.txq ch (SMap.get [] x.txq ch ++ [flitBits f]) }).pump p

/-! ## Where a peer flit goes (R368 to R372) -/

/-- DeviceId.VALID (R390). -/
def State.deviceValid (s : State) : Bool := s.bit 0x7001 1 31
/-- DeviceId.ID. -/
def State.deviceId (s : State) : Nat := s.getF 0x7001 1 0 10
/-- The device's coordinate X, Y, Z. -/
def State.deviceAt (s : State) : Nat × Nat × Nat := (s.getF 0x7001 1 16 3, s.getF 0x7001 1 19 3, s.getF 0x7001 1 22 4)

/-- Devices of a dimension (R369, R390). -/
def State.dimSize (s : State) (d : Nat) : Nat :=
  if d = 0 then s.getF 0x7001 2 0 3 + 1 else if d = 1 then s.getF 0x7001 2 4 3 + 1 else s.getF 0x7001 2 8 4 + 1
/-- The dimension wraps (R369). -/
def State.dimWrap (s : State) (d : Nat) : Bool := s.bit 0x7001 2 (16 + d)

/-- The coordinate of an identifier, where its DevRoute entry is VALID and usable (R370, R389). -/
def State.devRoute (s : State) (dev : Nat) : Option (Nat × Nat × Nat) :=
  let e := s.entry 0x7001 3 16 dev
  let c := (e % 8, e / 8 % 8, e / 64 % 16)
  if e / 2 ^ 15 % 2 = 0 then none
  else if s.dimSize 0 ≤ c.1 ∨ s.dimSize 1 ≤ c.2.1 ∨ s.dimSize 2 ≤ c.2.2 then none
  else if c = s.deviceAt ∧ dev ≠ s.deviceId then none
  else some c

/-- The hops left in a dimension: (plus direction, number of hops, the path crosses the wrap link) (R371). -/
def dimPath (n cur dst : Nat) (wrap : Bool) : Bool × Nat × Bool :=
  if wrap then
    let d := (dst + n - cur % n) % n
    if d ≤ n - d then (true, d, decide (n ≤ cur + d)) else (false, n - d, decide (cur < n - d))
  else if cur ≤ dst then (true, dst - cur, false) else (false, cur - dst, false)

/-- The port of R371 from this device to a coordinate, for a flit with a SRC and two devices. -/
def State.firstHop (s : State) (dst : Nat × Nat × Nat) (orig dest src : Nat) : Nat :=
  let cur := s.deviceAt
  let ps := [dimPath (s.dimSize 0) cur.1 dst.1 (s.dimWrap 0), dimPath (s.dimSize 1) cur.2.1 dst.2.1 (s.dimWrap 1),
    dimPath (s.dimSize 2) cur.2.2 dst.2.2 (s.dimWrap 2)]
  let total := ps.foldl (fun a x => a + x.2.1) 0
  match (ps.zipIdx).find? (fun x => x.1.2.1 != 0) with
  | none => 0
  | some ((plus, _, cross), d) =>
    let b := if total = 1 then decide ((orig ^^^ dest ^^^ src) % 2 = 1) else cross
    4 * d + (if plus then 0 else 2) + b2n b

/-- What becomes of a flit for another device at the device that sends it: the port, or the detail of PEER_ERR (R371, R377). -/
def State.peerPort (s : State) (dest src : Nat) : Nat ⊕ Nat :=
  if !s.deviceValid then .inr 4
  else
    match s.devRoute dest with
    | none => .inr 1
    | some c =>
      let p := s.firstHop c s.deviceId dest src
      if s.portUp p then .inl p else .inr 2

/-- The payload of a PEER_ERR: the code, its detail, and the device that refused (R377). -/
def peerErrData (detail dev : Nat) : BitVec 1024 := BitVec.ofNat 1024 (codePeer + 256 * detail + 2 ^ 16 * dev)

/-- A flit sent onto the links by the origin port: its peer header, and ADDR bits 53:44 cleared (R373). -/
def State.sendPeer (s : State) (p dest : Nat) (f : Flit) : State :=
  s.portSend p { f with route := peerHeader dest s.deviceId 0, addr := f.addr &&& ~~~(BitVec.ofNat 57 (0x3FF <<< 44)) }

end Sys2Proof.Machine
end

