-- ==== Sys2Proof/Machine/JobOps.lean ====
section
/-! DEFINITION. Job tokens (R379) and the job tree's neighbours (R378, R387). -/

namespace Sys2Proof.Machine

/-- Entry k of the JobTokenMap of Stand sd (R391). -/
def State.jobEntry (s : State) (sd k : Nat) : Nat := s.entry (0x7400 + 16 * sd) 3 32 k
/-- JobCtrl.ENABLE (R391). -/
def State.inJob (s : State) (sd : Nat) : Bool := s.bit (0x7400 + 16 * sd) 1 31
/-- JobCtrl.JOB. -/
def State.jobOf (s : State) (sd : Nat) : Nat := s.getF (0x7400 + 16 * sd) 1 16 12
/-- JobCtrl.ROOT. -/
def State.jobRoot (s : State) (sd : Nat) : Bool := s.bit (0x7400 + 16 * sd) 1 10
/-- JobCtrl.PARENT. -/
def State.jobParent (s : State) (sd : Nat) : Nat := s.getF (0x7400 + 16 * sd) 1 0 10
/-- The valid children (R389). -/
def State.jobChildren (s : State) (sd : Nat) : List Nat :=
  (List.range 16).filterMap (fun i =>
    let e := s.entry (0x7400 + 16 * sd) 2 16 i
    if e / 2 ^ 15 % 2 = 1 then some (e % 1024) else none)
/-- The member's neighbours in the tree. -/
def State.jobNeighbours (s : State) (sd : Nat) : List Nat :=
  (if s.jobRoot sd then [] else [s.jobParent sd]) ++ s.jobChildren sd

/-- The node of the job unit's flits: the management interface of F0 (R371). -/
def jobNode : Nat := 59

/-- The job unit sends a SIGNAL to a member; one that cannot be sent is lost (R371, R379). -/
def State.jobSend (s : State) (sd dest : Nat) (data : BitVec 1024) : State :=
  match s.peerPort dest jobNode with
  | .inr _ => s
  | .inl p => s.sendPeer p dest { route := 0, kind := 6, src := jobNode, stand := some (Fin.ofNat 8 sd), cls := 0, run := 0, opx := 0,
                                  txn := 0, addr := 0, data := data }

/-- The payload of a job-token SIGNAL (R304, R379). -/
def tokenData (token count : Nat) : BitVec 1024 := BitVec.ofNat 1024 (token % 65536 + 65536 * (count % 2 ^ 32))

/-- A job-token SIGNAL that has arrived for Stand sd is applied, or discarded and shown in JobStatus (R240, R379). An entry whose grove
the Stand no longer owns counts as not VALID (log entry 28). -/
def State.applyJobToken (s : State) (sd token count : Nat) : State :=
  let e := s.jobEntry sd (token - 0x8000)
  let n := e / 64 % 256
  if e / 2 ^ 31 % 2 = 1 ∧ s.groveOwner n = some sd then s.applySignal n (e / 2 ^ 14 % 64) count
  else s.event (0x7400 + 16 * sd) 4 0x800

/-- A job-token SIGNAL with ALL = 1 travels along the tree from the member it came from (R379). -/
def State.forwardJobToken (s : State) (sd token count : Nat) (origin : Option Nat) : State :=
  (s.jobNeighbours sd).foldl (fun s d => if origin = some d then s else s.jobSend sd d (tokenData token count)) s

/-- An ssig of a job token by grove n (R379): none where it raises SE_TOKEN. -/
def State.signalJob (s : State) (n sd token count : Nat) : Option State :=
  let e := s.jobEntry sd (token - 0x8000)
  if e / 2 ^ 31 % 2 = 0 then none
  else if e / 2 ^ 30 % 2 = 1 then some ((s.applyJobToken sd token count).forwardJobToken sd token count none)
  else
    let dest := e / 2 ^ 20 % 1024
    if s.deviceValid && dest == s.deviceId then some (s.applyJobToken sd token count)
    else
      match s.peerPort dest (groveNode n) with
      | .inr _ => some s
      | .inl p => some (s.sendFlit (groveNode n) (xannusNode p)
          { signalFlit (groveNode n) (some (Fin.ofNat 8 sd)) 0 token count with addr := BitVec.ofNat 57 (dest * 2 ^ 44) })

end Sys2Proof.Machine
end

