-- ==== Sys2Proof/Machine/NetOps.lean ====
section
/-! DEFINITION. What the interfaces of the network share: receive queues, answers and refusals (R304, R316 to R321). -/

namespace Sys2Proof.Machine

/-- The receive queue of a node's interface on a channel. -/
def State.rxQueue (s : State) (node ch : Nat) : List Flit := SMap.get [] s.rx (3 * node + ch)
/-- Sets it. -/
def State.setRx (s : State) (node ch : Nat) (l : List Flit) : State := { s with rx := SMap.set [] s.rx (3 * node + ch) l }

/-- An ERROR sent or met at an interface: LAST_CODE of IfaceStatus, with further status bits (R321, R328). -/
def State.ifaceEvent (s : State) (node code bits : Nat) : State :=
  (s.setF (0x6600 + node / 2) (ifaceSub node 0) 8 8 code).event (0x6600 + node / 2) (ifaceSub node 0) bits

/-- The response of a node to a request: STAND, CLASS, TXN and ADDR bits 56:44 are the request's (R304, R318, R375). -/
def responseFlit (node : Nat) (f : Flit) (kind : BitVec 4) (addr : Nat) (data : BitVec 1024) : Flit :=
  { route := 0, kind := kind, src := node, stand := f.stand, cls := f.cls, run := 0, opx := 0, txn := f.txn,
    addr := BitVec.ofNat 57 (f.addr.toNat / 2 ^ 44 * 2 ^ 44 + addr % 2 ^ 44), data := data }

/-- Sends a response by the route of the request's SRC (R308). -/
def State.respond (s : State) (node : Nat) (f : Flit) (kind : BitVec 4) (addr : Nat) (data : BitVec 1024) : State :=
  s.sendFlit node f.src (responseFlit node f kind addr data)

/-- Answers a request with ERROR (R321); a SIGNAL or DETACH is answered by nothing (R304). -/
def State.respondError (s : State) (node : Nat) (f : Flit) (code bits : Nat) : State :=
  let s := s.ifaceEvent node code bits
  if f.kind = 6 ∨ f.kind = 9 then s else s.respond node f 8 0 (BitVec.ofNat 1024 code)

/-- The Stand that owns an interface, where Stands own it at all (R319). -/
def State.ifaceOwner (s : State) (node : Nat) : Option (Option Nat) :=
  match attachOf node with
  | .grove n => some (s.groveOwner n)
  | .clearing c => some (s.clearingOwner c)
  | _ => none

/-- A node from which NO_STAND requests are accepted: a management interface, or the PCI Express endpoint (R319). -/
def trustedNode (node : Nat) : Bool :=
  match attachOf node with
  | .management _ => true
  | .pcie => true
  | _ => false

/-- A request whose KIND or OPX is reserved (R303, R304, R321): OPX is 0 but in writes, where OP is 0 to 2, and in a READ_REQ, where bits 4:2
are 0. -/
def badFormat (f : Flit) : Bool :=
  f.kind == 0 || decide (0xB ≤ f.kind.toNat) ||
  (match f.kind.toNat with
   | 1 => decide (4 ≤ f.opx.toNat)
   | 3 => f.opx.toNat / 8 == 3
   | 4 => f.opx.toNat / 8 == 3
   | 0xA => f.opx.toNat / 8 == 3
   | _ => f.opx != 0)

/-- The code and status bits with which an interface refuses a request, before its unit sees it; 0 for none (R316, R317, R319, R321). -/
def State.refuses (s : State) (node : Nat) (f : Flit) : Nat × Nat :=
  let standOk := match s.ifaceOwner node with
    | none => true
    | some owner =>
      (match f.stand with
       | some d => owner == some d.val
       | none => trustedNode f.src)
  if badFormat f then (codeFormat, 0)
  else if !standOk then (codeStand, 0x40)
  else
    match attachOf node with
    | .grove n => if s.groveFenced n then (codeFenced, 0) else (0, 0)
    | .clearing c => (s.clearingCode c, 0)
    | _ => (0, 0)

/-- Responses that a node still owes for requests it has accepted (R309): those that a stack's queues or near-memory engine hold, and those
that user logic has not given. -/
def State.responsesOwed (s : State) (node : Nat) : Nat :=
  match attachOf node with
  | .stack k _ =>
    let x := s.stack k
    let waiting := x.port ++ x.pchans.flatMap (fun e => e.2.queues.flatMap (fun q => q.2))
    waiting.countP (fun r => nodeOfAddr r.addr == some node) +
      (if node = stackNode k 0 then (x.nm.map (fun e => e.2.length)).foldl (· + ·) 0 else 0)
  | .clearing c =>
    ((SMap.get Clearing.reset s.clearings c).tags.map (fun e => match e.2 with
      | some u => (if u.req.kind = 1 then u.req.opx.toNat % 4 + 1 else 1) - u.given
      | none => 0)).foldl (· + ·) 0
  | _ => 0

/-- The responses that a request will bring at most (R304). -/
def answersOf (f : Flit) : Nat := if f.kind = 1 then f.opx.toNat % 4 + 1 else if f.kind = 6 ∨ f.kind = 9 then 0 else 1

/-- An interface can reserve the response buffer of a request (R309). -/
def State.canReserve (s : State) (node : Nat) (f : Flit) : Bool :=
  s.sendRoom node 1 (s.responsesOwed node + answersOf f) &&
  (match attachOf node with
   | .xannus p => s.txRoom p 0
   | _ => true)

/-- A wide free value: what comes from a place the model does not hold (log entry 2). -/
def State.drawnWide (s : State) : State × BitVec 1024 :=
  ({ s with free := s.free + 16 },
   BitVec.ofNat 1024 ((List.range 16).foldl (fun acc i => acc + (Config.freeWord (s.free + i)).toNat * 2 ^ (64 * i)) 0))

/-- The 128-byte blocks of a READ_REQ from an address: COUNT_M1 + 1 of them (R303, R304). -/
def readBlocks (f : Flit) : List Nat :=
  (List.range (f.opx.toNat % 4 + 1)).map (fun i => (f.addr.toNat % 2 ^ 44) / 128 * 128 + 128 * i)

/-- Bytes enabled by a mask. -/
def maskOn (mask i : Nat) : Bool := mask / 2 ^ i % 2 == 1

/-- What a write flit writes: address, bytes and enables (R304). -/
def writeParts (f : Flit) : Nat × List Byte × (Nat → Bool) :=
  let a := f.addr.toNat % 2 ^ 44
  if f.kind = 4 then (a / 64 * 64, leBytes 64 (f.data.toNat % 2 ^ 512), maskOn (fld f.data 512 64))
  else (a / 128 * 128, leBytes 128 f.data.toNat, if f.part = 0 then allBytes else maskOn f.part.toNat)

/-- A refused request's answer; a write answered REGION_BUSY leaves free values in the bytes of block RAM that it targets (R317, R321). -/
def State.refuse (s : State) (node : Nat) (f : Flit) (code bits : Nat) : State :=
  let w := writeParts f
  let hit := match regionOf w.1 with | .blockRam _ _ => true | _ => false
  (if code = codeBusy ∧ (f.kind = 3 ∨ f.kind = 4 ∨ f.kind = 0xA) ∧ hit = true then s.clobber w.1 w.2.1.length w.2.2 else s).respondError node f code bits

/-- A unit's interface at the reset of its queue: what it was sending and what it awaited are gone; each request that has arrived is answered
with `code` (R33, R316). -/
def State.resetIface (s : State) (node code : Nat) : State :=
  (s.rxQueue node 0 ++ s.rxQueue node 2).foldl (fun s f => s.refuse node f code 0) (s.resetNode node)

/-! ## Trees (R312, R326) -/

/-- The valid members of a tree: (index, node) (R326). -/
def State.treeMembers (s : State) (t : Nat) : List (Nat × Nat) :=
  (List.range 64).filterMap (fun m =>
    let e := s.entry (0x6800 + t) 2 16 m
    if e / 2 ^ 15 % 2 = 1 then some (m, e % 2048) else none)

/-- The root has detached a member (R314). -/
def State.treeDetached (s : State) (t m : Nat) : Bool := SMap.get 0 s.treeOff (64 * t + m) != 0

/-- The attached members of a tree (R313). -/
def State.attachedMembers (s : State) (t : Nat) : List (Nat × Nat) := (s.treeMembers t).filter (fun m => !s.treeDetached t m.1)

/-- The grove that a node serves. -/
def groveOfNode (node : Nat) : Option Nat := match attachOf node with | .grove n => some n | _ => none

end Sys2Proof.Machine
end

