-- ==== Sys2Proof/Machine/Stands.lean ====
section
/-! DEFINITION. What Stands do (01_architecture.md): what they own, the boundary mirror, the start of a step, and the value checks of
the objects that take effect at a boundary. -/

namespace Sys2Proof.Machine

/-! ## Objects and places in the step discipline (R23, R27, R39) -/

/-- Index of a Stand's control objects (R23). -/
def standIx (d : Nat) : Nat := 0x6100 + 16 * d
/-- StepSeq (R49). -/
def State.stepSeq (s : State) (d : Nat) : U64 := s.obj (standIx d) 5
/-- An event of StandState (R27): 0x10 CONFIG_ERR, 0x20 UNIT_FAILED. -/
def State.standEvent (s : State) (d bits : Nat) : State := s.event (standIx d) 4 bits
/-- StandState.CONFIG_ERR set (R27). -/
def State.standConfigErr (s : State) (d : Nat) : State := s.standEvent d 0x10

/-- The Stand waits at its boundary, with no apply phase pending: held, or released without a step (R24, R502). -/
def State.waitingStand (s : State) (d : Nat) : Bool :=
  (s.stand d).phase == .held || ((s.stand d).phase == .applied && !(s.stand d).done)

/-- The Stand counts as being at a boundary for R28: disabled, in its apply phase or past it (R29). -/
def State.atBoundary (s : State) (d : Nat) : Bool :=
  match (s.stand d).phase with
  | .disabled => true
  | .committed => true
  | .applied => true
  | .held => true
  | _ => false

/-- STATE of StandState (R27). -/
def phaseCode : Phase → Nat
  | .disabled => 0
  | .stepping => 1
  | .drained => 2
  | .committed => 2
  | .applied => 2
  | .held => 3
  | .fenced => 4
  | .recovering => 5

/-- The accepted value of a word that still waits for its effect point. -/
def State.waitingValue (s : State) (key : Nat) : Option U64 := SMap.get none s.accepted key
/-- Sets or drops it. -/
def State.setWaiting (s : State) (key : Nat) (v : Option U64) : State := { s with accepted := SMap.set none s.accepted key v }

/-- HOLD keeps the Stand at its boundary: it is 1 in force, and no 0 has been written since (R24). -/
def State.holds (s : State) (d : Nat) : Bool := s.bit (standIx d) 1 1 && (s.waitingValue (objKey 0 (standIx d) 1 0)).all (fun v => bitOf v 1)

/-- The bank of the dictionary store's waiting values that holds what the NV store still has for a calibration value, and the staging copy of
CalibrationSet (log entry 38). -/
def stagingBank : Nat := 15

/-! ## Assignments: rectangles, shares and memory ranges (R25, R26, R28, R260) -/

/-- Two rectangles share a grove. -/
def rectsMeet (v w : U64) : Bool :=
  decide (fld v 0 4 ≤ fld w 0 4 + fld w 8 4) && decide (fld w 0 4 ≤ fld v 0 4 + fld v 8 4) &&
  decide (fld v 4 4 ≤ fld w 4 4 + fld w 12 4) && decide (fld w 4 4 ≤ fld v 4 4 + fld v 12 4)

/-- Two intervals meet. -/
def meets (a b : Nat × Nat) : Bool := decide (a.1 < b.2) && decide (b.1 < a.2)

/-- The other enabled Stands. -/
def State.others (s : State) (d : Nat) : List Nat := (List.range 8).filter (fun o => o != d && s.enabled o)

/-- The ENABLE = 0 that a Stand has accepted and that its boundary will carry out (R29). -/
def State.leaving (s : State) (d : Nat) : Bool :=
  match s.waitingValue (objKey 0 (standIx d) 1 0) with
  | some v => !bitOf v 0
  | none => false

/-- GroveRect of a Stand. -/
def rectKey (d : Nat) : Nat := objKey 0 (standIx d) 2 0
/-- StackShare of a Stand. -/
def shareKey (d : Nat) : Nat := objKey 0 (standIx d) 3 0
/-- MemRange i + 1 of a Stand (R259). -/
def rangeKey (d i : Nat) : Nat := objKey 0 (0x8100 + d) (i + 1) 0

/-- What a value of an assignment object would claim (R28, R260). -/
inductive Claim where
  /-- GroveRect of a Stand -/
  | rect (d : Nat)
  /-- StackShare of a Stand -/
  | share (d : Nat)
  /-- a MemRange of a Stand -/
  | range (d : Nat)
  deriving DecidableEq, Repr

/-- The Stand of a claim. -/
def Claim.stand : Claim → Nat
  | .rect d => d
  | .share d => d
  | .range d => d

/-- The claim that a word of the dictionary makes; none for every other word. -/
def claimOf (key : Nat) : Option Claim :=
  let ix := key / 2048 / 256 % 65536
  let sb := key / 2048 % 256
  if 0x6100 ≤ ix ∧ ix < 0x6180 ∧ ix % 16 = 0 then
    (if sb = 2 then some (.rect ((ix - 0x6100) / 16)) else if sb = 3 then some (.share ((ix - 0x6100) / 16)) else none)
  else if 0x8100 ≤ ix ∧ ix < 0x8108 then some (.range (ix - 0x8100))
  else none

/-- A word of the dictionary once the words of `t` have taken their accepted values. -/
def State.valueUnder (s : State) (t : List Nat) (key : Nat) : U64 :=
  if t.contains key then (s.waitingValue key).getD (s.word key) else s.word key

/-- The units of 2 MiB of a range value: first and last plus one (R259). -/
def rangeUnits (v : U64) : Nat × Nat := (fld v 0 23, fld v 0 23 + fld v 36 23)

/-- The ranges of a Stand in force (R259). -/
def State.rangesOf (s : State) (d : Nat) : List (Nat × Nat) :=
  (List.range 16).filterMap (fun i => let v := s.obj (0x8100 + d) (i + 1); if bitOf v 63 then some (rangeUnits v) else none)

/-- A memory range lies wholly in the Understory or in the user region of the stacks (R260). -/
def rangeInside (v : U64) : Bool :=
  let u := rangeUnits v
  let a := u.1 * 0x200000
  let b := u.2 * 0x200000
  fld v 36 23 != 0 && (decide (b ≤ 0x0045C0000000) || (decide (understoryBase ≤ a) && decide (b ≤ understoryBase + 0xC0000000)))

/-- The value `v` of a claim breaks none of R25, R26 and R260 once the words of `t` have taken their accepted values and the Stands `gone`
are disabled. `on` says that the claim's own Stand counts as enabled. -/
def State.fits (s : State) (t : List Nat) (gone : Nat → Bool) (on : Bool) (c : Claim) (v : U64) : Bool :=
  let rest := (s.others c.stand).filter (fun o => !gone o)
  match c with
  | .rect _ => rectValid v && rest.all (fun o => !rectsMeet v (s.valueUnder t (rectKey o)))
  | .share _ =>
    (List.range 8).all (fun k =>
      decide ((if on then shareOf v k else 0) + (rest.map (fun o => shareOf (s.valueUnder t (shareKey o)) k)).sum ≤ 16))
  | .range _ =>
    !bitOf v 63 || (rangeInside v && rest.all (fun o => (List.range 16).all (fun i =>
      let w := s.valueUnder t (rangeKey o i)
      !bitOf w 63 || !meets (rangeUnits v) (rangeUnits w))))

/-- A claim fits with the words of `t` taken. -/
def State.fitsWith (s : State) (t : List Nat) (key : Nat) : Bool :=
  match claimOf key with
  | some c => s.fits t (fun _ => false) (s.enabled c.stand) c (s.valueUnder [key] key)
  | none => true

/-- The claims of enabled Stands that wait. -/
def State.waitingClaims (s : State) : List Nat :=
  (s.accepted.filter (fun e => e.2.isSome)).map (fun e => e.1) |>.filter (fun k =>
    match claimOf k with | some c => s.enabled c.stand | none => false)

/-- A claim may fit once every claim that waits has been taken, and the Stands that are to be disabled are (R28, R29). -/
def State.fitsLater (s : State) (key : Nat) : Bool :=
  match claimOf key with
  | some c => s.fits s.waitingClaims s.leaving (s.enabled c.stand) c (s.valueUnder [key] key)
  | none => true

/-- The change moves groves, bandwidth or memory between Stands: it takes what another Stand holds, or another Stand waits for what this
one holds (R28). -/
def State.movesBetween (s : State) (key : Nat) : Bool :=
  !s.fitsWith [] key || s.waitingClaims.any (fun k => k != key && !s.fitsWith [] k)

/-- A waiting claim of an enabled Stand may take effect now as far as its own Stand is concerned: the Stand is at a boundary, and the claim is
one of that boundary's apply phase (R41), moves between Stands (R28), or is of a Stand held for a failed unit (R541). -/
def State.claimReady (s : State) (key : Nat) : Bool :=
  match claimOf key with
  | none => false
  | some c =>
    let x := s.stand c.stand
    s.atBoundary c.stand && ((SMap.get none x.due key).isSome || s.movesBetween key || (x.phase == .held && x.unitFailed))

/-- The claims of `t` that fit with all of `t` taken. -/
def State.fittingOf (s : State) (t : List Nat) : List Nat := t.filter (fun k => s.fitsWith t k)

/-- The claims of `t` without those that do not fit with the rest. -/
def State.jointOf (s : State) (t : List Nat) : List Nat := (List.range t.length).foldl (fun t _ => s.fittingOf t) t

/-- The claims that take effect together: the waiting ones that are ready, without those that do not fit with the rest (R28). -/
def State.jointClaims (s : State) : List Nat := s.jointOf (s.waitingClaims.filter s.claimReady)

/-- The claims that take effect with a claim that may: those it takes effect together with, else it alone. -/
def State.claimsWith (s : State) (key : Nat) : List Nat := if s.jointClaims.contains key then s.jointClaims else [key]

/-- The ready claims of other Stands that waited for what Stand `d` holds (R28). -/
def State.claimsOn (s : State) (d : Nat) : List Nat :=
  s.waitingClaims.filter (fun k => s.claimReady k && !s.fitsWith [] k && (claimOf k).map Claim.stand != some d)

/-! ## Persistent buffers and the boundary mirror (R43 to R47) -/

/-- The persistent entries of a Stand in force: number, first line and length (R43). -/
def State.persistEntries (s : State) (d : Nat) : List (Nat × Nat × Nat) :=
  (List.range 64).filterMap (fun i =>
    let v := s.obj (standIx d + 1) (i + 1)
    if bitOf v 63 then some (i + 1, fld v 0 36, fld v 36 20) else none)

/-- A line is persistent for a Stand (R44). -/
def State.persistLine (s : State) (d line : Nat) : Bool :=
  (s.persistEntries d).any (fun e => decide (e.2.1 ≤ line) && decide (line < e.2.1 + e.2.2))

/-- Every byte of a buffer lies in SRAM that the Stand holds, block RAM in bound blocks (R29, R43, R398); ownership is uniform within
4 KiB. -/
def State.bufferHeld (s : State) (d line len : Nat) : Bool :=
  let a := 256 * line
  let n := 256 * len
  (List.range ((a + n - 1) / 4096 - a / 4096 + 1)).all (fun i =>
    let x := max a ((a / 4096 + i) * 4096)
    isSram x && s.holdsByte d x &&
    (match regionOf x with
     | .blockRam k b =>
       Config.blockBound ((SMap.get Clearing.reset s.clearings (24 * k + b / 192)).image) (24 * k + b / 192) (b % 192)
     | _ => true))

/-- A PersistEntry value may take effect (R43). -/
def State.persistOk (s : State) (d : Nat) (v : U64) : Bool :=
  !bitOf v 63 || (fld v 36 20 != 0 && s.bufferHeld d (fld v 0 36) (fld v 36 20))

/-- A mirror slot of a line. -/
def State.mirrorSlot (s : State) (line slot : Nat) : MirrorSlot := SMap.get MirrorSlot.reset s.mirror (2 * line + slot)

/-- The slot with the highest tag not above the commit record (R47). -/
def State.bestSlot (s : State) (rec : Option U64) (line : Nat) : Option Nat :=
  match rec with
  | none => none
  | some c =>
    let t (k : Nat) : Option U64 := match (s.mirrorSlot line k).tag with
      | some x => if x ≤ c then some x else none
      | none => none
    match t 0, t 1 with
    | none, none => none
    | some _, none => some 0
    | none, some _ => some 1
    | some x, some y => if x ≤ y then some 1 else some 0

/-- Lines that a flush writes: those written during the step, and all lines of entries that took effect since the last commit (R46). -/
def State.flushLines (s : State) (d : Nat) : List Nat :=
  let es := s.persistEntries d
  let inEntry (l : Nat) (e : Nat × Nat × Nat) : Bool := decide (e.2.1 ≤ l) && decide (l < e.2.1 + e.2.2)
  let fresh := es.filter (fun e => SMap.get false (s.stand d).fresh e.1)
  let dirty := (s.written.map (fun e => e.1)).filter (fun l => es.any (inEntry l) && !fresh.any (inEntry l))
  dirty ++ fresh.zipIdx.flatMap (fun (e, i) =>
    ((List.range e.2.2).map (fun k => e.2.1 + k)).filter (fun l => !(fresh.take i).any (inEntry l)))

/-- Flushes a line to the slot that does not hold its newest committed copy, tagged with StepSeq (R45, R46). -/
def State.flushLine (s : State) (d line : Nat) : State :=
  let slot := match s.bestSlot (s.stand d).commitRec line with
    | some 0 => 1
    | _ => 0
  let r := s.readMem (256 * line) 256 (some d) false
  { r.1 with mirror := SMap.set MirrorSlot.reset r.1.mirror (2 * line + slot) ⟨BitVec.ofNat 2048 (ofLe r.2.1), some (s.stepSeq d)⟩ }

/-- The flush of a boundary (R39, R46). -/
def State.flushStand (s : State) (d : Nat) : State :=
  let s := (s.flushLines d).foldl (fun s l => s.flushLine d l) s
  { s with written := SMap.eraseAll s.written (fun l => s.holdsByte d (256 * l)) }

/-- Restores a line from a mirror slot (R47). -/
def State.restoreLine (s : State) (d line : Nat) : State :=
  match s.bestSlot (s.stand d).commitRec line with
  | none => s
  | some k => s.mergeSram (256 * line) (leBytes 256 (s.mirrorSlot line k).data.toNat) allBytes

/-- The restore of every persistent line of a Stand (R47). -/
def State.restoreStand (s : State) (d : Nat) : State :=
  let s := (s.persistEntries d).foldl (fun s e => (List.range e.2.2).foldl (fun s k => s.restoreLine d (e.2.1 + k)) s) s
  { s with written := SMap.eraseAll s.written (fun l => s.holdsByte d (256 * l)) }

/-- Clears the mirror tags of lines (R44). -/
def State.forgetMirror (s : State) (lost : Nat → Bool) : State :=
  { s with mirror := SMap.eraseAll s.mirror (fun k => lost (256 * (k / 2))) }

/-- Entries of a Stand that name a byte it no longer holds lose VALID, and CONFIG_ERR is set (R44). -/
def State.prunePersist (s : State) (d : Nat) : State :=
  let bad := (s.persistEntries d).filter (fun e => !s.bufferHeld d e.2.1 e.2.2)
  if bad.isEmpty then s
  else
    (bad.foldl (fun s e =>
      (s.setObj (standIx d + 1) e.1 (setBit (s.obj (standIx d + 1) e.1) 63 false)).setStand d
        { s.stand d with fresh := SMap.set false (s.stand d).fresh e.1 false }) s).standConfigErr d

/-! ## Memory that moves between Stands (R260) -/

/-- An interval without another. -/
def cutOne (a b : Nat × Nat) : List (Nat × Nat) :=
  if meets a b then ([(a.1, b.1), (b.2, a.2)]).filter (fun x => decide (x.1 < x.2)) else [a]

/-- Intervals without others. -/
def cutAll (xs ys : List (Nat × Nat)) : List (Nat × Nat) := ys.foldl (fun acc y => acc.flatMap (fun x => cutOne x y)) xs

/-- Stand `d` gives up memory: it is free, marked with the Stand that used it; what waited to be filled for it is marked 8 (R260). -/
def State.giveMemory (s : State) (d : Nat) (lost : List (Nat × Nat)) : State :=
  let x := s.stand d
  let raw := x.fills.map (fun f => (f.1 / 0x200000, (f.1 + f.2 + 0x1FFFFF) / 0x200000))
  let used := (cutAll lost raw).map (fun l => (l.1, l.2, d))
  let unfilled := (cutAll lost (cutAll lost raw)).map (fun l => (l.1, l.2, 8))
  let fills := (cutAll (x.fills.map (fun f => (f.1, f.1 + f.2))) (lost.map (fun l => (l.1 * 0x200000, l.2 * 0x200000)))).map
    (fun y => (y.1, y.2 - y.1))
  { s.setStand d { x with fills := fills } with freed := s.freed ++ used ++ unfilled }

/-- Stand `d` gains memory: what another Stand gave up is filled with 0 before its next release (R260). -/
def State.takeMemory (s : State) (d : Nat) (gained : List (Nat × Nat)) : State :=
  let taken := s.freed.flatMap (fun f =>
    gained.filterMap (fun g =>
      let a := max f.1 g.1
      let b := min f.2.1 g.2
      if a < b ∧ f.2.2 ≠ d then some (a * 0x200000, (b - a) * 0x200000) else none))
  let left := s.freed.flatMap (fun f => (cutAll [(f.1, f.2.1)] gained).map (fun x => (x.1, x.2, f.2.2)))
  { s.setStand d { s.stand d with fills := (s.stand d).fills ++ taken } with freed := left }

/-- A fill has been done: what it covered of the ranges that wait (R260). -/
def State.filled (s : State) (base len : Nat) : State :=
  (List.range 8).foldl (fun s d =>
    let x := s.stand d
    if x.fills.isEmpty then s
    else s.setStand d { x with fills := x.fills.flatMap (fun f => (cutOne (f.1, f.1 + f.2) (base, base + len)).map (fun y => (y.1, y.2 - y.1))) }) s

/-- The memory a Stand holds. -/
def State.heldRanges (s : State) (d : Nat) : List (Nat × Nat) := if s.enabled d then s.rangesOf d else []

/-- What follows from a change of what the Stands `ds` hold: mirror tags of lines they lost, moved memory, their persistent entries (R44,
R260). -/
def State.holdingsChanged (old s : State) (ds : List Nat) : State :=
  let s := ds.foldl (fun (t : State) d => if old.enabled d then t.forgetMirror (fun a => old.ownsByte d a && !s.ownsByte d a) else t) s
  let s := ds.foldl (fun t d => t.giveMemory d (cutAll (old.heldRanges d) (s.heldRanges d))) s
  let s := ds.foldl (fun t d => t.takeMemory d (cutAll (s.heldRanges d) (old.heldRanges d))) s
  ds.foldl State.prunePersist s

/-! ## Routes and trees (R307, R312) -/

/-- A route table entry is accepted at its effect point (R305, R307). -/
def State.routeOk (s : State) (node : Nat) (e : BitVec 128) : Bool :=
  match fld e 126 2 with
  | 0 => true
  | 1 =>
    (match routeMoves 32 (fld e 0 96) none 0 with
     | none => false
     | some (ms, _) => (pathFrom (node / 2) ms).isSome)
  | 2 => s.bit (0x6800 + fld e 96 8) 1 31 && s.getF (0x6800 + fld e 96 8) 1 16 11 == node
  | _ => false

/-- The branches of a default route to a member: (router, input it comes in on, output), inputs and outputs numbered as outputs are;
8 for the root's own port (R308, R312). -/
def memberBranches (root member : Nat) : List (Nat × Nat × Nat) :=
  match routeMoves 32 (packCodes (defaultCodes (root / 2) (member / 2))) none 0 with
  | none => []
  | some (ms, _) =>
    match pathFrom (root / 2) ms with
    | none => []
    | some (steps, last) =>
      let ins := 8 :: ms.map (fun m => portNum (oppositePort (portOf m)))
      let outs := steps.map (fun x => x.2) ++ [4 + member % 2]
      ((steps.map (fun x => x.1) ++ [last]).zip (ins.zip outs))

/-- The branches of a tree. -/
def treeBranches (root : Nat) (members : List Nat) : List (Nat × Nat × Nat) := members.flatMap (memberBranches root)

/-- A router receives the tree on two inputs (R312). -/
def treeLoops (bs : List (Nat × Nat × Nat)) : Bool :=
  bs.any (fun b => bs.any (fun c => b.1 == c.1 && b.2.1 != c.2.1))

/-- A tree may be installed: its members are interfaces the owner holds, its root is one of them, no router receives it twice
(R312). -/
def State.treeOk (s : State) (owner root : Nat) (members : List Nat) : Bool :=
  !members.isEmpty && members.contains root &&
  members.all (fun m => s.ifaceOwner m == some (some owner)) && !treeLoops (treeBranches root members)

/-- Installs a tree's branch masks; every member is attached with all its credits (R312, R314). -/
def State.installTree (s : State) (t root : Nat) (members : List Nat) : State :=
  let s := { s with
    treeMasks := SMap.eraseAll s.treeMasks (fun k => k / 400 == t)
    treeOff := SMap.eraseAll s.treeOff (fun k => k / 64 == t)
    treeDebts := SMap.eraseAll s.treeDebts (fun k => k / 64 == t) }
  (treeBranches root members).foldl (fun s b =>
    { s with treeMasks := SMap.set 0 s.treeMasks (400 * t + b.1) (SMap.get 0 s.treeMasks (400 * t + b.1) ||| BitVec.ofNat 6 (2 ^ b.2.2)) }) s

/-- Removes a tree. -/
def State.removeTree (s : State) (t : Nat) : State :=
  { s with treeMasks := SMap.eraseAll s.treeMasks (fun k => k / 400 == t) }

/-! ## The start of a step (R39, R87, R118, R132, R218, R219, R314) -/

/-- A grove at a release: everything in it starts from an empty state, with the launch records of the step. A slot shows the end of its last
stream, its TAG and the STATE of an error, until its next launch (R252, R255). -/
def State.releaseGrove (s : State) (n : Nat) (records : List (BitVec 128)) : State :=
  let mode : BitVec 2 := BitVec.ofNat 2 (s.getF (0x6200 + n) 1 0 2)
  let s := s.setGrove n { Grove.reset with launches := records, modeActive := mode }
  let s := (List.range 4).foldl (fun s t => (s.setTile (4 * n + t) Tile.reset).setCtx (4 * n + t) Context.reset) s
  (List.range 8).foldl (fun s q =>
    let x := s.slot (8 * n + q)
    s.setSlot (8 * n + q) { Slot.reset with tag := x.tag, st := if x.st = .error then .error else .idle }) s

/-- The trees of a Stand: every member is attached again (R314). -/
def State.attachTrees (s : State) (d : Nat) : State :=
  let mine (t : Nat) : Bool := s.bit (0x6800 + t) 1 31 && s.getF (0x6800 + t) 1 27 3 == d
  { s with
    treeOff := SMap.eraseAll s.treeOff (fun k => mine (k / 64))
    treeDebts := SMap.eraseAll s.treeDebts (fun k => mine (k / 64)) }

/-- The Stand is released: LastBoundaryLength holds the time since its last drain point, a free value (R40, log entry 4). -/
def State.noteRelease (s : State) (d : Nat) : State :=
  if (s.stand d).drained then (s.setObj (standIx d) 6 (BitVec.ofNat 64 (s.drawn.toNat % 2 ^ 32))).advance else s

/-- Starts the step `w` of a Stand (R39, R502): from an empty state of its groves and of their interfaces. A failed grove that launch records name ends it with COMMAND_ERROR (R539). -/
def State.startStep (s : State) (d : Nat) (w : StepWork) (attempt : Nat) : State :=
  let x := s.stand d
  let s := s.setStand d { x with
    phase := .stepping, current := some w, done := false, attempt := attempt, failure := 0, failWho := 0, drainDies := 0, barrierDone := false,
    due := [] }
  let s := ((s.grovesOf d).foldl (fun s n => (s.emptyNode (groveNode n)).releaseGrove n w.records) (s.noteRelease d)).attachTrees d
  (s.grovesOf d).foldl (fun s n => if s.groveFailed n then s.failStep n statusCommand unitSlot 0 else s) s

/-- STEPs wait until compute is ready, and a device-wide failed unit stops the release of every Stand (R502, R540, R550). -/
def State.mayStep (s : State) : Bool :=
  s.computeReady && fld (s.objW 0xA002 1 33) 0 16 == 0 && !bitOf (s.objW 0xA002 1 33) 20 && !bitOf (s.objW 0xA002 1 33) 21

/-- An interrupted step starts again (R385, R547); where the device steps no Stand it stays at its boundary (R540). -/
def State.stepAgain (s : State) (d : Nat) (w : StepWork) : State :=
  let x := s.stand d
  if s.mayStep then s.startStep d w (x.attempt + 1)
  else s.setStand d { x with phase := .applied, current := some w, done := false, failure := 0, failWho := 0, drainDies := 0 }

/-! ## Drain (R38, R540) -/

/-- A node's queues hold nothing. -/
def State.quietNode (s : State) (node : Nat) : Bool :=
  (List.range 3).all (fun c => (s.rxQueue node c).isEmpty && (SMap.get [] s.fifos ((6 * (node / 2) + 4 + node % 2) * 3 + c)).isEmpty)

/-- No request of a node awaits a response. -/
def State.settledNode (s : State) (node : Nat) : Bool := (List.range 128).all (fun t => (s.outstAt node t).isNone)

/-- A grove is drained (R38); failed units count in no drain (R540). -/
def State.groveDrained (s : State) (n : Nat) : Bool :=
  let g := s.grove n
  s.groveFailed n ||
  (g.launches.isEmpty &&
   (List.range 8).all (fun q => (s.slot (8 * n + q)).st == .idle || (s.slot (8 * n + q)).st == .error) &&
   (s.engineFailed n || (List.range 4).all (fun t => (s.ctx (4 * n + t)).st == .idle || (s.ctx (4 * n + t)).st == .exception)) &&
   (List.range 4).all (fun t => s.tileFailed (4 * n + t) || (s.tile (4 * n + t)).jobs.isEmpty) &&
   g.queue.isEmpty && g.tsigs.isEmpty &&
   s.quietNode (groveNode n) && s.settledNode (groveNode n))

/-- The Clearings that a Stand owns. -/
def State.clearingsOf (s : State) (d : Nat) : List Nat := (List.range 96).filter (fun c => s.clearingOwner c == some d)

/-- A Clearing is failed (R539). -/
def State.clearingFailed (s : State) (c : Nat) : Bool := s.failedBit 22 c

/-- A Clearing's interface is drained. -/
def State.clearingDrained (s : State) (c : Nat) : Bool :=
  s.clearingFailed c || (s.quietNode (clearingNode c) && s.settledNode (clearingNode c))

/-- A Stand is drained on a die (R38). -/
def State.dieDrained (s : State) (d k : Nat) : Bool :=
  ((s.grovesOf d).filter (fun n => groveDie n == k)).all s.groveDrained &&
  ((s.clearingsOf d).filter (fun c => c / 24 == k)).all s.clearingDrained

/-! ## Completions (R501, R503, R504) -/

/-- A function. -/
def State.func (s : State) (f : Nat) : Func := SMap.get Func.reset s.funcs f
/-- Sets a function. -/
def State.setFunc (s : State) (f : Nat) (x : Func) : State := { s with funcs := SMap.set Func.reset s.funcs f x }
/-- RingCtrl.ENABLE (R513). -/
def State.ringOn (s : State) (f : Nat) : Bool := s.bit (0x6400 + f) 1 0
/-- RingStatus.STOPPED (R514). -/
def State.ringStopped (s : State) (f : Nat) : Bool := s.bit (0x6400 + f) 4 1
/-- An event of RingStatus (R514): 0x8000 DROPPED, 0x4000 BAD_DOORBELL, 2 STOPPED. -/
def State.ringEvent (s : State) (f bits : Nat) : State := s.event (0x6400 + f) 4 bits

/-- A completion goes to its ring; where the ring has been disabled since the entry was fetched it is discarded and counted (R513). -/
def State.complete (s : State) (f : Nat) (c : Completion) : State :=
  let x := s.func f
  if s.ringOn f && x.gen == c.gen then s.setFunc f { x with done := x.done ++ [c] } else s.ringEvent f 0x8000

/-- The completion of a step (R501). -/
def State.stepCompletion (s : State) (d : Nat) (w : StepWork) (status seq : Nat) : Completion :=
  let x := s.stand d
  { w0 := BitVec.ofNat 64 (fld w.w0 16 16 + 2 ^ 16 * status + 2 ^ 24 * min 15 x.attempt + 2 ^ 28 * d + 2 ^ 32 * (seq % 2 ^ 32))
    w1 := if status = 1 ∨ status = 2 then x.failWho.setWidth 64 else 0
    irq := bitOf w.w0 32
    gen := w.gen
    stand := some (Fin.ofNat 8 d)
    id := w.id }

/-- No completion of a Stand waits to be written (R503). -/
def State.completionsWritten (s : State) (d : Nat) : Bool :=
  (List.range 9).all (fun f => !(s.func f).done.any (fun c => c.stand == some (Fin.ofNat 8 d)))

/-- A ring stops (R504). -/
def State.stopRing (s : State) (w : StepWork) : State :=
  if s.ringOn w.func.val && (s.func w.func.val).gen == w.gen then s.ringEvent w.func.val 2 else s

/-- The next step of a Stand: the oldest by doorbell whose ring is not stopped (R502, R504). -/
def State.nextStep (s : State) (d : Nat) : Option StepWork :=
  ((s.stand d).steps.filter (fun w => !s.ringStopped w.func.val)).foldl (fun (best : Option StepWork) w =>
    match best with
    | none => some w
    | some b => if w.bell < b.bell then some w else some b) none

/-- A Stand takes a step from its queue. -/
def State.takeStep (s : State) (d : Nat) (w : StepWork) : State :=
  s.setStand d { s.stand d with steps := (s.stand d).steps.filter (fun v => !(v == w)) }

end Sys2Proof.Machine
end

