-- ==== Sys2Proof/Machine/Effects.lean ====
section
/-! DEFINITION. What an accepted value does when it reaches its step boundary (R12, R28, R29, R41), object by object. -/

namespace Sys2Proof.Machine

/-- Index of a key. -/
def keyIx (key : Nat) : Nat := key / 2048 / 256 % 65536
/-- Subindex of a key. -/
def keySb (key : Nat) : Nat := key / 2048 % 256
/-- Word of a key. -/
def keyWord (key : Nat) : Nat := key % 2048

/-- Whose boundary an object waits for. -/
inductive Due where
  /-- no Stand's: it takes effect at once -/
  | now
  /-- a Stand's -/
  | stand (d : Nat)
  /-- every enabled Stand's (R12) -/
  | all
  /-- another effect point -/
  | other
  deriving DecidableEq, Repr

/-- The Stand that owns the unit a SelfTestReq value names (R561). -/
def State.testOwner (s : State) (v : U64) : Option Nat :=
  let u := fld v 0 16
  match fld v 24 4 with
  | 1 => if s.tileFailed u then none else s.groveOwner (u / 4)
  | 2 => if s.engineFailed u then none else s.groveOwner u
  | 3 => if s.groveFailed u then none else s.groveOwner u
  | _ => none

/-- The most recently accepted TreeCtrl. -/
def State.treeCtrlAccepted (s : State) (t : Nat) : U64 :=
  (s.waitingValue (objKey 0 (0x6800 + t) 1 0)).getD (s.obj (0x6800 + t) 1)

/-- Whose boundary a word of the dictionary waits for (R12, R23, R116, R320, R326, R389, R421, R561). -/
def State.dueOf (s : State) (key : Nat) (v : U64) : Due :=
  let ix := keyIx key
  let own (o : Option Nat) : Due := match o with | some d => .stand d | none => .now
  let st (d : Nat) : Due := if s.enabled d then .stand d else .now
  if 0x6100 ≤ ix ∧ ix < 0x6180 then st ((ix - 0x6100) / 16)
  else if ix = 0x6020 then st (keySb key - 1)
  else if 0x6200 ≤ ix ∧ ix < 0x62E0 then own (s.groveOwner (ix - 0x6200))
  else if 0x6600 ≤ ix ∧ ix < 0x6790 then .all
  else if 0x6800 ≤ ix ∧ ix < 0x6900 then st (fld (s.treeCtrlAccepted (ix - 0x6800)) 27 3)
  else if 0x7400 ≤ ix ∧ ix < 0x7480 then st ((ix - 0x7400) / 16)
  else if 0x8100 ≤ ix ∧ ix < 0x8108 then st (ix - 0x8100)
  else if 0x9100 ≤ ix ∧ ix < 0x9160 then
    (match s.clearingOwner (ix - 0x9100) with
     | some d => .stand d
     | none => if bitOf v 3 then st (fld v 0 3) else .now)
  else if ix = 0xA001 then own (s.testOwner v)
  else .other

/-- A value takes effect: it is in force. -/
def State.takeValue (s : State) (key : Nat) (v : U64) : State := (s.setWord key v).setWaiting key none

/-- Claims take effect together (R28, R260). -/
def State.takeClaims (s : State) (keys : List Nat) : State :=
  let t := keys.foldl (fun t k => match s.waitingValue k with | some v => t.takeValue k v | none => t) s
  State.holdingsChanged s t ((List.range 8).filter (fun d => keys.any (fun k => (claimOf k).map Claim.stand == some d)))

/-- A claim is refused: CONFIG_ERR of its Stand, and the previous value stays in force (R28). -/
def State.refuseClaim (s : State) (d key : Nat) : State := (s.setWaiting key none).standConfigErr d

/-- What becomes of a waiting claim of Stand `d`: in force, by itself or with those it takes effect with; refused; or still waiting (R28, R29). -/
def State.settleClaim (s : State) (d key : Nat) : State :=
  if s.fitsWith [] key then s.takeClaims (s.claimsWith key)
  else if !s.enabled d then s.refuseClaim d key
  else if s.jointClaims.contains key then s.takeClaims s.jointClaims
  else if s.fitsLater key then s
  else s.refuseClaim d key

/-! ## Enabling and disabling (R29) -/

/-- A Stand gives up its groves, Clearings and memory, and STATE reads 0 (R29); what other Stands at a boundary waited for they now take (R28). -/
def State.disableStand (s : State) (d : Nat) (v : U64) : State :=
  let t := s.giveMemory d (s.heldRanges d)
  let t := (t.takeValue (objKey 0 (standIx d) 1 0) v).setStand d { Stand.reset with steps := (s.stand d).steps }
  let t := { t with jobs := SMap.set JobState.reset t.jobs d JobState.reset }.forgetMirror (fun a => s.ownsByte d a)
  t.takeClaims (t.jointOf (s.claimsOn d))

/-- A Stand is created with the objects in force, or refused (R29): STATE 2, StepSeq 0, nothing committed. -/
def State.enableStand (s : State) (d : Nat) (v : U64) : State :=
  if s.fits [] (fun _ => false) true (.rect d) (s.rect d) = true ∧ s.fits [] (fun _ => false) true (.share d) (s.obj (standIx d) 3) = true then
    let x := s.stand d
    let fresh := (s.persistEntries d).foldl (fun m e => SMap.set false m e.1 true) []
    let t := (s.takeValue (objKey 0 (standIx d) 1 0) v).setObj (standIx d) 5 0
    let t := t.setStand d { Stand.reset with phase := .applied, steps := x.steps, fresh := fresh }
    let t := { t with jobs := SMap.set JobState.reset t.jobs d JobState.reset }
    State.holdingsChanged s t [d]
  else (s.setWaiting (objKey 0 (standIx d) 1 0) none).standConfigErr d

/-! ## One object (R41) -/

/-- A PersistEntry (R43, R46). -/
def State.settlePersist (s : State) (d i key : Nat) (v : U64) : State :=
  if s.persistOk d v then
    let t := s.takeValue key v
    t.setStand d { t.stand d with fresh := SMap.set false (t.stand d).fresh i (bitOf v 63) }
  else (s.setWaiting key none).standConfigErr d

/-- Starts the staged release of a Clearing from stage 1 (R407, R409, R410). -/
def State.startRelease (s : State) (c : Nat) : State :=
  let s := { s with clearings := SMap.set Clearing.reset s.clearings c { SMap.get Clearing.reset s.clearings c with issued := 0, acks := [] } }
  (s.setF (0x9100 + c) 2 0 3 2).setF (0x9100 + c) 2 3 2 0

/-- The Stand that a ClearingCtrl value names as owner, whether or not it is enabled (R29, R406). -/
def namedOwner (v : U64) : Option Nat := if bitOf v 3 then some (fld v 0 3) else none

/-- A ClearingCtrl value changes the owner. -/
def State.ownerChanges (s : State) (key : Nat) (v : U64) : Bool := namedOwner (s.word key) != namedOwner v

/-- ClearingCtrl (R406, R409, R424): a change of owner waits until every Stand that gains or loses is at a boundary; R44 holds for the persistent
entries of the Stand that loses the Clearing, disabled or not (R29). -/
def State.settleClearing (s : State) (c key : Nat) (v : U64) : State :=
  let old := namedOwner (s.word key)
  let new := namedOwner v
  let ready (o : Option Nat) : Bool := match o with | some d => s.atBoundary d | none => true
  if old = new ∨ (ready old && ready new) = true then
    let t := s.takeValue key (setBit v 5 false)
    let t := if old = new then t else State.holdingsChanged s t (old.toList ++ new.toList)
    if bitOf v 5 && s.getF (0x9100 + c) 2 0 3 == 5 then t.startRelease c else t
  else s

/-- A route table entry, with both its words (R305, R307). -/
def State.settleRoute (s : State) (r sb e : Nat) : State :=
  let k0 := objKey 0 (0x6600 + r) sb (2 * e)
  let k1 := objKey 0 (0x6600 + r) sb (2 * e + 1)
  let v0 := (s.waitingValue k0).getD (s.word k0)
  let v1 := (s.waitingValue k1).getD (s.word k1)
  if s.routeOk (2 * r + (sb / 16 - 1)) (v1 ++ v0) then (s.takeValue k0 v0).takeValue k1 v1
  else ((s.setWaiting k0 none).setWaiting k1 none).event (0x6600 + r) (sb - 1) 0x20

/-- The members that words of TreeMembers name (R326). -/
def membersOf (words : List U64) : List Nat :=
  words.flatMap (fun w => (List.range 4).filterMap (fun i => if bitOf w (16 * i + 15) then some (fld w (16 * i) 11) else none))

/-- A tree with all its accepted words: installed, removed, or refused (R312, R329). -/
def State.settleTree (s : State) (t : Nat) : State :=
  let ix := 0x6800 + t
  let v := s.treeCtrlAccepted t
  let words := (List.range 16).map (fun w => (s.waitingValue (objKey 0 ix 2 w)).getD (s.objW ix 2 w))
  let keys := objKey 0 ix 1 0 :: (List.range 16).map (fun w => objKey 0 ix 2 w)
  let ms := membersOf words
  if fld v 0 16 = 0 ∨ (bitOf v 31 = true ∧ s.treeOk (fld v 27 3) (fld v 16 11) ms = false) then
    (keys.foldl (fun s k => s.setWaiting k none) s).event ix 3 0x100
  else
    let s := keys.foldl (fun s k => match s.waitingValue k with | some x => s.takeValue k x | none => s) s
    if bitOf v 31 then s.installTree t (fld v 16 11) ms else s.removeTree t

/-- JobCtrl (R378, R387). -/
def State.settleJob (s : State) (d key : Nat) (v : U64) : State :=
  let t := s.takeValue key v
  if v = s.word key then t else { t with jobs := SMap.set JobState.reset t.jobs d JobState.reset }

/-- An accepted word reaches its boundary. -/
def State.settleWord (s : State) (key : Nat) : State :=
  match s.waitingValue key with
  | none => s
  | some v =>
    let ix := keyIx key
    let sb := keySb key
    if 0x6100 ≤ ix ∧ ix < 0x6180 then
      let d := (ix - 0x6100) / 16
      if ix % 16 = 1 then s.settlePersist d sb key v
      else if sb = 2 ∨ sb = 3 then s.settleClaim d key
      else if bitOf v 0 then (if s.enabled d then s.takeValue key v else s.enableStand d v)
      else if s.enabled d then s.disableStand d v
      else s.takeValue key v
    else if 0x6600 ≤ ix ∧ ix < 0x6790 then s.settleRoute (ix - 0x6600) sb (keyWord key / 2)
    else if 0x6800 ≤ ix ∧ ix < 0x6900 then s.settleTree (ix - 0x6800)
    else if 0x7400 ≤ ix ∧ ix < 0x7480 ∧ sb = 1 then s.settleJob ((ix - 0x7400) / 16) key v
    else if 0x8100 ≤ ix ∧ ix < 0x8108 then s.settleClaim (ix - 0x8100) key
    else if 0x9100 ≤ ix ∧ ix < 0x9160 then s.settleClearing (ix - 0x9100) key v
    else if ix = 0xA001 then { s.takeValue key v with selfTest := some v.toNat }
    else s.takeValue key v

/-! ## The objects of a boundary (R28, R39, R41) -/

/-- The accepted words that satisfy `p`. -/
def State.waitingKeys (s : State) (p : Nat → U64 → Bool) : List Nat :=
  s.accepted.filterMap (fun e => match e.2 with | some v => if p e.1 v then some e.1 else none | none => none)

/-- Settles the words that satisfy `p`. -/
def State.settleKeys (s : State) (p : Nat → U64 → Bool) : State := (s.waitingKeys p).foldl State.settleWord s

/-- A waiting ClearingCtrl value may take effect now as far as the Stand it waits for is concerned (R41, R406). -/
def State.clearingReady (s : State) (key : Nat) (v : U64) : Bool :=
  let ix := keyIx key
  decide (0x9100 ≤ ix) && decide (ix < 0x9160) &&
  (match s.dueOf key v with
   | .stand d => s.atBoundary d && (s.ownerChanges key v || (SMap.get none (s.stand d).due key).isSome)
   | .now => true
   | _ => false)

/-- The waiting assignments of groves, bandwidth, memory and Clearings that may take effect now (R28, R406). -/
def State.settleAssignments (s : State) : State :=
  (s.settleKeys (fun k _ => (claimOf k).isSome && s.claimReady k)).settleKeys (fun k v => s.clearingReady k v)

/-- Every Stand is at a boundary: device-wide words may take effect (R12). -/
def State.allAtBoundary (s : State) : Bool := (List.range 8).all s.atBoundary

/-- The accepted words that the apply phase of a Stand's boundary takes: those accepted before the commit (R41, R50). -/
def State.dueWords (s : State) (d : Nat) : SMap (Option U64) :=
  s.accepted.filter (fun e => match e.2 with
    | some v => s.dueOf e.1 v == .stand d || s.dueOf e.1 v == .all
    | none => false)

/-- The buffered writes of a Stand's apply phase (R39, R41): assignments, the Stand's other objects, StandCtrl, and device-wide words. A word
accepted after the commit waits for the next boundary, whatever an older value of its object does. -/
def State.settleStand (s : State) (d : Nat) : State :=
  let ctrl := objKey 0 (standIx d) 1 0
  let due := (s.stand d).due
  let newer := due.filterMap (fun e => match s.waitingValue e.1 with | some v => if e.2 = some v then none else some (e.1, v) | none => none)
  let inDue (k : Nat) : Bool := (SMap.get none due k).isSome
  let s := due.foldl (fun s e => s.setWaiting e.1 e.2) s
  let s := s.settleAssignments
  let s := s.settleKeys (fun k v => k != ctrl && inDue k && (claimOf k).isNone && s.dueOf k v == .stand d)
  let s := if inDue ctrl then s.settleWord ctrl else s
  let s := s.settleAssignments
  let s := if s.allAtBoundary then s.settleKeys (fun k v => inDue k && s.dueOf k v == .all) else s
  let s := newer.foldl (fun s e => s.setWaiting e.1 (some e.2)) s
  s.setStand d { s.stand d with due := [] }

end Sys2Proof.Machine
end

