-- ==== Sys2Proof/Machine/Images.lean ====
section
/-! DEFINITION. Configuration images (13_configuration.md): their format and checks, the non-volatile store, the frames and their
shadow, the scrubber, and the isolation of what is reconfigured. -/

namespace Sys2Proof.Machine

/-! ## The non-volatile store (R427, R428) -/

/-- A byte of the NV store. -/
def State.nvByte (s : State) (a : Nat) : Byte := (SMap.find? s.nv a).getD (Config.nvFactory a)
/-- Writes bytes to the NV store. -/
def State.nvWrite (s : State) (a : Nat) : List Byte → State
  | [] => s
  | b :: t => State.nvWrite { s with nv := SMap.set (Config.nvFactory a) s.nv a b } (a + 1) t

/-- Base of slot A or B. -/
def slotBase (slotB : Bool) : Nat := if slotB then 0x40000000 else 0x04000000
/-- Bytes of a slot. -/
def slotSize : Nat := 960 * 2 ^ 20
/-- Base of the partial image store. -/
def partialBase : Nat := 0x7C000000
/-- Bytes of the partial image store. -/
def partialSize : Nat := 1088 * 2 ^ 20
/-- Base of Heartwood. -/
def heartwoodBase : Nat := 0xC0000000
/-- Bytes of Heartwood. -/
def heartwoodSize : Nat := 1024 * 2 ^ 20

/-- A copy of the boot control record. -/
def State.bootCopy (s : State) (k : Nat) : BootCopy := SMap.get BootCopy.reset s.bootCopies k

/-- The copy in force: the valid one with the higher sequence number (R428). -/
def State.bootBest (s : State) : Option BootCopy :=
  let a := s.bootCopy 0
  let b := s.bootCopy 1
  match a.valid, b.valid with
  | true, true => some (if b.seq ≤ a.seq then a else b)
  | true, false => some a
  | false, true => some b
  | false, false => none

/-- The active slot: true for B (R428). -/
def State.activeB (s : State) : Bool := match s.bootBest with | some c => c.slotB | none => false

/-- Updates the boot control record: the copy with the lower valid sequence number (R428). -/
def State.nameSlot (s : State) (slotB : Bool) : State :=
  let a := s.bootCopy 0
  let b := s.bootCopy 1
  let seq := match s.bootBest with | some c => c.seq + 1 | none => 1
  let k := if !a.valid then 0 else if !b.valid then 1 else if a.seq ≤ b.seq then 0 else 1
  { s with bootCopies := SMap.set BootCopy.reset s.bootCopies k ⟨slotB, seq, true⟩ }

/-! ## The image format (R429 to R431) -/

/-- An image read byte by byte from its offset 0. -/
abbrev ImageSrc := Nat → Byte

/-- A little-endian number of an image. -/
def imgNat (i : ImageSrc) (off n : Nat) : Nat := ofLe ((List.range n).map (fun k => i (off + k)))
/-- Bytes of an image. -/
def imgBytes (i : ImageSrc) (off n : Nat) : List Byte := (List.range n).map (fun k => i (off + k))
/-- KIND. -/
def imgKind (i : ImageSrc) : Nat := imgNat i 0x0A 1
/-- IMAGE_LENGTH. -/
def imgLength (i : ImageSrc) : Nat := imgNat i 0x10 8
/-- RELEASE. -/
def imgRelease (i : ImageSrc) : Nat := imgNat i 0x18 8
/-- SECURITY_VERSION. -/
def imgVersion (i : ImageSrc) : Nat := imgNat i 0x20 4
/-- TARGET_MASK. -/
def imgTargets (i : ImageSrc) : Nat := imgNat i 0x28 4
/-- SIG_OFFSET. -/
def imgSig (i : ImageSrc) : Nat := imgNat i 0x30 8

/-- An entry of the section table. -/
structure Section where
  /-- TYPE -/
  type : Nat
  /-- FLAGS -/
  flags : Nat
  /-- OFFSET -/
  off : Nat
  /-- LENGTH -/
  len : Nat
  /-- TARGET -/
  target : Nat
  deriving DecidableEq, Repr

/-- The section table. -/
def imgSections (i : ImageSrc) : List Section :=
  (List.range (imgNat i 0x24 2)).map (fun k =>
    let o := 0x100 + 32 * k
    { type := imgNat i o 2, flags := imgNat i (o + 2) 2, off := imgNat i (o + 8) 8, len := imgNat i (o + 16) 8, target := imgNat i (o + 24) 8 })

/-- Frames of a region (R432); 0 for a region that is refused. -/
def regionSize (region : Nat) : Nat := if region < 24 then 768 else if region < 80 then 32 else if region = 127 then 256 else 0
/-- First frame of a region within its die. -/
def regionFirst (region : Nat) : Nat :=
  if region < 24 then 768 * region else if region < 80 then 18432 + 32 * (region - 24) else 20224
/-- The package frame number of a frame address (R432). -/
def frameNum (die region frame : Nat) : Nat := 20480 * die + regionFirst region + frame
/-- The region of a package frame number. -/
def frameRegion (f : Nat) : Nat :=
  let x := f % 20480
  if x < 18432 then x / 768 else if x < 20224 then 24 + (x - 18432) / 32 else 127
/-- The frame address of a package frame number (R432). -/
def frameAddr (f : Nat) : Nat :=
  let r := frameRegion f
  2 ^ 30 * (f / 20480) + 2 ^ 23 * r + (f % 20480 - regionFirst r)

/-- A frame address is valid for a KIND (R432, R433). -/
def frameAddrOk (kind a : Nat) : Bool :=
  let die := a / 2 ^ 30
  let region := a / 2 ^ 23 % 128
  let frame := a % 1024
  a / 1024 % 8192 == 0 &&
  (if kind = 1 then decide (frame < regionSize region)
   else die == 0 && region == 0 && decide (frame < (if kind = 2 then 768 else 32)))

/-- The configuration frame records of an image: (frame address, offset of its record). -/
def imgFrames (i : ImageSrc) : List (Nat × Nat) :=
  ((imgSections i).filter (fun x => x.type == 3)).flatMap (fun x =>
    (List.range (x.len / 1032)).map (fun k => (imgNat i (x.off + 1032 * k) 4, x.off + 1032 * k)))

/-- Parts of an image that must not overlap: (offset, length). -/
def imgParts (i : ImageSrc) : List (Nat × Nat) := (imgSig i, 8192) :: (imgSections i).map (fun x => (x.off, x.len))

/-- Check 0x1 of R433 over an image that may be `limit` bytes long. -/
def imageFormOk (i : ImageSrc) (limit : Nat) : Bool :=
  let n := imgLength i
  imgBytes i 0 8 == [0x56, 0x4B, 0x50, 0x58, 0x49, 0x4D, 0x47, 0x31] && imgNat i 8 2 == 1 &&
  (imgKind i == 1 || imgKind i == 2 || imgKind i == 3) && imgNat i 0x0B 1 == 0 && imgNat i 0x0C 4 == 0x881200B0 &&
  decide (1 ≤ imgNat i 0x24 2) && decide (imgNat i 0x24 2 ≤ 64) && imgNat i 0x26 2 == 0 && imgNat i 0x2C 4 == 0 &&
  (imgKind i == 2 || imgTargets i == 0) && decide (n ≤ limit) &&
  (List.range (imgNat i 0x24 2)).all (fun k => imgNat i (0x100 + 32 * k + 4) 4 == 0) &&
  (imgParts i).all (fun p => p.1 % 4096 == 0 && decide (4096 ≤ p.1) && decide (p.1 + p.2 + 8 ≤ n)) &&
  (imgParts i).zipIdx.all (fun (p, k) => ((imgParts i).drop (k + 1)).all (fun q => decide (p.1 + p.2 ≤ q.1) || decide (q.1 + q.2 ≤ p.1))) &&
  ((imgSections i).filter (fun x => x.type == 3)).all (fun x => x.len % 1032 == 0) &&
  (imgFrames i).all (fun f => frameAddrOk (imgKind i) f.1 && imgNat i (f.2 + 4) 4 == 0)

/-- Check 0x2: the CRC-64 of R431. -/
def imageCrcOk (i : ImageSrc) : Bool :=
  let n := imgLength i
  imgNat i (n - 8) 8 == crcBytes 64 0x42F0E1EBA9EA3693 0 (imgBytes i 0 (n - 8))

/-! ## Keys and checks (R433, R565, R566, R581) -/

/-- The 156 bytes of image key set k (R565). -/
def State.keySet (s : State) (k : Nat) : List Byte :=
  ((List.range 20).flatMap (fun w => leBytes 8 (s.objW 0x2002 (k + 1) w).toNat)).take 156

/-- Image key set k is valid with the revocation fuses `fuses` (R565). -/
def State.keySetValid (s : State) (fuses : Nat) (k : Nat) : Bool :=
  Config.sha384 (s.keySet k) == Config.keySetDigest k && Config.keySetDigest k != 0 && fuses / 2 ^ k % 2 == 0

/-- The revocation fuses (R563, R567). -/
def State.fuses (s : State) : Nat := s.getF 0x2002 5 0 4

/-- The key sets whose ECDSA key verifies the image (R566). -/
def State.ecdsaSets (s : State) (fuses : Nat) (i : ImageSrc) : List Nat :=
  (List.range 4).filter (fun k => s.keySetValid fuses k &&
    Config.ecdsaVerify ((s.keySet k).take 96) (Config.sha384 (imgBytes i 0 (imgSig i))) (imgBytes i (imgSig i) 96))

/-- The image passes checks 0x3 and 0x4: the causes 3 and 4, or 0 (R566). -/
def State.signatureCause (s : State) (fuses : Nat) (i : ImageSrc) : Nat :=
  let sets := s.ecdsaSets fuses i
  if sets.isEmpty then 3
  else if sets.any (fun k => Config.hssVerify ((s.keySet k).drop 96) (imgBytes i 0 (imgSig i))
      (imgBytes i (imgSig i + 100) (imgNat i (imgSig i + 96) 4))) then 0
  else 4

/-- The identity of an image: the number its SHA-384 digest spells (log entry 32). -/
def imageId (i : ImageSrc) : Nat := (Config.sha384 (imgBytes i 0 (imgSig i))).toNat

/-- The place holds no image: its header is erased, which this model spells as zeros (R442). -/
def imageEmpty (i : ImageSrc) : Bool := (imgBytes i 0 4096).all (· == 0)

/-- The cause of R433 for an image in a place of `limit` bytes, full or partial; 0 where it is accepted. -/
def State.imageCause (s : State) (i : ImageSrc) (limit : Nat) (full : Bool) : Nat :=
  if imageEmpty i then 7
  else if imageFormOk i limit = false ∨ (imgKind i == 1) ≠ full then 1
  else if imageCrcOk i = false then 2
  else
    let c := s.signatureCause s.fuses i
    if c ≠ 0 then c
    else if imgVersion i < (if full then s.getF 0x2005 1 0 32 else s.getF 0x2005 2 0 32) then 5
    else if Config.banksOk (imageId i) = false then 6
    else 0

/-- An image in the NV store. -/
def State.nvImage (s : State) (base : Nat) : ImageSrc := fun k => s.nvByte (base + k)

/-! ## Decoding (R430, R436) -/

/-- Writes into a map of package frames. -/
def putFrames {α : Type} (m : SMap α) (l : List (Nat × α)) : SMap α := l.foldl (fun m e => SMap.insert m e.1 e.2) m

/-- Contents marked INIT, with the device addresses they go to (R413, R430). For a partial image `unit` is the die and region it is
loaded into. -/
def imgFills (i : ImageSrc) (unit : Option (Nat × Nat)) : List (Nat × List Byte) :=
  ((imgSections i).filter (fun x => x.flags % 2 == 1)).filterMap (fun x =>
    let data := imgBytes i x.off x.len
    match x.type, unit with
    | 5, none => some (bramAddr (x.target / 4608) (x.target % 4608) 0, data)
    | 5, some (d, r) => if r < 24 then some (bramAddr d (192 * r + x.target % 192) 0, data) else none
    | 6, none => some (storeAddr x.target 0, data)
    | 6, some (d, r) => if 24 ≤ r then some (storeAddr (56 * d + (r - 24)) 0, data) else none
    | 7, none => some (x.target, data)
    | _, _ => none)

/-- A decoded image; for a partial image with the die and region it is loaded into (R432, R438). -/
def decodeImage (i : ImageSrc) (unit : Option (Nat × Nat)) : Reconfig :=
  let base (a : Nat) : Nat := match unit with
    | none => frameNum (a / 2 ^ 30) (a / 2 ^ 23 % 128) (a % 1024)
    | some (d, r) => frameNum d r (a % 1024)
  let recs := (imgFrames i).map (fun f => (base f.1, f.2))
  let bits := ((imgSections i).filter (fun x => x.type == 4)).flatMap (fun x =>
    (imgBytes i x.off x.len).flatMap (fun b => (List.range 4).map (fun k => BitVec.ofNat 2 (b.toNat / 4 ^ k))))
  { image := imageId i
    frames := (putFrames [] (recs.map (fun f => (f.1, BitVec.ofNat 8192 (imgNat i (f.2 + 8) 1024))))).filter (fun e => e.2 != 0)
    map := (putFrames [] ((recs.map (fun f => f.1)).zip bits)).filter (fun e => e.2 != 0)
    fills := imgFills i unit
    begun := false
    before := 0 }

/-! ## Frames in the dies and in the shadow (R436, R437) -/

/-- A store of frames whose range [a, a + n) is replaced by another's. -/
def copyRange {α : Type} (into from' : SMap α) (a n : Nat) : SMap α :=
  putFrames (SMap.eraseAll into (fun k => decide (a ≤ k) && decide (k < a + n))) (from'.filter (fun e => decide (a ≤ e.1) && decide (e.1 < a + n)))

/-- Writes the frames [a, a + n) of the dies, with good check bits. -/
def State.writeFrames (s : State) (src : SMap (BitVec 8192)) (a n : Nat) : State :=
  { s with
    cfg := copyRange s.cfg src a n
    cfgDiff := SMap.eraseAll s.cfgDiff (fun w => decide (a ≤ w / 128) && decide (w / 128 < a + n)) }

/-- Frames [a, a + n) of a decoded image become current in the shadow, with their frame map (R413, event 5; R438). -/
def State.writeShadow (s : State) (c : Reconfig) (a n : Nat) : State :=
  { s with
    shadow := copyRange s.shadow c.frames a n
    decoded := copyRange s.decoded c.frames a n
    frameMap := copyRange s.frameMap c.map a n
    shadowDiff := SMap.eraseAll s.shadowDiff (fun w => decide (a ≤ w / 128) && decide (w / 128 < a + n)) }

/-- The first frame and the number of frames of a Clearing. -/
def clearingFrames (c : Nat) : Nat × Nat := (frameNum (c / 24) (c % 24) 0, 768)
/-- The first frame and the number of frames of a grove. -/
def groveFrames (n : Nat) : Nat × Nat := (frameNum (groveDie n) (24 + groveLocal n) 0, 32)

/-- Writes contents marked INIT. -/
def State.writeFills (s : State) (l : List (Nat × List Byte)) : State :=
  l.foldl (fun s x => if isStack x.1 then s.mergeStack x.1 x.2 allBytes else s.mergeSram x.1 x.2 allBytes) s

/-! ## Clearings (R407 to R414, R416) -/

/-- A Clearing. -/
def State.clearing (s : State) (c : Nat) : Clearing := SMap.get Clearing.reset s.clearings c
/-- Sets a Clearing. -/
def State.setClearing (s : State) (c : Nat) (x : Clearing) : State := { s with clearings := SMap.set Clearing.reset s.clearings c x }
/-- STATE of ClearingStatus set (R425). -/
def State.setClearingState (s : State) (c st : Nat) : State := s.setF (0x9100 + c) 2 0 3 st
/-- An event of ClearingStatus (R425): 0x8000 RELEASE_STALL, 0x4000 RECONFIG_FAIL, 0x2000 CONFIG_ERR. -/
def State.clearingEvent (s : State) (c bits : Nat) : State := s.event (0x9100 + c) 2 bits

/-- The banks that a Clearing's configuration drives (R416). -/
def State.banksOf (s : State) (c : Nat) : List Nat := (List.range 8).filter (fun k => Config.bankClearing (s.clearing c).image k == some c)

/-- Every flip-flop and wire register of a Clearing goes to its init value (R395, R407); so do the registers of its banks' pins, which keep
the values driven last (R419, R420, log entry 124). -/
def State.restLogic (s : State) (c : Nat) : State :=
  let banks := s.banksOf c
  { s with
    flops := SMap.eraseAll s.flops (fun k => k / 50000 == c)
    wires := SMap.eraseAll s.wires (fun k => k / 2 ^ 32 == c)
    pins := (s.pins.map (fun e => if banks.contains (e.1 / 48) then (e.1, { PinRegs.reset with last := e.2.last }) else e)).filter
      (fun e => e.2 != PinRegs.reset)
    pairs := SMap.eraseAll s.pairs (fun k => banks.contains (k / 24)) }

/-- A Clearing goes to its held state: its interface's queue is reset; requests that user logic has not answered, and those that have arrived,
are answered with `code`; its registers rest, and its banks take their isolation states (R33, R316, R317, R407, R412). -/
def State.holdClearing (s : State) (c st code : Nat) : State :=
  let node := clearingNode c
  let x := s.clearing c
  let s := s.resetIface node code
  let s := x.tags.foldl (fun s e => match e.2 with | some u => s.refuse node u.req code 0 | none => s) s
  let s := (s.banksOf c).foldl (fun s k => s.setF (0x9200 + k) 1 4 1 0) s
  let s := s.restLogic c
  ((s.setClearing c { x with tags := [], issued := 0, acks := [] }).setClearingState c st).setF (0x9100 + c) 2 3 2 0

/-- The bank declarations of a configuration take effect for its Clearing's banks (R416, R419, R426). -/
def State.declareBanks (s : State) (c : Nat) : State :=
  (s.banksOf c).foldl (fun s k => s.setF (0x9200 + k) 1 2 2 (Config.bankVoltage (s.clearing c).image k).toNat) s

/-- Events 1 to 3 of a reconfiguration, and the start of its release (R413). -/
def State.beginReconfig (s : State) (c : Nat) (r : Reconfig) : State :=
  let s := s.holdClearing c 1 codeBusy
  let s := (s.writeFrames r.frames (clearingFrames c).1 (clearingFrames c).2).writeFills
    (r.fills.filter (fun x => match regionOf x.1 with | .blockRam d b => 24 * d + b / 192 == c | _ => false))
  let s := s.setClearing c { s.clearing c with image := r.image, next := some { r with begun := true, before := (s.clearing c).image } }
  let s := s.declareBanks c
  (s.setClearing c { s.clearing c with issued := 0, acks := [] }).setClearingState c 2

/-- A reconfiguration that waits may begin: the Clearing is unowned, or its owner is at a boundary (R413). -/
def State.mayReconfig (s : State) (c : Nat) : Bool :=
  match s.clearingOwner c with
  | none => true
  | some d => s.atBoundary d

/-- Event 5 of a partial reconfiguration (R413, R438): nothing is left to do but keep BUSY true while another is in progress (R449). -/
def State.endReconfig (s : State) (c : Nat) : State :=
  match (s.clearing c).next with
  | some r =>
    if r.begun then
      let s := (s.writeShadow r (clearingFrames c).1 (clearingFrames c).2).setClearing c { s.clearing c with next := none }
      if s.clearings.any (fun e => e.2.next.isSome) || s.groveNext.any (fun e => e.2.isSome) then s else s.setF 0x5000 9 0 1 0
    else s
  | none => s

/-- The end of phase 4 of a switch: with the last changed Clearing released, the staged copy becomes current (R438, R443). -/
def State.endApply (s : State) : State :=
  match s.switch with
  | some w =>
    if s.getF 0x5000 2 0 4 ≠ 4 ∨ w.current = true ∨ w.changed.any (fun e => e.2 != 0 && s.getF (0x9100 + e.1) 2 0 3 != 3) = true then s
    else
      { s with
        shadow := w.conf.frames, decoded := w.conf.frames, frameMap := w.conf.map, shadowDiff := [], shadowRelease := w.release
        switch := some { w with current := true } }
  | none => s

/-- A reset stops a reconfiguration or a switch of a Clearing: the configuration in force before it comes back (R414, R444). -/
def State.dropReconfig (s : State) (c : Nat) : State :=
  match (s.clearing c).next with
  | some r =>
    if r.begun then
      let s := (s.setClearing c { s.clearing c with next := none, image := r.before }).clearingEvent c 0x4000
      if s.clearings.any (fun e => e.2.next.isSome) || s.groveNext.any (fun e => e.2.isSome) then s else s.setF 0x5000 9 0 1 0
    else s
  | none => s

/-- A grove's reconfiguration, whole within the apply phase of its Stand's boundary (R415, R438). -/
def State.reconfigGrove (s : State) (n : Nat) (r : Reconfig) : State :=
  let f := groveFrames n
  let s := (s.writeFrames r.frames f.1 f.2).writeFills
    (r.fills.filter (fun x => match regionOf x.1 with | .localStore m => m == n | .tileSram t => t / 4 == n | _ => false))
  let s := { s.writeShadow r f.1 f.2 with groveNext := SMap.set none s.groveNext n none }
  if s.clearings.any (fun e => e.2.next.isSome) || s.groveNext.any (fun e => e.2.isSome) then s else s.setF 0x5000 9 0 1 0

/-- A Stand's reconfigurations begin in its apply phase (R413, R415). -/
def State.applyReconfigs (s : State) (d : Nat) : State :=
  let s := (s.grovesOf d).foldl (fun s n => match SMap.get none s.groveNext n with | some r => s.reconfigGrove n r | none => s) s
  (s.clearingsOf d).foldl (fun s c =>
    match (s.clearing c).next with
    | some r => if r.begun then s else s.beginReconfig c r
    | none => s) s

end Sys2Proof.Machine
end

