-- ==== Sys2Proof/Machine/Formats.lean ====
section
/-! DEFINITION. The Berry and Hazel number formats and every conversion between them (02_formats.md, R53 to R80): exact values, the
rounding procedure, special operands, block conversion, integer results, and the functions vrcp, vrsqrt and vexp2. -/

namespace Sys2Proof.Machine

/-! ## Flags (R78), numbered as vgetf reads them (R161) -/

/-- Flags raised by a conversion or operation (R78): INX bit 0, UNF 1, OVF 2, INF 3, NAN 4, IOV 5. -/
abbrev Flags := BitVec 6

/-- INX (R78). -/
def fINX : Flags := 1
/-- UNF (R78). -/
def fUNF : Flags := 2
/-- OVF (R78). -/
def fOVF : Flags := 4
/-- INF (R78). -/
def fINF : Flags := 8
/-- NAN (R78). -/
def fNAN : Flags := 16
/-- IOV (R78). -/
def fIOV : Flags := 32

/-- A value with the flags its rounding raised. -/
structure Rounded where
  /-- the encoding -/
  bits : Nat
  /-- the flags -/
  flags : Flags
  deriving DecidableEq, Repr

/-! ## Exact values -/

/-- The value of an element of any format: NaN, an infinity, a signed zero, or (-1)^neg * g * 2^q with g > 0 (R65). -/
inductive Val where
  | nan
  | inf (neg : Bool)
  | zero (neg : Bool)
  | fin (neg : Bool) (g : Nat) (q : Int)
  deriving DecidableEq, Repr

/-- A Hazel format (R60, R63). -/
structure HFmt where
  /-- fraction bits -/
  fracW : Nat
  /-- exponent bits -/
  expW : Nat
  deriving DecidableEq, Repr

/-- Hazel16 (R60). -/
def hazel16 : HFmt := ⟨9, 6⟩
/-- Hazel32 (R60). -/
def hazel32 : HFmt := ⟨23, 8⟩
/-- Hazel64, the form of the accumulators (R63). -/
def hazel64 : HFmt := ⟨53, 10⟩

/-- Precision: fraction bits and the leading one (R60). -/
def HFmt.prec (f : HFmt) : Nat := f.fracW + 1
/-- The exponent bias (R60, R63). -/
def HFmt.bias (f : HFmt) : Int := (2 ^ (f.expW - 1) : Nat) - 1
/-- The greatest normal exponent (R60). -/
def HFmt.emax (f : HFmt) : Int := f.bias
/-- The least normal exponent (R60). -/
def HFmt.emin (f : HFmt) : Int := 1 - f.bias
/-- The exponent field of infinities and NaN (R61). -/
def HFmt.expOnes (f : HFmt) : Nat := 2 ^ f.expW - 1
/-- The width of an encoding in bits (R60). -/
def HFmt.width (f : HFmt) : Nat := f.fracW + f.expW + 1

/-- The encoding with a sign, an exponent field and a fraction (R60). -/
def HFmt.pack (f : HFmt) (neg : Bool) (x frac : Nat) : Nat :=
  (b2n neg * 2 ^ f.expW + x) * 2 ^ f.fracW + frac

/-- The canonical NaN: exponent all ones and the top fraction bits (R62): 0x7F80 for Hazel16, 0x7FC0_0000 for Hazel32. -/
def HFmt.nan (f : HFmt) : Nat :=
  f.pack false f.expOnes (if f.fracW = 9 then 0x180 else 2 ^ (f.fracW - 1))
/-- The infinity of a sign (R61). -/
def HFmt.infinity (f : HFmt) (neg : Bool) : Nat := f.pack neg f.expOnes 0
/-- The zero of a sign (R61). -/
def HFmt.zero (f : HFmt) (neg : Bool) : Nat := f.pack neg 0 0
/-- The largest finite value of a sign (R62). -/
def HFmt.largest (f : HFmt) (neg : Bool) : Nat := f.pack neg (f.expOnes - 1) (2 ^ f.fracW - 1)

/-- The value of a Hazel encoding (R60, R61): no subnormals, any NaN is NaN. -/
def hazelVal (f : HFmt) (bits : Nat) : Val :=
  let frac := bits % 2 ^ f.fracW
  let x := (bits / 2 ^ f.fracW) % 2 ^ f.expW
  let neg := (bits / 2 ^ (f.fracW + f.expW)) % 2 = 1
  if x = 0 then .zero neg
  else if x = f.expOnes then (if frac = 0 then .inf neg else .nan)
  else .fin neg (2 ^ f.fracW + frac) ((x : Int) - f.bias - f.fracW)

/-! ## Rounding (R64, R65) -/

/-- Rounds the magnitude g * 2^q to a multiple of 2^lsb: the multiple and whether bits were lost (R65).
`g` is unbounded here; the spec's bound g < 2^64 does not enter the result. -/
def roundAt (g : Nat) (q lsb : Int) (rm : Nat) (r : Nat) : Nat × Bool :=
  if lsb ≤ q then (g <<< (q - lsb).toNat, false)
  else
    let k := (lsb - q).toNat
    let kept := g >>> k
    let disc := g - kept <<< k
    let up : Bool :=
      if rm % 4 = 2 then
        (if k ≤ 32 then decide (2 ^ k ≤ disc + r / 2 ^ (32 - k))
         else decide (2 ^ 32 ≤ disc / 2 ^ (k - 32) + r))
      else if rm % 4 = 1 then false
      else decide (2 ^ (k - 1) < disc) || (decide (disc = 2 ^ (k - 1)) && decide (kept % 2 = 1))
    (kept + b2n up, decide (disc ≠ 0))

/-- Conversion of an exact nonzero finite value to a Hazel format (R69). -/
def toHazelFin (f : HFmt) (rm : Nat) (sat : Bool) (r : Nat) (neg : Bool) (g : Nat) (q : Int) : Rounded :=
  let e : Int := q + bitLength g - 1
  let (m, inx) := roundAt g q (e - (f.prec - 1 : Nat)) rm r
  let (m, e) := if m = 2 ^ f.prec then (m / 2, e + 1) else (m, e)
  if f.emax < e then
    (if sat then ⟨f.largest neg, fOVF ||| fINX⟩ else ⟨f.infinity neg, fOVF ||| fINF ||| fINX⟩)
  else if e < f.emin then ⟨f.zero neg, fUNF ||| fINX⟩
  else ⟨f.pack neg (e + f.bias).toNat (m - 2 ^ (f.prec - 1)), if inx then fINX else 0⟩

/-- Conversion of a value to a Hazel format, special values included (R69). -/
def toHazel (f : HFmt) (rm : Nat) (sat : Bool) (r : Nat) : Val → Rounded
  | .nan => ⟨f.nan, fNAN⟩
  | .inf neg => ⟨f.infinity neg, fINF⟩
  | .zero neg => ⟨f.zero neg, 0⟩
  | .fin neg g q => toHazelFin f rm sat r neg g q

/-- Conversion between Hazel encodings of one format: a copy but for exponent-0 inputs and NaN (R71), with the flags that R78 gives a NaN
and an infinite result. -/
def hazelCopy (f : HFmt) (bits : Nat) : Rounded :=
  match hazelVal f bits with
  | .nan => ⟨f.nan, fNAN⟩
  | .zero neg => ⟨f.zero neg, 0⟩
  | .inf neg => ⟨f.infinity neg, fINF⟩
  | .fin _ _ _ => ⟨bits % 2 ^ f.width, 0⟩

/-- The sign of a value. -/
def Val.isNeg : Val → Bool
  | .nan => false
  | .inf n => n
  | .zero n => n
  | .fin n _ _ => n

/-- A value with its sign inverted (R148). -/
def Val.neg : Val → Val
  | .nan => .nan
  | .inf n => .inf (!n)
  | .zero n => .zero (!n)
  | .fin n g q => .fin (!n) g q

/-- A value's magnitude (R148). -/
def Val.abs : Val → Val
  | .nan => .nan
  | .inf _ => .inf false
  | .zero _ => .zero false
  | .fin _ g q => .fin false g q

/-- A signed integer times a power of two. -/
def Val.ofInt (z q : Int) : Val := if z = 0 then .zero false else .fin (decide (z < 0)) z.natAbs q

/-- The exact product with the special operands of R76. -/
def Val.mul : Val → Val → Val
  | .nan, _ => .nan
  | _, .nan => .nan
  | .zero _, .inf _ => .nan
  | .inf _, .zero _ => .nan
  | .inf a, b => .inf (a != b.isNeg)
  | a, .inf b => .inf (a.isNeg != b)
  | .zero a, b => .zero (a != b.isNeg)
  | a, .zero b => .zero (a.isNeg != b)
  | .fin a g q, .fin b h p => .fin (a != b) (g * h) (q + p)

/-- The signed integer that a finite value counts in units of 2^u, for u at most its exponent. -/
def Val.units (u : Int) : Val → Int
  | .fin neg g q => let z : Int := ((g <<< (q - u).toNat : Nat) : Int); if neg then -z else z
  | _ => 0

/-- The exact sum with the special operands of R76. -/
def Val.add : Val → Val → Val
  | .nan, _ => .nan
  | _, .nan => .nan
  | .inf a, .inf b => if a = b then .inf a else .nan
  | .inf a, _ => .inf a
  | _, .inf b => .inf b
  | .zero a, .zero b => .zero (a && b)
  | .zero _, b => b
  | a, .zero _ => a
  | .fin a g q, .fin b h p =>
    let u := min q p
    Val.ofInt ((Val.fin a g q).units u + (Val.fin b h p).units u) u

/-- Less than on numbers, -0 below +0 (R148); false where an operand is NaN. -/
def Val.ltTotal : Val → Val → Bool
  | .nan, _ => false
  | _, .nan => false
  | .inf a, .inf b => a && !b
  | .inf a, _ => a
  | _, .inf b => !b
  | .zero a, .zero b => a && !b
  | .zero _, .fin b _ _ => !b
  | .fin a _ _, .zero _ => a
  | .fin a g q, .fin b h p =>
    let u := min q p
    decide ((Val.fin a g q).units u < (Val.fin b h p).units u)

/-- Equality of numbers: +0 equals -0, NaN equals nothing (R149). -/
def Val.eqNum : Val → Val → Bool
  | .nan, _ => false
  | _, .nan => false
  | .zero _, .zero _ => true
  | a, b => !a.ltTotal b && !b.ltTotal a

/-- The lesser of two values; NaN if either is (R148). -/
def Val.minV (a b : Val) : Val :=
  match a, b with
  | .nan, _ => .nan
  | _, .nan => .nan
  | a, b => if b.ltTotal a then b else a

/-- The greater of two values; NaN if either is (R148). -/
def Val.maxV (a b : Val) : Val :=
  match a, b with
  | .nan, _ => .nan
  | _, .nan => .nan
  | a, b => if a.ltTotal b then b else a

/-- A value correctly rounded from a quotient with a sticky bit: 1 / g to at least 60 bits (R148, vrcp). -/
def Val.rcp : Val → Val
  | .nan => .nan
  | .zero n => .inf n
  | .inf n => .zero n
  | .fin n g q =>
    let k := bitLength g + 60
    let m := 2 ^ k / g
    let sticky := decide (m * g ≠ 2 ^ k)
    .fin n (2 * m + b2n sticky) (-(k : Int) - 1 - q)

/-- The reciprocal square root with a sticky bit (R148, vrsqrt): -0 gives -Inf, +Inf gives +0, a value below zero NaN. -/
def Val.rsqrt : Val → Val
  | .nan => .nan
  | .zero n => .inf n
  | .inf n => if n then .nan else .zero false
  | .fin n g q =>
    if n then .nan
    else
      let (g, q) := if q % 2 = 0 then (g, q) else (2 * g, q - 1)
      let k := bitLength g / 2 + 61
      let m := isqrt (2 ^ (2 * k) / g)
      let sticky := decide (m * m * g ≠ 2 ^ (2 * k))
      .fin false (2 * m + b2n sticky) (-(k : Int) - 1 - q / 2)

/-! ## Berry formats -/

/-- The mantissa width of a Berry format code (R53, R104); 0 for any other code. -/
def berryP (code : Nat) : Nat :=
  match code with
  | 0 => 4 | 1 => 6 | 2 => 8 | 3 => 12 | 4 => 16 | _ => 0

/-- The size of a sub-tile in bytes (R57). -/
def subTileBytes (p : Nat) : Nat := 128 * p + 32

/-- A block of 32 Berry elements: the scale byte and the mantissas (R54). -/
structure Block where
  /-- E -/
  scale : Nat
  /-- the 32 mantissas -/
  m : List Int
  deriving DecidableEq, Repr

/-- The zero block (R54). -/
def Block.zero : Block := ⟨0, List.replicate 32 0⟩

/-- The value of an element of a block of width p (R54, R55). -/
def berryVal (p scale : Nat) (m : Int) : Val :=
  if scale = 0xFF then .nan
  else if scale = 0 then .zero false
  else Val.ofInt m ((scale : Int) - 127 - (p - 1 : Nat))

/-- The values of a block's elements. -/
def Block.vals (p : Nat) (b : Block) : List Val := b.m.map (berryVal p b.scale)

/-- The exponent of the leading one of a value (R70); none for zero and special values. -/
def Val.exp? : Val → Option Int
  | .fin _ g q => some (q + bitLength g - 1)
  | _ => none

/-- A block with the flags of its conversion, and for each element whether its rounded magnitude was replaced because it did not
fit (R70, R109 bin 3). -/
structure BlockResult where
  /-- the block -/
  block : Block
  /-- the flags -/
  flags : Flags
  /-- the scale was clamped at 0xFE -/
  clamped : Bool
  /-- per element: its magnitude was replaced by the largest -/
  held : List Bool
  deriving DecidableEq, Repr

/-- One element of a block conversion at scale exponent x (R70): mantissa, flags, held, flushed. -/
def blockElem (p : Nat) (x : Int) (rm : Nat) (low : Bool) (v : Val) (r : Nat) : Int × Flags × Bool :=
  match v with
  | .fin neg g q =>
    let (mag, inx) := roundAt g q (x - (p - 1 : Nat)) rm r
    let top := 2 ^ (p - 1)
    let excess := if neg then decide (top < mag) else decide (top - 1 < mag)
    let mag' := if excess then top - 1 else mag
    (if neg then -(mag' : Int) else (mag' : Int),
     (if inx then fINX else 0) ||| (if low && mag' == 0 then fUNF else 0), excess)
  | _ => (0, 0, false)

/-- Conversion of 32 values to a block of a Berry format of width p (R70); `r` gives each element's draw. -/
def toBlock (p : Nat) (rm : Nat) (vs : List Val) (r : Nat → Nat) : BlockResult :=
  if vs.any (fun v => match v with | .nan => true | .inf _ => true | _ => false) then
    ⟨⟨0xFF, vs.map (fun _ => 0)⟩, fNAN, false, vs.map (fun _ => false)⟩
  else
    match (vs.filterMap Val.exp?).max? with
    | none => ⟨⟨0, vs.map (fun _ => 0)⟩, 0, false, vs.map (fun _ => false)⟩
    | some top =>
      let x0 := top + 1
      let x := max (-126) (min 127 x0)
      let es : List (Int × Flags × Bool) := vs.zipIdx.map (fun (v, i) => blockElem p x rm (decide (x0 < -126)) v (r i))
      let fl := es.foldl (fun a e => a ||| e.2.1) (if 127 < x0 then fOVF else 0)
      let held := es.map (fun e => e.2.2)
      if es.all (fun e => e.1 == 0) then ⟨⟨0, vs.map (fun _ => 0)⟩, fl, decide (127 < x0), held⟩
      else ⟨⟨(x + 127).toNat, es.map (fun e => e.1)⟩, fl, decide (127 < x0), held⟩

/-- Conversion of a Berry block between widths (R71): copied, widened exactly, or narrowed by R70; a NaN block as the result sets NAN
(R78). -/
def blockToBlock (p1 p2 : Nat) (rm : Nat) (b : Block) (r : Nat → Nat) : BlockResult :=
  if p1 ≤ p2 then
    let special := b.scale == 0 || b.scale == 0xFF || b.m.all (· == 0)
    let scale := if b.scale == 0xFF then 0xFF else if special then 0 else b.scale
    ⟨⟨scale, b.m.map (fun z => if special then 0 else z * 2 ^ (p2 - p1))⟩,
      if b.scale == 0xFF then fNAN else 0, false, b.m.map (fun _ => false)⟩
  else toBlock p2 rm (b.vals p1) r

/-! ## Products of blocks (R73) -/

/-- The partial product of a weight block and an activation block from their exact integer sum (R73). -/
def partialVal (psum : Int) (ea eb pa pb : Nat) : Val :=
  if ea = 0xFF || eb = 0xFF then .nan
  else if ea = 0 || eb = 0 then .zero false
  else Val.ofInt psum ((ea : Int) + eb - 254 - (pa - 1 : Nat) - (pb - 1 : Nat))

/-! ## Integers (R79, R80) -/

/-- An integer result of width n (R79): the encoding and IOV. -/
def intResult (n : Nat) (sat : Bool) (z : Int) : Rounded :=
  let lo : Int := -(2 ^ (n - 1) : Nat)
  let hi : Int := (2 ^ (n - 1) : Nat) - 1
  if z < lo then ⟨toBits n (if sat then lo else z), fIOV⟩
  else if hi < z then ⟨toBits n (if sat then hi else z), fIOV⟩
  else ⟨toBits n z, 0⟩

/-- A Hazel value converted to an integer of width n (R80). -/
def hazelToInt (n : Nat) (rm : Nat) (sat : Bool) (r : Nat) : Val → Rounded
  | .nan => ⟨0, fIOV⟩
  | .inf neg => ⟨if neg then 2 ^ (n - 1) else 2 ^ (n - 1) - 1, fIOV⟩
  | .zero _ => ⟨0, 0⟩
  | .fin neg g q =>
    let (m, inx) := roundAt g q 0 rm r
    let x := intResult n sat (if neg then -(m : Int) else (m : Int))
    ⟨x.bits, x.flags ||| (if inx then fINX else 0)⟩

/-! ## vexp2 (R158, R159) -/

/-- T[j] = 2^(j/64) rounded to the nearest Hazel32 (R158), j below 32. -/
def exp2TableLo : List Nat :=
  [0x3F800000, 0x3F8164D2, 0x3F82CD87, 0x3F843A29, 0x3F85AAC3, 0x3F871F62, 0x3F88980F, 0x3F8A14D5,
   0x3F8B95C2, 0x3F8D1ADF, 0x3F8EA43A, 0x3F9031DC, 0x3F91C3D3, 0x3F935A2B, 0x3F94F4F0, 0x3F96942D,
   0x3F9837F0, 0x3F99E046, 0x3F9B8D3A, 0x3F9D3EDA, 0x3F9EF532, 0x3FA0B051, 0x3FA27043, 0x3FA43516,
   0x3FA5FED7, 0x3FA7CD94, 0x3FA9A15B, 0x3FAB7A3A, 0x3FAD583F, 0x3FAF3B79, 0x3FB123F6, 0x3FB311C4]

/-- T[j], j from 32 (R158). -/
def exp2TableHi : List Nat :=
  [0x3FB504F3, 0x3FB6FD92, 0x3FB8FBAF, 0x3FBAFF5B, 0x3FBD08A4, 0x3FBF179A, 0x3FC12C4D, 0x3FC346CD,
   0x3FC5672A, 0x3FC78D75, 0x3FC9B9BE, 0x3FCBEC15, 0x3FCE248C, 0x3FD06334, 0x3FD2A81E, 0x3FD4F35B,
   0x3FD744FD, 0x3FD99D16, 0x3FDBFBB8, 0x3FDE60F5, 0x3FE0CCDF, 0x3FE33F89, 0x3FE5B907, 0x3FE8396A,
   0x3FEAC0C7, 0x3FED4F30, 0x3FEFE4BA, 0x3FF28177, 0x3FF5257D, 0x3FF7D0DF, 0x3FFA83B3, 0x3FFD3E0C]

/-- The table of R158. -/
def exp2Table (j : Nat) : Nat := (exp2TableLo ++ exp2TableHi).getD j 0

/-- Hazel32 fused multiply-add to nearest even, on encodings (R158). -/
def fma32 (a b c : Nat) : Nat :=
  (toHazel hazel32 0 false 0 (((hazelVal hazel32 a).mul (hazelVal hazel32 b)).add (hazelVal hazel32 c))).bits

/-- Hazel32 product to nearest even, on encodings (R158). -/
def mul32 (a b : Nat) : Nat :=
  (toHazel hazel32 0 false 0 ((hazelVal hazel32 a).mul (hazelVal hazel32 b))).bits

/-- 2^x on a Hazel32 value, by the algorithm of R158. -/
def vexp2H32 (v : Val) (sat : Bool) : Rounded :=
  match v with
  | .nan => ⟨hazel32.nan, fNAN⟩
  | .inf neg => if neg then ⟨0, 0⟩ else ⟨hazel32.infinity false, fINF⟩
  | .zero _ => ⟨0x3F800000, 0⟩
  | .fin neg g q =>
    if 7 ≤ q + bitLength g - 1 then
      (if neg then ⟨0, fUNF ||| fINX⟩
       else if sat then ⟨hazel32.largest false, fOVF ||| fINX⟩
       else ⟨hazel32.infinity false, fOVF ||| fINF ||| fINX⟩)
    else
      let mag : Int := ((roundAt g q (-32) 0 0).1 : Nat)
      let xf : Int := if neg then -mag else mag
      let i : Int := xf / 2 ^ 32
      let lowBits : Nat := (xf % 2 ^ 32).toNat
      let j := lowBits / 2 ^ 26
      let r := lowBits % 2 ^ 26
      let f := if r = 0 then 0 else (toHazelFin hazel32 0 false 0 false r (-32)).bits
      let p := fma32 (fma32 (fma32 0x3D635847 f 0x3E75FDF0) f 0x3F317218) f 0x3F800000
      let y :=
        match hazelVal hazel32 (mul32 (exp2Table j) p) with
        | .fin _ gm qm => toHazelFin hazel32 0 sat 0 false gm (qm + i)
        | other => toHazel hazel32 0 sat 0 other
      let integral := decide (0 ≤ q) || decide (g % 2 ^ (-q).toNat = 0)
      ⟨y.bits, y.flags ||| (if integral then 0 else fINX)⟩

/-- 2^x on a Hazel16 value: widened, R158, then narrowed with RM and SAT; the flags of both steps (R159). -/
def vexp2H16 (v : Val) (rm : Nat) (sat : Bool) (r : Nat) : Rounded :=
  let a := vexp2H32 v sat
  let b := toHazel hazel16 rm sat r (hazelVal hazel32 a.bits)
  ⟨b.bits, a.flags ||| b.flags⟩

end Sys2Proof.Machine
end

