-- ==== Sys2Proof/Machine/Layouts.lean ====
section
/-! DEFINITION. The layouts of tile SRAM: port W (R207, R208), port A (R209, R210), output lines (R211) and sub-tile rows (R57, R58). -/

namespace Sys2Proof.Machine

/-- The number of nibbles of a weight of width w (R82). -/
def nibbleCount (w : Nat) : Nat := (w + 3) / 4

/-- The 32-bit word of plane `i` of a nibble set: sub-tile `sub`, tile column `n` mod 32; its bit c is tile row c mod 32 (R207). -/
def nibWord (ws : WeightSet) (sub i n : Nat) : Nat :=
  fld (ws.lines.getD (2 * sub + i / 2) 0) (8 * (128 * (i % 2) + 4 * (n % 32))) 32

/-- E[b, n] of a weight set (R208). -/
def scaleOf (ws : WeightSet) (b n : Nat) : Nat :=
  fld (ws.scales.getD ((128 * b + n) / 256) 0) (8 * ((128 * b + n) % 256)) 8

/-- The stored plane that gives bit i of a set's nibble: the bits of a top nibble above w - 1 are ignored, and bit w - 1 stands for them
(R82). -/
def signPlane (ws : WeightSet) (i : Nat) : Nat :=
  min i (berryP ws.wfmt.toNat - 1 - 4 * ws.nib.toNat)

/-- The four plane words of the weights of an output over reduction block `b` (R82, R84, R93): forward output = tile column, transposed
output = tile row. -/
def weightPlanes (ws : WeightSet) (axis : Bool) (out b : Nat) : List Nat :=
  (List.range 4).map (fun i =>
    if axis then
      ofBitsLsb ((List.range 32).map (fun c => (nibWord ws (4 * (out / 32) + b) (signPlane ws i) c / 2 ^ (out % 32)) % 2 = 1))
    else nibWord ws (4 * b + out / 32) (signPlane ws i) out)

/-- The weight scale of an output over block `b` (R93, R94). -/
def weightScale (ws : WeightSet) (axis : Bool) (out b : Nat) : Nat :=
  if axis then scaleOf ws (out / 32) (32 * b) else scaleOf ws b out

/-- Every sub-tile of a set has one scale (R94). -/
def squareSet (ws : WeightSet) : Bool :=
  (List.range 4).all (fun b => (List.range 4).all (fun nb =>
    (List.range 32).all (fun c => scaleOf ws b (32 * nb + c) == scaleOf ws b (32 * nb))))

/-- Lines of a Berry wave of V vectors in a format of width p (R210). -/
def waveLines (v p : Nat) : Nat := ((v + 31) / 32 * 4 * subTileBytes p + 255) / 256

/-- Lines of an output wave by format code (R210, R211). -/
def outLines (ofmt v : Nat) : Nat :=
  if ofmt = 5 then v else if ofmt = 6 then 2 * v else waveLines v (berryP ofmt)

/-- The bytes of row `row` of a sub-tile at offset `base`, by plane: offset of plane k's word (R58). -/
def planeOff (base k row : Nat) : Nat := base + 128 * k + 4 * row

/-- A block read from row `row` of a sub-tile whose bytes are `mem` (R57, R58), m = 0 where the scale is 0x00 or 0xFF (R55). -/
def subTileRow (mem : Nat → Nat) (p row : Nat) : Block :=
  let word (k : Nat) : Nat := (List.range 4).foldl (fun acc i => acc + mem (planeOff 0 k row + i) * 256 ^ i) 0
  let scale := mem (128 * p + row)
  let words := (List.range p).map word
  ⟨scale, (List.range 32).map (fun c =>
    if scale = 0 ∨ scale = 0xFF then 0
    else signed p ((words.zipIdx).foldl (fun acc (w, k) => acc + (w / 2 ^ c % 2) * 2 ^ k) 0))⟩

/-- The bytes that row `row` of a sub-tile takes for a block, as (offset, byte) (R57, R58). -/
def subTileWrites (p row : Nat) (b : Block) : List (Nat × Byte) :=
  let blank := b.scale == 0 || b.scale == 0xFF
  (List.range p).flatMap (fun k =>
    let w := (b.m.zipIdx).foldl (fun acc (m, c) => acc + (if blank then 0 else toBits p m / 2 ^ k % 2) * 2 ^ c) 0
    (List.range 4).map (fun i => (planeOff 0 k row + i, BitVec.ofNat 8 (w / 256 ^ i)))) ++
  [(128 * p + row, BitVec.ofNat 8 b.scale)]

/-- Offset of sub-tile 4 (v div 32) + b of a port A wave (R209). -/
def waveSub (p v b : Nat) : Nat := (4 * (v / 32) + b) * subTileBytes p

/-- The vectors of a wave that are fed (R98). -/
def fedVectors (v : Nat) (masked : BitVec 128) : List Nat := (List.range v).filter (fun i => !bitOf masked i)

/-- The bytes of word b of output vector u, as (offset from OLINE, length): outputs 32b to 32b + 31 (R106, R176, R209, R211). -/
def wordPieces (ofmt u b : Nat) : List (Nat × Nat) :=
  if ofmt = 5 then [(256 * u + 64 * b, 64)]
  else if ofmt = 6 then [(512 * u + 128 * b, 128)]
  else (List.range (berryP ofmt)).map (fun k => (planeOff (waveSub (berryP ofmt) u b) k (u % 32), 4)) ++
    [(waveSub (berryP ofmt) u b + 128 * berryP ofmt + u % 32, 1)]

/-- One plane word of block `b` of vector `v` in a wave's bytes (R209). -/
def wavePlane (mem : Nat → Nat) (p v b k : Nat) : Nat :=
  (List.range 4).foldl (fun acc i => acc + mem (waveSub p v b + 128 * k + 4 * (v % 32) + i) * 256 ^ i) 0

/-- The scale of block `b` of vector `v` (R209). -/
def waveScale (mem : Nat → Nat) (p v b : Nat) : Nat := mem (waveSub p v b + 128 * p + v % 32)

end Sys2Proof.Machine
end

