-- ==== Sys2Proof/Machine/Descriptors.lean ====
section
/-! DEFINITION. Tensor descriptors: their words, the device grid, sharding, local layouts and the causes of refusal (R194 to R206). -/

namespace Sys2Proof.Machine

/-- The 24 words of a descriptor as read (R194). -/
abbrev Desc := List U64

/-- Word i. -/
def dw (d : Desc) (i : Nat) : U64 := d.getD i 0
/-- FMT (R195). -/
def dFmt (d : Desc) : Nat := fld (dw d 0) 8 4
/-- The number of dimensions. -/
def dDims (d : Desc) : Nat := fld (dw d 0) 12 3 + 1
/-- BLOCK_DIM. -/
def dBlock (d : Desc) : Nat := fld (dw d 0) 16 3
/-- ROW_DIM. -/
def dRow (d : Desc) : Nat := fld (dw d 0) 19 3
/-- STORAGE. -/
def dStorage (d : Desc) : Nat := fld (dw d 0) 22 2
/-- STAND. -/
def dStand (d : Desc) : Nat := fld (dw d 0) 24 3
/-- MULTI. -/
def dMulti (d : Desc) : Bool := bitOf (dw d 0) 27
/-- SPACE. -/
def dSpace (d : Desc) : Nat := fld (dw d 0) 32 4
/-- BASE. -/
def dBase (d : Desc) : Nat := (dw d 1).toNat
/-- SCALE_BASE. -/
def dScaleBase (d : Desc) : Nat := (dw d 2).toNat
/-- A Berry format. -/
def dBerry (d : Desc) : Bool := decide (dFmt d ≤ 4)
/-- The split-array form (R205). -/
def dSplit (d : Desc) : Bool := dBerry d && decide (dStorage d = 1)
/-- The element size of a Hazel format in bytes. -/
def dElem (d : Desc) : Nat := if dFmt d = 5 then 2 else 4
/-- EXTENT of dimension k (R196). -/
def dExtent (d : Desc) (k : Nat) : Nat := fld (dw d (8 + 2 * k)) 0 48
/-- MODE. -/
def dMode (d : Desc) (k : Nat) : Nat := fld (dw d (8 + 2 * k)) 48 2
/-- GRID_AXIS. -/
def dAxis (d : Desc) (k : Nat) : Nat := fld (dw d (8 + 2 * k)) 50 2
/-- C. -/
def dChunk (d : Desc) (k : Nat) : Nat := fld (dw d (8 + 2 * k)) 52 12 + 1
/-- STRIDE. -/
def dStride (d : Desc) (k : Nat) : Int := signed 48 (fld (dw d (9 + 2 * k)) 0 48)

/-! ## The grid (R197, R198) -/

/-- Devices along axis a. -/
def gridN (d : Desc) (a : Nat) : Nat := fld (dw d 3) (10 + 10 * a) 10 + 1
/-- The device at a coordinate (R198). -/
def gridDev (d : Desc) (c : Nat × Nat × Nat) : Nat :=
  (fld (dw d 3) 0 10 + c.1 * fld (dw d 4) 0 10 + c.2.1 * fld (dw d 4) 10 10 + c.2.2 * fld (dw d 4) 20 10) % 1024
/-- Every coordinate of the grid. -/
def gridAll (d : Desc) : List (Nat × Nat × Nat) :=
  (List.range (gridN d 0 * gridN d 1 * gridN d 2)).map (fun i =>
    (i % gridN d 0, i / gridN d 0 % gridN d 1, i / (gridN d 0 * gridN d 1)))
/-- The coordinate that names a device (R198). -/
def gridOf (d : Desc) (dev : Nat) : Option (Nat × Nat × Nat) := (gridAll d).find? (fun c => gridDev d c == dev)
/-- A coordinate along axis a. -/
def axisOf (c : Nat × Nat × Nat) (a : Nat) : Nat := if a = 0 then c.1 else if a = 1 then c.2.1 else c.2.2
/-- A coordinate with its axis a set. -/
def setAxis (c : Nat × Nat × Nat) (a v : Nat) : Nat × Nat × Nat :=
  if a = 0 then (v, c.2) else if a = 1 then (c.1, v, c.2.2) else (c.1, c.2.1, v)

/-! ## Sharding (R199) -/

/-- The mode in force: with MULTI = 0 every dimension is replicated (R195). -/
def shardMode (d : Desc) (k : Nat) : Nat := if dMulti d then dMode d k else 0
/-- B of a blocked dimension. -/
def blockLen (d : Desc) (k : Nat) : Nat := (dExtent d k + gridN d (dAxis d k) - 1) / gridN d (dAxis d k)

/-- The local extent of dimension k at a coordinate (R199). -/
def localExtent (d : Desc) (c : Nat × Nat × Nat) (k : Nat) : Nat :=
  let e := dExtent d k
  let n := gridN d (dAxis d k)
  let i := axisOf c (dAxis d k)
  match shardMode d k with
  | 1 => min (blockLen d k) (e - i * blockLen d k)
  | 2 =>
    let ch := dChunk d k
    let q := e / ch
    ch * (q / n + (if i < q % n then 1 else 0)) + (if i = q % n then e % ch else 0)
  | _ => e

/-- The coordinate along its axis that holds a global index, and the local index there (R199); none for a replicated dimension. -/
def holderOf (d : Desc) (k g : Nat) : Option Nat × Nat :=
  let n := gridN d (dAxis d k)
  match shardMode d k with
  | 1 => (some (g / blockLen d k), g % blockLen d k)
  | 2 =>
    let ch := dChunk d k
    (some (g / ch % n), g / ch / n * ch + g % ch)
  | _ => (none, g)

/-- The device that holds a global index vector, its coordinate and the local index vector (R199, R231); a replicated dimension is
served from the coordinate of the using device. -/
def resolve (d : Desc) (own : Nat × Nat × Nat) (g : List Nat) : Nat × (Nat × Nat × Nat) × List Nat :=
  let hs := g.zipIdx.map (fun (x, k) => holderOf d k x)
  let c := hs.zipIdx.foldl (fun c (h, k) => match h.1 with | some v => setAxis c (dAxis d k) v | none => c) own
  (gridDev d c, c, hs.map (fun h => h.2))

/-! ## Local layouts (R202 to R205) -/

/-- The local extents at a coordinate. -/
def extentsAt (d : Desc) (c : Nat × Nat × Nat) : List Nat := (List.range (dDims d)).map (localExtent d c)

/-- Units along a dimension of a footprint: sub-tiles along ROW_DIM and BLOCK_DIM of a bit-plane tensor, else elements. -/
def unitsAlong (d : Desc) (es : List Nat) (k : Nat) : Nat :=
  let e := es.getD k 0
  if dBerry d && !dSplit d && (decide (k = dRow d) || decide (k = dBlock d)) then (e + 31) / 32 else e

/-- The number of elements of a shard. -/
def elements (es : List Nat) : Nat := es.foldl (· * ·) 1

/-- The footprints of a shard as (first byte, last byte): the values, and the scales of a split-array tensor (R205, R206). -/
def footprints (d : Desc) (es : List Nat) : List (Int × Int) :=
  if es.any (· == 0) then []
  else if dSplit d then
    [((dBase d : Int), (dBase d : Int) + (berryP (dFmt d) * elements es + 7) / 8 - 1),
     ((dScaleBase d : Int), (dScaleBase d : Int) + elements es / 32 - 1)]
  else
    let last (k : Nat) : Int := ((unitsAlong d es k - 1 : Nat) : Int) * dStride d k
    let size : Int := if dBerry d then subTileBytes (berryP (dFmt d)) else dElem d
    let lo := (List.range (dDims d)).foldl (fun a k => a + min 0 (last k)) (dBase d : Int)
    let hi := (List.range (dDims d)).foldl (fun a k => a + max 0 (last k)) (dBase d : Int)
    [(lo, hi + size - 1)]

/-- The address of a Hazel element (R202). -/
def hazelAt (d : Desc) (l : List Nat) : Int :=
  l.zipIdx.foldl (fun a (x, k) => a + (x : Int) * dStride d k) (dBase d : Int)

/-- A block of a Berry tensor: the sub-tile's address and the row (R203), or the block's values and scale addresses (R205); `real` is
the number of elements that are no pad (R204). -/
inductive BlockAt where
  | row (base : Int) (row real : Nat)
  | split (values scale : Int)
  deriving DecidableEq, Repr

/-- The block at a local index vector whose component along BLOCK_DIM counts blocks (R203, R205, R230). -/
def blockAt (d : Desc) (es l : List Nat) : BlockAt :=
  if dSplit d then
    let f := (l.zipIdx.foldr (fun (x, k) acc => (if k = 0 then 32 * x else x) + es.getD k 1 * acc) 0)
    .split ((dBase d : Int) + (4 * berryP (dFmt d) * (f / 32) : Nat)) ((dScaleBase d : Int) + (f / 32 : Nat))
  else
    let base := l.zipIdx.foldl (fun a (x, k) =>
      a + ((if k = dRow d then x / 32 else x : Nat) : Int) * dStride d k) (dBase d : Int)
    let r := l.getD (dRow d) 0
    let real := if es.getD (dRow d) 0 ≤ r then 0 else min 32 (es.getD (dBlock d) 0 - 32 * l.getD (dBlock d) 0)
    .row base (r % 32) real

/-! ## Refusal (R206) -/

/-- A grid that breaks R198, or a grid axis named by two sharded dimensions (R200). -/
def badGrid (d : Desc) : Bool :=
  decide (1024 < gridN d 0 * gridN d 1 * gridN d 2) || !decide ((gridAll d).map (gridDev d)).Nodup ||
  (List.range 3).any (fun a => decide (1 <
    ((List.range (dDims d)).filter (fun k => (dMode d k == 1 || dMode d k == 2) && dAxis d k == a)).length))

/-- Blocking that breaks R201. -/
def badBlocking (d : Desc) : Bool :=
  dBerry d && dMulti d &&
  (let k := dBlock d
   (decide (dMode d k = 1) && decide (2 ≤ gridN d (dAxis d k)) && decide (blockLen d k % 32 ≠ 0)) ||
   (decide (dMode d k = 2) && decide (dChunk d k % 32 ≠ 0)))

/-- The footprints are refused: they leave the space, or a byte of the device map, of whatever memory, is not the Stand's (R206, code 0x8;
log entry 44). -/
def badFootprint (d : Desc) (es : List Nat) (owned : Nat → Nat → Bool) : Bool :=
  (footprints d es).any (fun f =>
    decide (f.1 < 0) ||
    (if dSpace d = 1 then decide ((2 ^ 64 : Int) ≤ f.2)
     else
       let a := f.1.toNat
       let n := (f.2 - f.1 + 1).toNat
       decide ((2 ^ 44 : Int) ≤ f.2) || !owned a n))

/-- The code of R206 for a descriptor used by Stand `sd` on device `dev`; 0 where it is accepted. The causes are taken in the table's
order (log entry 27). -/
def descCode (d : Desc) (sd dev : Nat) (owned : Nat → Nat → Bool) : Nat :=
  let ks := List.range (dDims d)
  let c := if dMulti d then gridOf d dev else some (0, 0, 0)
  let es := extentsAt d (c.getD (0, 0, 0))
  if fld (dw d 0) 0 8 ≠ 1 ∨ 6 < dFmt d ∨ 1 < dSpace d ∨ (dBerry d && decide (1 < dStorage d)) = true ∨
      (ks.any (fun k => dMode d k == 3 || ((dMode d k == 1 || dMode d k == 2) && dAxis d k == 3))) = true then 1
  else if (ks.any (fun k => dExtent d k == 0)) = true ∨
      (dBerry d && !dSplit d && (decide (dDims d ≤ dBlock d) || decide (dDims d ≤ dRow d) || decide (dBlock d = dRow d))) = true then 2
  else if (dMulti d && badGrid d) = true then 3
  else if badBlocking d then 4
  else if (!dSplit d && (let u : Nat := if dBerry d then 32 else dElem d
      decide (dBase d % u ≠ 0) || ks.any (fun k => decide (dStride d k % (u : Int) ≠ 0)))) = true then 5
  else if (dSplit d && (decide (dBlock d ≠ 0) || ks.any (fun k => decide (dStride d k ≠ 0)) || decide (es.getD 0 0 % 32 ≠ 0))) = true
    then 6
  else if dStand d ≠ sd ∨ c = none then 7
  else if badFootprint d es owned then 8
  else 0

end Sys2Proof.Machine
end

