-- ==== Sys2Proof/Machine/Reduce.lean ====
section
/-! DEFINITION. Additions and maxima into a destination (R235, R275), with the OPX of R303. -/

namespace Sys2Proof.Machine

/-- OP of an OPX (R303). -/
def opxOp (x : Nat) : Nat := x / 8 % 4
/-- The destination format of an OPX (R303). -/
def opxFmt (x : Nat) : HFmt := if x % 2 = 1 then hazel16 else hazel32
/-- The OPX of an operation, a rounding mode, a saturate bit and a format (R303). -/
def opxOf (op rm : Nat) (sat h16 : Bool) : Nat := 8 * op + 4 * b2n (decide (rm % 4 = 1)) + 2 * b2n sat + b2n h16

/-- The destination value after the operation of an OPX (R235, R76, R148): one rounding to the destination format. -/
def reduceValue (opx old new : Nat) : Rounded :=
  let f := opxFmt opx
  let a := hazelVal f old
  let b := hazelVal f new
  toHazel f (opx / 4 % 2) (opx / 2 % 2 == 1) 0 (if opxOp opx = 1 then a.add b else a.maxV b)

/-- The bytes that an operation leaves, element by element; elements that are not enabled keep their value. -/
def reduceBytes (opx : Nat) (old new : List Byte) (en : Nat → Bool) : List Byte × Flags :=
  let w := (opxFmt opx).width / 8
  (List.range (new.length / w)).foldl (fun acc i =>
    let o := ofLe (sliceBytes old (w * i) w)
    if en (w * i) then
      let r := reduceValue opx o (ofLe (sliceBytes new (w * i) w))
      (acc.1 ++ leBytes w r.bits, acc.2 ||| r.flags)
    else (acc.1 ++ leBytes w o, acc.2)) ([], 0)

/-- An operation on the bytes at `a`, as one operation on its line (R275): the state, the flags, and the answer's code. -/
def State.reduceAs (s : State) (who : Option Nat) (a : Nat) (data : List Byte) (en : Nat → Bool) (opx : Nat) : State × Flags × Nat :=
  let r := s.readAs who a data.length
  if r.2.2 ≠ 0 then (r.1, 0, r.2.2)
  else
    let x := reduceBytes opx r.2.1 data en
    let w := r.1.writeAs who a x.1 en
    (w.1, if w.2 = 0 then x.2 else 0, w.2)

end Sys2Proof.Machine
end

