-- ==== Sys2Proof/Machine/Dram.lean ====
section
/-! DEFINITION. The controller of a root stack: queues, the command scheduler and its timings, and the service of a request (R265 to
R275, R293). -/

namespace Sys2Proof.Machine

/-- A pseudo-channel. -/
def Stack.pchan (k : Stack) (c : Nat) : PChan := SMap.get PChan.reset k.pchans c
/-- Sets a pseudo-channel. -/
def Stack.setPchan (k : Stack) (c : Nat) (p : PChan) : Stack := { k with pchans := SMap.set PChan.reset k.pchans c p }

/-- The bank of an object's value in force at one pseudo-channel (R279): banks from 16 of the object store. -/
def windowBank (k c : Nat) : Nat := 16 + 32 * k + c

/-- A memory object's word in force at a pseudo-channel: the buffered value it has taken, else the value of the whole stack (R279). -/
def State.inWindow (s : State) (k c ix sb w : Nat) : U64 :=
  let key := objKey 0 ix sb w
  if SMap.get 0 s.windowTaken (256 * key + 32 * k + c) = 0 then s.word key else s.word (objKey (windowBank k c) ix sb w)

/-- Timing t of DramTiming at a pseudo-channel, entries in the rows' order, left before right (R293, log entry
31): burst 0, tRRD_S 1, tRCD 2, tRRD_L 3, tRP 4, tFAW 5, tRAS 6, tWR 7, tRC 8, tRTP 9, tCCD_S 10, tWTR_S 11, tCCD_L 12, tWTR_L 13, read
latency 14, tRTW 15, write latency 16, tREFI 17, tRFC 18, probe time 19. -/
def State.dramT (s : State) (k c t : Nat) : Nat := fld (s.inWindow k c (0x8020 + k) 3 (t / 4)) (16 * (t % 4)) 16

/-! ## Urgency and shares (R273, R274, R288) -/

/-- A request of the stack's own near-memory engine (R288). -/
def ownEngine (k : Nat) (r : StackReq) : Bool := r.cls == 5 && (match attachOf r.node with | .stack j _ => j == k | _ => false)

/-- The slice group served by the engine holds the pseudo-channel (R288). -/
def State.inSlice (s : State) (k c : Nat) : Bool := (s.stack k).sliceGroup == c / 4

/-- Urgency of a request at DCLK `now` (R273); in its slice a request of the stack's own engine has urgency 2 at least (R288). -/
def State.urgency (s : State) (k c : Nat) (r : StackReq) (now : Nat) : Nat :=
  let t := fld (s.inWindow k c 0x8010 (r.cls + 1) 0) 0 16
  let age := now - r.since
  let u := if t ≤ age then 3 else if 3 * t ≤ 4 * age then 2 else if t ≤ 2 * age then 1 else 0
  if ownEngine k r && s.inSlice k c then max 2 u else u

/-- SHARE_Mn of a Stand (R26). -/
def State.stackShare (s : State) (d k : Nat) : Nat := shareOf (s.obj (0x6100 + 16 * d) 3) k

/-- The Stand to which a request belongs; a request of class 6 belongs to none (R274). -/
def reqStand (r : StackReq) : Option Nat := if r.cls = 6 then none else r.stand.map (fun d => d.val)

/-- Counts bytes that a stack serves to a Stand in the present window (R274). -/
def State.countServed (s : State) (k : Nat) (who : Option Nat) (n : Nat) : State :=
  match who with
  | some d => if s.enabled d then s.setStack k { s.stack k with served := SMap.set 0 (s.stack k).served d (SMap.get 0 (s.stack k).served d + n) } else s
  | none => s

/-- The request's Stand is below its guaranteed share (R274). -/
def State.belowShare (s : State) (k : Nat) (r : StackReq) : Bool :=
  match reqStand r with
  | none => false
  | some d => s.enabled d && decide (SMap.get 0 (s.stack k).served d < s.stackShare d k * 524288)

/-! ## Timings (R293) -/

/-- Level of a bank index 16 · level + 4 · group + bank. -/
def bankLevel (b : Nat) : Nat := b / 16
/-- Bank group, with its level. -/
def bankGroup (b : Nat) : Nat := b / 4

/-- At least `gap` DCLK have passed since every issue in the history that satisfies `p`. -/
def since (h : List DramIssue) (now gap : Nat) (p : DramIssue → Bool) : Bool :=
  h.all (fun x => !p x || decide (x.at' + gap ≤ now))

/-- The command for a bank breaks no timing (R272, R293); a hot root die activates half as often (R529). -/
def State.timingOk (s : State) (k c : Nat) (p : PChan) (cmd : DramCmd) (b : Nat) : Bool :=
  let t := s.dramT k c
  let h := p.history
  let now := p.cycle
  let same (x : DramIssue) : Bool := x.bank == b
  let group (x : DramIssue) : Bool := bankGroup x.bank == bankGroup b
  let col (x : DramIssue) : Bool := x.cmd == .rd || x.cmd == .wr
  match cmd with
  | .act =>
    since h now (t 8) (fun x => x.cmd == .act && same x) && since h now (t 4) (fun x => x.cmd == .pre && same x) &&
    since h now (t 1) (fun x => x.cmd == .act && bankLevel x.bank == bankLevel b) &&
    since h now (t 3) (fun x => x.cmd == .act && group x) &&
    decide ((h.filter (fun x => x.cmd == .act && bankLevel x.bank == bankLevel b && decide (now < x.at' + t 5))).length < (if SMap.get false s.stackHot k then 2 else 4))
  | .pre =>
    since h now (t 6) (fun x => x.cmd == .act && same x) && since h now (t 9) (fun x => x.cmd == .rd && same x) &&
    since h now (t 16 + t 0 + t 7) (fun x => x.cmd == .wr && same x)
  | .rd =>
    since h now (t 2) (fun x => x.cmd == .act && same x) && since h now (t 10) col && since h now (t 12) (fun x => col x && group x) &&
    since h now (t 16 + t 0 + t 11) (fun x => x.cmd == .wr) && since h now (t 16 + t 0 + t 13) (fun x => x.cmd == .wr && group x)
  | .wr =>
    since h now (t 2) (fun x => x.cmd == .act && same x) && since h now (t 10) col && since h now (t 12) (fun x => col x && group x) &&
    since h now (t 15) (fun x => x.cmd == .rd)

/-! ## Choosing (R271, R272) -/

/-- The position of a bank in the pointer's order: p names level p mod 3, group p mod 4, bank p div 12 (R271). -/
def pointerOf (b : Nat) : Nat :=
  ((List.range 48).find? (fun p => 16 * (p % 3) + 4 * (p % 4) + p / 12 == b)).getD 0

/-- A candidate: the bank, its request, the command it needs and its urgency. -/
structure Candidate where
  bank : Nat
  req : StackReq
  cmd : DramCmd
  urgency : Nat

/-- The requests of a bank that may be served: those with no earlier request for the same line before them (R270). -/
def frontOfLines : List StackReq → List Nat → List StackReq
  | [], _ => []
  | r :: t, seen => if seen.contains (r.addr / 256) then frontOfLines t seen else r :: frontOfLines t (r.addr / 256 :: seen)

/-- Every request waiting in a pseudo-channel. -/
def PChan.waiting (p : PChan) : List StackReq := p.queues.flatMap (fun e => e.2)

/-- The writes may be issued: a batch is open, or one may start (R272). -/
def State.writesOpen (s : State) (k c : Nat) (p : PChan) : Bool :=
  let ws := p.waiting.filter (fun r => r.write)
  decide (0 < p.batch) || decide (32 ≤ ws.length) || p.waiting.all (fun r => r.write) || ws.any (fun r => s.urgency k c r p.cycle == 3)

/-- The candidates of this cycle; outside its slice the engine's own requests wait (R288). -/
def State.candidates (s : State) (k c : Nat) (p : PChan) : List Candidate :=
  p.queues.flatMap (fun (b, q) =>
    (frontOfLines q []).filterMap (fun r =>
      if r.write && !s.writesOpen k c p then none
      else if !r.write && decide (0 < p.batch) then none
      else if ownEngine k r && !s.inSlice k c then none
      else
        let row := (stackMap r.addr).row + 1
        let openRow := SMap.get 0 p.rows b
        let cmd : DramCmd := if openRow = 0 then .act else if openRow = row then (if r.write then .wr else .rd) else .pre
        let x : Candidate := ⟨b, r, cmd, s.urgency k c r p.cycle⟩
        if s.timingOk k c p cmd b then some x else none))

/-- One candidate goes before another by rules 2 to 5 of R271. -/
def State.better (s : State) (k : Nat) (p : PChan) (all : List Candidate) (x y : Candidate) : Bool :=
  let col (z : Candidate) : Bool := (z.cmd == .rd || z.cmd == .wr) &&
    !(decide (16 ≤ SMap.get 0 p.runs z.bank) && all.any (fun o => o.bank != z.bank && decide (z.urgency ≤ o.urgency)))
  let place (z : Candidate) : Nat := (pointerOf z.bank + 48 - p.pointer % 48) % 48
  if x.urgency ≠ y.urgency then decide (y.urgency < x.urgency)
  else if s.belowShare k x.req != s.belowShare k y.req then s.belowShare k x.req
  else if col x != col y then col x
  else decide (place x < place y)

/-- The first candidate by R271. -/
def State.choose (s : State) (k : Nat) (p : PChan) (all : List Candidate) : Option Candidate :=
  all.foldl (fun best x => match best with | none => some x | some y => if s.better k p all x y then some x else best) none

/-! ## Serving a request (R264 to R268, R275) -/

/-- The request's flit, as its answers need it. -/
def reqFlit (r : StackReq) : Flit :=
  { route := 0, kind := if r.write then 3 else 1, src := r.node, stand := r.stand, cls := BitVec.ofNat 3 r.cls, run := 0,
    opx := BitVec.ofNat 5 r.opx, txn := BitVec.ofNat 7 r.txn, addr := BitVec.ofNat 57 (r.group * 2 ^ 44 + r.addr), data := r.data }

/-- The node that serves a request. -/
def reqNode (r : StackReq) : Nat := (nodeOfAddr r.addr).getD 0

/-- The code with which a root die refuses a request: CLASS 7, or an address of the mirror reservation for a class that may not address it
(R273, R285); 0 where it is served. -/
def reqCode (r : StackReq) : Nat :=
  if r.cls = 7 then codeFormat
  else if regionOf r.addr = .mirror ∧ r.cls ≠ 4 ∧ r.cls ≠ 5 ∧ r.cls ≠ 6 then codeReserved
  else 0

/-- Reads or writes the mirror reservation for a class that may address it (R285): the bytes of the staging buffer's, the commit records' and
the slots' places as memory (log entry 117). -/
def State.mirrorAccess (s : State) (r : StackReq) : State × List Byte × Nat :=
  if r.write then
    let w := s.writeMem r.addr (leBytes r.len r.data.toNat) (maskOn r.mask) none
    (w.1, [], if w.2 then codeUe else 0)
  else
    let x := s.readMem r.addr r.len none false
    (x.1, x.2.1, if x.2.2 then codeUe else 0)

/-- Moves the data of a request whose bursts have all been moved: the bytes read, and the answer's code (R261, R268, R275, R285). -/
def State.moveReq (s : State) (r : StackReq) : State × List Byte × Nat :=
  let who := r.stand.map (fun d => d.val)
  if reqCode r ≠ 0 then (s, [], reqCode r)
  else if regionOf r.addr = .mirror then s.mirrorAccess r
  else if r.write then
    let data := leBytes r.len r.data.toNat
    if r.op = 0 then let x := s.writeAs who r.addr data (maskOn r.mask); (x.1, [], x.2)
    else let y := s.reduceAs who r.addr data (maskOn r.mask) r.opx; (y.1, [], y.2.2)
  else s.readAs who r.addr r.len

/-- Serves a request whose bursts have all been moved, and answers it. -/
def State.finishReq (s : State) (r : StackReq) : State :=
  let node := reqNode r
  let x := (s.countServed (stackMap r.addr).stack (reqStand r) r.len).moveReq r
  if x.2.2 ≠ 0 then x.1.respondError node (reqFlit r) x.2.2 0
  else if r.write then x.1.respond node (reqFlit r) 5 r.addr 0
  else x.1.respond node (reqFlit r) 2 r.addr (BitVec.ofNat 1024 (ofLe x.2.1))

/-- STK_LINK (R267, R291, R296, R297): a read is answered as STK_UE, the line of a write is poisoned; with a full poison table the stack has
failed. -/
def State.linkFault (s : State) (k : Nat) (r : StackReq) : State :=
  let who := r.stand.map (fun d => d.val)
  let s := (s.stackLastError k 3 who r.addr).event (0x8020 + k) 2 0x400
  let s := s.report (mkReport .stkLink (k / 2) who .stackLine 0 r.addr)
  let s := if 256 ≤ (s.stack k).poison.length then s.report (mkReport .stkFail (k / 2) none .none k 0)
    else if r.write then s.setStack k { s.stack k with poison := SMap.set 0 (s.stack k).poison (r.addr / 256) (max 1 (SMap.get 0 (s.stack k).poison (r.addr / 256))) }
    else s
  s.respondError (reqNode r) (reqFlit r) codeUe 0

/-- DCLK over which a timing of R293 looks back at most: a sum of up to three 16-bit entries. -/
def historyReach : Nat := 3 * 65536

/-- Issues a candidate's command (R271, R272). `crcBad`: the CRC of the burst did not match (R267). A batch counts the writes whose last burst
has moved. -/
def State.issueDram (s : State) (k c : Nat) (x : Candidate) (crcBad : Bool) : State :=
  let p := (s.stack k).pchan c
  let p := { p with history := ((⟨p.cycle, x.cmd, x.bank⟩ : DramIssue) :: p.history).filter (fun (h : DramIssue) => decide (p.cycle < h.at' + historyReach)) }
  let put (s : State) (p : PChan) : State := s.setStack k ((s.stack k).setPchan c p)
  match x.cmd with
  | .act =>
    put s { p with
      rows := SMap.set 0 p.rows x.bank ((stackMap x.req.addr).row + 1), pointer := (pointerOf x.bank + 1) % 48,
      runs := SMap.set 0 p.runs x.bank 0 }
  | .pre => put s { p with rows := SMap.set 0 p.rows x.bank 0, runs := SMap.set 0 p.runs x.bank 0 }
  | _ =>
    let q := SMap.get [] p.queues x.bank
    let open' : Nat := if x.req.write && p.batch == 0 then min ((p.waiting.filter (fun (r : StackReq) => r.write)).length) 16 else p.batch
    let p := { p with runs := SMap.set 0 ([] : SMap Nat) x.bank (SMap.get 0 p.runs x.bank + 1), batch := open' }
    let gone := { p with queues := SMap.set [] p.queues x.bank (q.erase x.req), batch := if x.req.write then open' - 1 else open' }
    if crcBad then
      (if x.req.retries < 3 then
        put (s.countSat (0x8020 + k) 4 0 24 1) { p with
          queues := SMap.set [] p.queues x.bank (q.map (fun r => if r = x.req then { r with retries := r.retries + 1 } else r)) }
       else (put s gone).linkFault k x.req)
    else if 1 < x.req.bursts then
      let q' := q.map (fun r => if r = x.req then { r with bursts := r.bursts - 1, retries := 0 } else r)
      put s { p with queues := SMap.set [] p.queues x.bank q' }
    else (put s gone).finishReq x.req

/-- Bursts of 64 B that a request moves; a write of part of a 32-B word takes two (R268). -/
def reqBursts (write : Bool) (a len mask : Nat) : Nat :=
  let n := (a % 64 + len + 63) / 64
  if write && (List.range ((len + 31) / 32)).any (fun i =>
      let m := mask / 2 ^ (32 * i) % 2 ^ 32
      decide (m ≠ 0) && decide (m ≠ 2 ^ 32 - 1)) then 2 * n else n

/-- Puts the requests of a flit into the stack port queue of the stack that its node serves (R270, R273): one for each 128-byte block, its age
counted from now. -/
def State.enqueueStack (s : State) (k : Nat) (f : Flit) : State :=
  let base : StackReq :=
    { write := false, addr := 0, len := 128, op := 0, opx := f.opx.toNat, mask := 0, data := f.data, cls := f.cls.toNat, stand := f.stand,
      node := f.src, txn := f.txn.toNat, group := f.addr.toNat / 2 ^ 44, since := 0, bursts := 2, retries := 0 }
  let reqs : List StackReq :=
    if f.kind = 1 then (readBlocks f).map (fun a => { base with addr := a })
    else
      let w := writeParts f
      let mask := if f.kind = 4 then fld f.data 512 64 else 2 ^ 128 - 1
      [{ base with write := true, addr := w.1, len := w.2.1.length, op := opxOp f.opx.toNat, mask := mask,
                   bursts := reqBursts true w.1 w.2.1.length mask }]
  let x := s.stack k
  s.setStack k { x with port := x.port ++ reqs.map (fun r => { r with since := (x.pchan (stackMap r.addr).pc).cycle }) }

/-! ## Accesses that the model makes in one step (log entry 19) -/

/-- Serves the queued requests of a stack that satisfy `hit`, in their order of arrival. -/
def State.drainStack (s : State) (k : Nat) (hit : StackReq → Bool) : State :=
  let x := s.stack k
  let mine := (x.pchans.flatMap (fun e => e.2.queues.flatMap (fun q => q.2)) ++ x.port).filter hit
  if mine.isEmpty then s
  else
    let strip (p : PChan) : PChan :=
      let q : PChan := { p with queues := p.queues.foldl (fun m e => SMap.set [] m e.1 (e.2.filter (fun r => !hit r))) p.queues }
      { q with batch := min q.batch (q.waiting.countP (fun (r : StackReq) => r.write)) }
    let x := { x with
      port := x.port.filter (fun r => !hit r)
      pchans := x.pchans.foldl (fun m e => SMap.set PChan.reset m e.1 (strip e.2)) x.pchans }
    mine.foldl State.finishReq (s.setStack k x)

/-- The requests queued for the lines of [a, a + n) are served before an access that arrives now (R270). -/
def State.drainLines (s : State) (a n : Nat) : State :=
  if isStack a && s.rootStacks.any (fun e => !e.2.port.isEmpty || !e.2.pchans.isEmpty) then
    (List.range 8).foldl (fun s k => s.drainStack k (fun r => decide (a / 256 ≤ r.addr / 256) && decide (256 * (r.addr / 256) < a + n))) s
  else s

/-- Counts the bytes of an access at the stacks that hold them, line by line (R274). -/
def State.countAccess (s : State) (who : Option Nat) (a n : Nat) : State :=
  if isStack a && who.isSome && n != 0 then
    (List.range ((a + n - 1) / 256 - a / 256 + 1)).foldl (fun s i =>
      let lo := max a (256 * (a / 256 + i))
      s.countServed (stackMap lo).stack who (min (a + n) (256 * (a / 256 + i) + 256) - lo)) s
  else s

/-- An access made in one step that is not refused comes after what is queued for its lines, and its bytes are counted (R270, R274). -/
def State.arrive (s : State) (who : Option Nat) (a n : Nat) : State :=
  if s.accessCode who a n = 0 then (s.drainLines a n).countAccess who a n else s

/-- A read made in one step. -/
def State.readNow (s : State) (who : Option Nat) (a n : Nat) : State × List Byte × Nat :=
  (s.arrive who a n).readAs who a n
/-- A write made in one step. -/
def State.writeNow (s : State) (who : Option Nat) (a : Nat) (data : List Byte) (en : Nat → Bool) : State × Nat :=
  (s.arrive who a data.length).writeAs who a data en
/-- An operation of R235 made in one step. -/
def State.reduceNow (s : State) (who : Option Nat) (a : Nat) (data : List Byte) (en : Nat → Bool) (opx : Nat) : State × Flags × Nat :=
  (s.arrive who a data.length).reduceAs who a data en opx

end Sys2Proof.Machine
end

