-- ==== Sys2Proof/Machine/Flags.lean ====
section
/-! DEFINITION. Raising the arithmetic flags of R78 in the objects that keep them: TileFlags (R121), VecFlags with VF (R161, R170) and
StreamFlags (R255). -/

namespace Sys2Proof.Machine

/-- Raises flags in TileFlags of tile number t (R121); IOV has no place there. -/
def State.raiseTileFlags (s : State) (t : Nat) (f : Flags) : State :=
  let ix := 0x6200 + t / 4
  let sb := 16 * (t % 4 + 1) + 2
  s.setObj ix sb (flagEvent (s.obj ix sb) (f.toNat % 32))

/-- Raises flags in VF and VecFlags of context number k (R161, R170). -/
def State.raiseVecFlags (s : State) (k : Nat) (f : Flags) : State :=
  let c := s.ctx k
  let ix := 0x6200 + k / 4
  let sb := 0x62 + 8 * (k % 4)
  (s.setCtx k { c with vf := c.vf ||| f }).setObj ix sb (flagEvent (s.obj ix sb) f.toNat)

end Sys2Proof.Machine
end

