-- ==== Sys2Proof/Machine/Stochastic.lean ====
section
/-! DEFINITION. The stochastic generator (R66, R67) and the fixed linear map that advances it (R160, R177, R216). -/

namespace Sys2Proof.Machine

/-- The state a site U and lane L loads at a release (R67). -/
def srInit (seed stepSeq : U64) (u : Nat) (l : Nat) : U32 :=
  let z := seed ^^^ (stepSeq * 0x9E3779B97F4A7C15) ^^^ BitVec.ofNat 64 (u <<< 40) ^^^ BitVec.ofNat 64 (l <<< 32)
  let z := (z ^^^ (z >>> 31)) * 0xBF58476D1CE4E5B9
  let z := z ^^^ (z >>> 29)
  let st : U32 := z.extractLsb' 0 32 ^^^ z.extractLsb' 32 32
  if st = 0 then 0x6A09E667 else st

/-- One advance of the generator (R67). -/
def srNext (st : U32) : U32 :=
  let st := st ^^^ (st <<< 13)
  let st := st ^^^ (st >>> 17)
  st ^^^ (st <<< 5)

/-- A linear map on 32 bits: the image of each bit, bit 0 first. -/
abbrev LinMap := List U32

/-- A linear map applied to a state. -/
def LinMap.apply (m : LinMap) (st : U32) : U32 :=
  m.zipIdx.foldl (fun acc (c, i) => if st.getLsbD i then acc ^^^ c else acc) 0

/-- The map of one advance. -/
def srMap : LinMap := (List.range 32).map (fun i => srNext (BitVec.ofNat 32 (2 ^ i)))

/-- The map applied twice. -/
def LinMap.square (m : LinMap) : LinMap := m.map m.apply

/-- The state advanced by the low `k` bits of `n`, with `m` the map of the lowest bit. -/
def srAdvanceLoop : Nat → Nat → LinMap → U32 → U32
  | 0, _, _, st => st
  | k + 1, n, m, st => srAdvanceLoop k (n / 2) m.square (if n % 2 = 1 then m.apply st else st)

/-- The state after `n` advances (the fixed linear map of R160), n below 2^64. -/
def srAdvance (n : Nat) (st : U32) : U32 := srAdvanceLoop 64 n srMap st

/-- The number drawn as the (n + 1)-th draw of a lane whose state at the release is `st` (R67). -/
def srDraw (st : U32) (n : Nat) : Nat := (srAdvance (n + 1) st).toNat

end Sys2Proof.Machine
end

