-- ==== Sys2Proof/Machine/StreamOps.lean ====
section
/-! DEFINITION. What the stream instructions share (07_stream_programs.md): fields, errors and positions (R252, R253), the fetch of an
instruction and its legality (R222 to R227), generators and units (R229 to R233), and how a unit is read and written (R234 to R241). -/

namespace Sys2Proof.Machine

/-! ## Fields -/

/-- OPC of an instruction. -/
def tOpc (w : U64) : Nat := fld w 56 8
/-- G, or GS. -/
def tGs (w : U64) : Nat := fld w 54 2
/-- GD. -/
def tGd (w : U64) : Nat := fld w 52 2
/-- OP of smov. -/
def tOp (w : U64) : Nat := fld w 50 2
/-- RM of smov. -/
def tRm (w : U64) : Nat := fld w 48 2
/-- SAT of smov. -/
def tSat (w : U64) : Bool := bitOf w 47
/-- MC of smov. -/
def tMc (w : U64) : Bool := bitOf w 46
/-- LEVEL of format C. -/
def tLevel (w : U64) : Nat := fld w 53 3
/-- TOKEN of format C. -/
def tToken (w1 : U64) : Nat := fld w1 48 16
/-- COUNT of format C; 0 is read as 1. -/
def tCount (w1 : U64) : Nat := if fld w1 32 16 = 0 then 1 else fld w1 32 16
/-- OFF of format C. -/
def tOff (w1 : U64) : Int := signed 32 (fld w1 0 32)

/-! ## Objects, flags and errors (R252 to R255) -/

/-- The subindex of a slot object (R254). -/
def slotSub (q k : Nat) : Nat := 16 * (q + 1) + k

/-- Raises flags in StreamStatus (R255). -/
def State.raiseStreamFlags (s : State) (n q : Nat) (f : Flags) : State :=
  let v := s.obj (0x6300 + n) (slotSub q 0)
  s.setObj (0x6300 + n) (slotSub q 0) (flagEvent v (f.toNat % 32 * 8))

/-- STATE of StreamStatus (R255). -/
def SlotState.code : SlotState → Nat
  | .idle => 0 | .running => 1 | .waiting => 2 | .halted => 3 | .error => 4

/-- Records the position of a halt or an error in StreamState (R252). -/
def State.recordStream (s : State) (n q state gen : Nat) (wr : Bool) (addr prg pasid : Nat) : State :=
  let sl := s.slot (8 * n + q)
  let ix := 0x6300 + n
  let sb := slotSub q 1
  let s := s.setObjW ix sb 0 (BitVec.ofNat 64 (sl.tag.toNat * 2 ^ 56 + sl.pc.toNat * 2 ^ 32 + gen * 64 + b2n wr * 32 + state))
  let s := (List.range 6).foldl (fun s l =>
    (s.setObjW ix sb (1 + l) ((SMap.get 0 sl.cnt l).setWidth 64)).setObjW ix sb (7 + l) ((SMap.get 0 sl.ext l).setWidth 64)) s
  (s.setObjW ix sb 13 (BitVec.ofNat 64 addr)).setObjW ix sb 14 (BitVec.ofNat 64 (prg % 512 * 2 ^ 20 + pasid % 2 ^ 20))

/-- The PASID of a Stand's host-space accesses; 0 where they carry none (R506). -/
def State.pasidOf (s : State) (d : Nat) : Nat :=
  if s.bit (0x6401 + d) 6 31 then s.getF (0x6401 + d) 6 0 20 else 0

/-- SE_ILLEGAL (R253). -/
def seIllegal : Nat := 1
/-- SE_DESC (R253). -/
def seDesc : Nat := 2
/-- SE_OVERLAP (R253). -/
def seOverlap : Nat := 3
/-- SE_ACCESS (R253). -/
def seAccess : Nat := 4
/-- SE_TOKEN (R253). -/
def seToken : Nat := 5
/-- SE_PAGE (R253). -/
def sePage : Nat := 6
/-- SE_REMOTE (R253). -/
def seRemote : Nat := 7
/-- SE_SHAPE (R253). -/
def seShape : Nat := 8
/-- SE_FORK (R253). -/
def seFork : Nat := 9

/-- Stops a slot and cancels what it has fetched (R249). -/
def State.stopSlot (s : State) (k : Nat) (st : SlotState) : State :=
  let s := s.setSlot k { s.slot k with st := st, hold := .none, miss := none, buffer := [], run := none }
  s.setGrove (k / 8) { s.grove (k / 8) with
    waits := (s.grove (k / 8)).waits.filter (fun w => w.who != .slot (Fin.ofNat 8 (k % 8))) }

/-- A stream error with the place of its unit (R253): recorded, the slot stopped, the step ended. -/
def State.streamFault (s : State) (n q code detail gen : Nat) (wr : Bool) (addr prg pasid : Nat) : State :=
  let s := s.recordStream n q 4 gen wr addr prg pasid
  let ix := 0x6300 + n
  let v := setFld (s.obj ix (slotSub q 0)) 8 8 0
  let s := s.setObj ix (slotSub q 0) (statusEvent v (256 * (code % 16) + 4096 * (detail % 16)))
  (s.stopSlot (8 * n + q) .error).failStep n (if code = sePage then statusPage else statusCommand) unitSlot q

/-- A stream error (R253). -/
def State.streamError (s : State) (n q code detail : Nat) : State := s.streamFault n q code detail 0 false 0 0 0

/-! ## Writes outstanding, flits and draws (R216, R234, R241, R247) -/

/-- Writes of a slot that are not yet acknowledged. -/
def State.slotWrites (s : State) (k : Nat) : Bool :=
  s.outst.any (fun e => match e.2 with | some o => o.origin == .slot k && o.write | none => false)

/-- Counts flits at the slot's network port: StreamFlits, IfaceFlits where they are not injected as flits of the model, and the
regulator (R247); the cycles that a flit waits for an empty bucket are a free value (log entry 4). -/
def State.chargeFlits (s : State) (n q cnt : Nat) (iface : Bool) : State :=
  if cnt = 0 then s
  else
    let s := s.count (0x6300 + n) (slotSub q 2) 0 64 cnt
    let s := if iface then s.count (0x6600 + groveNode n / 2) (ifaceSub (groveNode n) 2) 0 64 cnt else s
    let sl := s.slot (8 * n + q)
    if sl.rate = 0 then s
    else
      let s := s.setSlot (8 * n + q) { sl with spent := sl.spent + cnt }
      if sl.spent + cnt ≤ sl.burst.toNat then s
      else (s.count (0x6300 + n) (slotSub q 3) 0 64 s.drawn.toNat).advance

/-- The interface that answers an access of a block numbered as `Fetched.addr`; none for a block of another device. -/
def responderOf (b : Nat) : Option Nat := if 2 ^ 61 ≤ b then some pcieNode else if 2 ^ 60 ≤ b then none else nodeOfAddr b

/-- Counts the flits of accesses of blocks over the network that are made in one step: at the slot, at its interface and, for the answer, at
the interface that responds (R247, R326; log entry 19). -/
def State.chargeBlocks (s : State) (n q : Nat) (blocks : List Nat) : State :=
  (blocks.foldl (fun s b => match responderOf b with
    | some m => s.count (0x6600 + m / 2) (ifaceSub m 2) 0 64 1
    | none => s) s).chargeFlits n q blocks.length true

/-- The (d + 1)-th draw of a lane of a slot since its launch (R216). -/
def State.streamDraw (s : State) (n q lane : Nat) (d : Nat) : Nat :=
  let init := match s.groveOwner n with
    | none => srInit 0 0 (8 * n + 5) lane
    | some k => srInit (s.obj 0x6020 (k + 1)) (s.obj (0x6100 + 16 * k) 5) (8 * n + 5) lane
  srDraw init (q * 2 ^ 28 + d)

/-- Draws taken by each lane. -/
abbrev Draws := SMap Nat
/-- A lane has drawn. -/
def drawOnce (m : Draws) (lane : Nat) : Draws := SMap.set 0 m lane (SMap.get 0 m lane + 1)
/-- Every lane of a block has drawn. -/
def drawBlock (m : Draws) : Draws := (List.range 32).foldl drawOnce m

/-! ## Conversions of units (R71, R204, R216, R233) -/

/-- A conversion draws: RM is 0b10 and the value passes through R69 or R70 (R67, R71): a Berry value into either Hazel format, Hazel32
into Hazel16, and what goes into a Berry format but for a block that is copied or widened (log entry 23). -/
def convDraws (rm sf df : Nat) : Bool :=
  rm % 4 == 2 && (if df ≤ 4 then (5 ≤ sf || berryP df < berryP sf) else (decide (sf ≤ 4) || (df == 5 && sf != 5)))

/-- The Hazel format of a code of R195. -/
def hazelFmt (code : Nat) : HFmt := if code = 5 then hazel16 else hazel32

/-- A value into a Hazel destination; a Hazel value of the same format is copied by R71. `src` is the encoding of a Hazel source. -/
def toHazelUnit (sf df rm : Nat) (sat : Bool) (src : Nat) (v : Val) (r : Nat) : Rounded :=
  if sf = df then hazelCopy (hazelFmt df) src else toHazel (hazelFmt df) rm sat r v

/-- A Berry block into a Berry block (R71), the columns from `real` on being pads of the destination (R204). -/
def toBlockUnit (sf df rm real : Nat) (b : Block) (r : Nat → Nat) : BlockResult :=
  let keep := { b with m := b.m.zipIdx.map (fun (m, i) => if i < real then m else 0) }
  if berryP sf ≤ berryP df then blockToBlock (berryP sf) (berryP df) rm keep r
  else toBlock (berryP df) rm ((b.vals (berryP sf)).zipIdx.map (fun (v, i) => if i < real then v else .zero false)) r

/-- The values and encodings of a row of a bit-plane sub-tile, read as plane words and a scale byte (R58). -/
def rowBlock (p : Nat) (bytes : List Byte) : Block :=
  subTileRow (fun o => if o < 128 * p then (bytes.getD (4 * (o / 128) + o % 4) 0).toNat else (bytes.getD (4 * p) 0).toNat) p 0

/-- A block of the split-array form (R59, R205): the mantissas as a bit stream, then the scale. -/
def splitBlock (p : Nat) (bytes : List Byte) : Block :=
  let x := ofLe (bytes.take (4 * p))
  let e := (bytes.getD (4 * p) 0).toNat
  ⟨e, (List.range 32).map (fun i => if e = 0 ∨ e = 0xFF then 0 else signed p (x / 2 ^ (p * i)))⟩

/-- The plane words and the scale byte of a block's row (R58). -/
def blockRow (p : Nat) (b : Block) : List Byte :=
  let l := subTileWrites p 0 b
  (List.range (4 * p + 1)).map (fun i => ((l[i]?).map (fun e => e.2)).getD 0)

/-! ## Generators (R222, R229 to R232) -/

/-- C_l. -/
def Slot.counter (sl : Slot) (l : Nat) : Int := ((SMap.get 0 sl.cnt l).toNat : Int)

/-- OFF_d plus the sum over the levels of C_l × STEP_(l→d), exactly (R230). -/
def Slot.index (sl : Slot) (g : Gen) (d : Nat) : Int :=
  (List.range 6).foldl (fun a l => a + sl.counter l * SMap.get 0 g.steps (8 * l + d)) (SMap.get 0 g.offs d)

/-- The generator configured at an index. -/
def Slot.gen? (sl : Slot) (g : Nat) : Option Gen := SMap.get none sl.gens g

/-- The device address behind an address of a generator's space, in grove n (R222); `none` for host space. -/
def spaceBase (n space addr : Nat) : Option Nat :=
  match space with
  | 0 => some addr
  | 1 => none
  | 2 => some (storeAddr n addr)
  | 7 => some (tileAddr (4 * (addr / 2 ^ 56) + addr / 2 ^ 54 % 4) (addr % 2 ^ 20))
  | t => some (tileAddr (4 * n + (t - 3)) addr)

/-- A range of the device map meets the local stores in nothing but grove n's (R229). -/
def otherStores (n addr window : Nat) : Bool :=
  let lo := max addr localStoreBase
  let hi := min (addr + window) (localStoreBase + 224 * 0x40000)
  decide (lo < hi) && (decide ((lo - localStoreBase) / 0x40000 ≠ n) || decide ((hi - 1 - localStoreBase) / 0x40000 ≠ n))

/-- A linear window is allowed in a stream of grove n (R229). -/
def State.windowOk (s : State) (n d space addr window : Nat) : Bool :=
  decide (1 ≤ window) &&
  (match space with
   | 0 => decide (addr + window ≤ 2 ^ 44) && s.ownsRange d addr window && !otherStores n addr window
   | 1 => true
   | 2 => decide (addr + window ≤ 0x40000)
   | 7 => decide (addr / 2 ^ 56 < 224) && s.ownsGrove d (addr / 2 ^ 56) && decide (addr % 2 ^ 20 + window ≤ 2 ^ 20)
   | _ => decide (addr + window ≤ 2 ^ 20))

/-- Where a unit lies. -/
inductive Place where
  | device
  | host
  | peer (dev : Nat)
  deriving DecidableEq, Repr

/-- A unit as a move finds it: its place, format (0 to 4 Berry, 5 and 6 Hazel, 7 linear), its bytes as (address, length), and for a
Berry unit whether it is split-array and how many of its columns are no pads. -/
structure UnitAt where
  place : Place
  fmt : Nat
  pieces : List (Nat × Nat)
  split : Bool
  real : Nat
  deriving DecidableEq, Repr

/-- The bytes of a descriptor's unit at a local index (R202, R203, R205), the index along BLOCK_DIM counting blocks. -/
def unitPieces (d : Desc) (es l : List Nat) : List (Nat × Nat) × Bool × Nat :=
  if dBerry d then
    let p := berryP (dFmt d)
    match blockAt d es l with
    | .row base row real => ((List.range p).map (fun k => (planeOff base.toNat k row, 4)) ++ [(base.toNat + 128 * p + row, 1)], false, real)
    | .split v c => ([(v.toNat, 4 * p), (c.toNat, 1)], true, 32)
  else ([((hazelAt d l).toNat, dElem d)], false, 1)

/-- The coordinate of this device in a descriptor's grid. -/
def State.ownCoord (s : State) (d : Desc) : Nat × Nat × Nat :=
  if dMulti d then (gridOf d s.deviceId).getD (0, 0, 0) else (0, 0, 0)

/-- Units along dimension k of an extent: blocks along BLOCK_DIM of a Berry tensor (R230). -/
def indexUnits (d : Desc) (k e : Nat) : Nat := if dBerry d && k == (if dSplit d then 0 else dBlock d) then (e + 31) / 32 else e

/-- The unit that a generator names now (R230 to R232); none for a shard without elements. -/
def State.unitAt (s : State) (n : Nat) (sl : Slot) (g : Gen) : Option UnitAt :=
  if g.kind = .linear then
    let off := (sl.index g 0 % (g.window.toNat : Int)).toNat
    match spaceBase n g.space.toNat g.addr.toNat with
    | some a => some ⟨.device, 7, [(a + off, 4)], false, 1⟩
    | none => some ⟨.host, 7, [((g.addr.toNat + off) % 2 ^ 64, 4)], false, 1⟩
  else
    let d := g.desc
    let own := s.ownCoord d
    let ks := List.range (dDims d)
    let here := if dSpace d = 1 then Place.host else Place.device
    if g.kind = .local then
      let es := extentsAt d own
      if es.any (· == 0) then none
      else
        let l := ks.map (fun k => (sl.index g k % (indexUnits d k (es.getD k 1) : Int)).toNat)
        let u := unitPieces d es l
        some ⟨here, dFmt d, u.1, u.2.1, u.2.2⟩
    else
      let b := if dSplit d then 0 else dBlock d
      let gi := ks.map (fun k => (sl.index g k % (indexUnits d k (dExtent d k) : Int)).toNat * (if dBerry d && k == b then 32 else 1))
      let r := resolve d own gi
      let es := extentsAt d r.2.1
      let l := r.2.2.zipIdx.map (fun (x, k) => if dBerry d && k == b then x / 32 else x)
      let u := unitPieces d es l
      some ⟨if !dMulti d || r.1 == s.deviceId then here else .peer r.1, dFmt d, u.1, u.2.1, u.2.2⟩

/-! ## Addresses of units -/

/-- An access of a grove to this device address goes over the network (R247). -/
def overNet (n a : Nat) : Bool := nodeOfAddr a != some (groveNode n)

/-- 128-byte blocks of a unit as `Fetched.addr`, over the network. -/
def unitBlocks (n : Nat) (u : UnitAt) : List Nat :=
  let base := match u.place with | .peer dev => 2 ^ 60 + 2 ^ 44 * dev | .host => 2 ^ 61 | .device => 0
  ((u.pieces.filter (fun x => u.place != .device || overNet n x.1)).flatMap (fun (a, len) =>
    (List.range ((a + len - 1) / 128 - a / 128 + 1)).map (fun i => base + 128 * (a / 128 + i)))).eraseDups

/-- The translated host address; none where the page has no translation and ATS is on (R250, R506). -/
def State.translate (s : State) (f a : Nat) (wr : Bool) : Option Nat :=
  if Config.atsEnabled f then
    (SMap.get none s.ats (2 * (2 ^ 52 * f + a / 4096) + b2n wr)).map (fun p => p.toNat * 4096 + a % 4096)
  else some a

/-- The first page of pieces of host space that has no translation. -/
def State.missingPage (s : State) (f : Nat) (wr : Bool) (pieces : List (Nat × Nat)) : Option Nat :=
  (pieces.flatMap (fun (a, len) => [a, a + len - 1])).find? (fun a => (s.translate f a wr).isNone)

/-- A write of host space by a function, cut at pages (R241). -/
def State.hostWrite (s : State) (f a : Nat) (data : List Byte) : State :=
  let first := min data.length (4096 - a % 4096)
  let put (s : State) (a : Nat) (l : List Byte) : State :=
    if l.isEmpty then s
    else s.send (.hostWrite f (BitVec.ofNat 64 ((s.translate f a true).getD a)) l)
  put (put s a (data.take first)) (a + first) (data.drop first)

/-! ## Reading and writing a unit -/

/-- The bytes of a range that the read buffer holds (R248). -/
def bufferedBytes (buf : List Fetched) (base a n : Nat) : Option (List Byte) :=
  (List.range n).foldr (fun i acc =>
    match acc, buf.find? (fun f => f.addr == base + 128 * ((a + i) / 128)) with
    | some l, some f => f.bytes.map (fun b => b.getD ((a + i) % 128) 0 :: l)
    | _, _ => none) (some [])

/-- An error that the node of an address sends to a node, where the access goes over the network: LAST_CODE at both (R328). -/
def State.errorMet (s : State) (node a code : Nat) : State :=
  match nodeOfAddr a with
  | some m => if code = 0 ∨ m = node then s else (s.ifaceEvent m code 0).ifaceEvent node code 0
  | none => if code = 0 then s else s.ifaceEvent node code 0

/-- Reads pieces of this device's memory for a unit of a node: buffered blocks first, then memory (R237, R248); the code of a failed read. -/
def State.readPieces (s : State) (node : Nat) (buf : List Fetched) (who : Option Nat) (pieces : List (Nat × Nat)) : State × List Byte × Nat :=
  pieces.foldl (fun acc (a, len) =>
    if acc.2.2 ≠ 0 then acc
    else
      match bufferedBytes buf 0 a len with
      | some l => (acc.1, acc.2.1 ++ l, 0)
      | none =>
        let r := acc.1.readNow who a len
        (r.1.errorMet node a r.2.2, acc.2.1 ++ r.2.1, r.2.2)) (s, [], 0)

/-- Cuts a byte list to pieces: (address, bytes). -/
def cutPieces : List (Nat × Nat) → List Byte → List (Nat × List Byte)
  | [], _ => []
  | (a, n) :: t, l => (a, l.take n) :: cutPieces t (l.drop n)

/-- Writes pieces of this device's memory for a unit of a node; the code of a failed write. -/
def State.writePieces (s : State) (node : Nat) (who : Option Nat) (l : List (Nat × List Byte)) : State × Nat :=
  l.foldl (fun acc (a, b) =>
    if acc.2 ≠ 0 then acc
    else
      let w := acc.1.writeNow who a b allBytes
      (w.1.errorMet node a w.2, w.2)) (s, 0)

/-! ## Flits of a stream (R231, R234, R236, R304) -/

/-- Issues a request flit of a slot, with `put` placing it: none where no tag is free or the interface's queue is full (R32, R304). `awaits`
responses are to come; `addr` is kept with them. -/
def State.issueFlit (s : State) (n q d : Nat) (f : Flit) (write : Bool) (awaits addr : Nat) (put : State → Flit → State) : Option (State × BitVec 7) :=
  let node := groveNode n
  match s.freeTxn node with
  | none => none
  | some txn =>
    if s.sendRoom node (kindChannel f.kind) 1 then
      let t := (put s { f with src := node, stand := some (Fin.ofNat 8 d), txn := BitVec.ofNat 7 txn }).setOutst node txn
        (if awaits = 0 then none else some ⟨.slot (8 * n + q), write, addr, awaits⟩)
      some (t.chargeFlits n q 1 false, BitVec.ofNat 7 txn)
    else none

/-- A flit without its stamps. -/
def plainFlit (kind : BitVec 4) (opx addr : Nat) (data : BitVec 1024) : Flit :=
  { route := 0, kind := kind, src := 0, stand := none, cls := 0, run := 0, opx := BitVec.ofNat 5 opx, txn := 0,
    addr := BitVec.ofNat 57 addr, data := data }

/-- Sends a read of one block of another device (R231, R304): none where it must wait; the detail of PEER_ERR. -/
def State.peerRead (s : State) (n q sd dev block : Nat) : Option (State ⊕ Nat) :=
  match s.peerPort dev (groveNode n) with
  | .inr x => some (.inr x)
  | .inl p =>
    match s.issueFlit n q sd (plainFlit 1 0 (dev * 2 ^ 44 + block % 2 ^ 44) 0) false 1 (2 ^ 60 + 2 ^ 44 * dev + block)
        (fun s f => s.sendFlit (groveNode n) (xannusNode p) f) with
    | none => none
    | some (t, txn) =>
      let sl := t.slot (8 * n + q)
      some (.inl (t.setSlot (8 * n + q)
        { sl with buffer := sl.buffer.drop (sl.buffer.length - 63) ++ [⟨2 ^ 60 + 2 ^ 44 * dev + block, txn, none⟩] }))

/-- What a write of a unit comes to: the flags of an operation (R235), or the code of the failure, or a wait. -/
inductive Put where
  | ok (f : Flags)
  | fail (code : Nat)
  | wait

/-- The value and the mask of the bytes of a block of `size` bytes. -/
def packCells (size : Nat) (cells : List (Nat × Byte)) : Nat × Nat :=
  cells.foldl (fun v c => (v.1 + c.2.toNat * 256 ^ (c.1 % size), v.2 ||| 2 ^ (c.1 % size))) (0, 0)

/-- The flits that write bytes of one 128-byte block: a WRITE of a whole block, else a WRITE_MASKED for each half (R304): kind, address,
payload. -/
def blockFlits (block : Nat) (cells : List (Nat × Byte)) : List (BitVec 4 × Nat × BitVec 1024) :=
  if 128 ≤ cells.length then [(3, block, BitVec.ofNat 1024 (packCells 128 cells).1)]
  else
    [block, block + 64].filterMap (fun h =>
      match cells.filter (fun c => c.1 / 64 == h / 64) with
      | [] => none
      | l => let v := packCells 64 l; some (4, h, BitVec.ofNat 1024 (v.1 + v.2 * 2 ^ 512)))

/-- Sends write flits one after another, all of them or none; `at'` is kept with each. -/
def State.issueWrites (s : State) (n q d opx high at' : Nat) (put : State → Flit → State) (l : List (BitVec 4 × Nat × BitVec 1024)) : Option State :=
  l.foldl (fun acc e =>
    match acc with
    | none => none
    | some s => (s.issueFlit n q d (plainFlit e.1 opx (high + e.2.1) e.2.2) true 1 at' put).map (fun x => x.1)) (some s)

/-- The interfaces that a route table entry of a node names (R236, R305, R308): a tree, the node at the end of a unicast route, where EXIT
delivers at a grove interface's port L0, or none for an invalid or reserved entry (log entry 118). -/
inductive RouteEnd where
  | tree (t : Nat)
  | node (m : Nat)
  | none

/-- Where a route table entry leads. -/
def State.routeEnd (s : State) (node e : Nat) : RouteEnd :=
  let x := s.routeEntry node e
  match fld x 126 2 with
  | 1 =>
    (match routeMoves 32 (fld x 0 96) none 0 with
     | some (ms, last) =>
       (match pathFrom (node / 2) ms with
        | some (_, r) => .node (2 * r + (if last = 5 then 1 else 0))
        | none => .none)
     | none => .none)
  | 2 => .tree (fld x 96 8)
  | _ => .none

/-- Every interface that the entry names is a grove of the Stand (R236). -/
def State.groupOk (s : State) (n d e : Nat) : Bool :=
  let mine (node : Nat) : Bool := match groveOfNode node with | some m => s.ownsGrove d m | none => false
  match s.routeEnd (groveNode n) e with
  | .tree t => (s.treeMembers t).all (fun m => mine m.2)
  | .node m => mine m
  | .none => false

/-- Issues an MC_WRITE of a node on a tree with `send` (R313): each attached member must hold a credit and gives one; each cycle that it
waits counts in TreeStall of the members without one, a free number of cycles (log entry 4). `put` places the flit and what it awaits. -/
def State.issueTree (s : State) (node txn t : Nat) (put : State → Nat → State) : State × Bool :=
  let on := s.attachedMembers t
  let dry : List (Nat × Nat) := on.filter (fun m => decide (64 ≤ SMap.get 0 s.treeDebts (64 * t + m.1)))
  if dry ≠ [] then ((dry.foldl (fun s m => s.count (0x6800 + t) (0x40 + m.1) 0 64 s.drawn.toNat) s).advance, false)
  else
    (put { s with
      treeDebts := on.foldl (fun x (m : Nat × Nat) => SMap.set 0 x (64 * t + m.1) (SMap.get 0 x (64 * t + m.1) + 1)) s.treeDebts
      treeSent := SMap.set [] s.treeSent (128 * node + txn) (on.map (fun (m : Nat × Nat) => 64 * t + m.1)) } on.length, true)

/-- Sends the bytes of one block of a multicast (R236, R303, R304, R313): an MC_WRITE of the 128-byte block on the entry's tree, or the write
of the one grove that a unicast entry names. A write to members that are all detached is acknowledged at once. -/
def State.sendGroup (s : State) (n q d e block : Nat) (cells : List (Nat × Byte)) : State × Put :=
  let node := groveNode n
  match s.routeEnd node e with
  | .none => (s, .fail 0)
  | .node m =>
    let o := tileAddr (4 * (groveOfNode m).getD 0) 0 - tileSramBase
    (match s.issueWrites n q d 0 o block (fun s f => s.sendFlitBy node e m f) (blockFlits block cells) with
     | none => (s, .wait)
     | some t => (t, .ok 0))
  | .tree t =>
    (match s.freeTxn node with
     | none => (s, .wait)
     | some txn =>
       if !s.sendRoom node 2 1 then (s, .wait)
       else
         let v := packCells 128 cells
         let f : Flit := { plainFlit 0xA 0 block (BitVec.ofNat 1024 v.1) with
           route := BitVec.ofNat 96 t, src := node, stand := some (Fin.ofNat 8 d), txn := BitVec.ofNat 7 txn,
           part := if 128 ≤ cells.length then 0 else BitVec.ofNat 128 v.2 }
         let r := s.issueTree node txn t (fun s k => ((s.inject node f).setOutst node txn
           (if k = 0 then none else some ⟨.slot (8 * n + q), true, block, k⟩)).chargeFlits n q 1 false)
         (r.1, if r.2 then .ok 0 else .wait))

/-- Sends the bytes of one block of a run to where its writes go. -/
def State.sendBlock (s : State) (n q d : Nat) (dest : RunTo) (block : Nat) (cells : List (Nat × Byte)) : State × Put :=
  match dest with
  | .here => (s, .ok 0)
  | .group e => s.sendGroup n q d e block cells
  | .peer dev opx =>
    match s.peerPort dev (groveNode n) with
    | .inr _ => (s, .fail codePeer)
    | .inl p =>
      match s.issueWrites n q d opx (dev * 2 ^ 44) 0 (fun s f => s.sendFlit (groveNode n) (xannusNode p) f) (blockFlits block cells) with
      | none => (s, .wait)
      | some t => (t, .ok 0)

/-- Sends the bytes of the run in progress that no flit carries yet, block by block: all of them where the run ends, else the whole blocks
(R234). -/
def State.flushRun (s : State) (n q d : Nat) (all : Bool) : State × Put :=
  let k := 8 * n + q
  match (s.slot k).run with
  | none => (s, .ok 0)
  | some r =>
    (r.out.map (fun c => c.1 / 128)).eraseDups.foldl (fun acc b =>
      let cells := r.out.filter (fun c => c.1 / 128 == b)
      match acc.2 with
      | .ok _ =>
        if !all && decide (cells.length < 128) then acc
        else
          let x := acc.1.sendBlock n q d r.dest (128 * b) cells
          (match x.2 with
           | .ok _ =>
             (x.1.setSlot k { x.1.slot k with run := (x.1.slot k).run.map (fun y => { y with out := y.out.filter (fun c => c.1 / 128 != b) }) }, .ok 0)
           | _ => x)
      | _ => acc) (s, .ok 0)

/-- Bytes of a tile's SRAM by their place within the grove's four tiles: the block that a multicast of any member writes. -/
def groupBlock (a : Nat) : Option Nat :=
  match regionOf a with
  | .tileSram _ => some ((a - tileSramBase) % 0x400000 / 128)
  | _ => none

/-- Blocks that the multicasts of a slot write and have not yet been acknowledged or sent (R237). -/
def State.groupPending (s : State) (k : Nat) : List Nat :=
  s.outst.filterMap (fun e => match e.2 with
    | some o => if o.origin = .slot k ∧ o.write = true ∧ tileSramBase ≤ o.addr then some ((o.addr - tileSramBase) % 0x400000 / 128) else none
    | none => none)

/-- A unit of this device touches bytes that a multicast of the slot has still to write (R237). -/
def State.meetsGroup (s : State) (k : Nat) (u : UnitAt) : Bool :=
  u.place == .device && u.pieces.any (fun x =>
    match groupBlock x.1 with | some b => (s.groupPending k).contains b | none => false)

/-! ## The fetch of an instruction (R217, R222, R227) -/

/-- A generator is configured. -/
def Slot.has (sl : Slot) (g : Nat) : Bool := (sl.gen? g).isSome

/-- The instruction is one of R227, its codes are not reserved and the generators it names are configured. -/
def tLegal (sl : Slot) (w0 : U64) : Bool :=
  match tOpc w0 with
  | 0x01 => decide (fld w0 51 3 ≤ 2)
  | 0x02 => decide (fld w0 51 3 ≤ 5) && sl.has (tGs w0)
  | 0x03 => sl.has (tGs w0)
  | 0x10 => decide (tOp w0 ≠ 3) && sl.has (tGs w0) && sl.has (tGd w0)
  | 0x11 => decide (fld w0 40 4 ≤ 4) && sl.has (tGs w0)
  | 0x12 => sl.has (tGs w0) && sl.has (tGd w0)
  | o => decide (0x20 ≤ o) && decide (o ≤ 0x28) && decide (tLevel w0 ≤ 5)

/-- 16 bytes of the local store at a program counter, as two words, with the code of a failed read. -/
def State.fetch16 (s : State) (n pc : Nat) : State × U64 × U64 × Nat :=
  let r := s.readAs (s.groveOwner n) (storeAddr n (pc % 0x40000 / 16 * 16)) 16
  (r.1, BitVec.ofNat 64 (ofLe (r.2.1.take 8)), BitVec.ofNat 64 (ofLe (r.2.1.drop 8)), r.2.2)

/-- Runs `act` on the instruction at the slot's program position where its opcode is `opc`; an illegal instruction stops the stream
(R227, R253). Without such an instruction the command has no effect (log entry 6). A run of units ends before any instruction but smov and
snext, once its last bytes are sent (R234). -/
def State.stepStream (s : State) (u : SlotRef) (opc : Nat) (act : State → Nat → U64 → U64 → State) : State :=
  let n := u.grove.val
  let q := u.slot.val
  let sl := s.slot u.num
  match s.groveOwner n with
  | none => s
  | some d =>
    if sl.st ≠ .running ∨ sl.hold ≠ .none then s
    else
      let r := s.fetch16 n sl.pc.toNat
      if r.2.2.2 ≠ 0 then r.1.streamError n q seRemote r.2.2.2
      else if !tLegal sl r.2.1 then r.1.streamError n q seIllegal 0
      else if tOpc r.2.1 ≠ opc then s
      else
        let s := r.1.setGrove n { r.1.grove n with lastSlot := q }
        if opc = 0x10 ∨ opc = 0x21 then act s d r.2.1 r.2.2.1
        else
          let f := s.flushRun n q d true
          match f.2 with
          | .ok _ => act f.1 d r.2.1 r.2.2.1
          | .wait => f.1
          | .fail c => f.1.streamError n q seRemote c

/-- Sets the slot's program counter. -/
def State.slotGoto (s : State) (k : Nat) (a : Int) : State :=
  s.setSlot k { s.slot k with pc := BitVec.ofInt 18 a }

/-- The slot goes on `by` bytes further. -/
def State.slotNext (s : State) (k : Nat) (bytes : Nat) : State := s.slotGoto k (((s.slot k).pc.toNat + bytes : Nat) : Int)

/-- The slot branches by OFF (R226). -/
def State.slotBranch (s : State) (k : Nat) (w1 : U64) : State := s.slotGoto k (((s.slot k).pc.toNat : Int) + 16 * tOff w1)

/-- Ends the run of units in progress (R234). -/
def State.endRun (s : State) (k : Nat) : State := s.setSlot k { s.slot k with run := none }

end Sys2Proof.Machine
end

