-- ==== Sys2Proof/Machine/Copies.lean ====
section
/-! DEFINITION. Copies of whole tensors with conversion: what scopy and the near-memory engines share (R71, R204, R214 to R216, R245,
R246); and the fields of spack with what it reads (R212, R213, R224). -/

namespace Sys2Proof.Machine

/-- Every index vector below some extents, the first component fastest. -/
def allIndices : List Nat → List (List Nat)
  | [] => [[]]
  | e :: t => (allIndices t).flatMap (fun l => (List.range e).map (fun i => i :: l))

/-- Inserts by a key, after equal keys. -/
def insertByKey {α : Type} (x : Nat × α) : List (Nat × α) → List (Nat × α)
  | [] => [x]
  | y :: t => if x.1 < y.1 then x :: y :: t else y :: insertByKey x t

/-- Sorts by a key. -/
def sortByKey {α : Type} (l : List (Nat × α)) : List (Nat × α) := l.foldr (fun x acc => insertByKey x acc) []

/-- The byte at a host address of a tensor whose footprints, one after another, are `ext`. -/
def footByte (d : Desc) (es : List Nat) (ext : List Byte) (a : Nat) : Byte :=
  ((footprints d es).foldl (fun (acc : Nat × Option Nat) f =>
    match acc.2 with
    | some _ => acc
    | none =>
      if f.1 ≤ (a : Int) ∧ (a : Int) ≤ f.2 then (acc.1, some (acc.1 + ((a : Int) - f.1).toNat))
      else (acc.1 + (f.2 - f.1 + 1).toNat, none)) (0, none)).2.elim 0 (fun i => ext.getD i 0)

/-- Who reads a source, and from where: the node that reads, the Stand whose ownership is checked, and the bytes by address where they do not
come from this device's memory (a read of host space, or the staging buffer). -/
structure CopySrc where
  node : Nat
  who : Option Nat
  given : Option (Nat → Byte)

/-- The bytes of a source unit at a local index, the index along BLOCK_DIM counting blocks; the code of a failed read. -/
def State.srcUnit (s : State) (f : CopySrc) (d : Desc) (es l : List Nat) : State × List Byte × Bool × Nat :=
  let u := unitPieces d es l
  match f.given with
  | some byte => (s, u.1.flatMap (fun (a, n) => (List.range n).map (fun i => byte (a + i))), u.2.1, 0)
  | none =>
    let r := s.readPieces f.node [] f.who u.1
    (r.1, r.2.1, u.2.1, r.2.2)

/-- The dimension whose index counts blocks. -/
def blockDim (d : Desc) : Nat := if dSplit d then 0 else dBlock d

/-- The index of the unit that holds an element: in a Berry tensor the block's (R230). -/
def unitIndex (d : Desc) (l : List Nat) : List Nat :=
  if dBerry d then l.zipIdx.map (fun (x, i) => if i = blockDim d then x / 32 else x) else l

/-- A block of a Berry source (R54). -/
def State.srcBlock (s : State) (f : CopySrc) (d : Desc) (es l : List Nat) : State × Block × Nat :=
  let r := s.srcUnit f d es l
  (r.1, if r.2.2.1 then splitBlock (berryP (dFmt d)) r.2.1 else rowBlock (berryP (dFmt d)) r.2.1, r.2.2.2)

/-- An element of a source at its local index: its value and, for a Hazel source, its encoding (R60). -/
def State.srcElem (s : State) (f : CopySrc) (d : Desc) (es l : List Nat) : State × (Val × Nat) × Nat :=
  if dBerry d then
    let r := s.srcBlock f d es (unitIndex d l)
    (r.1, (berryVal (berryP (dFmt d)) r.2.1.scale (r.2.1.m.getD (l.getD (blockDim d) 0 % 32) 0), 0), r.2.2)
  else
    let r := s.srcUnit f d es l
    (r.1, (hazelVal (hazelFmt (dFmt d)) (ofLe r.2.1), ofLe r.2.1), r.2.2.2)

/-- Reads elements one after another; the first failure's code. -/
def State.srcElems (s : State) (f : CopySrc) (d : Desc) (es : List Nat) (ls : List (Option (List Nat))) : State × List Val × Nat :=
  ls.foldl (fun acc l =>
    if acc.2.2 ≠ 0 then acc
    else
      match l with
      | none => (acc.1, acc.2.1 ++ [.zero false], 0)
      | some l =>
        let r := acc.1.srcElem f d es l
        (r.1, acc.2.1 ++ [r.2.1.1], r.2.2)) (s, [], 0)

/-- The bytes of every unit of a shard, as (address, length). -/
def tensorPieces (d : Desc) (es : List Nat) : List (Nat × Nat) :=
  if es.any (· == 0) then []
  else (allIndices (es.zipIdx.map (fun (e, k) => indexUnits d k e))).flatMap (fun l => (unitPieces d es l).1)

/-! ## What a copy is (R214, R215, R245, R246) -/

/-- PERM's source dimension of destination dimension k. -/
def permOf (perm k : Nat) : Nat := perm / 2 ^ (3 * k) % 8

/-- PERM permutes the dimensions. -/
def permOk (perm dims : Nat) : Bool :=
  let l := (List.range dims).map (permOf perm)
  l.all (fun x => decide (x < dims)) && decide l.Nodup

/-- A large reshape (R214): some destination sub-tile, or run of 32 elements along dimension 0, draws on more than one source sub-tile.
A Hazel source never makes one: a destination unit draws on at most 32 × 32 elements over two dimensions. -/
def largeReshape (ds dd : Desc) (es : List Nat) (perm : Nat) : Bool :=
  let inTile (k : Nat) : Bool := k == dRow ds || k == dBlock ds || decide (es.getD k 1 ≤ 1)
  dBerry ds && !dSplit ds &&
    !(if dBerry dd then inTile (permOf perm (dRow dd)) && inTile (permOf perm (dBlock dd)) else inTile (permOf perm 0))

/-- The footprints share a byte in one space (R246). -/
def copiesOverlap (ds dd : Desc) (es ed : List Nat) : Bool :=
  dSpace ds == dSpace dd &&
    (footprints ds es).any (fun a => (footprints dd ed).any (fun b => decide (a.1 ≤ b.2) && decide (b.1 ≤ a.2)))

/-- The bytes of a footprint. -/
def footprintBytes (d : Desc) (es : List Nat) : Nat := (footprints d es).foldl (fun a f => a + (f.2 - f.1 + 1).toNat) 0

/-- The footprints lie wholly in the root stacks (R215). -/
def inStacks (d : Desc) (es : List Nat) : Bool :=
  dSpace d == 0 && (footprints d es).all (fun f => decide (0 ≤ f.1) && decide (f.2 < 0x0045C0000000))

/-! ## The copy -/

/-- The destination units in increasing order of the address of their first element (R216): local indices, the index along BLOCK_DIM
counting blocks and the one along ROW_DIM running over the pad rows (R204). -/
def destUnits (dd : Desc) (ed : List Nat) : List (Nat × List Nat) :=
  if ed.any (· == 0) then []
  else
    let counts := ed.zipIdx.map (fun (e, k) =>
      if dBerry dd && k == dBlock dd then (e + 31) / 32 else if dBerry dd && k == dRow dd then (e + 31) / 32 * 32 else e)
    sortByKey ((allIndices counts).map (fun l => (((unitPieces dd ed l).1.headD (0, 0)).1, l)))

/-- What a copy has done so far: the state, the draws, the flags, the bytes to write, and the code of a failed read. -/
structure CopyRun where
  s : State
  draws : Draws
  flags : Flags
  writes : List (Nat × List Byte)
  code : Nat

/-- Converts one destination unit (R71, R204, R245). -/
def CopyRun.unit (c : CopyRun) (f : CopySrc) (ds dd : Desc) (es ed : List Nat) (perm rm : Nat) (sat : Bool)
    (draw : Nat → Nat → Nat) (a : Nat) (l : List Nat) : CopyRun :=
  let n := l.length
  let src (l : List Nat) : List Nat :=
    (List.range n).map (fun k => ((List.range n).find? (fun j => permOf perm j == k)).elim 0 (fun j => l.getD j 0))
  let pieces := (unitPieces dd ed l).1
  if c.code ≠ 0 then c
  else if dBerry dd then
    let real := (unitPieces dd ed l).2.2
    let draws (i : Nat) : Nat := draw i (SMap.get 0 c.draws i)
    if real = 0 then { c with writes := c.writes ++ cutPieces pieces (blockRow (berryP (dFmt dd)) Block.zero) }
    else if dBerry ds && permOf perm (dBlock dd) == blockDim ds then
      let r := c.s.srcBlock f ds es (src l)
      let b := toBlockUnit (dFmt ds) (dFmt dd) rm real r.2.1 draws
      { c with s := r.1, code := r.2.2, flags := c.flags ||| b.flags
               draws := if convDraws rm (dFmt ds) (dFmt dd) then drawBlock c.draws else c.draws
               writes := c.writes ++ cutPieces pieces (blockRow (berryP (dFmt dd)) b.block) }
    else
      let r := c.s.srcElems f ds es ((List.range 32).map (fun i =>
        if i < real then some (src (l.zipIdx.map (fun (x, k) => if k = dBlock dd then 32 * x + i else x))) else none))
      let b := toBlock (berryP (dFmt dd)) rm r.2.1 draws
      { c with s := r.1, code := r.2.2, flags := c.flags ||| b.flags
               draws := if rm % 4 = 2 then drawBlock c.draws else c.draws
               writes := c.writes ++ cutPieces pieces (blockRow (berryP (dFmt dd)) b.block) }
  else
    let size := dElem dd
    let lane := a / size % 32
    let r := c.s.srcElem f ds es (src l)
    let x := toHazelUnit (dFmt ds) (dFmt dd) rm sat r.2.1.2 r.2.1.1 (draw lane (SMap.get 0 c.draws lane))
    { c with s := r.1, code := r.2.2, flags := c.flags ||| x.flags
             draws := if convDraws rm (dFmt ds) (dFmt dd) then drawOnce c.draws lane else c.draws
             writes := c.writes ++ cutPieces pieces (leBytes size x.bits) }

/-- A whole copy by a node for function `fn`: every source element is read before any destination byte is written (R246); for tensors that do
not overlap the order does not show. The state, the draws, the flags and the code of a failure. -/
def State.copyTensor (s : State) (f : CopySrc) (fn : Nat) (ds dd : Desc) (es ed : List Nat) (perm rm : Nat) (sat : Bool)
    (draw : Nat → Nat → Nat) (dr : Draws) : State × Draws × Flags × Nat :=
  let c := (destUnits dd ed).foldl (fun (c : CopyRun) (a, l) => c.unit f ds dd es ed perm rm sat draw a l) ⟨s, dr, 0, [], 0⟩
  if c.code ≠ 0 then (c.s, c.draws, c.flags, c.code)
  else if dSpace dd = 1 then (c.writes.foldl (fun s x => s.hostWrite fn x.1 x.2) c.s, c.draws, c.flags, 0)
  else
    let w := c.s.writePieces f.node f.who c.writes
    (w.1, c.draws, c.flags, w.2)

/-- The source of a copy by a node: host space, as its footprints were read, or this device's memory; none for an error completion (R251). -/
def copySource (node : Nat) (who : Option Nat) (d : Desc) (es : List Nat) (ext : ExtRead) : Option CopySrc :=
  if dSpace d = 1 then
    match ext with
    | .data b => some ⟨node, who, some (footByte d es b)⟩
    | .error => none
  else some ⟨node, who, none⟩

/-! ## spack (R212, R213, R224, R244) -/

/-- PORT. -/
def pkPortA (w : U64) : Bool := bitOf w 53
/-- ORDER. -/
def pkTransposed (w : U64) : Bool := bitOf w 52
/-- RDIM. -/
def pkR (w : U64) : Nat := fld w 49 3
/-- ODIM. -/
def pkO (w : U64) : Nat := fld w 46 3
/-- NIB. -/
def pkNib (w : U64) : Nat := fld w 44 2
/-- DFMT. -/
def pkFmt (w : U64) : Nat := fld w 40 4
/-- RM. -/
def pkRm (w : U64) : Nat := fld w 38 2
/-- TMASK. -/
def pkMask (w : U64) : Nat := fld w 33 4
/-- V. -/
def pkV (w : U64) : Nat := fld w 26 7 + 1
/-- LINE. -/
def pkLine (w : U64) : Nat := fld w 14 12
/-- SLINE. -/
def pkSline (w : U64) : Nat := fld w 2 12

/-- The dimensions named break R212. -/
def packBadDims (d : Desc) (w : U64) : Bool :=
  decide (dDims d ≤ pkR w) || decide (dDims d ≤ pkO w) || pkR w == pkO w ||
  (dBerry d && (if pkTransposed w then pkO w else pkR w) != blockDim d)

/-- The blocks that an spack writes, in increasing order of destination address (R213, R216): (reduction block, other index). -/
def packUnits (w : U64) : List (Nat × Nat) :=
  if pkPortA w then
    (List.range ((pkV w + 31) / 32)).flatMap (fun g => (List.range 4).flatMap (fun b => (List.range 32).map (fun v => (b, 32 * g + v))))
  else (List.range 4).flatMap (fun b => (List.range 128).map (fun n => (b, n)))

/-- The local index of the generator of an spack, the block dimension in columns (R230, R244). -/
def packIndex (sl : Slot) (g : Gen) (es : List Nat) : List Nat :=
  (List.range (dDims g.desc)).map (fun k =>
    let m := indexUnits g.desc k (es.getD k 1)
    (if m = 0 then 0 else (sl.index g k % (m : Int)).toNat) * (if dBerry g.desc && k == blockDim g.desc then 32 else 1))

/-- The local index of reduction index r and other index o of an spack from the element origin `el` (R244). -/
def packAt (el : List Nat) (w : U64) (r o : Nat) : List Nat :=
  el.zipIdx.map (fun (x, k) => if k = pkR w then r else if k = pkO w then o else x)

/-- The block of reduction block b and other index o is all padding: it lies beyond an extent, or the shard holds no element (R199, R213). -/
def packPad (es el : List Nat) (w : U64) (b o : Nat) : Bool :=
  es.any (· == 0) || decide (es.getD (pkR w) 0 ≤ el.getD (pkR w) 0 + 32 * b) || decide (es.getD (pkO w) 0 ≤ el.getD (pkO w) 0 + o)

/-- The bytes that an spack reads, as (address, length). -/
def packPieces (d : Desc) (es el : List Nat) (w : U64) : List (Nat × Nat) :=
  (packUnits w).flatMap (fun (b, o) =>
    let r0 := el.getD (pkR w) 0 + 32 * b
    let oi := el.getD (pkO w) 0 + o
    if packPad es el w b o || (pkPortA w && decide (pkV w ≤ o)) then []
    else if dBerry d && !pkTransposed w then (unitPieces d es (packAt el w (r0 / 32) oi)).1
    else (List.range 32).flatMap (fun j =>
      if r0 + j < es.getD (pkR w) 0 then (unitPieces d es (unitIndex d (packAt el w (r0 + j) oi))).1 else []))

end Sys2Proof.Machine
end

