-- ==== Sys2Proof/Machine/Memory.lean ====
section
/-! DEFINITION. The events of SRAM and the root stacks (08_memory.md): write-back and patrol, scheduling, refresh with drift tracking,
training, and the near-memory engines. -/

namespace Sys2Proof.Machine

/-! ## SRAM (R263, R264) -/

/-- SRAM_WRITE_BACK (R263). -/
def execSramWriteBack (addr : BitVec 44) (s : State) : Host.Outcome State Fault Refusal :=
  let w := addr.toNat / 8
  if SMap.get false s.writeBack w then
    match s.sramFinding w with
    | .corrected d => .next (s.storeWord w d)
    | _ => .next { s with writeBack := SMap.set false s.writeBack w false }
  else .next s

/-- The first byte of an SRAM unit, its bytes, and the bytes one patrol step reads (R264). -/
def patrolGeometry : PatrolUnit → Nat × Nat × Nat × Nat
  | .tileSram t => (t.num, tileAddr t.num 0, 0x100000, 256)
  | .localStore g => (1000 + g.val, storeAddr g.val 0, 0x40000, 256)
  | .understory d => (2000 + d.val, understoryBase + d.val * 0x30000000, 0x30000000, 64 * 256)
  | .blockRam d b => (3000 + 4608 * d.val + b.val, bramAddr d.val b.val 0, 0x1000, 8)
  | .shadow d => (30000 + d.val, 0, 20480 * 1024, 1024)

/-- The patrol of a shadow store: a frame of die `d` with its correctable words corrected; the rules name no record of it (R436, log entry
125). -/
def State.patrolShadow (s : State) (d pos : Nat) : State :=
  let f := 20480 * d + pos
  let frame := SMap.get 0 s.shadow f
  let l := frameFindings frame (fun i => SMap.get 0 s.shadowDiff (128 * f + i))
  if allGood l then s
  else
    { s with
      shadow := SMap.set 0 s.shadow f (correctFrame frame l)
      shadowDiff := SMap.eraseAll s.shadowDiff (fun w => w / 128 == f && (match l[w % 128]? with | some (.corrected _) => true | _ => false)) }

/-- SRAM_PATROL (R264, R436): the next line of a tile or local store, of every bank of an Understory piece, the next word of a block RAM, or
the next frame of a shadow store. -/
def execSramPatrol (u : PatrolUnit) (s : State) : Host.Outcome State Fault Refusal :=
  let g := patrolGeometry u
  let pos := SMap.get 0 s.patrol g.1
  let a := g.2.1 + pos * g.2.2.2
  let t := match u with
    | .shadow d => s.patrolShadow d.val pos
    | _ => (s.badSram a g.2.2.2).foldl (fun s w => (s.touchSram w none false).1) s
  .next { t with patrol := SMap.set 0 t.patrol g.1 ((pos + 1) % (g.2.2.1 / g.2.2.2)) }

/-! ## Scheduling (R270 to R275) -/

/-- STACK_REQUEST (R270): the head of the stack port queue enters its bank's queue, where that has room, or is answered with the code by which
the root die refuses it (R273, R285). -/
def execStackRequest (k : StackId) (s : State) : Host.Outcome State Fault Refusal :=
  let x := s.stack k.val
  match x.port with
  | [] => .next s
  | r :: rest =>
    if reqCode r ≠ 0 then .next ((s.setStack k.val { x with port := rest }).respondError (reqNode r) (reqFlit r) (reqCode r) 0)
    else
      let loc := stackMap r.addr
      let p := x.pchan loc.pc
      let q := SMap.get [] p.queues (bankIndex loc)
      if 8 ≤ q.length then .next s
      else
        .next (s.setStack k.val ({ x with port := rest }.setPchan loc.pc { p with queues := SMap.set [] p.queues (bankIndex loc) (q ++ [r]) }))

/-- DRAM_SCHEDULE (R271, R272): one DCLK cycle of a pseudo-channel. -/
def execDramSchedule (k : StackId) (pc : PcId) (crcBad : Bool) (s : State) : Host.Outcome State Fault Refusal :=
  let x := s.stack k.val
  let p := x.pchan pc.val
  let s := s.setStack k.val (x.setPchan pc.val { p with cycle := p.cycle + 1 })
  let p := (s.stack k.val).pchan pc.val
  if p.cycle < p.busyUntil then .next s
  else
    match s.choose k.val p (s.candidates k.val pc.val p) with
    | none => .next s
    | some c => .next (s.issueDram k.val pc.val c crcBad)

/-- STACK_REDUCTION (R235, R275): one element. The answer to the request is the WRITE_ACK of its flit, not this operation's. -/
def execStackReduction (k : StackId) (q : Reduction) (s : State) : Host.Outcome State Fault Refusal :=
  let size := (opxFmt q.opx.toNat).width / 8
  let a := q.addr.toNat / size * size
  if regionOf a ≠ .stackUser ∨ (stackMap a).stack ≠ k.val ∨ opxOp q.opx.toNat = 0 ∨ opxOp q.opx.toNat = 3 then .next s
  else .next (s.reduceNow none a (leBytes size q.value.toNat) allBytes q.opx.toNat).1

/-- SHARE_WINDOW (R274). -/
def execShareWindow (k : StackId) (s : State) : Host.Outcome State Fault Refusal :=
  .next (s.setStack k.val { s.stack k.val with served := [] })

/-! ## Lanes (R281, R283, R284, R298) -/

/-- The LaneMargin entry of a lane. -/
def State.laneEntry (s : State) (k l : Nat) : Nat := s.entry (0x8020 + k) 6 32 l
/-- Sets a setting of a lane: the read delay, reference and margin, or the write delay (R298) and the write reference. -/
def State.setLaneEntry (s : State) (k l : Nat) (write : Bool) (delay vref margin : Nat) : State :=
  let e := s.laneEntry k l
  if write then
    let s := s.setEntry (0x8020 + k) 6 32 l (e / 2 ^ 16 * 2 ^ 16 + delay % 256 * 256 + e % 256)
    s.setStack k { s.stack k with wrVref := SMap.set 0 (s.stack k).wrVref l vref }
  else s.setEntry (0x8020 + k) 6 32 l (margin % 256 * 2 ^ 24 + vref % 256 * 2 ^ 16 + e / 256 % 256 * 256 + delay % 256)

/-- train_lane of R281 on the passes of its sweep: delay, reference, margin; none where ok is 0. -/
def trainLane (rows : List (BitVec 256)) : Option (Nat × Nat × Nat) :=
  let runs := (List.range 64).map (fun v => longestRun ((List.range 256).map (fun t => bitOf (rows.getD v 0) t)))
  let good := runs.map (fun r => decide (16 ≤ r.2))
  let g := longestRun good
  if g.2 = 0 then none
  else
    let vc := (2 * g.1 + g.2 - 1) / 2
    let r := runs.getD vc (0, 0)
    let d := (2 * r.1 + r.2 - 1) / 2
    some (d, vc, min (d - r.1) (r.1 + r.2 - 1 - d))

/-- Queues a setting for relearning (R283, R284). -/
def State.queueRelearn (s : State) (k : Nat) (l : List Nat) : State :=
  let x := s.stack k
  (s.setStack k { x with relearn := x.relearn ++ l.filter (fun e => !x.relearn.contains e) }).setF (0x8020 + k) 2 3 1 1

/-! ## Refresh (R269, R276 to R279, R283) -/

/-- The address of line l2 of pseudo-channel c of stack k: the inverse of stack_map (R258). -/
def lineAddr (k c l2 : Nat) : Nat :=
  let x := c ^^^ (l2 / 128 % 32)
  let l1 := l2 * 32 + x
  let y := k ^^^ (l1 / 256 % 8) ^^^ (l1 / 2 ^ 18 % 8)
  256 * (l1 * 8 + y)

/-- Lines of a pseudo-channel (R258). -/
def pcLines : Nat := 4718592

/-- The buffered memory objects that a refresh of a pseudo-channel takes: their keys (R273, R279, R293, R294). -/
def windowKeys (k : Nat) : List Nat :=
  (List.range 7).map (fun t => objKey 0 0x8010 (t + 1) 0) ++ [objKey 0 (0x8020 + k) 1 0] ++
  (List.range 5).map (fun w => objKey 0 (0x8020 + k) 3 w)

/-- Every pseudo-channel that a buffered object concerns has taken its newest value: the LatencyTarget objects concern all stacks. -/
def State.allTaken (s : State) (key k : Nat) : Bool :=
  let ks := if key < objKey 0 0x8020 0 0 then List.range 8 else [k]
  ks.all (fun j => (List.range 32).all (fun c => SMap.get 0 s.windowTaken (256 * key + 32 * j + c) == 1))

/-- What a value of StackCtrl does at a pseudo-channel that takes it in place of `old`: RELEARN_REQ, of the lane of that pseudo-channel, queues
both settings of the lane (R12, R284, R295). -/
def State.takeStackCtrl (s : State) (k c : Nat) (old v : U64) : State :=
  let lane := fld v 16 9
  if bitOf v 25 && lane / 9 == c && !(bitOf old 25 && fld old 16 9 == lane) then s.queueRelearn k [2 * lane, 2 * lane + 1] else s

/-- A buffered object is in force for all it concerns (R279). RETRAIN_ALL of StackCtrl then starts the training again and reads 0
(R282, R295). -/
def State.settleWindow (s : State) (k key : Nat) (v : U64) : State :=
  let s := { s with
    accepted := SMap.set none s.accepted key none
    windowTaken := SMap.eraseAll s.windowTaken (fun x => x / 256 == key) }
  if key = objKey 0 (0x8020 + k) 1 0 ∧ bitOf v 26 = true then (s.setWord key (setBit v 26 false)).setF (0x8020 + k) 2 0 2 1
  else s.setWord key v

/-- A pseudo-channel takes the buffered objects; an object that every pseudo-channel has taken is in force for the stack (R279). -/
def State.takeWindow (s : State) (k c : Nat) : State :=
  (windowKeys k).foldl (fun s key =>
    match SMap.get none s.accepted key with
    | none => s
    | some v =>
      let s := if key = objKey 0 (0x8020 + k) 1 0 then s.takeStackCtrl k c (s.inWindow k c (0x8020 + k) 1 0) v else s
      let s := s.setWord (key + 2 ^ 35 * windowBank k c) v
      let s := { s with windowTaken := SMap.set 0 s.windowTaken (256 * key + 32 * k + c) 1 }
      if s.allTaken key k then s.settleWindow k key v else s) s

/-- The refresh's patrol line: read and corrected, its records without a Stand (R269, R291). -/
def State.patrolLine (s : State) (k c : Nat) : State :=
  if bitOf (s.inWindow k c (0x8020 + k) 1 0) 1 then
    let p := (s.stack k).pchan c
    let s := (s.badStack (lineAddr k c p.patrol) 256).foldl (fun s w => (s.touchStack w none).1) s
    let x := s.stack k
    s.setStack k (x.setPchan c { x.pchan c with patrol := ((x.pchan c).patrol + 1) % pcLines })
  else s

/-- The refresh's probe of one setting of one lane (R283). -/
def State.probeLane (s : State) (k c : Nat) (lowPass highPass : Bool) : State :=
  if bitOf (s.inWindow k c (0x8020 + k) 1 0) 0 && s.getF (0x8020 + k) 2 0 2 == 2 then
    let p := (s.stack k).pchan c
    let l := 9 * c + p.probe % 9
    let write := decide (9 ≤ p.probe)
    let e := s.laneEntry k l
    let d := if write then e / 256 % 256 else e % 256
    let set (d' : Nat) : State :=
      if write then s.setLaneEntry k l true d' (SMap.get 0 (s.stack k).wrVref l) 0
      else s.setEntry (0x8020 + k) 6 32 l (e / 256 * 256 + d' % 256)
    let s := match lowPass, highPass with
      | true, true => s
      | true, false => set (d + 255)
      | false, true => set (d + 1)
      | false, false => (s.event (0x8020 + k) 2 4).queueRelearn k [2 * l + b2n write]
    let x := s.stack k
    s.setStack k (x.setPchan c { x.pchan c with probe := ((x.pchan c).probe + 1) % 18 })
  else s

/-- The settings of a pseudo-channel's lanes that a relearning has found are installed (R284). -/
def State.installLearned (s : State) (k c : Nat) : State :=
  (List.range 18).foldl (fun s i =>
    let key := 2 * (9 * c + i / 2) + i % 2
    match SMap.get none (s.stack k).learned key with
    | none => s
    | some (d, v, m) =>
      let s := s.setLaneEntry k (key / 2) (key % 2 == 1) d v m
      s.setStack k { s.stack k with learned := SMap.set none (s.stack k).learned key none }) s

/-- REFRESH (R276): a pseudo-channel's refresh in its slot with those postponed before it, or its postponement while an urgent request waits.
Each refresh patrols a line and probes a lane; bit i of `lowPass` and `highPass` tells the outcome of the probe of refresh i (R269, R283). -/
def execRefresh (k : StackId) (pc : PcId) (lowPass highPass : BitVec 5) (s : State) : Host.Outcome State Fault Refusal :=
  let kk := k.val
  let c := pc.val
  let x := s.stack kk
  let p := x.pchan c
  if s.getF (0x8020 + kk) 2 0 2 = 0 ∨ s.refreshOff = true then .next s
  else if p.waiting.any (fun r => s.urgency kk c r p.cycle == 3) && decide (p.postponed < fld (s.inWindow kk c (0x8020 + kk) 1 0) 2 3) then
    .next (s.setStack kk (x.setPchan c { p with postponed := p.postponed + 1 }))
  else
    let p' := { p with
      busyUntil := max p.cycle p.busyUntil + (1 + p.postponed) * s.dramT kk c 18, postponed := 0, rows := [], runs := [] }
    let s := (s.setStack kk (x.setPchan c p')).takeWindow kk c
    .next ((List.range (1 + p.postponed)).foldl (fun s i => (s.patrolLine kk c).probeLane kk c (lowPass.getLsbD i) (highPass.getLsbD i))
      (s.installLearned kk c))

/-! ## Training (R280 to R282, R284) -/

/-- Every byte of a stack becomes 0 with a valid check field (R268). -/
def State.zeroStack (s : State) (k : Nat) : State :=
  let mine (a : Nat) : Bool := isStack a && (stackMap a).stack == k
  let s := { s with
    mem := SMap.eraseAll s.mem mine
    stackDiff := SMap.eraseAll s.stackDiff (fun w => mine (32 * w)) }
  s.setStack k { s.stack k with poison := [] }

/-- STACK_TRAINING (R280 to R282): the sweeps of every lane; a lane that `res` does not list passes nowhere. -/
def execStackTraining (k : StackId) (res : List LaneSweep) (s : State) : Host.Outcome State Fault Refusal :=
  let kk := k.val
  if s.booted = false ∨ s.getF (0x8020 + kk) 2 0 2 ≥ 2 then .next s
  else
    let r := (List.range 288).foldl (fun (acc : State × Bool) l =>
      let sweep := res.find? (fun x => x.lane.val == l)
      let set (acc : State × Bool) (write : Bool) (rows : List (BitVec 256)) : State × Bool :=
        match trainLane rows with
        | some (d, v, m) => (acc.1.setLaneEntry kk l write d v m, acc.2)
        | none => (acc.1, false)
      match sweep with
      | some x => set (set acc false x.readPass) true x.writePass
      | none => (acc.1, false)) (s, true)
    if r.2 then .next ((r.1.zeroStack kk).setF (0x8020 + kk) 2 0 2 2).checkReady
    else .next ((r.1.event (0x8020 + kk) 2 0x800).setF (0x8020 + kk) 2 0 2 3)

/-- RELEARN_REQ reads 0 once both settings of its lane are done, in force, in a pseudo-channel and in a value that waits (R295). -/
def State.relearnDone (s : State) (k lane : Nat) : State :=
  let key := objKey 0 (0x8020 + k) 1 0
  let clear (v : U64) : U64 := if fld v 16 9 = lane then setBit v 25 false else v
  let s := s.setWord key (clear (s.word key))
  let own := key + 2 ^ 35 * windowBank k (lane / 9)
  let s := s.setWord own (clear (s.word own))
  match SMap.get none s.accepted key with
  | some v => { s with accepted := SMap.set none s.accepted key (some (clear v)) }
  | none => s

/-- RELEARN_COMPLETE (R284): the sweep of the setting at the front of the queue; installed in the next refresh, or STK_TRAIN. -/
def execRelearnComplete (k : StackId) (rows : List (BitVec 256)) (s : State) : Host.Outcome State Fault Refusal :=
  let kk := k.val
  let x := s.stack kk
  match x.relearn with
  | [] => .next s
  | e :: rest =>
    let s := s.setStack kk { x with relearn := rest }
    let s := match trainLane rows with
      | some r => s.setStack kk { s.stack kk with learned := SMap.set none (s.stack kk).learned e (some r) }
      | none => ((s.stackLastError kk 4 none (e / 2)).event (0x8020 + kk) 2 0x800).report
          (mkReport .stkTrain (kk / 2) none .none kk 0)
    let s := if rest.any (fun y => y / 2 == e / 2) then s else s.relearnDone kk (e / 2)
    .next (if rest.isEmpty then s.setF (0x8020 + kk) 2 3 1 0 else s)

/-! ## The near-memory engines (R286 to R290) -/

/-- The slot that the copy datapath serves: `turn` where it is active, else the next active one (R287). -/
def Stack.served? (x : Stack) : Option Nat :=
  ((List.range 8).map (fun i => (x.turn + i) % 8)).find? (fun q => !(x.nmQueue q).isEmpty)

/-- The (d + 1)-th draw of a lane of a near-memory command (R216). -/
def State.nmDraw (s : State) (k q sd lane d : Nat) : Nat :=
  srDraw (srInit (s.obj 0x6020 (sd + 1)) (s.obj (0x6100 + 16 * sd) 5) (0x700 + k) lane) (q * 2 ^ 28 + d)

/-- Reads a descriptor; the code of a failed read. -/
def State.readDesc (s : State) (sd a : Nat) : State × Desc × Nat :=
  let r := s.readNow (some sd) a 192
  (r.1, (List.range 24).map (fun i => BitVec.ofNat 64 (ofLe (sliceBytes r.2.1 (8 * i) 8))), r.2.2)

/-- The descriptors of a command: those that its stream held when it was sent (R194), else those at the addresses of its record; the code of
a failed read. -/
def State.nmDescs (s : State) (c : NmCommand) : State × Desc × Desc × Nat :=
  match c.descs with
  | some (ds, dd) => (s, ds, dd, 0)
  | none =>
    let sd := nmStand c.record
    let a := s.readDesc sd (fld c.record 64 64)
    let b := a.1.readDesc sd (fld c.record 128 64)
    (b.1, a.2.1, b.2.1, if a.2.2 ≠ 0 then a.2.2 else b.2.2)

/-- The front command of slot q, where the datapath serves that slot and the command's OPC is `opc` (R287). -/
def Stack.nmFront (x : Stack) (q opc : Nat) : Option NmCommand :=
  match x.nmQueue q with
  | [] => none
  | c :: _ => if nmOpc c.record = opc ∧ x.served? = some q then some c else none

/-- The command's packet, as its answer needs it. -/
def nmFlit (c : NmCommand) : Flit :=
  { route := 0, kind := 7, src := c.node, stand := some (Fin.ofNat 8 (nmStand c.record)), cls := 5, run := 0, opx := 0,
    txn := BitVec.ofNat 7 c.txn, addr := BitVec.ofNat 57 (c.group * 2 ^ 44), data := 0 }

/-- The front command of slot q ends: it leaves its slot and the staging buffer, and is answered with WRITE_ACK, or ERROR and a code (R290). -/
def State.nmEnd (s : State) (k q : Nat) (c : NmCommand) (code : Nat) : State :=
  let x := s.stack k
  let s := s.setStack k { x with
    nm := SMap.set [] x.nm q ((x.nmQueue q).drop 1)
    staging := x.staging.filter (fun g => g.slot != q) }
  if code = 0 then s.respond (stackNode k 0) (nmFlit c) 5 0 0 else s.respondError (stackNode k 0) (nmFlit c) code 0

/-- The local extents of a descriptor on this device. -/
def State.ownExtents (s : State) (d : Desc) : List Nat :=
  extentsAt d (if dMulti d then (gridOf d s.deviceId).getD (0, 0, 0) else (0, 0, 0))

/-- Copies by the front command of slot q, from `given` where that names the source's bytes: flags to the issuing stream, then the answer
(R216, R286, R289, R290). -/
def State.nmCopy (s : State) (k q : Nat) (c : NmCommand) (ds dd : Desc) (given : Option (Nat → Byte)) : State :=
  let sd := nmStand c.record
  let r := s.copyTensor ⟨stackNode k 0, some sd, given⟩ (sd + 1) ds dd (s.ownExtents ds) (s.ownExtents dd) (fld c.record 0 24)
    (fld c.record 44 2) (bitOf c.record 43) (fun i d => s.nmDraw k q sd i d) []
  (r.1.raiseStreamFlags (nmGrove c.record) (nmSlot c.record) r.2.2.1).nmEnd k q c r.2.2.2

/-- RESHAPE (R214, R289). -/
def execReshape (k : StackId) (q : SlotIx) (s : State) : Host.Outcome State Fault Refusal :=
  match (s.stack k.val).nmFront q.val 1 with
  | none => .next s
  | some c =>
    let r := s.nmDescs c
    if r.2.2.2 ≠ 0 then .next (r.1.nmEnd k.val q.val c r.2.2.2)
    else .next (r.1.nmCopy k.val q.val c r.2.1 r.2.2.1 none)

/-- Reads the whole source of a staged copy into the staging buffer; the code of a failed read (R251, R290). -/
def State.stage (s : State) (k q : Nat) (c : NmCommand) (ds : Desc) (ext : ExtRead) : State × Nat :=
  let es := s.ownExtents ds
  let pieces := tensorPieces ds es
  let cells (l : List (Nat × Nat)) (byte : Nat → Nat → Byte) : List (Nat × Byte) :=
    l.flatMap (fun (a, n) => (List.range n).map (fun i => (a + i, byte a i)))
  match copySource (stackNode k 0) (some (nmStand c.record)) ds es ext with
  | none => (s.ifaceEvent pcieNode codeHost 0, codeHost)
  | some f =>
    let r : State × List (Nat × Byte) × Nat := match f.given with
      | some byte => (s, cells pieces (fun a i => byte (a + i)), 0)
      | none => pieces.foldl (fun (acc : State × List (Nat × Byte) × Nat) (a, n) =>
          if acc.2.2 ≠ 0 then acc
          else
            let x := acc.1.readPieces f.node [] f.who [(a, n)]
            (x.1, acc.2.1 ++ cells [(a, n)] (fun _ i => x.2.1.getD i 0), x.2.2)) (s, [], 0)
    if r.2.2 ≠ 0 then (r.1, r.2.2)
    else (r.1.setStack k { r.1.stack k with staging := some ⟨q, r.2.1⟩ }, 0)

/-- STAGED_COPY (R246, R290), one half of a staged copy: the whole source is read into the staging buffer, or, where this slot's copy holds
the buffer, the destination is written from it. A copy in another slot waits while the buffer is held. `ext` is the source where it lies in
host space. -/
def execStagedCopy (k : StackId) (q : SlotIx) (ext : ExtRead) (s : State) : Host.Outcome State Fault Refusal :=
  match (s.stack k.val).nmFront q.val 2 with
  | none => .next s
  | some c =>
    let r := s.nmDescs c
    if r.2.2.2 ≠ 0 then .next (r.1.nmEnd k.val q.val c r.2.2.2)
    else
      match (s.stack k.val).staging with
      | none =>
        let w := r.1.stage k.val q.val c r.2.1 ext
        .next (if w.2 ≠ 0 then w.1.nmEnd k.val q.val c w.2 else w.1)
      | some g =>
        if g.slot ≠ q.val then .next s
        else .next (r.1.nmCopy k.val q.val c r.2.1 r.2.2.1 (some (fun a => ((g.cells.find? (fun e => e.1 == a)).map (fun e => e.2)).getD 0)))

/-- Zeros over a range of the root stacks and the Understory, its check fields valid (R260, R268); where an Understory piece reads free values,
the zeros are written. -/
def State.zeroRange (s : State) (base len : Nat) : State :=
  let hit (a : Nat) : Bool := decide (base ≤ a) && decide (a < base + len)
  let free := s.scram.any (fun e => e.2 != 0 && decide (2000 ≤ e.1) && decide (e.1 < 2004))
  let s := { s with
    mem := SMap.eraseAll s.mem hit
    sramDiff := SMap.eraseAll s.sramDiff (fun w => hit (8 * w))
    stackDiff := SMap.eraseAll s.stackDiff (fun w => hit (32 * w))
    writeBack := SMap.eraseAll s.writeBack (fun w => hit (8 * w)) }
  let s := (List.range 8).foldl (fun s k =>
    if (s.stack k).poison.isEmpty then s
    else s.setStack k { s.stack k with poison := (s.stack k).poison.filter (fun e =>
      !(e.2 == 1 && decide (base ≤ 256 * e.1) && decide (256 * e.1 + 256 ≤ base + len))) }) s
  if free then s.setBytes base (List.replicate len 0) else s

/-- DATAPATH_SLICE (R287, R288): the next active slot, and the next slice group that holds pending requests of the engine. -/
def execDatapathSlice (k : StackId) (s : State) : Host.Outcome State Fault Refusal :=
  let x := s.stack k.val
  let active (q : Nat) : Bool := !(x.nmQueue q).isEmpty
  let pending (g : Nat) : Bool := (List.range 4).any (fun c => ((x.pchan (4 * g + c)).waiting).any (fun r => r.cls == 5))
  let next (cur : Nat) (p : Nat → Bool) : Nat := (((List.range 8).map (fun i => (cur + 1 + i) % 8)).find? p).getD cur
  .next (s.setStack k.val { x with turn := next x.turn active, sliceGroup := next x.sliceGroup pending })

end Sys2Proof.Machine
end

