-- ==== Sys2Proof/Machine/Streams.lean ====
section
/-! DEFINITION. Stream programs (07_stream_programs.md): launching and ending, generators, loops, tokens and moves of one unit. -/

namespace Sys2Proof.Machine

/-! ## Launching and ending (R218 to R221) -/

/-- The slot that a launch record names (R219). -/
def recSlot (r : BitVec 128) : Nat := fld r 47 3

/-- Starts a stream from a launch record (R218, R219); none where it is refused (R220). -/
def State.startSlot (s : State) (n : Nat) (r : BitVec 128) : Option State :=
  let k := 8 * n + recSlot r
  let sl := s.slot k
  if (sl.st ≠ .idle ∧ sl.st ≠ .error) ∨ s.slotWrites k = true ∨ (fld r 35 12 ≠ 0 ∧ fld r 19 16 = 0) ∨ s.groveFailed n = true then none
  else
    let s := (List.range 16).foldl (fun s w => s.setObjW (0x6300 + n) (slotSub (recSlot r) 1) w 0) s
    some (s.setSlot k { Slot.reset with
      pc := BitVec.ofNat 18 (16 * fld r 50 14), rate := BitVec.ofNat 12 (fld r 35 12), burst := BitVec.ofNat 16 (fld r 19 16),
      tag := BitVec.ofNat 8 (fld r 0 8), st := .running })

/-- LAUNCH (R219, R220): the first record of the step that the grove has not taken. -/
def execLaunch (g : GroveId) (s : State) : Host.Outcome State Fault Refusal :=
  let n := g.val
  match (s.grove n).launches with
  | [] => .next s
  | r :: rest =>
    let s := s.setGrove n { s.grove n with launches := rest }
    match s.startSlot n r with
    | some t => .next t
    | none => .next (s.failStep n statusCommand unitSlot (recSlot r))

/-- Ends the stream of a slot: idle now, or once its writes have completed (R221, R249). -/
def State.endSlot (s : State) (k : Nat) : State :=
  let w := s.slotWrites k
  let s := s.stopSlot k (if w then .running else .idle)
  if w then s.setSlot k { s.slot k with hold := .ending } else s

/-- SEND (R221). -/
def execSend (u : SlotRef) (s : State) : Host.Outcome State Fault Refusal :=
  .next (s.stepStream u 0x28 (fun s _ _ _ => s.endSlot u.num))

/-- STREAM_END (R221): the writes of an ended stream have completed. -/
def execStreamEnd (u : SlotRef) (s : State) : Host.Outcome State Fault Refusal :=
  let sl := s.slot u.num
  .next (if sl.hold = .ending ∧ s.slotWrites u.num = false then s.setSlot u.num { sl with st := .idle, hold := .none } else s)

/-- SKILL (R249): completes when the named slot is idle. -/
def execSkill (u : SlotRef) (s : State) : Host.Outcome State Fault Refusal :=
  .next (s.stepStream u 0x27 (fun s _ w0 _ =>
    let k := 8 * u.grove.val + fld w0 50 3
    let s := s.endRun u.num
    if k = u.num then s.endSlot k
    else
      let x := s.slot k
      let t := if x.st = .idle ∨ x.st = .error ∨ x.hold = .ending then s else s.endSlot k
      if (t.slot k).hold = .ending then t else t.slotNext u.num 16))

/-- SFORK (R219, R220): the record in the next instruction slot. -/
def execSfork (u : SlotRef) (s : State) : Host.Outcome State Fault Refusal :=
  .next (s.stepStream u 0x26 (fun s _ _ _ =>
    let n := u.grove.val
    let r := (s.endRun u.num).fetch16 n ((s.slot u.num).pc.toNat + 16)
    if r.2.2.2 ≠ 0 then r.1.streamError n u.slot.val seRemote r.2.2.2
    else
      match r.1.startSlot n (r.2.2.1 ++ r.2.1) with
      | none => r.1.streamError n u.slot.val seFork 0
      | some t => t.slotNext u.num 32))

/-! ## Generators (R229 to R232) -/

/-- SGEN (R194, R206, R229). -/
def execSgen (u : SlotRef) (s : State) : Host.Outcome State Fault Refusal :=
  .next (s.stepStream u 0x01 (fun s d w0 w1 =>
    let n := u.grove.val
    let q := u.slot.val
    let s := s.endRun u.num
    let kind := fld w0 51 3
    let space := fld w0 48 3
    let g : Gen := { kind := if kind = 0 then .linear else if kind = 1 then .local else .global, space := BitVec.ofNat 3 space,
                     addr := w1, window := BitVec.ofNat 48 (fld w0 0 48), desc := [], steps := [], offs := [] }
    let put (s : State) (g : Gen) : State :=
      let sl := s.slot u.num
      (s.setSlot u.num { sl with gens := SMap.set none sl.gens (tGs w0) (some g) }).slotNext u.num 16
    if kind = 0 then
      (if s.windowOk n d space w1.toNat (fld w0 0 48) then put s g else s.streamError n q seAccess 0)
    else if w1.toNat % 64 ≠ 0 then s.streamError n q seDesc 0xA
    else
      let a := if space = 2 then storeAddr n w1.toNat else w1.toNat
      if (space ≠ 0 ∧ space ≠ 2) ∨ (space = 2 ∧ 0x40000 < w1.toNat + 192) then s.streamError n q seAccess 0
      else
        let net := ((List.range ((a + 191) / 128 - a / 128 + 1)).map (fun i => 128 * (a / 128 + i))).filter (overNet n)
        let r := (s.chargeBlocks n q net).readNow (some d) a 192
        if r.2.2 = codeUe then r.1.streamError n q seRemote codeUe
        else if r.2.2 ≠ 0 then r.1.streamError n q seAccess 0
        else
          let desc := (List.range 24).map (fun i => BitVec.ofNat 64 (ofLe (sliceBytes r.2.1 (8 * i) 8)))
          let code := descCode desc d s.deviceId (fun a m => s.ownsRange d a m)
          if code ≠ 0 then r.1.streamError n q seDesc code else put r.1 { g with desc := desc }))

/-- Changes a configured generator and goes on. -/
def State.editGen (s : State) (u : SlotRef) (g : Nat) (f : Gen → Gen) : State :=
  let sl := s.slot u.num
  (s.setSlot u.num { sl with gens := SMap.set none sl.gens g ((sl.gen? g).map f), run := none }).slotNext u.num 16

/-- SSTEP (R227, R230): a linear generator ignores DIM (R232). -/
def execSstep (u : SlotRef) (s : State) : Host.Outcome State Fault Refusal :=
  .next (s.stepStream u 0x02 (fun s _ w0 _ =>
    s.editGen u (tGs w0) (fun g =>
      let key := 8 * fld w0 51 3 + (if g.kind = .linear then 0 else fld w0 48 3)
      { g with steps := SMap.set 0 g.steps key (SMap.get 0 g.steps key + signed 48 (fld w0 0 48)) })))

/-- SOFF (R227, R230). -/
def execSoff (u : SlotRef) (s : State) : Host.Outcome State Fault Refusal :=
  .next (s.stepStream u 0x03 (fun s _ w0 _ =>
    s.editGen u (tGs w0) (fun g =>
      { g with offs := SMap.set 0 g.offs (if g.kind = .linear then 0 else fld w0 48 3) (signed 48 (fld w0 0 48)) })))

/-! ## Loops (R228) -/

/-- SLOOP (R228). -/
def execSloop (u : SlotRef) (s : State) : Host.Outcome State Fault Refusal :=
  .next (s.stepStream u 0x20 (fun s _ w0 w1 =>
    let sl := s.slot u.num
    let s := s.setSlot u.num { sl with
      cnt := SMap.set 0 sl.cnt (tLevel w0) 0, ext := SMap.set 0 sl.ext (tLevel w0) (BitVec.ofNat 48 (fld w0 0 48)), run := none }
    if fld w0 0 48 = 0 then s.slotBranch u.num w1 else s.slotNext u.num 16))

/-- SNEXT (R228): a run goes on over its branch, and ends where it falls through (R234). -/
def execSnext (u : SlotRef) (s : State) : Host.Outcome State Fault Refusal :=
  .next (s.stepStream u 0x21 (fun s d w0 w1 =>
    let sl := s.slot u.num
    let c := (SMap.get 0 sl.cnt (tLevel w0)).toNat + 1
    if c < (SMap.get 0 sl.ext (tLevel w0)).toNat then
      (s.setSlot u.num { sl with cnt := SMap.set 0 sl.cnt (tLevel w0) (BitVec.ofNat 48 c) }).slotBranch u.num w1
    else
      let f := s.flushRun u.grove.val u.slot.val d true
      match f.2 with
      | .ok _ =>
        let sl := f.1.slot u.num
        (f.1.setSlot u.num { sl with cnt := SMap.set 0 sl.cnt (tLevel w0) 0, run := none }).slotNext u.num 16
      | .wait => f.1
      | .fail c => f.1.streamError u.grove.val u.slot.val seRemote c))

/-! ## Tokens and commands (R239 to R242) -/

/-- SSIG (R240, R241): issues when every earlier write of the stream has been acknowledged. -/
def execSsig (u : SlotRef) (s : State) : Host.Outcome State Fault Refusal :=
  .next (s.stepStream u 0x22 (fun s d _ w1 =>
    let n := u.grove.val
    let token := tToken w1
    if s.slotWrites u.num then s
    else
      let s := s.endRun u.num
      if !s.signalRoom n token then s
      else if 0x8000 ≤ token ∧ token ≤ 0x8FFF then
        match s.signalJob n d token (tCount w1) with
        | none => s.streamError n u.slot.val seToken 0
        | some t => t.slotNext u.num 16
      else if !s.maySignal n token then s.streamError n u.slot.val seToken 0
      else
        let r := s.signalFrom n token (tCount w1)
        if r.2 then r.1.slotNext u.num 16 else r.1.streamError n u.slot.val seToken 0))

/-- SWAIT (R240): satisfied at once, or the slot waits in its turn. -/
def execSwait (u : SlotRef) (s : State) : Host.Outcome State Fault Refusal :=
  .next (s.stepStream u 0x23 (fun s _ _ w1 =>
    let n := u.grove.val
    match waitCounter n (tToken w1) with
    | none => s.streamError n u.slot.val seToken 0
    | some ctr =>
      let sl := s.slot u.num
      if s.waitNow n ctr (tCount w1) then
        ((s.setSlot u.num { sl with buffer := [], run := none }).setToken n ctr (s.token n ctr - tCount w1)).slotNext u.num 16
      else
        (s.setGrove n { s.grove n with waits := (s.grove n).waits ++ [⟨Fin.ofNat 64 ctr, .slot u.slot, tCount w1⟩] }).setSlot u.num
          { sl with st := .waiting, buffer := [], run := none }))

/-- TOKEN_WAIT_SATISFIED (R240): the first wait on a counter that holds its count is satisfied and the count taken; a slot goes on, and a
context's vwait may issue. -/
def execTokenWaitSatisfied (g : GroveId) (ctr : Fin 64) (s : State) : Host.Outcome State Fault Refusal :=
  let n := g.val
  match firstWait (s.grove n) ctr.val with
  | none => .next s
  | some w =>
    if s.token n ctr.val < w.count then .next s
    else
      let s := s.setToken n ctr.val (s.token n ctr.val - w.count)
      let s := s.setGrove n { s.grove n with waits := (s.grove n).waits.erase w }
      match w.who with
      | .context t => .next (s.setCtx (4 * n + t.val) { s.ctx (4 * n + t.val) with st := .running, granted := true })
      | .slot q => .next ((s.setSlot (8 * n + q.val) { s.slot (8 * n + q.val) with st := .running }).slotNext (8 * n + q.val) 16)

/-- SBTK (R227, R249): a branch cancels the fetched work; the counter is one the grove may wait on. -/
def execSbtk (u : SlotRef) (s : State) : Host.Outcome State Fault Refusal :=
  .next (s.stepStream u 0x24 (fun s _ _ w1 =>
    let n := u.grove.val
    match waitCounter n (tToken w1) with
    | none => s.streamError n u.slot.val seToken 0
    | some ctr =>
      let s := s.endRun u.num
      if tCount w1 ≤ s.token n ctr then (s.setSlot u.num { s.slot u.num with buffer := [], miss := none }).slotBranch u.num w1
      else s.slotNext u.num 16))

/-- SCMD (R242): the literal in the next instruction slot; earlier writes and a full queue are awaited. -/
def execScmd (u : SlotRef) (s : State) : Host.Outcome State Fault Refusal :=
  .next (s.stepStream u 0x25 (fun s _ _ _ =>
    let n := u.grove.val
    if s.slotWrites u.num || decide (32 ≤ (s.grove n).queue.length) then s
    else
      let r := (s.endRun u.num).fetch16 n ((s.slot u.num).pc.toNat + 16)
      if r.2.2.2 ≠ 0 then r.1.streamError n u.slot.val seRemote r.2.2.2
      else
        (r.1.setGrove n { r.1.grove n with queue := (r.1.grove n).queue ++ [⟨r.2.2.1 ++ r.2.1, 0⟩] }).slotNext u.num 32))

/-! ## Moves (R233 to R237) -/

/-- What a read of a unit comes to. -/
inductive Got where
  | ok (bytes : List Byte)
  | fail (code : Nat)
  /-- a read is in flight, or no tag is free -/
  | wait

/-- The number that stands for a place's first byte in `Fetched.addr`. -/
def placeBase : Place → Nat
  | .device => 0
  | .peer dev => 2 ^ 60 + 2 ^ 44 * dev
  | .host => 2 ^ 61

/-- Reads the source unit (R231, R234, R251, R253): `ext` is what a host read returned. -/
def State.readUnit (s : State) (n q d : Nat) (u : UnitAt) (ext : ExtRead) : State × Got :=
  let buf := (s.slot (8 * n + q)).buffer
  match u.place with
  | .device =>
    let r := s.readPieces (groveNode n) buf (some d) u.pieces
    (r.1, if r.2.2 = 0 then .ok r.2.1 else .fail r.2.2)
  | .host =>
    if bitOf s.hostOff (d + 1) then (s.ifaceEvent (groveNode n) codeHost 0, .fail codeHost)
    else
      match u.pieces.mapM (fun x => bufferedBytes buf (placeBase .host) x.1 x.2) with
      | some l => (s, .ok l.flatten)
      | none =>
        match ext with
        | .data b => (s, .ok (sliceBytes b 0 ((u.pieces.map (fun x => x.2)).foldl (· + ·) 0)))
        | .error => ((s.ifaceEvent pcieNode codeHost 0).ifaceEvent (groveNode n) codeHost 0, .fail codeHost)
  | .peer dev =>
    if u.pieces.any (fun x => decide (regionOf (x.1 % 2 ^ 44) = .gap)) then (s.ifaceEvent (groveNode n) codeRange 0, .fail codeRange)
    else
      let base := placeBase (.peer dev)
      let missing := (unitBlocks n u).filter (fun b => !buf.any (fun f => f.addr == b))
      let r := missing.foldl (fun (acc : State × Option Nat × Bool) b =>
        if acc.2.1.isSome || acc.2.2 then acc
        else
          match acc.1.peerRead n q d dev (b - base) with
          | none => (acc.1, none, true)
          | some (.inr _) => (acc.1, some codePeer, false)
          | some (.inl t) => (t, none, false)) (s, none, false)
      match r.2.1 with
      | some c => (r.1.ifaceEvent (groveNode n) c 0, .fail c)
      | none =>
        match (u.pieces.mapM (fun x => bufferedBytes (r.1.slot (8 * n + q)).buffer base x.1 x.2)) with
        | some l => (r.1, .ok l.flatten)
        | none => (r.1, .wait)

/-- Writes the destination unit in one step where it lies in this device or in host space (R231, R235, R241); the bytes for another device or
for a multicast join the run (R234). -/
def State.writeUnit (s : State) (n d : Nat) (u : UnitAt) (data : List Byte) (opx : Nat) (dest : RunTo) : State × Put :=
  let l := cutPieces u.pieces data
  match dest with
  | .here =>
    if u.place = .host then
      (if bitOf s.hostOff (d + 1) then (s.ifaceEvent (groveNode n) codeHost 0, .fail codeHost)
       else (l.foldl (fun s x => s.hostWrite (d + 1) x.1 x.2) s, .ok 0))
    else if opxOp opx = 0 then
      let r := s.writePieces (groveNode n) (some d) l
      (r.1, if r.2 = 0 then .ok 0 else .fail r.2)
    else
      let a := (u.pieces.headD (0, 0)).1
      let r := s.reduceNow (some d) a data allBytes opx
      (r.1.errorMet (groveNode n) a r.2.2, if r.2.2 = 0 then .ok r.2.1 else .fail r.2.2)
  | .peer dev _ =>
    if u.pieces.any (fun x => decide (regionOf (x.1 % 2 ^ 44) = .gap)) then (s.ifaceEvent (groveNode n) codeRange 0, .fail codeRange)
    else
      match s.peerPort dev (groveNode n) with
      | .inr _ => (s.ifaceEvent (groveNode n) codePeer 0, .fail codePeer)
      | .inl _ => (s, .ok 0)
  | .group _ => (s, .ok 0)

/-- The format of a generator's units: 0 to 4 Berry, 5 and 6 Hazel, 7 linear. -/
def Gen.fmt (g : Gen) : Nat := if g.kind = .linear then 7 else dFmt g.desc

/-- The pairings of R233. -/
def pairOk (sf df : Nat) : Bool :=
  (decide (sf ≤ 4) && decide (df ≤ 4)) || ((sf == 5 || sf == 6) && (df == 5 || df == 6)) ||
  (sf == 7 && (df == 7 || df == 6)) || (sf == 6 && df == 7)

/-- A unit converted for its destination: its bytes, the flags, the draws taken (R204, R216, R233); an absent source reads as +0 or as a
zero block (R230). -/
def State.convertUnit (s : State) (n q : Nat) (sf df rm : Nat) (sat : Bool) (src : Option (List Byte × Bool)) (dst : UnitAt) (dr : Draws) :
    List Byte × Flags × Draws :=
  let bytes := (src.map (fun x => x.1)).getD []
  if df ≤ 4 then
    let b := match src with
      | none => Block.zero
      | some (l, split) => if split then splitBlock (berryP sf) l else rowBlock (berryP sf) l
    let r := toBlockUnit sf df rm dst.real b (fun i => s.streamDraw n q i (SMap.get 0 dr i))
    (blockRow (berryP df) r.block, r.flags, if convDraws rm sf df then drawBlock dr else dr)
  else if sf = 7 ∨ df = 7 then (sliceBytes bytes 0 4, 0, dr)
  else
    let x := ofLe bytes
    let size := (hazelFmt df).width / 8
    let lane := (dst.pieces.headD (0, 0)).1 / size % 32
    let r := toHazelUnit sf df rm sat x (hazelVal (hazelFmt sf) x) (s.streamDraw n q lane (SMap.get 0 dr lane))
    (leBytes size r.bits, r.flags, if convDraws rm sf df then drawOnce dr lane else dr)

/-- The last piece of a unit: its start, and the byte after it. -/
def unitTail (u : UnitAt) : Nat × Nat := let x := u.pieces.getLastD (0, 0); (x.1, x.1 + x.2)

/-- The blocks of a unit that the run in progress has not touched (R234): the unit follows the last one, or, for a source, is the same. -/
def newBlocks (n : Nat) (u : UnitAt) (source : Bool) (last : Option (Nat × List Nat)) : List Nat :=
  match last with
  | some (e, blocks) =>
    if e = (unitTail u).1 ∨ (source = true ∧ e = (unitTail u).2) then (unitBlocks n u).filter (fun b => !blocks.contains b) else unitBlocks n u
  | none => unitBlocks n u

/-- The run of a slot that a unit may continue: it was moved by the same smov (R234). -/
def Slot.runHere (sl : Slot) : Option RunMark := sl.run.filter (fun r => r.pc == sl.pc.toNat)

/-- A destination unit continues the run in progress: it goes to the same place, and its bytes follow the last unit's (R234). -/
def Slot.continues (sl : Slot) (dest : RunTo) (u : UnitAt) : Bool :=
  match sl.runHere with
  | some r => r.dest == dest && r.dstEnd == (unitTail u).1
  | none => false

/-- The bytes of a unit as they join a run: those of a multicast by their place within a grove's tiles, as its members see them (R236). -/
def runBytes (dest : RunTo) (u : UnitAt) (data : List Byte) : List (Nat × Byte) :=
  let at' (a : Nat) : Nat := match dest with | .group _ => tileSramBase + (a - tileSramBase) % 0x400000 | _ => a
  (cutPieces u.pieces data).flatMap (fun (a, l) => l.zipIdx.map (fun (b, i) => (at' a + i, b)))

/-- Counts the flits of a move made in one step and remembers its unit for the run, with the bytes that are still to be sent (R234, R237):
`cells` are those of a unit for another device or a multicast. -/
def State.runFlits (s : State) (n q : Nat) (us ud : Option UnitAt) (dest : RunTo) (cells : List (Nat × Byte)) : State :=
  let k := 8 * n + q
  let sl := s.slot k
  let run := sl.runHere
  let isPeer (u : UnitAt) : Bool := match u.place with | .peer _ => true | _ => false
  let srcNew := match us with
    | some u => if isPeer u then [] else
        (newBlocks n u true (run.map (fun (r : RunMark) => (r.srcEnd, r.src)))).filter (fun b => !sl.buffer.any (fun f => f.addr == b))
    | none => []
  let dstNew := match ud with
    | some u => if dest = .here then newBlocks n u false (run.map (fun (r : RunMark) => (r.dstEnd, r.dst))) else []
    | none => []
  let s := s.chargeBlocks n q (srcNew ++ dstNew)
  let dstBlocks := (ud.map (unitBlocks n)).getD []
  let srcBlocks := ((us.map (unitBlocks n)).getD []).filter (fun b => !dstBlocks.contains b)
  let grouped := cells.filterMap (fun c => match dest with | .group _ => groupBlock c.1 | _ => none)
  s.setSlot k { s.slot k with
    run := some ⟨sl.pc.toNat, (us.map (fun u => (unitTail u).2)).getD 0, (ud.map (fun u => (unitTail u).2)).getD 0, srcBlocks, dstBlocks, dest,
      ((run.map (fun (r : RunMark) => r.out)).getD []) ++ cells⟩
    buffer := (s.slot k).buffer.filter (fun f => !dstBlocks.contains f.addr &&
      !(match groupBlock f.addr with | some b => grouped.contains b | none => false)) }

/-- A host unit lies at 2^57 or above (R303). -/
def hostTooHigh (u : Option UnitAt) : Bool :=
  match u with
  | some x => x.place == .host && x.pieces.any (fun p => decide (2 ^ 57 ≤ p.1 + p.2 - 1))
  | none => false

/-- Where the writes of an smov go (R231, R236). -/
def moveTarget (w0 : U64) (opx : Nat) (ud : Option UnitAt) : RunTo :=
  if tMc w0 then .group (fld w0 37 9)
  else match ud with
    | some u => (match u.place with | .peer dev => .peer dev opx | _ => .here)
    | none => .here

/-- The unsent bytes of the run in progress touch a unit that the slot is about to read (R237). -/
def State.runMeets (s : State) (k : Nat) (u : UnitAt) : Bool :=
  match (s.slot k).run with
  | none => false
  | some r =>
    match r.dest with
    | .here => false
    | .peer dev _ => u.place == .peer dev && u.pieces.any (fun x => r.out.any (fun c => decide (x.1 ≤ c.1) && decide (c.1 < x.1 + x.2)))
    | .group _ => u.place == .device && u.pieces.any (fun x =>
        match groupBlock x.1 with | some b => r.out.any (fun c => groupBlock c.1 == some b) | none => false)

/-- One smov whose codes and pairing are good: the read, the conversion, the write. -/
def State.moveUnit (s : State) (n q d : Nat) (w0 : U64) (gs gd : Gen) (us ud : Option UnitAt) (ext : ExtRead) : State :=
  let k := 8 * n + q
  let opx := opxOf (tOp w0) (tRm w0) (tSat w0) (gd.fmt == 5)
  let dest := moveTarget w0 opx ud
  -- the bytes of a run that this unit does not continue, or that it reads, go first (R234, R237)
  let goesOn := match ud with | some u => (s.slot k).continues dest u | none => false
  let meets := match us with | some u => s.runMeets k u | none => false
  let f := s.flushRun n q d (!goesOn || meets)
  match f.2 with
  | .wait => f.1
  | .fail c => f.1.streamError n q seRemote c
  | .ok _ =>
    let s := f.1
    if (match us with | some u => s.meetsGroup k u | none => false) || (match ud with | some u => s.meetsGroup k u | none => false) then s
    else
      let r := match us with
        | some u => s.readUnit n q d u ext
        | none => (s, .ok (List.replicate 4 0))
      match r.2 with
      | .wait => r.1
      | .fail c => r.1.streamError n q seRemote c
      | .ok bytes =>
        match ud with
        | none => (r.1.runFlits n q us ud dest []).slotNext k 16
        | some u =>
          let c := r.1.convertUnit n q gs.fmt gd.fmt (tRm w0) (tSat w0) (us.map (fun x => (bytes, x.split))) u (r.1.slot k).draws
          let w := r.1.writeUnit n d u c.1 opx dest
          match w.2 with
          | .wait => w.1
          | .fail code => w.1.streamError n q seRemote code
          | .ok f =>
            let s := w.1.raiseStreamFlags n q (c.2.1 ||| f)
            let s := s.setSlot k { s.slot k with draws := c.2.2 }
            let s := s.runFlits n q us (some u) dest (if dest = .here then [] else runBytes dest u c.1)
            (s.flushRun n q d false).1.slotNext k 16

/-- The bytes of host space that the instruction at a slot's position reads and writes: (write, generator, pieces) (R250). -/
def State.hostPieces (s : State) (n : Nat) (sl : Slot) (w0 : U64) : List (Bool × Nat × List (Nat × Nat)) :=
  let move (g : Nat) (wr : Bool) : List (Bool × Nat × List (Nat × Nat)) :=
    match sl.gen? g with
    | some x =>
      (match s.unitAt n sl x with
       | some u => if u.place = .host then [(wr, g, u.pieces)] else []
       | none => [])
    | none => []
  let whole (g : Nat) (wr : Bool) (pieces : Gen → List Nat → List (Nat × Nat)) : List (Bool × Nat × List (Nat × Nat)) :=
    match sl.gen? g with
    | some x =>
      if x.kind = .local ∧ dSpace x.desc = 1 then [(wr, g, pieces x (extentsAt x.desc (s.ownCoord x.desc)))] else []
    | none => []
  match tOpc w0 with
  | 0x10 => move (tGs w0) false ++ (if tMc w0 then [] else move (tGd w0) true)
  | 0x11 => whole (tGs w0) false (fun x es => packPieces x.desc es (packIndex sl x es) w0)
  | 0x12 => whole (tGs w0) false (fun x es => tensorPieces x.desc es) ++
      whole (tGd w0) true (fun x es => (destUnits x.desc es).flatMap (fun y => (unitPieces x.desc es y.2).1))
  | _ => []

/-- The host accesses of the instruction at a slot's position that have no translation: (write, generator, address), the first of each
generator (R250). -/
def State.missingPages (s : State) (n d : Nat) (sl : Slot) (w0 : U64) : List (Bool × Nat × Nat) :=
  (s.hostPieces n sl w0).filterMap (fun x => (s.missingPage (d + 1) x.1 x.2.2).map (fun a => (x.1, x.2.1, a)))

/-- The instruction's host accesses need no translation that is missing (R250). -/
def State.pagesReady (s : State) (n d : Nat) (sl : Slot) (w0 : U64) : Bool :=
  bitOf s.hostOff (d + 1) || (s.missingPages n d sl w0).isEmpty

/-- The slot stands at the unit of a miss. -/
def Miss.here (m : Miss) (sl : Slot) : Bool := m.pc == sl.pc && m.cnt == sl.cnt && m.ext == sl.ext

/-- The stream halts at a unit whose Page Request is out: its position is recorded, and what it has fetched beyond is discarded (R250, R252). -/
def State.haltStream (s : State) (n q d : Nat) (m : Miss) (prg : BitVec 9) : State :=
  let s := s.recordStream n q 3 m.gen.val m.write m.addr.toNat prg.toNat (s.pasidOf d)
  s.setSlot (8 * n + q) { s.slot (8 * n + q) with st := .halted, buffer := [] }

/-- The program position has reached a host-space unit without a translation (R250): the units before it go out, and with a Page Request out
for one of its pages the stream halts. -/
def State.haltAtMiss (s : State) (n q d : Nat) (pages : List (Bool × Nat × Nat)) : State :=
  let s := (s.flushRun n q d true).1
  match (s.slot (8 * n + q)).miss with
  | none => s
  | some m =>
    match m.prg with
    | none => s
    | some prg => if pages.any (fun x => x.2.2 / 4096 == m.addr.toNat / 4096) then s.haltStream n q d m prg else s

/-- SMOV (R233 to R237): one unit; a unit of host space that has no translation is awaited (R250). -/
def execSmov (u : SlotRef) (ext : ExtRead) (s : State) : Host.Outcome State Fault Refusal :=
  .next (s.stepStream u 0x10 (fun s d w0 _ =>
    let n := u.grove.val
    let q := u.slot.val
    let sl := s.slot u.num
    match sl.gen? (tGs w0), sl.gen? (tGd w0) with
    | some gs, some gd =>
      let us := s.unitAt n sl gs
      let ud := s.unitAt n sl gd
      let hostDst := match ud with | some x => x.place == .host | none => false
      if !pairOk gs.fmt gd.fmt || (decide (tOp w0 ≠ 0) && (!(gd.fmt == 5 || gd.fmt == 6) || tRm w0 == 2 || hostDst)) then
        s.streamError n q seIllegal 0
      else if gd.fmt ≤ 4 && dSplit gd.desc then s.streamError n q seDesc 6
      else if (tMc w0 && (gd.kind != .linear || gd.space != 7 || !s.groupOk n d (fld w0 37 9))) || hostTooHigh us || hostTooHigh ud then
        s.streamError n q seAccess 0
      else if !s.pagesReady n d sl w0 then s.haltAtMiss n q d (s.missingPages n d sl w0)
      else s.moveUnit n q d w0 gs gd us ud ext
    | _, _ => s))

/-! ## Looking ahead (R248, R250) -/

/-- The slot as it stands after the instruction (w0, w1) at its position, for a look ahead of the program (R248); none where fetching does
not pass: at an swait, a send or a skill of the slot itself, or where what follows is not yet known. Past an sbtk it takes the path that does
not branch. -/
def State.stepOver (s : State) (n d q : Nat) (sl : Slot) (w0 w1 : U64) : Option Slot :=
  let on (sl : Slot) (by' : Int) : Option Slot := some { sl with pc := BitVec.ofInt 18 ((sl.pc.toNat : Int) + by') }
  let edit (f : Gen → Gen) : Slot := { sl with gens := SMap.set none sl.gens (tGs w0) ((sl.gen? (tGs w0)).map f) }
  match tOpc w0 with
  | 0x01 =>
    if fld w0 51 3 = 0 ∧ s.windowOk n d (fld w0 48 3) w1.toNat (fld w0 0 48) = true then
      on { sl with gens := SMap.set none sl.gens (tGs w0) (some
        { kind := .linear, space := BitVec.ofNat 3 (fld w0 48 3), addr := w1, window := BitVec.ofNat 48 (fld w0 0 48), desc := [], steps := [],
          offs := [] }) } 16
    else none
  | 0x02 =>
    on (edit (fun g =>
      let key := 8 * fld w0 51 3 + (if g.kind = .linear then 0 else fld w0 48 3)
      { g with steps := SMap.set 0 g.steps key (SMap.get 0 g.steps key + signed 48 (fld w0 0 48)) })) 16
  | 0x03 =>
    on (edit (fun g =>
      { g with offs := SMap.set 0 g.offs (if g.kind = .linear then 0 else fld w0 48 3) (signed 48 (fld w0 0 48)) })) 16
  | 0x20 =>
    on { sl with
      cnt := SMap.set 0 sl.cnt (tLevel w0) 0, ext := SMap.set 0 sl.ext (tLevel w0) (BitVec.ofNat 48 (fld w0 0 48)) }
      (if fld w0 0 48 = 0 then 16 * tOff w1 else 16)
  | 0x21 =>
    let c := (SMap.get 0 sl.cnt (tLevel w0)).toNat + 1
    let again := decide (c < (SMap.get 0 sl.ext (tLevel w0)).toNat)
    on { sl with cnt := SMap.set 0 sl.cnt (tLevel w0) (if again then BitVec.ofNat 48 c else 0) } (if again then 16 * tOff w1 else 16)
  | 0x23 => none
  | 0x25 => on sl 32
  | 0x26 => on sl 32
  | 0x27 => if fld w0 50 3 = q then none else on sl 16
  | 0x28 => none
  | _ => on sl 16

/-- A block that the instruction at a slot's position writes (R237): a unit's, a multicast's at any member, or a copy's destination. -/
def State.writesBlock (s : State) (n : Nat) (sl : Slot) (w0 : U64) (b : Nat) : Bool :=
  match tOpc w0, sl.gen? (tGd w0) with
  | 0x10, some g =>
    (match s.unitAt n sl g with
     | some u =>
       if tMc w0 then (groupBlock b).isSome && u.pieces.any (fun x => groupBlock x.1 == groupBlock b)
       else (unitBlocks n u).contains b
     | none => false)
  | 0x12, some g =>
    let es := extentsAt g.desc (s.ownCoord g.desc)
    let base := if dSpace g.desc = 1 then 2 ^ 61 else 0
    (footprints g.desc es).any (fun f => decide (f.1 + base < (b : Int) + 128) && decide ((b : Int) ≤ f.2 + base))
  | _, _ => false

/-- Follows the program from a position and gives the first thing that `find` finds at an instruction, given the blocks that earlier writes
of the stream not yet made touch; 65,536 instructions at most (log entry 120). -/
def State.lookAhead {α : Type} (s : State) (n d q : Nat) (find : (Nat → Bool) → Slot → U64 → Option α) : Nat → (Nat → Bool) → Slot → Option α
  | 0, _, _ => none
  | fuel + 1, held, sl =>
    let r := s.fetch16 n sl.pc.toNat
    if r.2.2.2 ≠ 0 || !tLegal sl r.2.1 then none
    else
      match find held sl r.2.1 with
      | some x => some x
      | none =>
        match s.stepOver n d q sl r.2.1 r.2.2.1 with
        | none => none
        | some t => s.lookAhead n d q find fuel (fun b => held b || s.writesBlock n sl r.2.1 b) t

/-- Instructions that a look ahead follows. -/
def aheadLimit : Nat := 65536

/-! ## Prefetch (R248) -/

/-- The first block, over the network, that an smov at or ahead of the slot's position reads, that the buffer lacks and that no earlier write
of the stream not yet made touches (R237, R248); in host space only where it has its translation. -/
def State.nextFetch (s : State) (n d q : Nat) (sl : Slot) : Option (Place × Nat) :=
  s.lookAhead n d q (fun held at' w0 =>
    if tOpc w0 ≠ 0x10 then none
    else
      match (at'.gen? (tGs w0)).bind (s.unitAt n at') with
      | none => none
      | some u =>
        if u.place = .host ∧ (bitOf s.hostOff (d + 1) = true ∨ (s.missingPage (d + 1) false u.pieces).isSome = true) then none
        else ((unitBlocks n u).find? (fun b => !sl.buffer.any (fun f => f.addr == b) && !held b)).map (fun b => (u.place, b)))
    aheadLimit (fun b => match groupBlock b with | some x => (s.groupPending (8 * n + q)).contains x | none => false) sl

/-- PREFETCH (R247, R248): one block, while the buffer has room; `a.ext` is what a read of host space returned, and its error is met again by
the unit's own read. -/
def execPrefetch (a : FetchAhead) (s : State) : Host.Outcome State Fault Refusal :=
  let u := a.slot
  let n := u.grove.val
  let q := u.slot.val
  let sl := s.slot u.num
  match s.groveOwner n with
  | none => .next s
  | some d =>
    if sl.st ≠ .running ∨ sl.hold ≠ .none ∨ 64 ≤ sl.buffer.length then .next s
    else
      let keep (s : State) (b : Nat) (l : List Byte) : State :=
        (s.setSlot u.num { s.slot u.num with buffer := (s.slot u.num).buffer ++ [⟨b, 0, some l⟩] }).chargeBlocks n q [b]
      match s.nextFetch n d q sl with
      | none => .next s
      | some (.device, b) =>
        let r := s.readNow (some d) b 128
        .next (if r.2.2 ≠ 0 then s else keep r.1 b r.2.1)
      | some (.host, b) =>
        (match a.ext with
         | .data l => .next (keep s b (sliceBytes l 0 128))
         | .error => .next s)
      | some (.peer dev, b) =>
        match s.peerRead n q d dev (b - placeBase (.peer dev)) with
        | some (.inl t) => .next t
        | _ => .next s

/-! ## Translation misses (R250, R251) -/

/-- The first host access at or ahead of the slot's position that has no translation (R250). -/
def State.missAhead (s : State) (n d q : Nat) (sl : Slot) : Option Miss :=
  s.lookAhead n d q (fun _ at' w0 => (s.missingPages n d at' w0).head?.map (fun x =>
    { addr := BitVec.ofNat 64 x.2.2, write := x.1, gen := Fin.ofNat 4 x.2.1, pc := at'.pc, cnt := at'.cnt, ext := at'.ext, prg := none }))
    aheadLimit (fun _ => false) sl

/-- Sends the Translation Request of a miss (R250). -/
def State.askTranslation (s : State) (k f : Nat) (m : Miss) : State :=
  (s.setSlot k { s.slot k with miss := some { m with prg := none } }).send (.translation f (m.addr.toNat / 4096))

/-- TRANSLATION_MISS (R250): for the next unit without a translation, while the slot has none out (log entry 121). -/
def execTranslationMiss (u : SlotRef) (s : State) : Host.Outcome State Fault Refusal :=
  let n := u.grove.val
  let sl := s.slot u.num
  match s.groveOwner n with
  | none => .next s
  | some d =>
    if sl.st ≠ .running ∨ sl.hold ≠ .none ∨ sl.miss ≠ none ∨ Config.atsEnabled (d + 1) = false ∨ bitOf s.hostOff (d + 1) = true then .next s
    else
      match s.missAhead n d u.slot.val sl with
      | none => .next s
      | some m => .next (s.askTranslation u.num (d + 1) m)

/-- A miss ends in an error where the program position has reached its unit; else the unit meets it again when it is reached (R250). -/
def State.failMiss (s : State) (k : Nat) (m : Miss) (act : State → State) : State :=
  let t := s.setSlot k { s.slot k with miss := none }
  if m.here (s.slot k) then act t else t

/-- Page Requests of a Stand's streams that await their response (R494). -/
def State.pagesAsked (s : State) (d : Nat) : Nat :=
  ((s.grovesOf d).flatMap (fun n => (List.range 8).filter (fun q => (s.slot (8 * n + q)).miss.any (fun m => m.prg.isSome)))).length

/-- TRANSLATION_COMPLETION (R250, R251, R494, R506): with 512 Page Requests out, the answer that would send another waits. The Page Request Group index is the device's: a free value of 9 bits (log entry 2). -/
def execTranslationCompletion (u : SlotRef) (r : TransResult) (s : State) : Host.Outcome State Fault Refusal :=
  let n := u.grove.val
  let q := u.slot.val
  let sl := s.slot u.num
  match s.groveOwner n, sl.miss with
  | some d, some m =>
    if m.prg ≠ none then .next s
    else
      match r with
      | .present page =>
        .next { s.setSlot u.num { sl with miss := none, st := if sl.st = .halted then .running else sl.st } with
          ats := SMap.set none s.ats (2 * (2 ^ 52 * (d + 1) + m.addr.toNat / 4096) + b2n m.write) (some page) }
      | .failed => .next (s.failMiss u.num m (fun t => t.streamError n q seRemote codeHost))
      | .missing =>
        if Config.priEnabled (d + 1) && decide (512 ≤ s.pagesAsked d) then .next s
        else if Config.priEnabled (d + 1) then
          let prg := BitVec.ofNat 9 s.drawn.toNat
          let s := s.advance.setSlot u.num { sl with miss := some { m with prg := some prg } }
          let s := s.send (.pageRequest (d + 1) (m.addr.toNat / 4096) m.write prg.toNat)
          .next (if m.here sl then s.haltStream n q d m prg else s)
        else .next (s.failMiss u.num m (fun t => t.streamFault n q sePage 3 m.gen.val m.write m.addr.toNat 0 (s.pasidOf d)))
  | _, _ => .next s

/-- The step ends on a page fault (R251): the record holds the position of the unit, reached or not. -/
def State.pageFault (s : State) (n q d : Nat) (m : Miss) (prg : BitVec 9) (detail : Nat) : State :=
  (s.setSlot (8 * n + q) { s.slot (8 * n + q) with pc := m.pc, cnt := m.cnt, ext := m.ext }).streamFault n q sePage detail m.gen.val m.write
    m.addr.toNat prg.toNat (s.pasidOf d)

/-- PAGE_RESPONSE (R251). -/
def execPageResponse (u : SlotRef) (r : PageCode) (s : State) : Host.Outcome State Fault Refusal :=
  let n := u.grove.val
  match s.groveOwner n, (s.slot u.num).miss with
  | some d, some m =>
    (match m.prg, r with
     | none, _ => .next s
     | some _, .success => .next (s.askTranslation u.num (d + 1) m)
     | some prg, _ => .next (s.pageFault n u.slot.val d m prg 1))
  | _, _ => .next s

/-- PAGE_REQUEST_TIMEOUT (R251). -/
def execPageRequestTimeout (u : SlotRef) (s : State) : Host.Outcome State Fault Refusal :=
  let n := u.grove.val
  match s.groveOwner n, (s.slot u.num).miss with
  | some d, some m =>
    (match m.prg with
     | none => .next s
     | some prg => .next (s.pageFault n u.slot.val d m prg 2))
  | _, _ => .next s

end Sys2Proof.Machine
end

