-- ==== Sys2Proof/Machine/Network.lean ====
section
/-! DEFINITION. The on-package network (09_network.md): routers, and what an interface does with each kind of packet. A command of a
packet kind takes the packet at the front of the interface's receive queue. -/

namespace Sys2Proof.Machine

/-! ## Routers (R306, R312, R322, R323) -/

/-- A router input's buffer on a channel. -/
def fifoKey (r i ch : Nat) : Nat := (6 * r + i) * 3 + ch
/-- The flits there. -/
def State.fifo (s : State) (r i ch : Nat) : List Flit := SMap.get [] s.fifos (fifoKey r i ch)
/-- Sets them. -/
def State.setFifo (s : State) (r i ch : Nat) (l : List Flit) : State := { s with fifos := SMap.set [] s.fifos (fifoKey r i ch) l }

/-- LINK_FAIL of an output (R327). -/
def State.linkFailed (s : State) (r o : Nat) : Bool := s.bit (0x6600 + r) 1 (10 + o)

/-- A checked error of a router: PARITY_ERR set, reported on its die (R322, R323, R327). -/
def State.routerError (s : State) (r : Nat) (e : CheckedError) (f : Flit) : State :=
  (s.event (0x6600 + r) 1 0x200).report (mkReport e (routerDie r) (f.stand.map (fun d => d.val)) .router r 0)

/-- What a router does with a flit by its route: the output, and the flit as it leaves; none for NET_ROUTE (R306, R323). -/
def routeStep (i : OutPort) (f : Flit) : Option (OutPort × Flit) :=
  let ahead := oppositePort i
  let mesh := i != .l0 && i != .l1
  if f.run ≠ 0 then (if mesh then some (ahead, { f with run := f.run - 1 }) else none)
  else
    let g := { f with route := f.route >>> 3 }
    match fld f.route 0 3 with
    | 0 => some (.e, g)
    | 1 => some (.w, g)
    | 2 => some (.n, g)
    | 3 => some (.s, g)
    | 4 => some (.l0, g)
    | 5 => some (.l1, g)
    | 6 => if mesh then some (ahead, { g with run := 3 }) else none
    | _ => none

/-- The local port's node, where an interface is attached. -/
def localNode (r : Nat) (o : OutPort) : Option Nat :=
  match o with
  | .l0 => if attachOf (2 * r) = .none then none else some (2 * r)
  | .l1 => if attachOf (2 * r + 1) = .none then none else some (2 * r + 1)
  | _ => none

/-- An output leads somewhere. -/
def outputExists (r : Nat) (o : OutPort) : Bool := (localNode r o).isSome || (neighbour r o).isSome

/-- Flits of a channel that a seam bridge's queue holds, before the router input behind it (R32, R309). -/
def bridgeDepth (ch : Nat) : Nat := if ch = 2 then 4 else 6

/-- The receive queue of an interface has room: responses are counted apart from requests and multicasts, so that they never wait on these
(R32, R309, log entry 122). -/
def State.rxRoom (s : State) (node ch : Nat) : Bool :=
  decide ((if ch = 1 then (s.rxQueue node 1).length else (s.rxQueue node 0).length + (s.rxQueue node 2).length) < ifaceDepth node)

/-- The next buffer has room: 8 flits a channel at a router input, before it the bridge's queue where the link crosses a seam, or the receive
queue of an interface (R32, R309). -/
def State.hasRoom (s : State) (r : Nat) (o : OutPort) (ch : Nat) : Bool :=
  match neighbour r o with
  | some m =>
    decide ((s.fifo m (portNum (oppositePort o)) ch).length < inputDepth + (if routerDie m = routerDie r then 0 else bridgeDepth ch))
  | none => (localNode r o).all (fun node => s.rxRoom node ch)

/-- An MC_WRITE for a member that the root has detached, and whose buffer is full (R314). -/
def State.memberDrops (s : State) (r : Nat) (o : OutPort) (f : Flit) : Bool :=
  f.kind == 0xA && (localNode r o).any (fun node =>
    !s.rxRoom node 2 && (s.treeMembers (fld f.route 0 8)).any (fun m => m.2 == node && s.treeDetached (fld f.route 0 8) m.1))

/-- A flit can leave by an output: its next buffer has room, or it is discarded there (R309, R314, R322). -/
def State.canLeave (s : State) (r : Nat) (o : OutPort) (ch : Nat) (f : Flit) : Bool :=
  s.hasRoom r o ch || s.linkFailed r (portNum o) || s.memberDrops r o f

/-- Puts a flit on an output; a failed link discards it, and so does a detached member's full interface (R314, R322). -/
def State.putOut (s : State) (r : Nat) (o : OutPort) (ch : Nat) (f : Flit) : State :=
  if s.linkFailed r (portNum o) then s
  else
    match neighbour r o with
    | some m => s.setFifo m (portNum (oppositePort o)) ch (s.fifo m (portNum (oppositePort o)) ch ++ [f])
    | none =>
      match localNode r o with
      | some node =>
        if s.memberDrops r o f then s.event (0x6600 + r) (ifaceSub node 0) 0x10 else s.setRx node ch (s.rxQueue node ch ++ [f])
      | none => s

/-- The outputs to which a router copies an MC_WRITE (R312). -/
def State.branchOutputs (s : State) (r : Nat) (f : Flit) : List OutPort :=
  ((List.range 6).filter (fun o => bitOf (SMap.get 0 s.treeMasks (400 * fld f.route 0 8 + r)) o)).map portOf

/-- The outputs that the flit at the front of a router input asks for, with the flit as it leaves; none for NET_ROUTE (R306, R312, R323). -/
def State.wants (s : State) (r : Nat) (i : OutPort) (f : Flit) : Option (List OutPort × Flit) :=
  if f.kind = 0xA then some (s.branchOutputs r f, f)
  else
    match routeStep i f with
    | some (o, g) => if outputExists r o then some ([o], g) else none
    | none => none

/-- The flit at the front of a router input on a channel, of those that an output may take: it can leave by every output it asks for, and
the given one is the first of these (R310, R312). -/
def State.asksFor (s : State) (r o i ch : Nat) : Bool :=
  match s.fifo r i ch with
  | [] => false
  | f :: _ =>
    (match s.wants r (portOf i) f with
     | some (outs, g) => (outs.head?.map portNum) == some o && outs.all (fun x => s.canLeave r x ch g)
     | none => false)

/-- The input and channel, as 3 · input + channel, that an output serves next: the first that may go, from one past the one served last
(R310). -/
def State.turnOf (s : State) (r o : Nat) : Option Nat :=
  ((List.range 18).map (fun k => (SMap.get 0 s.turns (6 * r + o) + k) % 18)).find? (fun x => s.asksFor r o (x / 3) (x % 3))

/-- ROUTER_HOP (R302, R306, R310, R312, R322): the flit at the front of a router input, where it is its turn at its output; a multicast flit
takes its turn at the first of its outputs (log entry 18). With `h.parity` the router finds a parity mismatch and discards the flit. -/
def execRouterHop (r : RouterId) (i : OutPort) (h : HopFlit) (s : State) : Host.Outcome State Fault Refusal :=
  let rr := r.val
  let ii := portNum i
  let c := chanNum h.chan
  match s.fifo rr ii c with
  | [] => .next s
  | f :: rest =>
    let took := { s.setFifo rr ii c rest with mismatches := SMap.set 0 s.mismatches (fifoKey rr ii c) 0 }
    if h.parity then .next (took.routerError rr .netParity f)
    else
      match s.wants rr i f with
      | none => .next (took.routerError rr .netRoute f)
      | some ([], _) => .next took
      | some (o :: outs, g) =>
        if s.turnOf rr (portNum o) ≠ some (3 * ii + c) then .next s
        else
          .next ((o :: outs).foldl (fun s x =>
            { s.putOut rr x c g with turns := SMap.set 0 s.turns (6 * rr + portNum x) ((3 * ii + c + 1) % 18) }) took)

/-- The router and output whose link feeds an input: the neighbour's, or the router's own local port (R322). -/
def feederOf (r : Nat) (i : OutPort) : Nat × Nat :=
  match neighbour r i with
  | some m => (m, portNum (oppositePort i))
  | none => (r, portNum i)

/-- LINK_REPLAY (R322): a check mismatch of the flit at the front of an input. -/
def execLinkReplay (r : RouterId) (i : OutPort) (ch : Channel) (s : State) : Host.Outcome State Fault Refusal :=
  let rr := r.val
  let key := fifoKey rr (portNum i) (chanNum ch)
  match s.fifo rr (portNum i) (chanNum ch) with
  | [] => .next s
  | f :: _ =>
    let n := SMap.get 0 s.mismatches key + 1
    if n < 4 then
      .next ({ s with mismatches := SMap.set 0 s.mismatches key n }.count (0x6600 + rr) 2 0 64 1)
    else
      let feed := feederOf rr i
      let s := (List.range 3).foldl (fun s c => s.setFifo rr (portNum i) c []) { s with mismatches := SMap.set 0 s.mismatches key 0 }
      .next ((s.event (0x6600 + feed.1) 1 (2 ^ (10 + feed.2))).report
        (mkReport .netLink (routerDie rr) (f.stand.map (fun d => d.val)) .link (6 * feed.1 + feed.2) 0))

/-! ## Requests at their destination -/

/-- Takes the request at the front of a node's queue where it is of a kind and the interface can reserve the buffer of its responses: refused
with an ERROR, or served (R309, R316, R319, R321). A reserved KIND is answered by any of these commands. -/
def State.serve (s : State) (node ch : Nat) (kind : BitVec 4) (act : State → Flit → State) : State :=
  match s.rxQueue node ch with
  | [] => s
  | f :: rest =>
    if (f.kind ≠ kind ∧ f.kind ≠ 0 ∧ f.kind.toNat < 0xB) ∨ s.canReserve node f = false then s
    else
      let t := s.setRx node ch rest
      let c := t.refuses node f
      if c.1 = 0 then act t f else t.refuse node f c.1 c.2

/-- Sends a request of this device on the links (R372, R373). -/
def State.toPeer (s : State) (p : Nat) (f : Flit) : State :=
  let dest := fld f.addr 44 10
  if s.portUp p then s.sendPeer p dest f
  else s.respond (xannusNode p) f 8 0 (peerErrData 2 s.deviceId)

/-- The Stand whose ownership a shared interface checks (R261, R319). -/
def flitStand (f : Flit) : Option Nat := f.stand.map (fun d => d.val)

/-- A block RAM address whose block is bound to the interface (R398). -/
def State.boundBlock (s : State) (a : Nat) : Bool :=
  match regionOf a with
  | .blockRam d b => Config.blockBound ((SMap.get Clearing.reset s.clearings (24 * d + b / 192)).image) (24 * d + b / 192) (b % 192)
  | _ => false

/-- The host page accesses of a flit: the function it belongs to (R318, R506). -/
def flitFunc (f : Flit) : Nat := match f.stand with | some d => d.val + 1 | none => 0

/-- Serves a READ_REQ from the memory behind a node (R304): a READ_RSP for each block, or one ERROR. -/
def State.readBlocksFrom (s : State) (node : Nat) (f : Flit) : State :=
  let r := (readBlocks f).foldl (fun (acc : State × List (Nat × List Byte) × Nat) a =>
    if acc.2.2 ≠ 0 then acc
    else
      let x := acc.1.readAs (flitStand f) a 128
      (x.1, acc.2.1 ++ [(a, x.2.1)], x.2.2)) (s, [], 0)
  if r.2.2 ≠ 0 then r.1.respondError node f r.2.2 0
  else r.2.1.foldl (fun s (a, b) => s.respond node f 2 a (BitVec.ofNat 1024 (ofLe b))) r.1

/-- A request to an unbound block, which goes to user logic (R404). -/
def State.userReq (s : State) (node : Nat) (f : Flit) : Bool :=
  (f.kind == 1 || f.kind == 3 || f.kind == 4) && (s.refuses node f).1 == 0 && !s.boundBlock (f.addr.toNat % 2 ^ 44)

/-- A request for an unbound block waits for URX_REQ (R404). -/
def State.forUser (s : State) (node : Nat) (kind : BitVec 4) : Bool :=
  match attachOf node, s.rxQueue node 0 with
  | .clearing _, f :: _ => f.kind == kind && s.userReq node f
  | _, _ => false

/-- While 64 TAGs are outstanding, requests to bound blocks flow past those for user logic: the first one, where it is of the kind, is served
next (R404). -/
def State.passUser (s : State) (node : Nat) (kind : BitVec 4) : State :=
  match attachOf node with
  | .clearing c =>
    let l := s.rxQueue node 0
    if (List.range 64).any (fun t => (SMap.get none (SMap.get Clearing.reset s.clearings c).tags t).isNone) then s
    else
      match l.findIdx? (fun f => !s.userReq node f) with
      | none => s
      | some i =>
        match l[i]? with
        | some f => if f.kind = kind then s.setRx node 0 (f :: l.eraseIdx i) else s
        | none => s
  | _ => s

/-- READ_REQ (R304). -/
def execReadReq (n : NodeId) (s : State) : Host.Outcome State Fault Refusal :=
  let node := n.val
  let s := s.passUser node 1
  match attachOf node with
  | .clearing _ => .next (if s.forUser node 1 then s else s.serve node 0 1 (fun s f => s.readBlocksFrom node f))
  | a =>
    .next (s.serve node 0 1 (fun s f =>
      if 512 < f.addr.toNat % 512 / 128 * 128 + 128 * (f.opx.toNat % 4 + 1) then s.respondError node f codeFormat 0
      else
        match a with
        | .stack k _ => s.enqueueStack k f
        | .xannus p => s.toPeer p f
        | .pcie =>
          if bitOf s.hostOff (flitFunc f) then s.respondError node f codeHost 0
          else (List.range (f.opx.toNat % 4 + 1)).foldl (fun s i =>
            let d := s.drawnWide
            d.1.sendFlit node f.src { responseFlit node f 2 0 d.2 with addr := f.addr + BitVec.ofNat 57 (128 * i) }) s
        | .none => s
        | .management _ => s.respondError node f codeRange 0
        | _ => s.readBlocksFrom node f))

/-- Runs of enabled bytes: (address, bytes). -/
def enabledRuns (a : Nat) (l : List Byte) (en : Nat → Bool) : List (Nat × List Byte) :=
  (l.zipIdx.foldl (fun (acc : List (Nat × List Byte)) (b, i) =>
    if !en i then acc
    else
      match acc with
      | (x, bs) :: t => if x + bs.length = a + i then (x, bs ++ [b]) :: t else (a + i, [b]) :: acc
      | [] => [(a + i, [b])]) []).reverse

/-- Writes the bytes of a write flit, or adds or takes the maximum by its OPX (R235, R303). -/
def State.applyWrite (s : State) (f : Flit) (a : Nat) (data : List Byte) (en : Nat → Bool) : State × Nat :=
  if opxOp f.opx.toNat = 0 then s.writeAs (flitStand f) a data en
  else let x := s.reduceAs (flitStand f) a data en f.opx.toNat; (x.1, x.2.2)

/-- Serves a WRITE or WRITE_MASKED at a node (R235, R304). -/
def State.serveWrite (s : State) (node : Nat) (f : Flit) : State :=
  match attachOf node with
  | .stack k _ => s.enqueueStack k f
  | .xannus p => s.toPeer p f
  | .pcie =>
    if bitOf s.hostOff (flitFunc f) then s.respondError node f codeHost 0
    else
      let w := writeParts f
      let s := (enabledRuns f.addr.toNat w.2.1 w.2.2).foldl (fun s x => s.hostWrite (flitFunc f) x.1 x.2) s
      s.sendFlit node f.src { responseFlit node f 5 0 0 with addr := f.addr }
  | .management _ => s.respondError node f codeRange 0
  | .none => s
  | _ =>
    let w := writeParts f
    let r := s.applyWrite f w.1 w.2.1 w.2.2
    if r.2 = 0 then r.1.respond node f 5 w.1 0 else r.1.respondError node f r.2 0

/-- WRITE (R304, R235). -/
def execWrite (n : NodeId) (s : State) : Host.Outcome State Fault Refusal :=
  let s := s.passUser n.val 3
  .next (if s.forUser n.val 3 then s else s.serve n.val 0 3 (fun s f => s.serveWrite n.val f))

/-- WRITE_MASKED (R304). -/
def execWriteMasked (n : NodeId) (s : State) : Host.Outcome State Fault Refusal :=
  let s := s.passUser n.val 4
  .next (if s.forUser n.val 4 then s else s.serve n.val 0 4 (fun s f => s.serveWrite n.val f))

/-- SIGNAL (R240, R241, R379): applied where the counter lives; at a Xannus port it goes on the links. -/
def execSignal (n : NodeId) (s : State) : Host.Outcome State Fault Refusal :=
  .next (s.serve n.val 0 6 (fun s f =>
    match attachOf n.val with
    | .grove g =>
      match waitCounter g (fld f.data 0 16) with
      | some ctr => s.applySignal g ctr (fld f.data 16 32)
      | none => s
    | .xannus p => if s.portUp p then s.sendPeer p (fld f.addr 44 10) f else s
    | _ => s))

/-- The descriptors that the issuing stream of a record holds for it: it waits at its scopy (R194, R245). -/
def State.issuedDescs (s : State) (r : BitVec 512) : Option (List U64 × List U64) :=
  match (s.slot (8 * nmGrove r + nmSlot r)).hold with
  | .copying ds dd => some (ds, dd)
  | _ => none

/-- COMMAND (R287, R289): a record joins its slot's queue at the near-memory engine; an OPC that streams do not send is refused. -/
def execCommand (n : NodeId) (s : State) : Host.Outcome State Fault Refusal :=
  .next (s.serve n.val 0 7 (fun s f =>
    match attachOf n.val with
    | .stack k _ =>
      let r : BitVec 512 := BitVec.ofNat 512 (f.data.toNat % 2 ^ 512)
      if nmOpc r ≠ 1 ∧ nmOpc r ≠ 2 then s.respondError n.val f codeFormat 0
      else
        let x := s.stack k
        s.setStack k { x with nm := SMap.set [] x.nm (nmSlot r) (x.nmQueue (nmSlot r) ++ [⟨r, f.src, f.txn.toNat, f.addr.toNat / 2 ^ 44, s.issuedDescs r⟩]) }
    | _ => s.respondError n.val f codeFormat 0))

/-- DETACH (R314): the member discards the tree's flits until the owner's next release. -/
def execDetach (n : NodeId) (s : State) : Host.Outcome State Fault Refusal :=
  .next (s.serve n.val 0 9 (fun s f =>
    let t := fld f.data 0 16 % 256
    (s.treeMembers t).foldl (fun s m =>
      if m.2 = n.val then { s with treeOff := SMap.set 0 s.treeOff (64 * t + m.1) 2 } else s) s))

/-- MC_WRITE (R236, R303, R313, R314): a member writes, or adds or takes the maximum, and acknowledges; once the DETACH has reached it, it
discards. -/
def execMcWrite (n : NodeId) (s : State) : Host.Outcome State Fault Refusal :=
  let node := n.val
  .next (s.serve node 2 0xA (fun s f =>
    let t := fld f.route 0 8
    let off := (s.treeMembers t).any (fun m => m.2 == node && SMap.get 0 s.treeOff (64 * t + m.1) == 2)
    if off then s.event (0x6600 + node / 2) (ifaceSub node 0) 0x10
    else
      let w := writeParts f
      let a := match attachOf node with
        | .grove g => tileAddr (4 * g + (w.1 - tileSramBase) / 0x100000 % 4) ((w.1 - tileSramBase) % 0x100000)
        | _ => w.1
      let r := s.applyWrite f a w.2.1 w.2.2
      if r.2 = 0 then r.1.respond node f 5 0 0 else r.1.respondError node f r.2 0))

/-! ## Responses at the requester (R304, R316, R376) -/

/-- Takes the response at the front of a node's queue where it is of a kind; one that reaches an interface that is fenced, in reset, without
power or isolated is discarded (R316). A Xannus port takes one where its transmit queue has room (R32). -/
def State.receive (s : State) (node : Nat) (kind : BitVec 4) (act : State → Flit → State) : State :=
  match s.rxQueue node 1 with
  | [] => s
  | f :: rest =>
    if f.kind ≠ kind then s
    else
      let t := s.setRx node 1 rest
      match attachOf node with
      | .xannus _ => s.whereFits (act t f)
      | .grove g => if t.groveFenced g then t else act t f
      | .clearing c => if t.clearingCode c ≠ 0 then t else act t f
      | _ => act t f

/-- The tag of a response at a Xannus port (R375). -/
def peerTagOf (f : Flit) : Nat := f.txn.toNat + 128 * fld f.addr 52 5

/-- A response for another device: the tag is freed with its last response, SRC and TXN are restored (R376). -/
def State.returnToPeer (s : State) (p : Nat) (f : Flit) : State :=
  let x := s.port p
  match SMap.get none x.tags (peerTagOf f) with
  | none => s
  | some t =>
    let last := decide (t.left ≤ 1) || f.kind == 8
    let s := s.setPort p { x with tags := SMap.set none x.tags (peerTagOf f) (if last then none else some { t with left := t.left - 1 }) }
    s.portSend p { f with route := peerHeader t.dev.toNat s.deviceId 0, src := t.src, txn := t.txn, addr := BitVec.ofNat 57 (f.addr.toNat % 2 ^ 44) }

/-- One response less is awaited. -/
def State.settle (s : State) (node txn : Nat) (o : Outst) : State :=
  s.setOutst node txn (if o.left ≤ 1 then none else some { o with left := o.left - 1 })

/-- A response handed to user logic on URX_RSP (R402). -/
def State.toUser (s : State) (c : Nat) (txn : BitVec 7) (f : Flit) : State :=
  s.send (.user c f.kind.toNat txn.toNat (f.addr.setWidth 64) f.data)

/-- READ_RSP (R304). -/
def execReadRsp (n : NodeId) (s : State) : Host.Outcome State Fault Refusal :=
  let node := n.val
  .next (s.receive node 2 (fun s f =>
    match attachOf node with
    | .xannus p => s.returnToPeer p f
    | _ =>
      match s.outstAt node f.txn.toNat with
      | none => s
      | some o =>
        let s := s.settle node f.txn.toNat o
        match o.origin with
        | .slot k =>
          let sl := s.slot k
          s.setSlot k { sl with buffer := sl.buffer.map (fun b =>
            if b.addr = o.addr ∧ b.txn = f.txn ∧ b.bytes = none then { b with bytes := some (leBytes 128 f.data.toNat) } else b) }
        | .user c txn _ => s.toUser c txn f))

/-- The member of a tree, as 64 · tree + member, that sends a response to an MC_WRITE whose credit it has still to return (R313). -/
def State.ackingMember (s : State) (node : Nat) (f : Flit) : Option Nat :=
  (SMap.get [] s.treeSent (128 * node + f.txn.toNat)).find? (fun m => (s.treeMembers (m / 64)).any (fun x => x.1 == m % 64 && x.2 == f.src))

/-- A member's response to an MC_WRITE returns its credit, whether or not the write is still awaited (R313). -/
def State.memberAck (s : State) (node : Nat) (f : Flit) : State :=
  let key := 128 * node + f.txn.toNat
  match s.ackingMember node f with
  | none => s
  | some m =>
    { s with
      treeSent := SMap.set [] s.treeSent key ((SMap.get [] s.treeSent key).erase m)
      treeDebts := SMap.set 0 s.treeDebts m (SMap.get 0 s.treeDebts m - 1) }

/-- The response is of a member that the root counts no more (R314). -/
def State.strayAck (s : State) (node : Nat) (f : Flit) : Bool :=
  !(SMap.get [] s.treeSent (128 * node + f.txn.toNat)).isEmpty && (s.ackingMember node f).isNone

/-- An acknowledgement of what `o` awaits: the last of an scopy lets its stream go on, the last of a write of user logic goes to it (R245,
R402). -/
def State.ackOutst (s : State) (node txn : Nat) (o : Outst) (f : Flit) : State :=
  let s := s.settle node txn o
  if 1 < o.left then s
  else
    match o.origin with
    | .slot k => if o.addr = copyMark then (s.setSlot k { s.slot k with hold := .none }).slotNext k 16 else s
    | .user c t _ => s.toUser c t f

/-- WRITE_ACK (R304, R313). -/
def execWriteAck (n : NodeId) (s : State) : Host.Outcome State Fault Refusal :=
  let node := n.val
  .next (s.receive node 5 (fun s f =>
    match attachOf node with
    | .xannus p => s.returnToPeer p f
    | _ =>
      if s.strayAck node f then s
      else
        let s := s.memberAck node f
        match s.outstAt node f.txn.toNat with
        | none => s
        | some o => s.ackOutst node f.txn.toNat o f))

/-- An error comes back to who awaits a response: a stream records SE_REMOTE (R253, R321). -/
def State.failOutst (s : State) (o : Outst) (code : Nat) (f : Flit) : State :=
  match o.origin with
  | .slot k =>
    let sl := s.slot k
    if sl.st = .idle ∨ sl.st = .error then s
    else (s.setSlot k { sl with hold := .none }).streamError (k / 8) (k % 8) seRemote code
  | .user c txn _ => s.toUser c txn f

/-- ERROR (R321). -/
def execError (n : NodeId) (s : State) : Host.Outcome State Fault Refusal :=
  let node := n.val
  .next (s.receive node 8 (fun s f =>
    match attachOf node with
    | .xannus p => s.returnToPeer p f
    | _ =>
      let s := s.ifaceEvent node (fld f.data 0 8) 0
      if s.strayAck node f then s
      else
        let s := s.memberAck node f
        match s.outstAt node f.txn.toNat with
        | none => s
        | some o => (s.setOutst node f.txn.toNat none).failOutst o (fld f.data 0 8) f))

/-- NET_TIMEOUT (R321): the sending interface's own answer. -/
def execNetTimeout (n : NodeId) (txn : BitVec 7) (s : State) : Host.Outcome State Fault Refusal :=
  let node := n.val
  match s.outstAt node txn.toNat with
  | none => .next s
  | some o =>
    let s := (s.setOutst node txn.toNat none).ifaceEvent node codeTimeout 0x80
    .next (s.failOutst o codeTimeout
      { route := 0, kind := 8, src := node, stand := none, cls := 0, run := 0, opx := 0, txn := txn, addr := 0,
        data := BitVec.ofNat 1024 codeTimeout })

/-! ## Trees (R312 to R314) -/

/-- The installed tree's root node. -/
def State.treeRoot (s : State) (t : Nat) : Nat := s.getF (0x6800 + t) 1 16 11

/-- The root no longer awaits a member: what only it had still to acknowledge is acknowledged (R314, step 1). -/
def State.forgetMember (s : State) (root m : Nat) : State :=
  let sent := s.treeSent.filter (fun e => decide (e.1 / 128 = root) && e.2.contains m)
  let s := sent.foldl (fun s e =>
    let s := { s with treeSent := SMap.set [] s.treeSent e.1 (e.2.erase m) }
    match s.outstAt root (e.1 % 128) with
    | some o => s.ackOutst root (e.1 % 128) o { plainFlit 5 0 0 0 with src := root, txn := BitVec.ofNat 7 (e.1 % 128) }
    | none => s) s
  { s with treeDebts := SMap.set 0 s.treeDebts m 0 }

/-- TREE_DETACH_TIMEOUT (R314): the member has held no credit for DETACH_LIMIT while an MC_WRITE waited. -/
def execTreeDetachTimeout (t : TreeId) (m : Fin 64) (s : State) : Host.Outcome State Fault Refusal :=
  let tt := t.val
  let key := 64 * tt + m.val
  let ix := 0x6800 + tt
  match (s.treeMembers tt).find? (fun x => x.1 == m.val) with
  | none => .next s
  | some (_, node) =>
    if s.bit ix 1 31 = false ∨ s.bit ix 1 30 = false ∨ s.treeDetached tt m.val = true ∨ SMap.get 0 s.treeDebts key < 64 ∨
        s.sendRoom (s.treeRoot tt) 0 1 = false then .next s
    else
      let root := s.treeRoot tt
      let s := { s.forgetMember root key with treeOff := SMap.set 0 s.treeOff key 1 }
      let stand := (s.getF ix 1 27 3)
      let s := s.sendFlit root node { route := 0, kind := 9, src := root, stand := some (Fin.ofNat 8 stand), cls := 0, run := 0, opx := 0,
                                      txn := 0, addr := 0, data := BitVec.ofNat 1024 tt }
      let s := if s.bit ix 3 9 then s else s.setF ix 3 10 6 m.val
      .next (s.event ix 3 0x200)

end Sys2Proof.Machine
end

