-- ==== Sys2Proof/Machine/Fabric.lean ====
section
/-! DEFINITION. The fabric's commands (12_fabric.md): user logic on the network, the staged release, reconfiguration, user clocks and the
ports of block RAM. -/

namespace Sys2Proof.Machine

/-! ## Attaching user logic to the network (R402 to R405) -/

/-- An ERROR the interface itself gives user logic on URX_RSP (R402, R403). -/
def State.userError (s : State) (c : Nat) (q : UtxReq) (code : Nat) : State :=
  (s.ifaceEvent (clearingNode c) code 0).send (.user c 8 q.txn.toNat (q.addr.setWidth 64) (BitVec.ofNat 1024 code))

/-- A request of user logic goes out, with the outstanding entry of its TXN; a SIGNAL awaits nothing (R304, R402, R403). -/
def State.userSend (s : State) (c d dest : Nat) (q : UtxReq) (addr : BitVec 57) : State :=
  let node := clearingNode c
  let f : Flit := { route := 0, kind := q.kind, src := node, stand := some (Fin.ofNat 8 d), cls := 1, run := 0, opx := q.opx, txn := q.txn,
                    addr := addr, data := q.data }
  let s := s.sendFlit node dest f
  if q.kind = 6 then s
  else
    s.setOutst node q.txn.toNat (some ⟨.user c q.txn q.group, q.kind != 1, addr.toNat % 2 ^ 44,
      if q.kind = 1 then q.opx.toNat % 4 + 1 else 1⟩)

/-- The trees: an MC_WRITE of user logic by route table entry GROUP (R312, R313, R403). -/
def State.userMulticast (s : State) (c d : Nat) (q : UtxReq) : State :=
  let node := clearingNode c
  let e := s.routeEntry node q.group.toNat
  let t := fld e 96 8
  if fld e 126 2 ≠ 2 then s.userError c q codeFormat
  else
    let f : Flit := { route := BitVec.ofNat 96 t, kind := 0xA, src := node, stand := some (Fin.ofNat 8 d), cls := 1, run := 0, opx := q.opx,
                      txn := q.txn, addr := q.addr, data := q.data }
    (s.issueTree node q.txn.toNat t (fun s k =>
      let s := s.inject node f
      if k = 0 then s.toUser c q.txn { f with kind := 5, data := 0 }
      else s.setOutst node q.txn.toNat (some ⟨.user c q.txn q.group, true, q.addr.toNat % 2 ^ 44, k⟩))).1

/-- A SIGNAL of user logic: to a token counter of a grove of the owner Stand (R239, R405); any other token is answered MEM_RANGE (log
entry 35). -/
def State.userSignal (s : State) (c d : Nat) (q : UtxReq) : State :=
  let token := fld q.data 0 16
  if 0x100 ≤ token ∧ token ≤ 0x38FF ∧ s.groveOwner ((token - 0x100) / 64) = some d then
    s.userSend c d (groveNode ((token - 0x100) / 64)) q 0
  else s.userError c q codeRange

/-- A request of the owner Stand's user logic to its target (R301, R403). -/
def State.userRequest (s : State) (c d : Nat) (q : UtxReq) : State :=
  if q.kind = 0xA then s.userMulticast c d q
  else if q.kind = 6 then s.userSignal c d q
  else if q.target = 1 then s.userSend c d pcieNode q q.addr
  else
    let a := q.addr.toNat % 2 ^ 44
    match nodeOfAddr a with
    | none => s.userError c q codeRange
    | some node =>
      if q.target = 0 ∨ (s.deviceValid && q.dev.toNat == s.deviceId) = true then s.userSend c d node q (BitVec.ofNat 57 a)
      else
        match s.peerPort q.dev.toNat (clearingNode c) with
        | .inl p => s.userSend c d (xannusNode p) q (BitVec.ofNat 57 (a + 2 ^ 44 * q.dev.toNat))
        | .inr detail => (s.ifaceEvent (clearingNode c) codePeer 0).send (.user c 8 q.txn.toNat (q.addr.setWidth 64) (peerErrData detail s.deviceId))

/-- UTX_REQ (R403): held while its TXN is in use or the interface's queue is full (R32). -/
def execUtxReq (c : ClearingId) (q : UtxReq) (s : State) : Host.Outcome State Fault Refusal :=
  let k := c.val
  if s.clearingState k ≠ 3 ∨ (q.kind ≠ 6 ∧ s.txnUsed (clearingNode k) q.txn.toNat = true) ∨
      s.sendRoom (clearingNode k) (kindChannel q.kind) 1 = false then .next s
  else if (q.kind ≠ 1 ∧ q.kind ≠ 3 ∧ q.kind ≠ 4 ∧ q.kind ≠ 6 ∧ q.kind ≠ 0xA) ∨ q.target = 3 then .next (s.userError k q codeFormat)
  else
    match s.clearingOwner k with
    | none => .next (s.userError k q codeStand)
    | some d => .next (s.userRequest k d q)

/-- URX_REQ (R404): the request at the front of the interface goes to user logic with the lowest TAG that is free. -/
def execUrxReq (c : ClearingId) (s : State) : Host.Outcome State Fault Refusal :=
  let k := c.val
  let node := clearingNode k
  match s.rxQueue node 0 with
  | [] => .next s
  | f :: rest =>
    if !(s.forUser node 1 || s.forUser node 3 || s.forUser node 4) then .next s
    else
      let x := s.clearing k
      match (List.range 64).find? (fun t => (SMap.get none x.tags t).isNone) with
      | none => .next s
      | some t =>
        let o := f.addr.toNat % 2 ^ 44 - blockRamBase
        .next (((s.setRx node 0 rest).setClearing k { x with tags := SMap.set none x.tags t (some ⟨f, 0⟩) }).send
          (.user k f.kind.toNat t (BitVec.ofNat 64 (o % 0x2000000 / 0x1000 - 192 * (k % 24) + 2 ^ 8 * (o % 0x1000) +
            2 ^ 20 * (match f.stand with | some d => d.val | none => 0) + 2 ^ 23 * f.opx.toNat)) f.data))

/-- ERROR codes that user logic may send; any other is sent as MEM_RANGE (R404). -/
def userCode (code : Nat) : Nat := if code = 1 ∨ code = 2 ∨ code = 4 then code else 1

/-- UTX_RSP (R404): the answer to a TAG; a READ_REQ has one READ_RSP per block, in address order. An answer that does not fit its request
is not an answer the rules name: it is discarded (log entry 35). -/
def execUtxRsp (c : ClearingId) (q : UtxRsp) (s : State) : Host.Outcome State Fault Refusal :=
  let k := c.val
  let node := clearingNode k
  let x := s.clearing k
  match SMap.get none x.tags q.tag.toNat with
  | none => .next s
  | some u =>
    let free := s.setClearing k { x with tags := SMap.set none x.tags q.tag.toNat none }
    if s.clearingState k ≠ 3 then .next s
    else if q.kind = 8 then .next (free.respondError node u.req (userCode q.code.toNat) 0)
    else if u.req.kind = 1 ∧ q.kind = 2 then
      let blocks := readBlocks u.req
      let last := decide (blocks.length ≤ u.given + 1)
      let s := if last then free else s.setClearing k { x with tags := SMap.set none x.tags q.tag.toNat (some { u with given := u.given + 1 }) }
      .next (s.respond node u.req 2 (blocks.getD u.given 0) q.data)
    else if (u.req.kind = 3 ∨ u.req.kind = 4) ∧ q.kind = 5 then .next (free.respond node u.req 5 (u.req.addr.toNat % 2 ^ 44) 0)
    else .next s

/-! ## The staged release (R407 to R410, R416) -/

/-- Clock domains that a Clearing's configuration declares (R408). -/
def State.domainsOf (s : State) (c : Nat) : Nat := (Config.clockDomains (s.clearing c).image c).toNat

/-- A bank senses VCCIO at stage 1 (R416): the sensed code, and the outputs on unless it differs from the declared voltage. -/
def State.senseBank (s : State) (k : Nat) (sensed : BitVec 2) : State :=
  let s := s.setF (0x9200 + k) 1 0 2 sensed.toNat
  if s.getF (0x9200 + k) 1 2 2 = sensed.toNat then s.setF (0x9200 + k) 1 4 1 1
  else (s.setF (0x9200 + k) 1 4 1 0).event (0x9200 + k) 1 0x8000

/-- What follows the last acknowledgement of a stage (R408, R413, R425). -/
def State.stageDone (s : State) (c stage : Nat) : State :=
  let s := s.setF (0x9100 + c) 2 3 2 stage
  if stage < 3 then s else (((s.setClearingState c 3).endReconfig c).endApply).checkReady

/-- STAGE_ISSUE (R408): the next stage, once the last one is acknowledged by every domain. -/
def execStageIssue (c : ClearingId) (sensed : BitVec 2) (s : State) : Host.Outcome State Fault Refusal :=
  let k := c.val
  let x := s.clearing k
  if s.clearingState k ≠ 2 ∨ 3 ≤ x.issued ∨ s.getF (0x9100 + k) 2 3 2 ≠ x.issued then .next s
  else
    let stage := x.issued + 1
    let s := s.setClearing k { x with issued := stage, acks := [] }
    let s := if stage = 1 then (s.banksOf k).foldl (fun s b => s.senseBank b sensed) s else s
    .next (if s.domainsOf k = 0 then s.stageDone k stage else s)

/-- STAGE_ACK (R408): a domain acknowledges the stage issued last. -/
def execStageAck (c : ClearingId) (domain : BitVec 8) (s : State) : Host.Outcome State Fault Refusal :=
  let k := c.val
  let x := s.clearing k
  if s.clearingState k ≠ 2 ∨ x.issued = 0 ∨ s.domainsOf k ≤ domain.toNat ∨ x.acks.contains domain.toNat = true ∨
      s.getF (0x9100 + k) 2 3 2 = x.issued then .next s
  else
    let s := s.setClearing k { x with acks := x.acks ++ [domain.toNat] }
    .next (if x.acks.length + 1 = s.domainsOf k then s.stageDone k x.issued else s)

/-- RELEASE_STALL (R409): a stage was not acknowledged within 1 ms. -/
def execReleaseStall (c : ClearingId) (s : State) : Host.Outcome State Fault Refusal :=
  let k := c.val
  let x := s.clearing k
  if s.clearingState k ≠ 2 ∨ x.issued = 0 ∨ s.getF (0x9100 + k) 2 3 2 = x.issued then .next s
  else .next ((s.holdClearing k 5 codeBusy).clearingEvent k 0x8000)

/-- RECONFIGURATION (R413): isolation, frames and INIT blocks, and the release from stage 1, once the owner is at a boundary. Event 5 comes
with the last acknowledgement of stage 3. -/
def execReconfiguration (c : ClearingId) (s : State) : Host.Outcome State Fault Refusal :=
  match (s.clearing c.val).next with
  | some r => if r.begun = false ∧ s.mayReconfig c.val = true then .next (s.beginReconfig c.val r) else .next s
  | none => .next s

/-! ## User clocks (R400, R423) -/

/-- PLL_LOCK_LOSS (R400). -/
def execPllLockLoss (d : DieId) (pll : Fin 4) (s : State) : Host.Outcome State Fault Refusal :=
  .next ((s.setF (0x9000 + d.val) 2 pll.val 1 0).event (0x9000 + d.val) 2 (2 ^ (4 + pll.val)))

/-- PLL_LOCK (R400). -/
def execPllLock (d : DieId) (pll : Fin 4) (s : State) : Host.Outcome State Fault Refusal :=
  .next (s.setF (0x9000 + d.val) 2 pll.val 1 1)

/-! ## Block RAM ports (R396, R397) -/

/-- The byte, width in bytes and word of a port's write. -/
def bramLane (width : BitVec 2) (lane : BitVec 3) : Nat × Nat := (lane.toNat / 2 ^ width.toNat * 2 ^ width.toNat, 2 ^ width.toNat)

/-- A port reads a word as it stood before the cycle (R397); the code corrects it (R263). -/
def State.bramRead (s : State) (d b word : Nat) : State :=
  let r := s.readMem (bramAddr d b (8 * word)) 8 (s.clearingOwner (24 * d + b / 192)) false
  r.1.send (.bram d b (BitVec.ofNat 64 (ofLe r.2.1)) r.2.2)

/-- A port writes a lane of a word; a part of an uncorrectable word is refused (R263). -/
def State.bramWrite (s : State) (d b word : Nat) (width : BitVec 2) (lane : BitVec 3) (v : U64) : State :=
  let p := bramLane width lane
  (s.writeMem (bramAddr d b (8 * word + p.1)) (leBytes p.2 v.toNat) allBytes (s.clearingOwner (24 * d + b / 192))).1

/-- The read of a port's operation. -/
def State.bramOpRead (s : State) (d b : Nat) (o : BramOp) : State :=
  match o with
  | .read w => s.bramRead d b w.toNat
  | _ => s

/-- The write of a port's operation. -/
def State.bramOpWrite (s : State) (d b : Nat) (o : BramOp) : State :=
  match o with
  | .write w width lane v => s.bramWrite d b w.toNat width lane v
  | _ => s

/-- User logic may write: stage 2 has been issued (R407). -/
def State.bramWritable (s : State) (c : Nat) : Bool := s.clearingState c == 3 || (s.clearingState c == 2 && decide (2 ≤ (s.clearing c).issued))

/-- BLOCK_RAM_PORT_ACCESS (R396, R397): reads see the word before any write of the cycle; port B's write lands last. Port B of a bound block
belongs to the interface (R398). -/
def execBlockRamPortAccess (d : DieId) (b : BitVec 13) (pa pb : BramOp) (s : State) : Host.Outcome State Fault Refusal :=
  let dd := d.val
  let bb := b.toNat
  let c := 24 * dd + bb / 192
  if 4608 ≤ bb ∨ (s.clearingState c ≠ 3 ∧ s.clearingState c ≠ 2) then .next s
  else
    let portB := if s.boundBlock (bramAddr dd bb 0) then BramOp.none else pb
    let s := (s.bramOpRead dd bb pa).bramOpRead dd bb portB
    .next (if s.bramWritable c then (s.bramOpWrite dd bb pa).bramOpWrite dd bb portB else s)

end Sys2Proof.Machine
end

