-- ==== Sys2Proof/Machine/Cells.lean ====
section
/-! DEFINITION. User logic (R394, R395, R400, R407, R411, R412, R419, R420): the cells, the routing, the border ports and the pins of a Clearing, and
what an edge of a user clock does to them. What an image configures of them is `Config`'s (log entry 124). -/

namespace Sys2Proof.Machine

/-! ## Border ports (R411) -/

/-- A Clearing's place in the chain of its die: C7 to C0, C16 to C23, C8 to C15 (R411). -/
def chainPlace (c : Nat) : Nat := if c < 8 then 7 - c else if c < 16 then c + 8 else c - 8
/-- The Clearing at a place of the chain. -/
def chainAt (i : Nat) : Nat := if i < 8 then 7 - i else if i < 16 then i + 8 else i - 8
/-- The Clearing after or before a Clearing of the package in its die's chain, where there is one: none at the ends, so 23 borders a die (R411). -/
def borderNeighbour (c : Nat) (after : Bool) : Option Nat :=
  let i := chainPlace (c % 24)
  if after then (if i < 23 then some (c / 24 * 24 + chainAt (i + 1)) else none)
  else if 0 < i then some (c / 24 * 24 + chainAt (i - 1)) else none

/-- The level an isolated outgoing signal is held at: 0 for DATA, deasserted for VALID (R412). -/
def heldLevel (b : Config.BorderSignal) : Bool := b.valid && !b.asserted

/-! ## Logic cells (R394) -/

/-- The frame, and the word in it, of a cell's lookup table or memory (R440). -/
def cellPlace (c i : Nat) : Nat × Nat := ((clearingFrames c).1 + (Config.cellWord i).val / 128, (Config.cellWord i).val % 128)
/-- A cell's lookup table or memory. -/
def State.cellTable (s : State) (c i : Nat) : U64 := BitVec.ofNat 64 (fld (SMap.get 0 s.cfg (cellPlace c i).1) (64 * (cellPlace c i).2) 64)
/-- A write of it, with good check bits. -/
def State.setCellTable (s : State) (c i : Nat) (v : U64) : State :=
  let p := cellPlace c i
  { s with
    cfg := SMap.set 0 s.cfg p.1 (setFld (SMap.get 0 s.cfg p.1) (64 * p.2) 64 v.toNat)
    cfgDiff := SMap.erase s.cfgDiff (128 * p.1 + p.2) }

/-- A cell's mode; memory only in clusters 0 mod 4 of a column (R394). -/
def cellMode (x : Config.Cell) (i : Nat) : Nat := if Config.clusterRow (i / 16) % 4 = 0 then x.mode.toNat else x.mode.toNat % 2

/-- The outputs of a lookup: one function of 6 inputs, two of the same 5, a read of the 64 × 1 RAM, or the shift register's bit (R394). -/
def lookupOut (mode : Nat) (table : U64) (ins : List Bool) (second : Bool) : Bool :=
  let five := ofBitsLsb (ins.take 5)
  if mode = 1 ∨ mode = 3 then table.getLsbD (if second && mode == 1 then 32 + five else five)
  else !second && table.getLsbD (ofBitsLsb (ins.take 6))

/-- The memory after a write: a bit of the RAM, or a shift by one place (R394). -/
def memoryAfter (mode : Nat) (table : U64) (ins : List Bool) (v : Bool) : U64 :=
  if mode = 2 then setBit table (ofBitsLsb (ins.take 6)) v
  else if mode = 3 then setFld table 0 32 (2 * fld table 0 31 + b2n v)
  else table

/-- The cell before one in a carry chain: in its cluster, or the last of the cluster below (R394). -/
def carryBefore (i : Nat) : Option Nat :=
  if i % 16 ≠ 0 then some (i - 1) else if Config.clusterRow (i / 16) = 0 then none else some (i - 1)

/-- The configured cell. -/
def State.cellOf (s : State) (c i : Nat) : Config.Cell := Config.cell (s.clearing c).image c i
/-- The configured cluster. -/
def State.clusterOf (s : State) (c i : Nat) : Config.Cluster := Config.cluster (s.clearing c).image c (i / 16)
/-- Flip-flops as they differ from their init values. -/
def State.flopDiff (s : State) (c i : Nat) : BitVec 2 := SMap.get 0 s.flops (50000 * c + i)
/-- A pin's registers. -/
def State.pinRegs (s : State) (b i : Nat) : PinRegs := SMap.get PinRegs.reset s.pins (48 * b + i)
/-- A pair's registers. -/
def State.pairRegs (s : State) (b i : Nat) : PairRegs := SMap.get PairRegs.reset s.pairs (24 * b + i)

/-- The level of a source in a Clearing, through at most `n` lookups, segments and borders (R394, R395, R411, R412). -/
def State.netLevel (s : State) : Nat → Nat → Config.Net → Bool
  | 0, c, x => Config.outerLevel s.free c x
  | n + 1, c, x =>
    match x with
    | .level b => b
    | .lookup i o =>
      let k := s.cellOf c i
      lookupOut (cellMode k i) (s.cellTable c i) (k.inputs.map (fun y => s.netLevel n c y)) o
    | .flop i o =>
      let k := s.cellOf c i
      let j := b2n o
      if bitOf k.asyncReset j && s.netLevel n c (s.clusterOf c i).reset then bitOf k.init j else bitOf k.init j != bitOf (s.flopDiff c i) j
    | .carry i =>
      let k := s.cellOf c i
      let before := if k.chained then carryBefore i else none
      Config.carryOut (k.inputs.map (fun y => s.netLevel n c y))
        (match before with
         | some j => s.netLevel n c (.carry j)
         | none => s.netLevel n c k.carryStart)
    | .segment k =>
      let g := Config.segment (s.clearing c).image c k
      if g.registered then SMap.get false s.wires (2 ^ 32 * c + k) else s.netLevel n c g.source
    | .border after j =>
      match borderNeighbour c after with
      | none => false
      | some m =>
        let b := Config.borderSignal (s.clearing m).image m (!after) j
        if 512 ≤ j then false
        else if (s.clearing c).issued = 0 ∨ (s.clearing m).issued = 0 then heldLevel b
        else s.netLevel n m b.source
    | .pin b i o => bitOf (s.pinRegs b i).input (b2n o)
    | .pair b i j => bitOf (s.pairRegs b i).word j
    | .device _ => Config.outerLevel s.free c x

/-- More lookups, segments and borders than any path without a loop has. -/
def netFuel : Nat := 2 ^ 40
/-- The level of a source. -/
def State.level (s : State) (c : Nat) (x : Config.Net) : Bool := s.netLevel netFuel c x

/-- An outgoing border signal as the neighbour sees it (R411, R412). -/
def State.borderOut (s : State) (c : Nat) (after : Bool) (j : Nat) : Bool :=
  let b := Config.borderSignal (s.clearing c).image c after j
  if (s.clearing c).issued = 0 then heldLevel b else s.level c b.source

/-! ## An edge of a user clock: `o` is the state before the tick -/

/-- A cell takes an edge: flip-flops from stage 3, memory from stage 2 (R394, R407). -/
def State.cellEdge (s o : State) (c d i : Nat) : State :=
  let x := o.cellOf c i
  let k := o.clusterOf c i
  let on := o.level c k.enable
  if (if x.clock then k.clocks.2 else k.clocks.1) ≠ d then s
  else
    let next (j : Nat) : Bool :=
      if o.level c k.reset then false
      else if on then o.level c (x.data.getD j default) != bitOf x.init j
      else bitOf (o.flopDiff c i) j
    let s := if 3 ≤ (o.clearing c).issued then { s with flops := SMap.set 0 s.flops (50000 * c + i) (setBit (setBit 0 0 (next 0)) 1 (next 1)) } else s
    if 2 ≤ (o.clearing c).issued ∧ 2 ≤ cellMode x i ∧ (on && o.level c x.memWrite) = true then
      s.setCellTable c i (memoryAfter (cellMode x i) (o.cellTable c i) (x.inputs.map (fun y => o.level c y)) (o.level c x.memData))
    else s

/-- A wire register takes an edge (R395). -/
def State.wireEdge (s o : State) (c d k : Nat) : State :=
  let g := Config.segment (o.clearing c).image c k
  if g.registered && g.domain == d then { s with wires := SMap.set false s.wires (2 ^ 32 * c + k) (o.level c g.source) } else s

/-- User logic drives a bank's outputs (R416, R426). -/
def State.bankDrives (s : State) (b : Nat) : Bool := s.bit (0x9200 + b) 1 4

/-- What a pin drives from its registers: the second ones late in a cycle of double data rate, or its pair's serialiser; none where its
output is off (R417, R420). -/
def State.pinValue (s : State) (image b i : Nat) : Option Bool :=
  let x := Config.pin image b i
  let r := s.pinRegs b i
  if !bitOf r.enable (b2n (bitOf x.ddr 2)) then none
  else if (Config.pair image b (i / 2)).used then some (bitOf (s.pairRegs b (i / 2)).sending 0 != (i % 2 == 1))
  else some (bitOf r.output (b2n (bitOf x.ddr 1)))

/-- What a pin drives: its isolation state where user logic does not drive its bank (R419, R421). -/
def State.pinDrive (s : State) (image b i : Nat) : Option Bool :=
  if s.bankDrives b then s.pinValue image b i
  else
    match s.entry (0x9200 + b) 2 8 i % 4 with
    | 0 => none
    | 1 => some false
    | 2 => some true
    | _ => some (s.pinRegs b i).last

/-- A pin's registers take an edge (R420); the value it then drives is the one that an isolation state of hold keeps (R419). -/
def State.pinEdge (s o : State) (c d b i : Nat) : State :=
  let x := Config.pin (o.clearing c).image b i
  if x.domain ≠ d then s
  else
    let take (old : BitVec 2) (double : Bool) (v : Nat → Bool) : BitVec 2 :=
      let r := setBit old 0 (v 0)
      if double then setBit r 1 (v 1) else r
    let r := o.pinRegs b i
    let s := { s with pins := SMap.set PinRegs.reset s.pins (48 * b + i) { r with
      input := take r.input (bitOf x.ddr 0) (fun k => Config.outerLevel o.free c (.pin b i (k == 1)))
      output := take r.output (bitOf x.ddr 1) (fun k => o.level c (x.output.getD k default))
      enable := take r.enable (bitOf x.ddr 2) (fun k => o.level c (x.enable.getD k default)) } }
    match (if s.bankDrives b then s.pinValue (o.clearing c).image b i else none) with
    | some v => { s with pins := SMap.set PinRegs.reset s.pins (48 * b + i) { s.pinRegs b i with last := v } }
    | none => s

/-- A pair's serialiser and deserialiser take an edge; the first bit of a word is its bit 0 (R420, log entry 124). -/
def State.pairEdge (s o : State) (c d b i : Nat) : State :=
  let x := Config.pair (o.clearing c).image b i
  if x.used = false ∨ x.domain ≠ d then s
  else
    let ratio := if x.ratio8 then 8 else 4
    let r := o.pairRegs b i
    let got : BitVec 8 := setBit (r.receiving >>> 1) (ratio - 1) (Config.outerLevel o.free c (.pin b (2 * i) false))
    let load : BitVec 8 := BitVec.ofNat 8 (ofBitsLsb ((List.range ratio).map (fun k => o.level c (x.source.getD k default))))
    let full := decide (ratio ≤ r.count + 1)
    let r : PairRegs := ⟨if full then load else r.sending >>> 1, got, if full then got else r.word, if full then 0 else r.count + 1⟩
    { s with pairs := SMap.set PairRegs.reset s.pairs (24 * b + i) r }

/-- One edge of a clock domain of a Clearing (R394, R395, R407, R420). -/
def State.domainEdge (s o : State) (c d : Nat) : State :=
  let s := (List.range 50000).foldl (fun s i => s.cellEdge o c d i) s
  if (o.clearing c).issued < 3 then s
  else
    let s := (List.range Config.segments).foldl (fun s k => s.wireEdge o c d k) s
    (o.banksOf c).foldl (fun s b =>
      (List.range 24).foldl (fun s i => s.pairEdge o c d b i) ((List.range 48).foldl (fun s i => s.pinEdge o c d b i) s)) s

/-- A clock domain runs: a PLL that has lost lock gives no edges (R400). -/
def State.domainRuns (s : State) (c d : Nat) : Bool :=
  match Config.domainPll (s.clearing c).image c d with
  | some p => s.bit (0x9000 + c / 24) 2 p.val
  | none => true

/-- A tick of the user clocks: some domains of the Clearings that are released to stage 2 or further have an edge, all at once. DESIGN CHOICE (log
entry 124): which ones is free. -/
def State.tick (s : State) : State :=
  let live := (s.clearings.map (fun e => e.1)).filter (fun c => decide (2 ≤ (s.clearing c).issued))
  if live = [] then s
  else
    (live.foldl (fun t c =>
      (List.range (s.domainsOf c)).foldl (fun t d =>
        if s.domainRuns c d && Config.clockEdge s.free c d then t.domainEdge s c d else t) t) s).advance

end Sys2Proof.Machine
end

