-- ==== Sys2Proof/Machine/FaultLog.lean ====
section
/-! DEFINITION. The fault log and the failed marks (17_faults_recovery.md): the entries of R557 and how a test's result updates them. -/

namespace Sys2Proof.Machine

/-! ## Codes (R537, R557) -/

/-- Code of the error taxonomy (R537, R557). -/
def errCode : CheckedError → Nat
  | .tileResidue => 0x0101
  | .tileAccParity => 0x0102
  | .vecRegParity => 0x0201
  | .sramCe => 0x0301
  | .sramUe => 0x0302
  | .stkCe => 0x0401
  | .stkUe => 0x0402
  | .stkAddr => 0x0403
  | .stkLink => 0x0404
  | .stkTrain => 0x0405
  | .stkFail => 0x0406
  | .netLink => 0x0501
  | .netParity => 0x0502
  | .netRoute => 0x0503
  | .xanLane => 0x0601
  | .xanRetry => 0x0602
  | .xanDown => 0x0603
  | .xanTrain => 0x0604
  | .cfgCe => 0x0701
  | .cfgUe => 0x0702
  | .cfgShadowUe => 0x0703
  | .cfgScrubParity => 0x0704
  | .unitHang => 0x0801
  | .stewardHang => 0x0802
  | .resetTimeout => 0x0803
  | .rangerWatchdog => 0x0804
  | .pcieInternal => 0x0805
  | .stageOverrun => 0x0A01

/-- UNIT_KIND (R557). -/
def kindCode : UnitKind → Nat
  | .none => 0
  | .tile => 1
  | .engine => 2
  | .stream => 3
  | .sramWord => 4
  | .stackLine => 5
  | .link => 6
  | .router => 7
  | .lane => 8
  | .frame => 9
  | .steward => 10
  | .rail => 11

/-- OUTCOME codes (R557). -/
def outcomePending : Nat := 0
/-- Transient. -/
def outcomeTransient : Nat := 2
/-- Lasting. -/
def outcomeLasting : Nat := 3
/-- No test. -/
def outcomeNone : Nat := 4

/-! ## Entries (R556, R557, R562) -/

/-- An entry of the log before it is written. -/
structure LogEntry where
  /-- ERROR -/
  code : Nat
  /-- DIE -/
  die : Nat
  /-- STAND; none for NO_STAND -/
  stand : Option Nat
  /-- UNIT_KIND -/
  kind : UnitKind
  /-- UNIT -/
  unit : Nat
  /-- OUTCOME -/
  outcome : Nat
  /-- LEVEL -/
  level : Nat
  /-- RANGER_DOWN -/
  down : Bool
  /-- DETAIL -/
  detail : Nat
  /-- ADDR -/
  addr : U64
  deriving DecidableEq, Repr

/-- Where entry `serial` stands in the log: its first word. -/
def logWord (serial : Nat) : Nat := 4 * (serial % 512)

/-- Writes an entry (R556, R557, R562); TIME is a free value (log entry 4). -/
def State.writeLog (s : State) (e : LogEntry) : State :=
  let n := s.logSerial
  let w := logWord n
  let step := match e.stand with | some d => (s.obj (0x6100 + 16 * d) 5).toNat % 65536 | none => 0
  let s := (s.setObjW 0xA000 1 w s.drawn).advance
  let s := s.setObjW 0xA000 1 (w + 1) (BitVec.ofNat 64
    (2 ^ 32 * n + 2 ^ 16 * e.code + 2 ^ 14 * e.die + (match e.stand with | some d => 2 ^ 11 * d | none => 2 ^ 10) + 2 ^ 4 * kindCode e.kind))
  let s := s.setObjW 0xA000 1 (w + 2) (BitVec.ofNat 64
    (2 ^ 48 * (e.unit % 65536) + 2 ^ 32 * step + 2 ^ 28 * e.outcome + 2 ^ 25 * e.level + (if e.down then 2 ^ 24 else 0) + e.detail % 65536))
  let s := s.setObjW 0xA000 1 (w + 3) e.addr
  let s := s.event 0xA000 2 (if 512 ≤ s.logUnread then 0x8000 else 0)
  { s.setF 0xA000 2 0 9 ((n + 1) % 512) with logSerial := n + 1, logUnread := min 512 (s.logUnread + 1) }

/-- An entry is still in the log. -/
def State.logHeld (s : State) (serial : Nat) : Bool := decide (serial < s.logSerial) && decide (s.logSerial ≤ serial + 512)

/-- Sets OUTCOME of entries (R556). -/
def State.logOutcome (s : State) (serials : List Nat) (outcome : Nat) : State :=
  serials.foldl (fun s n =>
    if s.logHeld n then s.setObjW 0xA000 1 (logWord n + 2) (setFld (s.objW 0xA000 1 (logWord n + 2)) 28 4 outcome) else s) s

/-- Sets LEVEL of entries (R556). -/
def State.logLevel (s : State) (serials : List Nat) (level : Nat) : State :=
  serials.foldl (fun s n =>
    if s.logHeld n then s.setObjW 0xA000 1 (logWord n + 2) (setFld (s.objW 0xA000 1 (logWord n + 2)) 25 3 level) else s) s

/-- An entry names the unit of a kind. -/
def State.logNames (s : State) (serial : Nat) (kind : UnitKind) (unit : Nat) : Bool :=
  s.logHeld serial && fld (s.objW 0xA000 1 (logWord serial + 1)) 4 4 == kindCode kind &&
  fld (s.objW 0xA000 1 (logWord serial + 2)) 48 16 == unit

/-- A power event (R536, R557): it names no Stand. -/
def State.logPower (s : State) (code : Nat) (kind : UnitKind) (unit : Nat) : State :=
  s.writeLog { code := code, die := 0, stand := none, kind := kind, unit := unit, outcome := outcomeNone, level := 0, down := false, detail := 0, addr := 0 }

/-! ## Failed marks (R539, R540, R559) -/

/-- Marks or unmarks a tile; TileStatus.FAILED shows it (R120, R539). -/
def State.markTile (s : State) (t : Nat) (b : Bool) : State := s.setFailedBit 0 t b

/-- Marks or unmarks a vector engine. -/
def State.markEngine (s : State) (n : Nat) (b : Bool) : State := s.setFailedBit 14 n b

/-- Marks or unmarks a grove: its four tiles and its engine are failed with it (R539). -/
def State.markGrove (s : State) (n : Nat) (b : Bool) : State := s.setFailedBit 18 n b

/-- Marks a Clearing failed. -/
def State.markClearing (s : State) (c : Nat) : State := s.setFailedBit 22 c true

/-- Marks a lane failed (R539, R559). -/
def State.markLane (s : State) (n : Nat) : State := s.setFailedBit 31 n true

/-- A bit of W33 of FailedUnits. -/
def State.wideMark (s : State) (k : Nat) : Bool := bitOf (s.objW 0xA002 1 33) k
/-- Sets or clears it. -/
def State.setWideMark (s : State) (k : Nat) (b : Bool) : State := s.setObjW 0xA002 1 33 (setBit (s.objW 0xA002 1 33) k b)

/-! ## A lasting fault of a unit of a Stand (R541) -/

/-- UNIT_FAILED is set, and the Stand stays at its boundary until StandCtrl is written (R541). -/
def State.unitOf (s : State) (o : Option Nat) : State :=
  match o with
  | some d =>
    (s.event (0x6100 + 16 * d) 4 0x20).setStand d { s.stand d with unitFailed := true }
  | none => s

end Sys2Proof.Machine
end

