-- ==== Sys2Proof/Machine/XanPorts.lean ====
section
/-! DEFINITION. The Xannus ports (10_xannus_links.md): training, the link layer, lane maps, tests, retraining and port resets. -/

namespace Sys2Proof.Machine

/-! ## Lanes and training (R341 to R345) -/

/-- The number of a lane. -/
def laneNum (p l : Nat) : Nat := 8 * p + l
/-- STATE of LaneStatus (R366). -/
def State.laneState (s : State) (p l : Nat) : Nat := s.getF (0x7200 + laneNum p l) 1 0 3
/-- Sets it. -/
def State.setLaneState (s : State) (p l x : Nat) : State := s.setF (0x7200 + laneNum p l) 1 0 3 x
/-- Sets STATE and LANE_MAP of PortStatus (R365). -/
def State.setPortState (s : State) (p st map : Nat) : State := (s.setF (0x7100 + p) 2 8 4 st).setF (0x7100 + p) 2 0 8 map
/-- PortCtrl in force (R364). -/
def State.portCtrl (s : State) (p : Nat) : U64 := s.obj (0x7100 + p) 1

/-- The presets of R342: PRE, MAIN, POST. -/
def presetTaps (i : Nat) : BitVec 24 :=
  let t := if i = 0 then (0, 80, 0) else if i = 1 then (4, 68, 8) else if i = 2 then (8, 56, 16) else (4, 60, 16)
  BitVec.ofNat 24 (t.1 + 256 * t.2.1 + 65536 * t.2.2)

/-- An allowed setting of the taps (R342). -/
def tapsAllowed (pre main post : Int) : Bool :=
  decide (0 ≤ pre) && decide (pre ≤ 24) && decide (0 ≤ post) && decide (post ≤ 24) && decide (16 ≤ main) && decide (main ≤ 80) &&
  decide (pre + main + post ≤ 80) && decide (16 ≤ main - pre - post)

/-- Tap `k` of a setting (0 PRE, 1 MAIN, 2 POST) changed by `d`: the new setting where it is allowed (R342). -/
def tapStep (taps : BitVec 24) (k : Nat) (d : Int) : Option (BitVec 24) :=
  let v : Nat → Int := fun j => (fld taps (8 * j) 8 : Int) + (if j = k then d else 0)
  if tapsAllowed (v 0) (v 1) (v 2) then some (setFld taps (8 * k) 8 (v k).toNat) else none

/-- A training word with its CRC-16 in bits 31:16, over bits 15:0 in the order they are sent (R341). -/
def trainWord (w : U16) : U32 := BitVec.ofNat 32 (w.toNat + 65536 * crcBits 16 0x1021 0 (bitsLsb 16 w.toNat))
/-- The low half of a training word whose CRC is good (R341). -/
def trainWordOf (w : U32) : Option U16 :=
  let lo : U16 := BitVec.ofNat 16 w.toNat
  if trainWord lo = w then some lo else none

/-- Sends a training frame on a lane (R341). -/
def State.sendTraining (s : State) (p l : Nat) : State :=
  let x := s.lane (laneNum p l)
  s.send (.training p l (trainWord x.control) (trainWord x.status))

/-- A lane starts training: from preset PRESET_START at port-up (R345), from its previous taps in service (R361). Whether the receiver
asks for precoding, where PRECODE_ALLOW lets it, is its own choice (log entry 33). -/
def State.startLane (s : State) (p l : Nat) (inService : Bool) : State :=
  let n := laneNum p l
  let x := s.lane n
  let pc := s.portCtrl p
  let preset := presetTaps (fld pc 3 3)
  let precode := bitOf pc 6 && bitOf s.drawn 0
  let s := s.advance
  let s := s.setLane n { x with
    taps := if inService then x.taps else preset
    control := BitVec.ofNat 16 (1024 * b2n precode)
    status := BitVec.ofNat 16 (2048 * l)
    farReady := 0
    deskew := (0, 0)
    low := 0
    heard := false
    locked := false }
  let phys := 8 * p + (if inService then s.getF (0x7200 + n) 1 5 3 else l)
  let s := s.setLane phys { s.lane phys with signal := false, markers := 0 }
  let s := if inService then s else (s.setObj (0x7200 + n) 2 (preset.setWidth 64)).setLaneState p l 1
  s.sendTraining p l

/-- A port trains all its lanes; one whose reference is absent or out of tolerance stays in STATE 1 (R332, R345). -/
def State.startTraining (s : State) (p : Nat) : State :=
  let s := s.setPortState p 1 0
  if bitOf s.xrefs (p / 4) then (List.range 8).foldl (fun s l => s.startLane p l false) s else s

/-- The Stands of the flits a port holds (R31). -/
def portStands (x : Port) : List StandId :=
  let bits := x.txq.flatMap (fun e => e.2) ++ x.rxq.flatMap (fun e => e.2) ++ x.retry.map (fun e => e.2.2)
  let stands := bits.filterMap (fun b => (flitOf b).stand)
  (List.range 8).filterMap (fun d => if stands.contains (Fin.ofNat 8 d) then some (Fin.ofNat 8 d) else none)

/-- An error of a port with the Stands whose flits it holds (R31, R331). -/
def State.portError (s : State) (p : Nat) (e : CheckedError) (unit : Nat) : State :=
  s.report { mkReport e (p / 3) none .lane unit 0 with stands := portStands (s.port p) }

/-- A reset of one of the device's ports ends the step of every job Stand that is stepping (R382). -/
def State.portEndsSteps (s : State) : State :=
  (List.range 8).foldl (fun s d =>
    if s.inJob d && (s.stand d).phase == .stepping then
      { s.stopStand d with jobs := SMap.set JobState.reset s.jobs d { SMap.get JobState.reset s.jobs d with portEnded := true } }
    else s) s

/-- The part of a port reset that every cause shares: queues, retry and receive buffers and the lanes are emptied; the peer tags of
requests that are still in the network stay (R33, R359). -/
def State.clearPort (s : State) (p : Nat) : State :=
  let s := s.portEndsSteps
  let s := s.setPort p { Port.reset with tags := (s.port p).tags }
  let s := s.setObj (0x7100 + p) 1 (s.portCtrl p &&& ~~~(BitVec.ofNat 64 0x8800))
  (List.range 8).foldl (fun s l =>
    let n := laneNum p l
    ((s.setLane n Lane.reset).setObj (0x7200 + n) 1 (s.obj (0x7200 + n) 1 &&& ~~~(BitVec.ofNat 64 0x1FFF)))) (s.setPortState p 0 0)

/-- A port reset (R359): the port trains again where it is enabled and AUTO_RESTART is 1 (R355, R364). -/
def State.resetPort (s : State) (p : Nat) : State :=
  let s := s.clearPort p
  if bitOf (s.portCtrl p) 0 && bitOf (s.portCtrl p) 1 then s.startTraining p else s

/-- XAN_DOWN (R355, R359). -/
def State.portDown (s : State) (p : Nat) : State :=
  ((s.portError p .xanDown (laneNum p 0)).event (0x7100 + p) 2 0x1000).resetPort p

/-- A lane has failed training (R344, R345, R359, R361). -/
def State.failTraining (s : State) (p l : Nat) : State :=
  let x := s.port p
  let n := laneNum p l
  if s.portUp p then
    (match x.outLane with
     | some (o, .retrain) =>
       if o.val ≠ l then s
       else
         let y := s.lane n
         if y.fails + 1 < 3 then (s.setLane n { y with fails := y.fails + 1 }).startLane p l true
         else
           let s := s.setLane n { y with fails := 0 }
           let s := s.setPort p { x with outLane := none, next := none, failed := some o }
           let s := s.setObj (0x7100 + p) 1 (s.portCtrl p &&& ~~~(BitVec.ofNat 64 0x8800))
           let s := ((s.event (0x7200 + n) 1 0x1000).setLaneState p l 5).markLane n
           (s.portError p .xanTrain n).event (0x7100 + p) 2 0x4000
     | _ => s)
  else if (s.portState p = 1 ∨ s.portState p = 2) ∧ (List.range 8).any (fun k => (s.lane (laneNum p k)).signal) then
    (if x.fails + 1 < 3 then (s.setPort p { x with fails := x.fails + 1 }).startTraining p
     else ((s.portError p .xanTrain n).event (0x7100 + p) 2 0x4000).setPortState p 5 0)
  else s

/-- XREF_CHANGE (R332): a reference is lost or comes back. -/
def execXrefChange (x : Fin 3) (good : Bool) (s : State) : Host.Outcome State Fault Refusal :=
  let was := bitOf s.xrefs x.val
  let s := { s with xrefs := setBit s.xrefs x.val good }
  .next ((List.range 4).foldl (fun s i =>
    let p := 4 * x.val + i
    if !bitOf (s.portCtrl p) 0 || s.portState p == 0 then s
    else if !good then (s.clearPort p).setPortState p 1 0
    else if !was && s.portState p == 1 then s.startTraining p
    else s) s)

/-- What the far end's control word makes of the near transmitter's taps and status word (R342, R343, R357). -/
def laneAnswer (x : Lane) (testing : Bool) (c : U16) : Lane :=
  let tapReqs := (List.range 3).any (fun k => fld c (2 * k) 2 != 0)
  let loop := bitOf c 6 && fld c 7 2 == 3 && bitOf c 10
  let st0 := setFld x.status 10 1 (fld c 10 1)
  if loop then (if testing then { x with loop := false } else { x with loop := true })
  else if bitOf c 6 then
    (if tapReqs then { x with loop := false, status := st0 }
     else if bitOf x.status 6 then { x with loop := false, status := st0 }
     else { x with loop := false, status := setFld st0 6 1 1, taps := presetTaps (fld c 7 2) })
  else
    let r := (List.range 3).foldl (fun (acc : BitVec 24 × U16) k =>
      let req := fld c (2 * k) 2
      let cur := fld acc.2 (2 * k) 2
      if cur ≠ 0 then (if req = 0 then (acc.1, setFld acc.2 (2 * k) 2 0) else acc)
      else if req = 1 then
        (match tapStep acc.1 k 1 with
         | some t => (t, setFld acc.2 (2 * k) 2 1)
         | none => (acc.1, setFld acc.2 (2 * k) 2 3))
      else if req = 2 then
        (match tapStep acc.1 k (-1) with
         | some t => (t, setFld acc.2 (2 * k) 2 1)
         | none => (acc.1, setFld acc.2 (2 * k) 2 2))
      else acc) (x.taps, setFld st0 6 1 0)
    { x with loop := false, taps := r.1, status := r.2 }

/-- What the far end's status word makes of the near receiver's requests, before it asks for more, and of LaneTaps (R343, R367). -/
def laneHeard (control st : U16) (laneTaps : BitVec 24) : U16 × BitVec 24 :=
  if bitOf control 6 then
    (if bitOf st 6 then (setFld control 6 3 0, presetTaps (fld control 7 2)) else (control, laneTaps))
  else
    (List.range 3).foldl (fun (acc : U16 × BitVec 24) k =>
      let req := fld acc.1 (2 * k) 2
      if req ≠ 0 ∧ fld st (2 * k) 2 ≠ 0 then
        (setFld acc.1 (2 * k) 2 0,
         if fld st (2 * k) 2 = 1 then
           (let v := fld acc.2 (8 * k) 8
            setFld acc.2 (8 * k) 8 (if req = 1 then v + 1 else v - 1))
         else acc.2)
      else acc) (control, laneTaps)

/-- The near receiver's next request, its own choice `f` where R343 lets it ask: nothing more once RX_READY is sent; RX_READY only
with every request at hold. -/
def laneAsk (control st : U16) (f : U64) : U16 :=
  if bitOf control 9 || bitOf control 6 then control
  else
    let idle := (List.range 3).all (fun k => fld control (2 * k) 2 == 0)
    if idle && bitOf f 9 then setFld control 9 1 1
    else if idle && bitOf f 6 && !bitOf st 6 && !(fld f 7 2 == 3 && bitOf control 10) then setFld (setFld control 6 1 1) 7 2 (fld f 7 2)
    else
      (List.range 3).foldl (fun c k =>
        if fld c (2 * k) 2 = 0 ∧ fld st (2 * k) 2 = 0 ∧ fld f (2 * k) 2 ≠ 3 then setFld c (2 * k) 2 (fld f (2 * k) 2) else c) control

/-- A lane that is in training and has not finished. -/
def State.laneTraining (s : State) (p l : Nat) : Bool :=
  !(s.lane (laneNum p l)).locked &&
  (s.laneState p l == 1 ||
   (match (s.port p).outLane with
    | some (o, .retrain) => o.val == l
    | _ => false))

/-- A lane that is being tested (R357). -/
def State.laneTesting (s : State) (p l : Nat) : Bool :=
  match (s.port p).outLane with
  | some (o, .test _) => o.val == l
  | _ => false

/-- The lane a training frame belongs to: the number its status word carries, or the one that the physical lane already serves
(R335, R341). -/
def State.laneOfFrame (s : State) (p phys : Nat) (st : Option U16) : Option Nat :=
  match st with
  | some w => some (fld w 11 3)
  | none => (List.range 8).find? (fun l => (s.lane (laneNum p l)).heard && s.getF (0x7200 + laneNum p l) 1 5 3 == phys)

/-- The marker of a training frame as it is received, bit i for symbol i, 1 for +3: inverted or not; none where it is no marker (R335,
R341). -/
def markerOf (m : BitVec 32) : Option Bool := if m = 0x0000FFFF then some false else if m = 0xFFFF0000 then some true else none

/-- A frame is received on a physical lane: its signal is detected, STATE 2 once every lane has one, and the markers in a row are counted
(R335, R345). -/
def State.markerHeard (s : State) (p phys : Nat) (m : Option Bool) : State :=
  let n := laneNum p phys
  let x := s.lane n
  let x : Lane := { x with signal := true }
  let s := s.setLane n (match m with
    | none => { x with markers := 0 }
    | some inv => { x with inverted := inv, markers := if x.inverted = inv then min 3 (x.markers + 1) else 1 })
  if s.portState p == 1 && (List.range 8).all (fun k => (s.lane (laneNum p k)).signal) then s.setPortState p 2 0 else s

/-- The first frame of a lane in this training whose number is known: its physical lane and polarity (R335, R366). -/
def State.laneFound (s : State) (n phys : Nat) (inverted : Bool) : State :=
  if (s.lane n).heard then s
  else
    let s := (s.setF (0x7200 + n) 1 5 3 phys).setF (0x7200 + n) 1 4 1 (b2n inverted)
    s.setLane n { s.lane n with heard := true }

/-- A valid status word: what it makes of the requests, and what the receiver asks next (R341, R343). -/
def State.laneStatusWord (s : State) (n : Nat) (w : U16) : State :=
  let r := laneHeard (s.lane n).control w (BitVec.ofNat 24 (s.obj (0x7200 + n) 2).toNat)
  let s := (s.setF (0x7200 + n) 1 3 1 (fld w 10 1)).setObj (0x7200 + n) 2 (r.2.setWidth 64)
  (s.setLane n { s.lane n with control := laneAsk r.1 w s.drawn }).advance

/-- A control word: the answer of the transmitter, and the frames with RX_READY in a row (R343, R344). -/
def State.laneControlWord (s : State) (n : Nat) (testing : Bool) (c : Option U16) : State :=
  match c with
  | some w =>
    let x := laneAnswer (s.lane n) testing w
    s.setLane n { x with farReady := if bitOf w 9 then min 3 (x.farReady + 1) else 0 }
  | none => s.setLane n { s.lane n with farReady := 0 }

/-- The lane of a port that a physical lane serves may take training frames: it is in training, or tested. -/
def State.takesTraining (s : State) (p l : Nat) : Bool := s.laneTraining p l || s.laneTesting p l

/-- A frame's words, with the polarity corrected, at a lane whose number is known (R335, R341 to R345), and the frame sent in answer. -/
def State.trainWith (s : State) (p phys m : Nat) (inverted : Bool) (control : Option U16) (status : Option U16) : State :=
  let n := laneNum p m
  let testing := s.laneTesting p m
  let s := s.laneFound n phys inverted
  let s := match status with
    | some w => s.laneStatusWord n w
    | none => s
  (s.laneControlWord n testing control).sendTraining p m

/-- TRAINING_FRAME (R335, R341 to R345): marker, control and status word as received on physical lane l. Polarity and lane number are fixed by 3
markers in a row. -/
def execTrainingFrame (p : PortId) (l : LaneIx) (marker : BitVec 32) (w : TrainingWords) (s : State) : Host.Outcome State Fault Refusal :=
  let pp := p.val
  if (List.range 8).all (fun m => !s.takesTraining pp m) then .next s
  else
    let t := s.markerHeard pp l.val (markerOf marker)
    let x := t.lane (laneNum pp l.val)
    let right (w : BitVec 32) : Option U16 := trainWordOf (if x.inverted then ~~~w else w)
    if x.markers < 3 then .next t
    else
      match t.laneOfFrame pp l.val (right w.status) with
      | none => .next t
      | some m => .next (if t.takesTraining pp m then t.trainWith pp l.val m x.inverted (right w.control) (right w.status) else t)

/-- The 16 further training frames and the 64 IDLE blocks that start the first codeword (R344). The levels before it are not precoded: the
first level code is precoded with code 0 (log entry 123). -/
def State.sendLockSequence (s : State) (p l : Nat) : State :=
  let n := laneNum p l
  let x := s.lane n
  let b := portBlockWith (s.port p) typeIdle 0 3 []
  let s := { s with out := s.out ++ List.replicate 16 (Output.training p l (trainWord x.control) (trainWord x.status)) ++ List.replicate 64 (Output.block p b) }
  (List.range 64).foldl (fun s _ => s.lineSend p l true b) (s.setLane n { x with codeBits := [], level := 0 })

/-- The message bits of received codewords, precoding undone; none where one of them cannot be corrected (R338, R339). -/
def decodeLine (inverted precode : Bool) : Nat → List (BitVec 5440) → Option (List Bool)
  | _, [] => some []
  | y, w :: l =>
    let b := levelBits precode y (unpackLevels inverted w)
    (rsWord b.1).bind (fun r => (decodeLine inverted precode b.2 l).map (fun t => symbolBits (r.1.take 514) ++ t))

/-- Of some blocks received, newest first, 16 of 64 in a row have an invalid header: block lock is lost (R340). -/
def lockLost (headers : List Bool) : Bool := decide (16 ≤ (headers.take 64).countP (fun b => b))

/-- The blocks in a bit stream, from its first bit: the descrambler's state after them, and the invalid headers, newest first (R336). -/
def lineHeaders : Nat → BitVec 58 → List Bool → BitVec 58 × List Bool
  | 0, t, _ => (t, [])
  | k + 1, t, bits =>
    let b := lineBlock t (BitVec.ofNat 66 (ofBitsLsb (bits.take 66)))
    let r := lineHeaders k b.1 (bits.drop 66)
    (r.1, r.2 ++ [b.2.1 == .invalid])

/-- What the receiver of a lane finds in the 4 codewords after its training: codeword and block lock with the descrambler's state, or none
(R340, R344). -/
def State.lineLocks (s : State) (n : Nat) (line : List (BitVec 5440)) : Option (BitVec 58) :=
  if line.length ≠ 4 then none
  else
    match decodeLine (s.bit (0x7200 + n) 1 4) (s.bit (0x7200 + n) 1 3) 0 line with
    | none => none
    | some bits =>
      let r := lineHeaders 311 0 bits
      if (List.range 248).any (fun i => lockLost (r.2.drop i)) then none else some r.1

/-- At port-up every lane sends DESKEW, SLOT counted from 0, once all are trained: the 16 blocks that align a queue (R350, log entry 34). -/
def State.sendDeskews (s : State) (p : Nat) : State :=
  if s.portUp p || !(List.range 8).all (fun l => (s.lane (laneNum p l)).locked) then s
  else (List.range 16).foldl (fun s k => (List.range 8).foldl (fun s l => s.lineSend p l true (deskewBlock k)) s) s

/-- LANE_TRAINED (R344): 16 further training frames and 64 IDLE blocks; `line` holds the 4 codewords checked, as the physical lane received
them. -/
def execLaneTrained (p : PortId) (l : LaneIx) (line : List (BitVec 5440)) (s : State) : Host.Outcome State Fault Refusal :=
  let pp := p.val
  let n := laneNum pp l.val
  let x := s.lane n
  if s.laneTraining pp l.val = false ∨ bitOf x.control 9 = false ∨ x.farReady < 3 then .next s
  else
    let s := s.sendLockSequence pp l.val
    .next (match s.lineLocks n line with
      | some t => (s.setLane n { s.lane n with locked := true, deskew := (0, 0), descrambled := t, headers := [] }).sendDeskews pp
      | none => s.failTraining pp l.val)

/-- XAN_TRAIN (R344, R345, R359): XanTrainTimeout passed without RX_READY in both directions. -/
def execXanTrain (p : PortId) (l : LaneIx) (s : State) : Host.Outcome State Fault Refusal :=
  .next (if s.laneTraining p.val l.val then s.failTraining p.val l.val else s)

/-! ## Lane maps and deskew (R348 to R350) -/

/-- Sends the three copies of a LANEMAP; the map takes effect after them, and the count of its blocks starts (R337, R348, R349). -/
def State.sendLaneMap (s : State) (p map : Nat) : State :=
  let b : U64 := BitVec.ofNat 64 (typeLaneMap + 256 * map)
  let s := (List.range 3).foldl (fun s _ => s.sendControl p b) s
  (s.setPort p { s.port p with txBlocks := 0 }).setPortState p (if map = 0xFF then 3 else 4) map

/-- A block of R348 is received: true on the second of two consecutive identical copies; the third is ignored. -/
def State.copyHeard (s : State) (p : Nat) (b : U64) : State × Bool :=
  let x := s.port p
  if x.last = some b then
    (if x.copies = 1 then (s.setPort p { x with copies := 2 }, true)
     else (s.setPort p { x with last := none, copies := 0 }, false))
  else (s.setPort p { x with last := some b, copies := 1 }, false)

/-- Another block stands between copies. -/
def State.otherHeard (s : State) (p : Nat) : State := s.setPort p { s.port p with last := none, copies := 0 }

/-- PORT_UP (R345): every lane trained and aligned; LANEMAP 0xFF is exchanged and the link layer starts at SEQ 0. -/
def execPortUp (p : PortId) (s : State) : Host.Outcome State Fault Refusal :=
  let pp := p.val
  let ready := (List.range 8).all (fun l => (s.lane (laneNum pp l)).locked && decide (16 ≤ (s.lane (laneNum pp l)).deskew.2))
  if s.portState pp ≠ 2 ∨ ready = false then .next s
  else
    let x := s.port pp
    let s := s.setPort pp { x with txSeq := 0, rxSeq := 0xFFF, retry := [], retried := 0, taken := [], rxq := [], freed := [], fails := 0, rxMap := 0xFF }
    let s := s.sendLaneMap pp 0xFF
    .next (((List.range 8).foldl (fun s l =>
      (s.setLane (laneNum pp l) { s.lane (laneNum pp l) with fails := 0 }).setLaneState pp l 2) s).pump pp)

/-- A lane leaves the map (R349, R358, R360, R361). -/
def State.dropLane (s : State) (p : Nat) (l : LaneIx) (op : LaneOp) : State :=
  let s := s.sendLaneMap p (s.laneMap p &&& (0xFF ^^^ 2 ^ l.val))
  let s := s.setPort p { s.port p with outLane := some (l, op) }
  match op with
  | .retrain => (s.setLaneState p l.val 3).startLane p l.val true
  | .test k =>
    let s := s.setLaneState p l.val 4
    let n := laneNum p l.val
    let s := s.setLane n { s.lane n with locked := false, heard := false, control := if k = 2 then 0x5C0 else 0, status := BitVec.ofNat 16 (2048 * l.val) }
    if k = 2 then s.sendTraining p l.val else s

/-- A lane must leave the map: it does where no other lane is out or marked failed; else the port is down (R359, R360). -/
def State.loseLane (s : State) (p : Nat) (l : LaneIx) (op : LaneOp) : State :=
  if (s.port p).outLane.isSome || (s.port p).failed.isSome then s.portDown p else s.dropLane p l op

/-- A lane in the map loses codeword or block lock, XAN_LANE: it leaves the map and is tested (R340, R359). -/
def State.laneLost (s : State) (p : Nat) (l : LaneIx) : State :=
  let n := laneNum p l.val
  if s.portUp p = false ∨ s.laneMap p / 2 ^ l.val % 2 = 0 then s
  else
    let s := (s.portError p .xanLane n).event (0x7200 + n) 1 0x4000
    s.loseLane p l (.test (BitVec.ofNat 2 (fld (s.portCtrl p) 16 2)))

/-- A block of 66 bits is received on a lane: its kind and payload (R336). -/
def State.hearOn (s : State) (n : Nat) (b : BitVec 66) : State × BlockKind × U64 :=
  let x := s.lane n
  let r := lineBlock x.descrambled b
  (s.setLane n { x with descrambled := r.1, headers := ((r.2.1 == .invalid) :: x.headers).take 64 }, r.2)

/-- The next block of a port's stream is received, on the lane that is its turn; a new receive map takes effect where it is due (R337,
R349). -/
def State.hearBlock (s : State) (p : Nat) (b : BitVec 66) : State × BlockKind × U64 :=
  let x := s.port p
  let x : Port := match x.rxNext with
    | some (m, false) => { x with rxMap := m, rxBlocks := 0, rxNext := none }
    | some (m, true) => { x with rxNext := some (m, false) }
    | none => x
  let lanes := mapLanes x.rxMap.toNat
  (s.setPort p { x with rxBlocks := x.rxBlocks + 1 }).hearOn (laneNum p (lanes.getD (x.rxBlocks % lanes.length) 0)) b

/-- A single block is received: whether it is a control block, and its payload (R336, R346). -/
def State.hearControl (s : State) (p : Nat) (b : BitVec 66) : State × Bool × U64 :=
  let r := s.hearBlock p b
  (r.1, r.2.1 == .control, r.2.2)

/-- The lanes of a port that have lost block lock leave the map (R340, R359). -/
def State.lockCheck (s : State) (p : Nat) : State :=
  (List.range 8).foldl (fun s l =>
    let n := laneNum p l
    if lockLost (s.lane n).headers then (s.setLane n { s.lane n with headers := [] }).laneLost p (Fin.ofNat 8 l) else s) s

/-- LANEMAP (R337, R348, R349): the receive map that takes effect after the third copy; a lane that it drops leaves the port's own map. -/
def execLaneMap (p : PortId) (block : BitVec 66) (s : State) : Host.Outcome State Fault Refusal :=
  let pp := p.val
  let h := s.hearControl pp block
  let block := h.2.2
  if h.2.1 = false ∨ fld block 0 8 ≠ typeLaneMap then .next (h.1.lockCheck pp)
  else
    let r := h.1.copyHeard pp block
    if !r.2 then .next (r.1.lockCheck pp)
    else
      let s := r.1.setPort pp { r.1.port pp with rxNext := some (BitVec.ofNat 8 (fld block 8 8), true) }
      let s := if s.portUp pp then
          (List.range 8).foldl (fun s l =>
            if s.portUp pp && s.laneMap pp / 2 ^ l % 2 == 1 && fld block (8 + l) 1 == 0 then s.loseLane pp (Fin.ofNat 8 l) .retrain else s) s
        else s
      .next (s.lockCheck pp)

/-- A lane rejoins the map; a request that waited for it is carried out (R349, R360, R361). -/
def State.rejoin (s : State) (p : Nat) (l : LaneIx) : State :=
  let n := laneNum p l.val
  let next := (s.port p).next
  let s := s.setObj (0x7100 + p) 1 (match next with
    | none => s.portCtrl p &&& ~~~(BitVec.ofNat 64 0x8800)
    | some .retrain => s.portCtrl p &&& ~~~(BitVec.ofNat 64 0x8000)
    | some (.test _) => s.portCtrl p &&& ~~~(BitVec.ofNat 64 0x800))
  let s := s.setPort p { s.port p with outLane := none, next := none }
  let s := ((s.sendLaneMap p (s.laneMap p ||| 2 ^ l.val)).setLaneState p l.val 2).setLane n { s.lane n with fails := 0 }
  match next with
  | none => s
  | some op => s.dropLane p l op

/-- DESKEW (R350): 16 agreeing blocks align the lane; in service it then rejoins the map. At port-up SLOT advances by 1 from block to
block, in service by the width of the map (log entry 34). -/
def execDeskew (p : PortId) (l : LaneIx) (block : BitVec 66) (s : State) : Host.Outcome State Fault Refusal :=
  let pp := p.val
  let n := laneNum pp l.val
  if (s.lane n).locked = false ∨ s.laneMap pp / 2 ^ l.val % 2 = 1 then .next s
  else
    let h := s.hearOn n block
    let s := h.1
    let block := h.2.2
    let x := s.lane n
    if h.2.1 ≠ .control ∨ fld block 0 8 ≠ typeDeskew then .next s
    else
      let slot := fld block 16 32
      let step := if s.portUp pp then 7 else 1
      let count := if 0 < x.deskew.2 ∧ slot = (x.deskew.1 + step) % 2 ^ 32 then x.deskew.2 + 1 else 1
      let s := s.setLane n { x with deskew := (slot, count) }
      if 16 ≤ count ∧ s.portUp pp = true then
        (match (s.port pp).outLane with
         | some (o, .retrain) => .next (if o = l then s.rejoin pp l else s)
         | _ => .next s)
      else .next s

/-! ## The link layer (R346, R352 to R355) -/

/-- ACK of a block: the frames up to it are acknowledged (R352). -/
def State.takeAck (s : State) (p : Nat) (ack : BitVec 12) : State :=
  let x := s.port p
  match x.retry.findIdx? (fun e => e.1 == ack) with
  | none => s
  | some i => s.setPort p { x with retry := x.retry.drop (i + 1), retried := 0 }

/-- CREDIT of a block (R347, R354). -/
def State.takeCredit (s : State) (p : Nat) (c : Nat) : State :=
  let x := s.port p
  if c % 4 = 3 then s
  else s.setPort p { x with taken := SMap.set 0 x.taken (c % 4) (SMap.get 0 x.taken (c % 4) - (c / 4 + 1)) }

/-- The check of a FRAME, IDLE or RETRY block (R347). -/
def blockGood (type : Nat) (b : U64) (body : List Bool) : Bool :=
  fld b 0 8 == type && fld b 40 24 == crc24 (blockBits (fld b 0 40) body)

/-- A valid block's ACK and CREDIT, and what they let the port send. -/
def State.takeBlock (s : State) (p : Nat) (b : U64) : State :=
  ((s.takeAck p (BitVec.ofNat 12 (fld b 20 12))).takeCredit p (fld b 32 4)).pump p

/-- Sends one RETRY for a SEQ (R352). -/
def State.askRetry (s : State) (p : Nat) (seq : BitVec 12) : State :=
  let r := s.portBlock p typeRetry seq.toNat
  let t := r.1.sendControl p r.2
  t.setPort p { t.port p with asked := some seq }

/-- The 20 blocks of a frame are received: whether they are a control block and 19 data blocks, the FRAME block, and bits 1,215:0 of the flit
(R336, R346). -/
def State.hearFrame (s : State) (p : Nat) (blocks : List (BitVec 66)) : State × Bool × U64 × BitVec 1216 :=
  let r := blocks.foldl (fun (acc : State × List (BlockKind × U64)) b =>
    let h := acc.1.hearBlock p b
    (h.1, acc.2 ++ [h.2])) (s, [])
  (r.1, r.2.map (fun x => x.1) == .control :: List.replicate 19 .data, (r.2.headD (.invalid, 0)).2,
   BitVec.ofNat 1216 (ofLeWords ((r.2.drop 1).map (fun x => x.2))))

/-- What a port makes of a frame: accepted in sequence, else discarded with one RETRY (R352, R354). -/
def State.takeFrame (s : State) (p : Nat) (whole : Bool) (head : U64) (body : BitVec 1216) : State :=
  let x := s.port p
  let seq : BitVec 12 := BitVec.ofNat 12 (fld head 8 12)
  if whole = true ∧ blockGood typeFrame head (bitsLsb 1216 body.toNat) = true ∧ seq = x.rxSeq + 1 then
    let ch := flitChannel (flitOf body)
    (s.setPort p { x with rxSeq := seq, asked := none, rxq := SMap.set [] x.rxq ch (SMap.get [] x.rxq ch ++ [body]) }).takeBlock p head
  else if x.asked = some (x.rxSeq + 1) then s
  else s.askRetry p (x.rxSeq + 1)

/-- FRAME (R336, R346, R352, R354): 20 blocks of 66 bits as the lanes' decoders give them. A frame with a wrong sync header fails as one with a bad
CRC does (log entry 123). -/
def execFrame (p : PortId) (head : BitVec 66) (body : Vector (BitVec 66) 19) (s : State) : Host.Outcome State Fault Refusal :=
  let pp := p.val
  if !s.portUp pp then .next s
  else
    let r := s.hearFrame pp (head :: body.toList)
    .next (((r.1.otherHeard pp).takeFrame pp r.2.1 r.2.2.1 r.2.2.2).lockCheck pp)

/-- IDLE (R352, R354). -/
def execIdle (p : PortId) (block : BitVec 66) (s : State) : Host.Outcome State Fault Refusal :=
  let pp := p.val
  if !s.portUp pp then .next s
  else
    let h := s.hearControl pp block
    let s := h.1.otherHeard pp
    .next ((if h.2.1 && blockGood typeIdle h.2.2 [] then s.takeBlock pp h.2.2 else s).lockCheck pp)

/-- RETRY (R353): the unacknowledged frames from the expected SEQ are sent again, or the retry limit resets the port. -/
def execRetry (p : PortId) (block : BitVec 66) (s : State) : Host.Outcome State Fault Refusal :=
  let pp := p.val
  if !s.portUp pp then .next s
  else
    let h := s.hearControl pp block
    let s := h.1.otherHeard pp
    let block := h.2.2
    if !h.2.1 || !blockGood typeRetry block [] then .next (s.lockCheck pp)
    else
      let s := (s.takeAck pp (BitVec.ofNat 12 (fld block 20 12))).takeCredit pp (fld block 32 4)
      let x := s.port pp
      let seq : BitVec 12 := BitVec.ofNat 12 (fld block 8 12)
      match x.retry.findIdx? (fun e => e.1 == seq) with
      | none => .next ((s.pump pp).lockCheck pp)
      | some i =>
        if s.getF 0x7000 3 0 8 ≤ x.retried then
          .next (((s.portError pp .xanRetry (laneNum pp 0)).event (0x7100 + pp) 2 0x2000).resetPort pp)
        else
          let s := (s.setPort pp { x with retried := x.retried + 1 }).count (0x7100 + pp) 3 0 64 1
          .next ((((x.retry.drop i).foldl (fun s e => s.emitFrame pp e) s).pump pp).lockCheck pp)

/-- RETRY_RESEND_TIMER (R352). -/
def execRetryResendTimer (p : PortId) (s : State) : Host.Outcome State Fault Refusal :=
  match (s.port p.val).asked with
  | some seq => .next (if s.portUp p.val then s.askRetry p.val seq else s)
  | none => .next s

/-- CONTROL_BLOCK_TIMER (R352). -/
def execControlBlockTimer (p : PortId) (s : State) : Host.Outcome State Fault Refusal :=
  if s.portUp p.val then
    let r := s.portBlock p.val typeIdle 0
    .next (r.1.sendControl p.val r.2)
  else .next s

/-- XAN_DOWN (R355). -/
def execXanDown (p : PortId) (s : State) : Host.Outcome State Fault Refusal :=
  .next (if s.portUp p.val then s.portDown p.val else s)

/-- PORT_RESET (R359). -/
def execPortReset (p : PortId) (s : State) : Host.Outcome State Fault Refusal := .next (s.resetPort p.val)

/-! ## Lane errors, tests and retraining (R357 to R361, R367) -/

/-- XAN_LANE (R340, R359): the lane leaves the map and is tested. -/
def execXanLane (p : PortId) (l : LaneIx) (s : State) : Host.Outcome State Fault Refusal :=
  .next (s.laneLost p.val l)

/-- LANE_TEST (R358, R539): the errors counted in the loopback's 1 ms; the lane then trains again from its previous taps. A test that follows
an XAN_LANE and fails marks the lane failed. -/
def execLaneTest (p : PortId) (l : LaneIx) (errors : BitVec 32) (s : State) : Host.Outcome State Fault Refusal :=
  let pp := p.val
  if !s.laneTesting pp l.val then .next s
  else
    let n := laneNum pp l.val
    let bad := decide (2125 < errors.toNat)
    let logs := (s.tests.filter (fun t => t.unit == TestUnit.lane n)).flatMap (fun t => t.logs)
    let after := s.tests.any (fun t => t.unit == TestUnit.lane n)
    let s := { s with tests := s.tests.filter (fun t => t.unit != TestUnit.lane n) }
    let s := s.logOutcome logs (if bad then outcomeLasting else outcomeTransient)
    let s := if bad then s.event (0x7200 + n) 1 0x2000 else s
    if bad && after then
      let s := s.setPort pp { s.port pp with outLane := none, next := none, failed := some l }
      let s := s.setObj (0x7100 + pp) 1 (s.portCtrl pp &&& ~~~(BitVec.ofNat 64 0x8800))
      .next (((s.event (0x7200 + n) 1 0x1000).setLaneState pp l.val 5).markLane n)
    else
      let s := s.setPort pp { s.port pp with outLane := some (l, .retrain) }
      .next (s.startLane pp l.val true)

/-- LANE_EYE_UPDATE (R360, R367). -/
def execLaneEyeUpdate (p : PortId) (l : LaneIx) (vert horiz : BitVec 8) (s : State) : Host.Outcome State Fault Refusal :=
  let pp := p.val
  let n := laneNum pp l.val
  if s.laneState pp l.val ≠ 2 then .next s
  else
    let s := s.setObj (0x7200 + n) 3 (BitVec.ofNat 64 (vert.toNat + 256 * horiz.toNat))
    let x := s.lane n
    if s.getF 0x7000 4 0 8 ≤ vert.toNat ∧ s.getF 0x7000 4 8 8 ≤ horiz.toNat then .next (s.setLane n { x with low := 0 })
    else
      let s := if x.low = 0 then s.event (0x7200 + n) 1 0x8000 else s
      let s := s.setLane n { x with low := min 3 (x.low + 1) }
      if 3 ≤ x.low + 1 ∧ bitOf (s.portCtrl pp) 2 = true ∧ (s.port pp).outLane = none ∧ (s.port pp).failed = none then
        .next (s.dropLane pp l .retrain)
      else .next s

/-- A retraining or test request (R360, R361): false where it is refused. -/
def State.laneRequest (s : State) (p : Nat) (l : LaneIx) (op : LaneOp) : State × Bool :=
  let x := s.port p
  if !s.portUp p || x.failed.isSome then (s, false)
  else
    match x.outLane with
    | none => (s.dropLane p l op, true)
    | some (o, _) => if o = l then (s.setPort p { x with next := some op }, true) else (s, false)

/-- A refused request of a port: CONFIG_ERR (R365). -/
def State.portConfigErr (s : State) (p : Nat) : State := s.event (0x7100 + p) 2 0x8000

/-- A value of PortCtrl takes effect at a frame boundary (R346, R357, R360, R364). -/
def State.takePortCtrl (s : State) (p : Nat) (v : U64) : State :=
  let old := s.portCtrl p
  let en := bitOf v 0
  let keep := v &&& ~~~(BitVec.ofNat 64 0x8800)
  let test := bitOf v 15 && !bitOf old 15
  let retr := bitOf v 11 && !bitOf old 11
  if 4 ≤ fld v 3 3 ∨ (test = true ∧ fld v 16 2 = 3) then s.portConfigErr p
  else
    let s := s.setObj (0x7100 + p) 1 (keep ||| (old &&& BitVec.ofNat 64 0x8800))
    if !en then (if bitOf old 0 || s.portState p != 0 then s.clearPort p else s)
    else if s.portState p = 0 ∨ (bitOf old 0 = false) then s.startTraining p
    else
      let s := if retr then
          (let r := s.laneRequest p (Fin.ofNat 8 (fld v 8 3)) .retrain
           if r.2 then r.1.setObj (0x7100 + p) 1 (r.1.portCtrl p ||| BitVec.ofNat 64 0x800) else s.portConfigErr p)
        else s
      if test then
        (let r := s.laneRequest p (Fin.ofNat 8 (fld v 12 3)) (.test (BitVec.ofNat 2 (fld v 16 2)))
         if r.2 then r.1.setObj (0x7100 + p) 1 (r.1.portCtrl p ||| BitVec.ofNat 64 0x8000) else s.portConfigErr p)
      else s

end Sys2Proof.Machine
end

