-- ==== Sys2Proof/Machine/Jobs.lean ====
section
/-! DEFINITION. Jobs (11_multi_device_jobs.md): barriers, releases and aborts of the job unit. -/

namespace Sys2Proof.Machine

/-- The job unit's state for a Stand. -/
def State.job (s : State) (d : Nat) : JobState := SMap.get JobState.reset s.jobs d
/-- Sets it. -/
def State.setJob (s : State) (d : Nat) (x : JobState) : State := { s with jobs := SMap.set JobState.reset s.jobs d x }
/-- An event of JobStatus (R392). -/
def State.jobEvent (s : State) (d bits : Nat) : State := s.event (0x7400 + 16 * d) 4 bits

/-- The StepSeq of the step that a round concerns: the committed step until the Stand releases, else the step in progress (R380). -/
def State.roundSeq (s : State) (d : Nat) : U64 := if (s.stand d).done then s.stepSeq d - 1 else s.stepSeq d

/-- The member's own STATUS, once its part of the round is complete (R380, R384, R541, R547). -/
def State.ownStatus (s : State) (d : Nat) : Option Nat :=
  let x := s.stand d
  let j := s.job d
  if !s.enabled d || !s.inJob d then none
  else if j.restored then (if x.unitFailed then none else some 2)
  else if x.phase = .recovering then (if x.stage = 8 ∧ j.go = false then some 1 else none)
  else if x.phase = .fenced then none
  else if j.aborted then (if x.phase = .drained ∨ (x.phase = .applied ∧ x.done = true) then some 1 else none)
  else if x.phase = .applied ∧ x.done = true ∧ x.barrierDone = false then some 0
  else none

/-- A barrier message as a SIGNAL payload (R380). -/
def barrierData (token : Nat) (m : BarrierMsg) : BitVec 1024 :=
  BitVec.ofNat 1024 (token + 2 ^ 48 * m.stepSeq.toNat + 2 ^ 112 * m.status.toNat + 2 ^ 120 * m.attempt.toNat)

/-- The barrier message a payload spells. -/
def barrierOf (b : BitVec 1024) : BarrierMsg :=
  { stepSeq := BitVec.ofNat 64 (fld b 48 64), status := BitVec.ofNat 8 (fld b 112 8), attempt := BitVec.ofNat 8 (fld b 120 8) }

/-- Token of BARRIER. -/
def tokenBarrier : Nat := 0xFFFE
/-- Token of RELEASE. -/
def tokenRelease : Nat := 0xFFFF

/-- A BARRIER from a child: kept, the higher STATUS where the child sends again; one of another step or an earlier attempt is discarded
(R384, R386). -/
def State.hearBarrier (s : State) (d child : Nat) (m : BarrierMsg) : State :=
  let j := s.job d
  if m.stepSeq ≠ s.roundSeq d ∨ m.attempt < j.attempt then s
  else s.setJob d { j with heard := SMap.set 0 j.heard child (max (SMap.get 0 j.heard child) (m.status.toNat + 1)) }

/-- The start of a new round. -/
def JobState.nextRound (j : JobState) : JobState := { j with heard := [], sent := false }

/-- The aborted step starts again, or the Stand waits for a step (R380, R385). -/
def State.restartStep (s : State) (d : Nat) : State :=
  let x := s.stand d
  match x.current with
  | some w => s.stepAgain d w
  | none => s.setStand d { x with phase := .applied, done := false, barrierDone := true, failure := 0, failWho := 0, drainDies := 0 }

/-- A committed step is rolled back: the commit record names its predecessor, and StepSeq goes back by one (R49, R385). -/
def State.rollBack (s : State) (d : Nat) : State :=
  let x := s.stand d
  if !x.done then s
  else
    let seq := s.stepSeq d
    ((s.setObj (standIx d) 5 (seq - 1)).setStand d
      { x with done := false, commitRec := if seq ≤ 1 then none else some (seq - 2) }).jobEvent d 0x1000

/-- RELEASE STATUS 0: the completion is due, and the boundary may release (R380, R503). -/
def State.releaseOk (s : State) (d : Nat) : State :=
  let x := s.stand d
  let s := s.setJob d ((s.job d).nextRound)
  let s := s.setStand d { x with barrierDone := true }
  match x.current with
  | some w => if x.done then s.complete w.func.val (s.stepCompletion d w 0 (s.stepSeq d - 1).toNat) else s
  | none => s

/-- RELEASE STATUS 1 (R385, R386, R504, R547): the Stand is restored, or its recovery goes on to stage 8. -/
def State.releaseRestore (s : State) (d : Nat) : State :=
  let x := s.stand d
  let s := s.rollBack d
  let s := match x.current with
    | some w => if x.failure ≠ 0 ∧ x.done = false then s.complete w.func.val (s.stepCompletion d w 5 (s.stepSeq d).toNat) else s
    | none => s
  let j := s.job d
  let j' := { j.nextRound with attempt := j.attempt + 1, aborted := true }
  if x.phase = .recovering then s.setJob d { j' with go := true }
  else
    ((s.setStand d { s.stand d with phase := .drained, failure := 0, failWho := 0 }).restoreStand d).setJob d { j' with restored := true }

/-- RELEASE STATUS 2 (R380, R385): the restored step starts again. -/
def State.releaseAgain (s : State) (d : Nat) : State :=
  let j := s.job d
  (s.setJob d { j.nextRound with aborted := false, restored := false, go := false, unrun := false, portEnded := false }).restartStep d

/-- What RELEASE makes a member do; it forwards it to its children (R380). -/
def State.barrierReleased (s : State) (d : Nat) (m : BarrierMsg) : State :=
  let s := (s.jobChildren d).foldl (fun s c => s.jobSend d c (barrierData tokenRelease m)) s
  if m.status = 0 then (if (s.job d).aborted then s else s.releaseOk d)
  else if m.status = 1 then s.releaseRestore d
  else if m.status = 2 then (if (s.job d).restored then s.releaseAgain d else s)
  else s

/-- BARRIER (R380): the member's part and every child's are complete; the root releases. -/
def execBarrier (sd : StandId) (s : State) : Host.Outcome State Fault Refusal :=
  let d := sd.val
  let j := s.job d
  match s.ownStatus d with
  | none => .next s
  | some own =>
    let cs := s.jobChildren d
    if j.sent = true ∨ cs.any (fun c => SMap.get 0 j.heard c == 0) = true then .next s
    else
      let status := cs.foldl (fun a c => max a (SMap.get 0 j.heard c - 1)) own
      let m : BarrierMsg := { stepSeq := s.roundSeq d, status := BitVec.ofNat 8 status, attempt := j.attempt }
      if s.jobRoot d then .next ((s.setJob d { j with sent := true }).barrierReleased d m)
      else .next ((s.setJob d { j with sent := true }).jobSend d (s.jobParent d) (barrierData tokenBarrier m))

/-- A RELEASE received: one of another step or an earlier attempt is discarded (R386). -/
def State.hearRelease (s : State) (d : Nat) (m : BarrierMsg) : State :=
  if s.enabled d = false ∨ s.inJob d = false ∨ m.stepSeq ≠ s.roundSeq d ∨ m.attempt < (s.job d).attempt ∨ (s.job d).sent = false then s
  else s.barrierReleased d m

/-- BARRIER_RELEASE (R380, R385, R386). -/
def execBarrierRelease (sd : StandId) (m : BarrierMsg) (s : State) : Host.Outcome State Fault Refusal := .next (s.hearRelease sd.val m)

/-- BARRIER_TIMEOUT (R381): the member keeps waiting. -/
def execBarrierTimeout (sd : StandId) (s : State) : Host.Outcome State Fault Refusal :=
  let d := sd.val
  if (s.ownStatus d).isSome && (s.jobChildren d).any (fun c => SMap.get 0 (s.job d).heard c == 0) then .next (s.jobEvent d 0x8000)
  else .next s

/-! ## Aborts (R382 to R384) -/

/-- The last STEP_LO sent or received for a job (R383). -/
def State.abortSeen (s : State) (job : Nat) : Option U16 := SMap.get none s.abortLog job

/-- Sends an ABORT on every port that is up but one: three copies (R348, R383). -/
def State.sendAborts (s : State) (origin job stepLo : Nat) (skip : Option Nat) : State :=
  let b : U64 := BitVec.ofNat 64 (typeAbort + 2 ^ 8 * (origin % 1024) + 2 ^ 18 * (job % 4096) + 2 ^ 30 * (stepLo % 65536))
  ((List.range 12).filter (fun p => s.portUp p && skip != some p)).foldl (fun s p =>
    (List.range 3).foldl (fun s _ => s.sendControl p b) s) { s with abortLog := SMap.set none s.abortLog job (some (BitVec.ofNat 16 stepLo)) }

/-- A Stand receives an ABORT for a step (R384, R551). -/
def State.abortStand (s : State) (d stepLo : Nat) : State :=
  let x := s.stand d
  let j := s.job d
  let cur := (s.stepSeq d).toNat % 65536
  let prev := (s.stepSeq d - 1).toNat % 65536
  let s := s.jobEvent d 0x2000
  if x.phase = .fenced ∨ x.phase = .recovering then s
  else if x.done ∧ prev = stepLo then s.setJob d { j with aborted := true, sent := if j.aborted then j.sent else false }
  else if cur ≠ stepLo then s.jobEvent d 0x800
  else if x.done then s.setJob d { j with unrun := true }
  else if j.aborted then s
  else if x.phase = .stepping then (s.stopStand d).setJob d { j with aborted := true }
  else if x.phase = .drained then s.setJob d { j with aborted := true }
  else (s.setStand d { x with phase := .drained, current := none }).setJob d { j with aborted := true }

/-- The Stand of the device that is in a job (R383). -/
def State.standInJob (s : State) (job : Nat) : Option Nat :=
  (List.range 8).find? (fun d => s.enabled d && s.inJob d && s.jobOf d == job)

/-- ABORT (R348, R383, R384). Whether a matching entry has expired (50 µs) is a free value (log entry 4). -/
def execAbort (p : PortId) (block : BitVec 66) (s : State) : Host.Outcome State Fault Refusal :=
  let h := s.hearControl p.val block
  let block := h.2.2
  if s.portUp p.val = false then .next s
  else if h.2.1 = false ∨ fld block 0 8 ≠ typeAbort then .next (h.1.lockCheck p.val)
  else
    let r := h.1.copyHeard p.val block
    if !r.2 then .next (r.1.lockCheck p.val)
    else
      let s := r.1.lockCheck p.val
      let job := fld block 18 12
      let stepLo := fld block 30 16
      let same := s.abortSeen job == some (BitVec.ofNat 16 stepLo)
      let expired := bitOf s.drawn 0
      let s := if same then s.advance else s
      if same && !expired then .next s
      else
        let s := s.sendAborts (fld block 8 10) job stepLo (some p.val)
        .next (match s.standInJob job with
          | some d => s.abortStand d stepLo
          | none => s)

/-- The step of a job Stand has ended, before commit, other than by reaching its drain point (R382). -/
def State.stepEnded (s : State) (d : Nat) : Bool :=
  let x := s.stand d
  s.enabled d && s.inJob d && !x.done && !(s.job d).aborted &&
  ((x.phase == .stepping && x.failure != 0) || (s.job d).portEnded || x.phase == .fenced || x.phase == .recovering)

/-- Originates an ABORT for a step of a Stand (R382). -/
def State.originate (s : State) (d stepLo : Nat) : State :=
  let s := if s.deviceValid then s.sendAborts s.deviceId (s.jobOf d) stepLo none else s
  (s.jobEvent d 0x4000).setJob d { s.job d with aborted := true, portEnded := false }

/-- ABORT_ORIGINATE (R382). -/
def execAbortOriginate (sd : StandId) (s : State) : Host.Outcome State Fault Refusal :=
  let d := sd.val
  if s.stepEnded d then .next (s.originate d ((s.stepSeq d).toNat % 65536)) else .next s

/-- JOB_TOKEN_SIGNAL (R379): the count is added to the counter that the receiving device's entry names. -/
def execJobTokenSignal (sd : StandId) (token : BitVec 16) (count : BitVec 32) (s : State) : Host.Outcome State Fault Refusal :=
  let d := sd.val
  if token.toNat < 0x8000 ∨ 0x8FFF < token.toNat then .next s
  else if s.enabled d && s.inJob d then .next (s.applyJobToken d token.toNat count.toNat)
  else .next s

end Sys2Proof.Machine
end

