-- ==== Sys2Proof/Machine/Boundaries.lean ====
section
/-! DEFINITION. The boundary of a Stand (01_architecture.md): drain, flush, commit, apply and release, and the fill of memory that moves
between Stands. -/

namespace Sys2Proof.Machine

/-! ## Errors that decide a step (R31, R50, R536, R537) -/

/-- The Stands that an error fences and recovers, before the decision of R31: those of its record where the taxonomy names a recovery
(R537). -/
def State.errorStands (s : State) (e : ErrorReport) : List Nat :=
  let named := e.stands.map (fun d => d.val)
  let all := (List.range 8).filter s.enabled
  match e.err with
  | .tileResidue => named
  | .tileAccParity => named
  | .vecRegParity => named
  | .unitHang => named
  | .sramUe =>
    if e.byEngine then named
    else (List.range 8).filter (fun d => s.enabled d && s.persistLine d (e.addr.toNat / 256) && s.holdsByte d e.addr.toNat)
  | .stkFail => all
  | .netLink => named
  | .netParity => named
  | .netRoute => named
  | .cfgCe => if e.essential then named else []
  | .cfgUe => if e.essential then named else []
  | .stewardHang => named
  | _ => []

/-- A detected error whose record has not been carried up yet will fence the Stand: it decides over the end of the step (R536). -/
def State.errorPending (s : State) (d : Nat) : Bool := s.reports.any (fun e => (s.errorStands e).contains d)

/-! ## Drain (R38, R39, R504) -/

/-- DRAIN_REPORT (R38): a steward of the Stand's die reports, once its groves and Clearings there are drained. -/
def execDrainReport (sd : StandId) (d : DieId) (s : State) : Host.Outcome State Fault Refusal :=
  let x := s.stand sd.val
  if x.phase = .stepping ∧ (s.diesOf sd.val).getLsbD d.val = true ∧ SMap.get 0 s.stewards d.val = 0 ∧ s.dieDrained sd.val d.val = true then
    .next (s.setStand sd.val { x with drainDies := x.drainDies ||| BitVec.ofNat 4 (2 ^ d.val) })
  else .next s

/-- A Stand at its boundary without a committed step: it waits for its next one (R502). -/
def State.restAtBoundary (s : State) (d : Nat) : State :=
  s.setStand d { s.stand d with
    phase := .applied, current := none, done := false, failure := 0, failWho := 0, drainDies := 0, barrierDone := true }

/-- A failed step of a Stand that is in no job: restore, completion and stopped ring (R504). -/
def State.endFailedStep (s : State) (d : Nat) : State :=
  let x := s.stand d
  let s := s.restoreStand d
  let s := match x.current with
    | some w => (s.complete w.func.val (s.stepCompletion d w x.failure.toNat (s.stepSeq d).toNat)).stopRing w
    | none => s
  s.restAtBoundary d

/-- The four conditions of R38 hold on every die of a Stand. -/
def State.standDrained (s : State) (d : Nat) : Bool := (List.range 4).all (fun k => !(s.diesOf d).getLsbD k || s.dieDrained d k)

/-- DRAIN_POINT (R38, R39, R384, R504): with every report, and every condition still holding, the boundary starts with the flush; a failed step restores, and an aborted or
failed step of a job waits for its round. -/
def execDrainPoint (sd : StandId) (s : State) : Host.Outcome State Fault Refusal :=
  let d := sd.val
  let x := s.stand d
  if x.phase ≠ .stepping ∨ x.drainDies ≠ s.diesOf d ∨ s.errorPending d = true ∨ s.standDrained d = false then .next s
  else
  let s := s.setStand d { x with drained := true }
  let x := s.stand d
  if s.inJob d then
    if (s.job d).aborted then .next (s.setStand d { x with phase := .drained })
    else if x.failure ≠ 0 then
      .next ((s.originate d ((s.stepSeq d).toNat % 65536)).setStand d { x with phase := .drained })
    else
      let s := s.flushStand d
      .next (s.setStand d { s.stand d with phase := .drained })
  else if x.failure ≠ 0 then .next (s.endFailedStep d)
  else
    let s := s.flushStand d
    .next (s.setStand d { s.stand d with phase := .drained })

/-! ## Commit (R39, R45, R49, R110, R503) -/

/-- The live histogram counters of a tile are copied into TileHist, and the committed StepSeq into TileHistTag (R110). -/
def State.copyHistogram (s : State) (d t : Nat) : State :=
  let n := t / 4
  let s := (List.range 64).foldl (fun s b =>
    s.setObj (0x3400 + n) (64 * (t % 4) + b) ((SMap.get 0 (s.tile t).hist b).setWidth 64)) s
  s.setObj (0x6200 + n) (16 * (t % 4 + 1) + 6) (BitVec.ofNat 64 ((s.stepSeq d).toNat % 2 ^ 32))

/-- COMMIT (R39): the commit record carries the finished StepSeq, and StepSeq advances; a completion of a Stand in no job is due. -/
def execCommit (sd : StandId) (s : State) : Host.Outcome State Fault Refusal :=
  let d := sd.val
  let x := s.stand d
  if x.phase ≠ .drained ∨ (s.job d).aborted = true ∨ x.failure ≠ 0 ∨ s.errorPending d = true then .next s
  else
    let seq := s.stepSeq d
    let s := (s.grovesOf d).foldl (fun s n => (List.range 4).foldl (fun s t => s.copyHistogram d (4 * n + t)) s) s
    let s := s.setObj (standIx d) 5 (seq + 1)
    let s := s.setStand d { s.stand d with
      phase := .committed, commitRec := some seq, done := true, fresh := [], barrierDone := !s.inJob d, applyDone := false, due := s.dueWords d }
    .next (match x.current with
      | some w => if s.inJob d then s else s.complete w.func.val (s.stepCompletion d w 0 seq.toNat)
      | none => s)

/-! ## Apply (R39, R41, R42) -/

/-- The failed links, as 6 · router + output (R322). -/
def State.failedLinks (s : State) : List Nat :=
  (List.range 400).flatMap (fun r => ((List.range 6).filter (fun o => s.linkFailed r o)).map (fun o => 6 * r + o))

/-- The links a unicast route uses, as 6 · router + output. -/
def routeLinks (node : Nat) (e : BitVec 128) : List Nat :=
  match routeMoves 32 (fld e 0 96) none 0 with
  | none => []
  | some (ms, _) =>
    match pathFrom (node / 2) ms with
    | none => []
    | some (steps, _) => steps.map (fun x => 6 * x.1 + x.2)

/-- A unicast route of a node leads to router r. -/
def routeReaches (node r : Nat) (e : BitVec 128) : Bool :=
  match routeMoves 32 (fld e 0 96) none 0 with
  | none => false
  | some (ms, _) => (pathFrom (node / 2) ms).any (fun x => x.2 == r)

/-- The shorter of two lists of hop codes. -/
def shorter : Option (List Nat) → Option (List Nat) → Option (List Nat)
  | some a, some b => if b.length < a.length then some b else some a
  | some a, none => some a
  | none, b => b

/-- The moves that may follow a move of a negative-first route in another direction: after E or N only N or E (R307). -/
def turnsAfter (m : Nat) : List Nat := (if m = 0 ∨ m = 2 then [0, 2] else [0, 1, 2, 3]).filter (fun x => x != m)

/-- Hop codes from router r to `dst` that begin with a run of moves in direction m over links that have not failed, one run longer than those
of the table `t`, which holds the shortest codes found so far by 4 · router + direction. -/
def longerRoute (bad : List Nat) (dst : Nat) (t : List (Option (List Nat))) (r m : Nat) : Option (List Nat) :=
  (List.range 19).foldl (fun best i =>
    match pathFrom r (List.replicate (i + 1) m) with
    | none => best
    | some (steps, q) =>
      if steps.any (fun x => bad.contains (6 * x.1 + x.2)) then best
      else
        let rest := if q = dst then some [7]
          else (turnsAfter m).foldl (fun b d => shorter b (t.getD (4 * q + d) none)) none
        shorter best (rest.map (fun l => runCodes m (i + 1) ++ l))) none

/-- The shortest hop codes of a negative-first route between two routers over links that have not failed, where one has at most 32 codes
(R305, R307, R323). -/
def avoidingRoute (bad : List Nat) (src dst : Nat) : Option (List Nat) :=
  let step (t : List (Option (List Nat))) : List (Option (List Nat)) :=
    (List.range 1600).map (fun i => shorter (t.getD i none) (longerRoute bad dst t (i / 4) (i % 4)))
  let t := (List.range 31).foldl (fun t _ => step t) (List.replicate 1600 none)
  ((List.range 4).foldl (fun b m => shorter b (t.getD (4 * src + m) none)) none).filter (fun l => decide (l.length ≤ 32))

/-- Where a link has failed, Ranger loads routes that avoid it once every Stand is at a boundary (R323): which of the negative-first routes
over the remaining links it picks is an open value (log entry 36); where that one is none of these, the shortest; where there is none, the route
stays. -/
def State.reroute (s : State) : State :=
  if !s.rerouteDue || !(List.range 8).all s.atBoundary then s
  else
    let bad := s.failedLinks
    let avoids (node : Nat) (e : BitVec 128) : Bool := (routeLinks node e).all (fun l => !bad.contains l)
    (List.range 800).foldl (fun s node => (List.range 400).foldl (fun s e =>
      let cur := s.routeEntry node e
      if fld cur 126 2 ≠ 1 ∨ avoids node cur = true then s
      else
        let entry (hops : Nat) : BitVec 128 := BitVec.ofNat 128 (2 ^ 126 + hops)
        let pick := entry (Config.reroute node e bad).toNat
        let ok (x : BitVec 128) : Bool := s.routeOk node x && avoids node x && routeReaches node e x
        match if ok pick then some pick else (avoidingRoute bad (node / 2) e).map (fun l => entry (packCodes l)) with
        | some new =>
          (s.setObjW (0x6600 + node / 2) (ifaceSub node 1) (2 * e) (new.extractLsb' 0 64)).setObjW (0x6600 + node / 2) (ifaceSub node 1) (2 * e + 1)
            (new.extractLsb' 64 64)
        | none => s) s) { s with rerouteDue := false }

/-- APPLY (R39): buffered writes take effect and reconfigurations begin; the tests that wait run before the release. -/
def execApplyPhase (sd : StandId) (s : State) : Host.Outcome State Fault Refusal :=
  let d := sd.val
  if (s.stand d).phase ≠ .committed then .next s
  else
    let s := s.settleStand d
    if (s.stand d).phase = .disabled then .next s
    else
      let s := s.setStand d { s.stand d with phase := .applied, applyDone := true }
      .next ((s.applyReconfigs d).reroute)

/-- ASSIGNMENT_TAKES_EFFECT (R28, R260, R406): a change that waits takes effect once every Stand that gains or loses is at a boundary. -/
def execAssignmentTakesEffect (o : AssignObj) (s : State) : Host.Outcome State Fault Refusal :=
  let keys : List Nat := match o with
    | .groveRect d => [objKey 0 (standIx d.val) 2 0]
    | .stackShare d => [objKey 0 (standIx d.val) 3 0]
    | .memRange d i => [objKey 0 (0x8100 + d.val) (i.val + 1) 0]
    | .clearingOwner c => [objKey 0 (0x9100 + c.val) 1 0]
  .next (s.settleKeys (fun k v => keys.contains k && (s.claimReady k || s.clearingReady k v)))

/-! ## Release (R24, R39, R40, R42, R502, R503) -/

/-- The self-test in progress is of a unit of the Stand (R561). -/
def State.selfTestPending (s : State) (d : Nat) : Bool :=
  match s.selfTest with
  | some v => s.testOwner (BitVec.ofNat 64 v) == some d
  | none => false

/-- Tests of the Stand's units that the boundary still waits for (R42, R114, R163, R538, R561). -/
def State.testsPending (s : State) (d : Nat) : Bool :=
  (s.grovesOf d).any (fun n => s.bit (0x6200 + n) 0x50 0 || (List.range 4).any (fun t => s.bit (0x6200 + n) (16 * (t + 1)) 0)) ||
  s.tests.any (fun t => match t.unit with | .sramLine a => s.ownsByte d a | _ => false) || s.selfTestPending d

/-- A Clearing of the Stand is under a reconfiguration that the boundary waits for (R413). -/
def State.reconfigPending (s : State) (d : Nat) : Bool :=
  (s.clearingsOf d).any (fun c => !s.bit (0x9100 + c) 1 4 && s.clearingState c == 2 &&
    ((s.clearing c).next.isSome || (match s.switch with | some w => !w.current && SMap.get 0 w.changed c != 0 | none => false)))

/-- A staged image waits for every Stand to be at a boundary (R443). -/
def State.switchStaged (s : State) : Bool := s.getF 0x5000 2 0 4 == 3

/-- What keeps a committed Stand at its boundary (R40, R42, R260, R413, R443, R503). -/
def State.releaseBlocked (s : State) (d : Nat) : Bool :=
  let x := s.stand d
  !x.barrierDone || !s.completionsWritten d || !x.fills.isEmpty || s.testsPending d || s.reconfigPending d || s.switchStaged

/-- The Stand takes its next step, is held, or waits in STATE 2 (R24, R39, R502). A step that a lasting fault interrupted runs again once
the Stand is released, whatever HOLD is (R541, log entry 46). -/
def State.goOn (s : State) (d : Nat) : State :=
  let x := s.stand d
  if x.current.isSome && !x.done && !x.unitFailed then
    (match x.current with
     | some w => if x.fills.isEmpty && s.mayStep && !s.switchStaged then s.startStep d w (x.attempt + 1) else s
     | none => s)
  else if s.holds d || x.unitFailed then
    (s.noteRelease d).setStand d { x with phase := .held, current := none, done := false, failure := 0, failWho := 0, drainDies := 0 }
  else if !x.fills.isEmpty || !s.completionsWritten d || s.switchStaged || !s.mayStep then
    s.setStand d { x with phase := .applied, current := none, done := false, drainDies := 0 }
  else
    match s.nextStep d with
    | some w => (s.takeStep d w).startStep d w 0
    | none => s.setStand d { x with phase := .applied, current := none, done := false, drainDies := 0 }

/-- RELEASE (R40). -/
def execRelease (sd : StandId) (s : State) : Host.Outcome State Fault Refusal :=
  let d := sd.val
  let x := s.stand d
  if x.phase ≠ .applied then .next s
  else if !x.done then .next (s.goOn d)
  else if s.releaseBlocked d || ((s.job d).aborted && s.inJob d) then .next s
  else
    if (s.job d).unrun then
      .next ((s.setStand d { x with phase := .drained, current := none, done := false, drainDies := 0 }).setJob d
        { s.job d with aborted := true, unrun := false, sent := false })
    else .next (s.goOn d)

/-! ## Holding (R24, R388, R541) -/

/-- A held Stand goes on: its unit's failure no longer holds it, and a pending round that timed out is aborted (R388, R541). -/
def State.unhold (s : State) (d : Nat) : State :=
  let x := s.stand d
  if x.phase = .held then
    let s := s.setStand d { x with phase := .applied, unitFailed := false }
    if (s.job d).restored then s.setStand d { s.stand d with phase := .drained } else s
  else s

/-- R388, step 3: a survivor whose round timed out aborts the pending round when HOLD is cleared, with the tree then written. -/
def State.abortRound (s : State) (d : Nat) : State :=
  if s.inJob d && s.bit (0x7400 + 16 * d) 4 15 && (s.stand d).done && (s.stand d).phase == .applied && !(s.job d).aborted then
    let s := s.settleKeys (fun k v => decide (0x7400 + 16 * d = keyIx k) && s.dueOf k v == .stand d)
    (s.originate d ((s.stepSeq d - 1).toNat % 65536)).setJob d { JobState.reset with aborted := true, attempt := (s.job d).attempt }
  else s

/-! ## Fill (R260, R289) -/

/-- FILL (R260, R289): a range of the root stacks or the Understory, from Ranger. -/
def execFill (k : StackId) (base : BitVec 44) (len : BitVec 64) (s : State) : Host.Outcome State Fault Refusal :=
  let a := base.toNat
  let n := len.toNat
  let inside (x : Nat) : Bool := match regionOf x with | .stackUser => true | .understory _ => true | _ => false
  if n = 0 ∨ inside a = false ∨ inside (a + n - 1) = false ∨ s.getF (0x8020 + k.val) 2 0 2 ≠ 2 then .next s
  else .next ((s.zeroRange a n).filled a n)

end Sys2Proof.Machine
end

