-- ==== Sys2Proof/Machine/HostOps.lean ====
section
/-! DEFINITION. The state of a PCI Express function that its resets return to defaults, and its rings (15_host_interface.md). -/

namespace Sys2Proof.Machine

/-- The rings of a function are disabled (R513): entries not yet fetched are abandoned, and completions that wait are discarded and
counted. -/
def State.disableRings (s : State) (f : Nat) : State :=
  let x := s.func f
  if !s.ringOn f then s
  else
    let s := (x.done.map (fun _ => ()) ++ x.marks.map (fun _ => ())).foldl (fun s _ => s.ringEvent f 0x8000) s
    let s := s.setFunc f { x with bells := [], openSteps := [], marks := [], done := [] }
    (s.setF (0x6400 + f) 1 0 1 0).setF (0x6400 + f) 4 0 1 0

/-- The rings of a function are enabled: from index 0, with PHASE 1 (R499, R513). -/
def State.enableRings (s : State) (f : Nat) : State :=
  let x := s.func f
  let s := s.setFunc f { x with
    fetch := 0, tail := 0, cplWrite := 0, cplHead := 0, phase := true, gen := x.gen + 1, bells := [], openSteps := [], marks := [], done := [] }
  { (s.setF (0x6400 + f) 1 0 1 1).setF (0x6400 + f) 4 0 1 1 with hostOff := s.hostOff &&& ~~~(BitVec.ofNat 9 (2 ^ f)) }

/-- The bank of a key of the dictionary store. -/
def keyBank (key : Nat) : Nat := key / 2 ^ 35

/-- The function state of R508 at its defaults. -/
def State.resetFunc (s : State) (f : Nat) : State :=
  let s := s.disableRings f
  let s := [1, 2, 3, 5, 6].foldl (fun s k => s.setObj (0x6400 + f) k (dictDefault (objKey 0 (0x6400 + f) k 0))) s
  let s := s.setFunc f { s.func f with unmasked := [], pba := [] }
  { s with
    dict := SMap.eraseAll s.dict (fun key => keyBank key == 1 + f)
    captures := SMap.set none s.captures (1 + f) none
    latches := SMap.set none s.latches f none
    statusSent := SMap.eraseAll s.statusSent (fun k => k == 16 * f + 9)
    ats := SMap.eraseAll s.ats (fun k => k / 2 ^ 53 == f) }

end Sys2Proof.Machine
end

