-- ==== Sys2Proof/Machine/Tiles.lean ====
section
/-! DEFINITION. The tile commands of the grove queue: wload, mmul, vstart, tsig, and the output writer with its returns (R81 to R125,
R134, R135, R172 to R182, R243). -/

namespace Sys2Proof.Machine

/-! ## The queue (R101, R105) -/

/-- Marks tiles as having executed entry k; the entry leaves the queue when all of its TMASK have. -/
def State.passEntry (s : State) (n k : Nat) (ts : List Nat) : State :=
  let g := s.grove n
  match g.queue[k]? with
  | none => s
  | some e =>
    let done := ts.foldl (fun d t => d ||| BitVec.ofNat 4 (2 ^ t)) e.done
    if (qTiles e.word).all (fun t => bitOf done t) then s.setGrove n { g with queue := g.queue.eraseIdx k }
    else s.setGrove n { g with queue := g.queue.set k { e with done := done } }

/-- The subindex of a tile object: 0x10 (t + 1) + k (R116). -/
def tileSub (t k : Nat) : Nat := 16 * (t + 1) + k

/-- A refused command: every tile concerned sets CMD_ERR with the code and the TAG, and the step ends (R105, R120). -/
def State.refuseCommand (s : State) (n k code : Nat) (w : BitVec 128) : State :=
  let ts := qTiles w
  let s := ts.foldl (fun s t =>
    let s := s.setTile (4 * n + t) { s.tile (4 * n + t) with discard := true }
    let ix := 0x6200 + n
    let s := s.setF ix (tileSub t 1) 4 4 code
    let s := s.setF ix (tileSub t 1) 8 8 (qTag w)
    s.event ix (tileSub t 1) 0x8) s
  (s.passEntry n k [0, 1, 2, 3]).failStep n statusCommand unitTile (ts.headD 0)

/-- The lowest of the codes that apply; 0 for none (R105). -/
def lowestCode (l : List (Nat × Bool)) : Nat :=
  l.foldl (fun acc (c, b) => if b && (acc == 0 || decide (c < acc)) then c else acc) 0

/-- The cause of refusal of a command for its TMASK alone (R96, R105): no tile, or more than one in split mode (log entry 102). -/
def State.maskCode (s : State) (n : Nat) (w : BitVec 128) : Nat :=
  if qMask w = 0 ∨ ((s.grove n).modeActive = 1 ∧ (qTiles w).length ≠ 1) then 6 else 0

/-- Every tile of the grove has finished its earlier commands, the writer's among them (R105, for a TMASK of 0). -/
def State.tilesFinished (s : State) (n : Nat) : Bool :=
  (List.range 4).all (fun t => (s.tile (4 * n + t)).jobs.isEmpty)

/-- Runs the command at entry k where its OP is `op`, its tiles have all reached it and `check` finds no cause of refusal; any of the
four tile commands refuses an entry whose OP is reserved (R105). A command with a TMASK of 0 waits until every tile has finished its
earlier commands, and is refused with code 6. -/
def State.runEntry (s : State) (n k op : Nat) (check : BitVec 128 → Nat → Nat) (act : State → QEntry → State) : State :=
  match (s.grove n).queue[k]? with
  | none => s
  | some e =>
    if !cmdReached s n (s.grove n).queue k e.word then s
    else if qMask e.word = 0 ∧ !s.tilesFinished n then s
    else if qOp e.word = 0 ∨ 4 < qOp e.word then s.refuseCommand n k 1 e.word
    else if qOp e.word ≠ op then s
    else if qMask e.word = 0 then s.refuseCommand n k (s.maskCode n e.word) e.word
    else
      let code := if e.done ≠ 0 then 0
        else lowestCode ((s.maskCode n e.word, s.maskCode n e.word != 0) ::
          (qTiles e.word).map (fun t => (check e.word t, check e.word t != 0)))
      if code ≠ 0 then s.refuseCommand n k code e.word else act s e

/-- An output range, in a command's words, meets the `n` lines from `line` on (R92). -/
def outMeets (w0 w1 : U64) (line n : Nat) : Bool :=
  decide (fld w1 43 12 < line + n) && decide (line < fld w1 43 12 + outLines (fld w1 60 4) (fld w0 42 7 + 1))

/-- The lines of a tile that the writer's commands have still to write (R92, R176). -/
def linesPending (x : Tile) (line n : Nat) : Bool := x.jobs.any (fun j => outMeets j.w0 j.w1 line n)

/-- The lines of tile t that are pending in its writer for the command at entry k: those of the commands that have fed, and from the
moment the tile reaches them those of the EPI commands before entry k (R92, R176). -/
def State.linesWait (s : State) (n k t line cnt : Nat) : Bool :=
  linesPending (s.tile (4 * n + t)) line cnt ||
  (s.reachedEpi n t k).any (fun w => outMeets (w.extractLsb' 0 64) (w.extractLsb' 64 64) line cnt)

/-- Reads lines of a tile's SRAM by the array: the state, the bytes, and whether the read was uncorrectable, which stops the tiles that
read (R537). -/
def State.readLines (s : State) (n t line cnt : Nat) : State × List Byte × Bool :=
  s.readMem (tileAddr (4 * n + t) (256 * line)) (256 * cnt) (s.groveOwner n) true

/-- 256-byte lines of a byte list. -/
def linesOf (l : List Byte) (cnt : Nat) : List (BitVec 2048) :=
  (List.range cnt).map (fun i => BitVec.ofNat 2048 (ofLe (sliceBytes l (256 * i) 256)))

/-- Stops a tile on a checked error: it feeds nothing and writes no vector not yet written (R113). -/
def State.stopTile (s : State) (t : Nat) : State := s.setTile t { s.tile t with stopped := true, jobs := [] }

/-! ## wload (R89, R90, R102) -/

/-- The cause of refusal of a wload at a tile; 0 for none (R105). -/
def wloadCode (s : State) (n : Nat) (w : BitVec 128) (t : Nat) : Nat :=
  lowestCode [
    (1, decide (4 < fld w 52 4) || decide (4 < fld w 46 3)),
    (2, decide (4096 < fld w 34 12 + 32) || decide (4096 < fld w 22 12 + 2)),
    (4, decide (fld w 52 4 ≤ 4) && decide (nibbleCount (berryP (fld w 52 4)) ≤ fld w 50 2)),
    (0xA, s.tileFailed (4 * n + t))]

/-- One tile's load of a wload, where its shadow registers are free and no line is pending (R89, R90, R92). -/
def State.wloadTile (s : State) (n k : Nat) (w : BitVec 128) (t : Nat) : State :=
  let src := if fld w 46 3 = 4 then t else fld w 46 3
  if ((s.tile (4 * n + t)).shadow).isSome || s.linesWait n k src (fld w 34 12) 32 || s.linesWait n k src (fld w 22 12) 2 then s
  else
    let r1 := s.readLines n src (fld w 34 12) 32
    let r2 := r1.1.readLines n src (fld w 22 12) 2
    let s := r2.1.passEntry n k [t]
    if r1.2.2 || r2.2.2 then s.stopTile (4 * n + t)
    else
      let ws : WeightSet := { lines := linesOf r1.2.1 32, scales := linesOf r2.2.1 2, wfmt := BitVec.ofNat 4 (fld w 52 4),
                              nib := BitVec.ofNat 2 (fld w 50 2), square := false }
      s.setTile (4 * n + t) { s.tile (4 * n + t) with shadow := some { ws with square := bitOf w 49 && squareSet ws } }

/-- WLOAD (R89): the wload at entry k of the grove's queue. -/
def execWload (g : GroveId) (k : Fin 32) (s : State) : Host.Outcome State Fault Refusal :=
  .next (s.runEntry g.val k.val 1 (wloadCode s g.val) (fun s e =>
    ((qTiles e.word).filter (fun t => !bitOf e.done t)).foldl (fun s t =>
      match (s.grove g.val).queue.findIdx? (fun x => x.word == e.word) with
      | none => s
      | some _ => s.wloadTile g.val k.val e.word t) s))

/-! ## mmul (R82 to R88, R93 to R100, R103, R124) -/

/-- Split mode in force (R96, R97). -/
def State.splitMode (s : State) (n : Nat) : Bool := (s.grove n).modeActive == 1
/-- ASRC of the grove (R95, R117); it changes at step boundaries only. -/
def State.asrc (s : State) (n : Nat) : Nat := s.getF (0x6200 + n) 1 2 2

/-- The weight set an mmul uses at a tile: the shadow set with SWAP, else the live set (R90). -/
def mmulSet (x : Tile) (w : BitVec 128) : Option WeightSet := if bitOf w 50 then x.shadow else x.live

/-- The final pass of a set (R100). -/
def finalPass (ws : WeightSet) : Bool := ws.nib.toNat + 1 == nibbleCount (berryP ws.wfmt.toNat)

/-- The fields that every pass of a set must share: AFMT, AXIS, MASK_EN, VCOUNT_M1, ALINE, MLINE, SLOT (R100). -/
def passKey (w0 : Nat) : Nat := (w0 / 2 ^ 51 % 32) + 32 * (w0 / 2 ^ 11 % 2 ^ 39)

/-- The cause of refusal of an mmul at a tile; 0 for none (R105). The passes of a set are judged by NIB and the fields that R100 names;
the WFMT of their wloads is not compared (DESIGN CHOICE, log entry 103). -/
def mmulCode (s : State) (n : Nat) (w : BitVec 128) (t : Nat) : Nat :=
  let x := s.tile (4 * n + t)
  let v := fld w 42 7 + 1
  let afmt := fld w 52 4
  let ofmt := fld w 124 4
  let ws := mmulSet x w
  let fin := match ws with | some a => finalPass a | none => true
  let last := fin && bitOf w 8
  let epi := last && bitOf w 119
  lowestCode [
    (1, decide (4 < afmt) || decide (6 < ofmt)),
    (2, (decide (afmt ≤ 4) && decide (4096 < fld w 30 12 + waveLines v (berryP afmt))) ||
        (last && decide (ofmt ≤ 6) && decide (4096 < fld w 107 12 + outLines ofmt v)) ||
        (fin && bitOf w 10 && bitOf w 9 && decide (4096 < fld w 95 12 + 2 * v))),
    (3, match ws with | some a => bitOf w 51 && !a.square | none => false),
    (4, match ws with
        | some a =>
          (match x.passSet with
           | some p => a.nib != p.next || passKey p.w0.toNat != passKey (w.toNat % 2 ^ 64)
           | none => a.nib != 0) || (!fin && (bitOf w 10 || bitOf w 9 || bitOf w 8))
        | none => false),
    (5, decide (128 < fld w 11 7 + v) ||
        (match ws with | some a => decide (1 < nibbleCount (berryP a.wfmt.toNat)) && decide (64 < v) | none => false)),
    (7, ws.isNone),
    (8, last && decide (ofmt ≤ 6) &&
        (match s.groveOwner n with
         | some d => !s.ownsRange d (tileAddr (4 * n + t) (256 * fld w 107 12)) (256 * outLines ofmt v)
         | none => false)),
    (9, epi && (match (s.ctx (4 * n + t)).st with | .idle => true | .exception => true | _ => false)),
    (0xA, s.tileFailed (4 * n + t) || (bitOf w 119 && s.engineFailed n))]

/-- The signed value of bit i of a nibble: the top nibble is signed (R82). -/
def nibWeight (top : Bool) (i : Nat) : Int := if top && i == 3 then -8 else 2 ^ i

/-- P_j of one output over one block: the bit-serial sum of R83 from plane words of weights and activations. -/
def passSum (top : Bool) (wp : List Nat) (ap : List Nat) : Int :=
  let a := ap.length
  (ap.zipIdx).foldl (fun acc (aw, k) =>
    let t : Int := (wp.zipIdx).foldl (fun u (ww, i) => u + nibWeight top i * (popCount 32 (ww &&& aw) : Nat)) 0
    acc + (if k + 1 = a then -1 else 1) * 2 ^ k * t) 0

/-- One addition into an accumulator (R74, R77): Hazel64, nearest even, the mark, the origin. -/
def accAdd (pos : Nat) (acc : AccSlot) (y : Val) : AccSlot :=
  let x := hazelVal hazel64 acc.val.toNat
  let r := toHazel hazel64 0 false 0 (x.add y)
  { val := BitVec.ofNat 64 r.bits
    inexact := acc.inexact || (r.flags &&& fINX != 0)
    origin := if x = .nan then acc.origin else if x.add y = .nan then BitVec.ofNat 48 pos else acc.origin }

/-- Sets the slot group to +0 or the seed (R87). -/
def initSlots (x : Tile) (slot v : Nat) (seed : Option (List Byte)) : Tile :=
  { x with
    acc := (List.range (128 * v)).foldl (fun m i =>
      SMap.set AccSlot.reset m (128 * slot + i)
        (match seed with
         | none => AccSlot.reset
         | some l => ⟨BitVec.ofNat 64 (toHazel hazel64 0 false 0 (hazelVal hazel32 (ofLe (sliceBytes l (4 * i) 4)))).bits,
                      false, 0⟩)) x.acc
    chunk := (List.range v).foldl (fun m i => SMap.set 0 m (slot + i) 0) x.chunk }

/-- One vector's partials through one output: the pass buffer, and in the final pass the accumulator (R85, R86). -/
def feedOutput (ws : WeightSet) (axis : Bool) (pa : Nat) (act : Nat → Nat → Nat) (aScale : Nat → Nat) (slot v : Nat)
    (x : Tile) (out : Nat) : Tile :=
  let np := nibbleCount (berryP ws.wfmt.toNat)
  let j := ws.nib.toNat
  let fin := finalPass ws
  (List.range 4).foldl (fun x b =>
    let p := passSum fin (weightPlanes ws axis out b) ((List.range pa).map (act b))
    let key := (128 * v + out) * 4 + b
    let prior : Int := if j = 0 then 0 else (SMap.get 0 x.pass key).toInt
    let total := prior + 16 ^ j * p
    if fin then
      let c := SMap.get 0 x.chunk (slot + v)
      let y := partialVal total (weightScale ws axis out b) (aScale b) (berryP ws.wfmt.toNat) pa
      { x with
        pass := if np = 1 then x.pass else SMap.set 0 x.pass key 0
        acc := SMap.set AccSlot.reset x.acc (128 * (slot + v) + out)
          (accAdd (128 * c + 32 * b) (SMap.get AccSlot.reset x.acc (128 * (slot + v) + out)) y) }
    else { x with pass := SMap.set 0 x.pass key (BitVec.ofInt 37 total) }) x

/-- A tile after an mmul fed its wave (R82 to R87, R100, R106, R110). -/
def feedTile (w : BitVec 128) (ws : WeightSet) (wave : List Byte) (masked : BitVec 128) (seed : Option (List Byte)) (x : Tile) : Tile :=
  let v := fld w 42 7 + 1
  let pa := berryP (fld w 52 4)
  let slot := fld w 11 7
  let arr := wave.toArray
  let mem (o : Nat) : Nat := (arr.getD o 0).toNat
  let fin := finalPass ws
  let fed := fedVectors v masked
  let x := if bitOf w 50 then { x with live := x.shadow, shadow := none } else x
  let x := if fin && bitOf w 10 then initSlots x slot v seed else x
  let x := fed.foldl (fun x u =>
    let planes : Array Nat := ((List.range 4).flatMap (fun b => (List.range pa).map (wavePlane mem pa u b))).toArray
    (List.range 128).foldl (fun x out =>
      feedOutput ws (bitOf w 51) pa (fun b k => planes.getD (b * pa + k) 0) (waveScale mem pa u) slot u x out) x) x
  let x := { x with
    chunk := if fin then (List.range v).foldl (fun m i => SMap.set 0 m (slot + i) (SMap.get 0 m (slot + i) + 1)) x.chunk
             else x.chunk
    passSet := if fin then none else some ⟨BitVec.ofNat 64 w.toNat, ws.nib + 1⟩ }
  if fin && bitOf w 8 then
    let rmS := decide (fld w 122 2 = 2)
    { x with
      jobs := x.jobs ++ [{ id := x.nextJob, w0 := w.extractLsb' 0 64, w1 := w.extractLsb' 64 64, masked := masked,
                           drawBase := x.draws, handed := 0, returned := 0, nanOrigins := [] }]
      nextJob := x.nextJob + 1
      draws := x.draws + (if rmS then (if bitOf w 119 then 2 else 1) * fed.length else 0) }
  else x

/-- The writer has still to read the accumulators of an earlier command whose slot group overlaps (R107). -/
def slotsBusy (x : Tile) (slot v : Nat) : Bool :=
  x.jobs.any (fun j =>
    let jv := fld j.w0 42 7 + 1
    let js := fld j.w0 11 7
    decide (js < slot + v) && decide (slot < js + jv) &&
      (!bitOf j.w1 55 || decide (j.handed < (fedVectors jv j.masked).length)))

/-- Residue mismatches of the trees of a tile: every one is counted, and with RESIDUE_CHECK they are TILE_RESIDUE (R111, R113, R120). -/
def State.tileResidue (s : State) (n t tag mismatches : Nat) : State :=
  let ix := 0x6200 + n
  let s := s.count ix (tileSub t 5) 0 32 mismatches
  if s.bit ix (tileSub t 0) 1 then
    let s := (s.setF ix (tileSub t 1) 8 8 tag).event ix (tileSub t 1) 0x4
    (s.stopTile (4 * n + t)).report
      { mkReport .tileResidue (groveDie n) (s.groveOwner n) .tile (4 * n + t) 0 with detail := BitVec.ofNat 16 tag }
  else s

/-- A parity mismatch on an accumulator or pass-buffer read (R112, R113, R120). -/
def State.tileParity (s : State) (n t tag : Nat) : State :=
  let ix := 0x6200 + n
  let s := (s.setF ix (tileSub t 1) 8 8 tag).event ix (tileSub t 1) 0x2
  (s.stopTile (4 * n + t)).report
    { mkReport .tileAccParity (groveDie n) (s.groveOwner n) .tile (4 * n + t) 0 with detail := BitVec.ofNat 16 tag }

/-- The wave of an mmul at tile t (R95, R96): weights, seed, feeding, the feed cycles, and the checks of R111 and R112: `residue` is the
number of residue mismatches in the tile's trees, `parity` says that a parity mismatch is met. A tile that stops on a check (R113) stops
after the wave: its feed cycles count whole, and no vector of the command is written (DESIGN CHOICE, log entry 104). -/
def State.mmulTile (s : State) (n : Nat) (w : BitVec 128) (wave : List Byte) (masked : BitVec 128) (residue : Nat) (parity : Bool)
    (t : Nat) : State :=
  match mmulSet (s.tile (4 * n + t)) w with
  | none => s
  | some ws =>
    let v := fld w 42 7 + 1
    let seeded := finalPass ws && bitOf w 10 && bitOf w 9
    let r := if seeded then s.readLines n t (fld w 95 12) (2 * v) else (s, [], false)
    if r.2.2 then r.1.stopTile (4 * n + t)
    else
      let s := r.1
      let s := s.setTile (4 * n + t) (feedTile w ws wave masked (if seeded then some r.2.1 else none) (s.tile (4 * n + t)))
      let cycles := (if s.splitMode n then 4 else 1) * berryP (fld w 52 4) * (fedVectors v masked).length
      let s := s.count (0x6200 + n) (tileSub t 7) 0 64 cycles
      let s := if 0 < residue then s.tileResidue n t (qTag w) residue else s
      if parity then s.tileParity n t (qTag w) else s

/-- MMUL (R124): the mmul at entry k. `residue` counts the residue mismatches of each tile (R111), `parity` says which tiles meet a parity
mismatch (R112). It waits while a line it reads is pending in a writer (R92) or its slots have still to be read by one (R107). -/
def execMmul (g : GroveId) (k : Fin 32) (residue : Vector Nat 4) (parity : BitVec 4) (s : State) : Host.Outcome State Fault Refusal :=
  .next (s.runEntry g.val k.val 2 (mmulCode s g.val) (fun s e =>
    let n := g.val
    let w := e.word
    let ts := qTiles w
    let v := fld w 42 7 + 1
    let p := berryP (fld w 52 4)
    let src := if s.splitMode n then ts.headD 0 else s.asrc n
    let fin (t : Nat) : Bool := match mmulSet (s.tile (4 * n + t)) w with | some a => finalPass a | none => false
    if s.linesWait n k.val src (fld w 30 12) (waveLines v p) || (bitOf w 49 && s.linesWait n k.val src (fld w 18 12) 1) ||
        ts.any (fun t => slotsBusy (s.tile (4 * n + t)) (fld w 11 7) v ||
          (fin t && bitOf w 10 && bitOf w 9 && s.linesWait n k.val t (fld w 95 12) (2 * v))) then s
    else
      let r := s.readLines n src (fld w 30 12) (waveLines v p)
      let m := if bitOf w 49 then r.1.readMem (tileAddr (4 * n + src) (256 * fld w 18 12)) 16 (s.groveOwner n) true
               else (r.1, [], false)
      let s := m.1.passEntry n k.val ts
      if r.2.2 || m.2.2 then ts.foldl (fun s t => s.stopTile (4 * n + t)) s
      else ts.foldl (fun s t =>
        s.mmulTile n w r.2.1 (BitVec.ofNat 128 (ofLe m.2.1)) (residue.toList.getD t 0) (bitOf parity t) t) s))

/-! ## vstart (R134, R135) -/

/-- The cause of refusal of a vstart at a tile (R105, R539); a vstart between the passes of a set breaks their order (R100). -/
def vstartCode (s : State) (n : Nat) (_w : BitVec 128) (t : Nat) : Nat :=
  lowestCode [(4, ((s.tile (4 * n + t)).passSet).isSome), (0xA, s.tileFailed (4 * n + t) || s.engineFailed n)]

/-- A context started (R135). -/
def startContext (c : Context) (w : BitVec 128) (t : Nat) : Context :=
  { c with
    pc := BitVec.ofNat 18 (8 * fld w 41 15)
    sc := SMap.set 0 (SMap.set 0 c.sc 1 (w.extractLsb' 64 64)) 2 (BitVec.ofNat 64 t)
    rb := 0
    vf := 0
    granted := false
    tag := BitVec.ofNat 8 (fld w 0 8)
    st := .running }

/-- VSTART (R135): the vstart at entry k starts the idle contexts of its TMASK; a tile whose context runs waits. -/
def execVstart (g : GroveId) (k : Fin 32) (s : State) : Host.Outcome State Fault Refusal :=
  .next (s.runEntry g.val k.val 3 (vstartCode s g.val) (fun s e =>
    let ts := (qTiles e.word).filter (fun t => !bitOf e.done t && (s.ctx (4 * g.val + t)).st == .idle)
    let s := ts.foldl (fun s t => s.setCtx (4 * g.val + t) (startContext (s.ctx (4 * g.val + t)) e.word t)) s
    s.passEntry g.val k.val ts))

/-! ## tsig (R243) -/

/-- The cause of refusal of a tsig at a tile (R105, R243). -/
def tsigCode (s : State) (n : Nat) (w : BitVec 128) (t : Nat) : Nat :=
  lowestCode [(1, !s.maySignal n (fld w 40 16)),
    (4, ((s.tile (4 * n + t)).passSet).isSome), (0xA, s.tileFailed (4 * n + t))]

/-- COUNT of a tsig, 0 read as 1 (R243). -/
def tsigCount (w : BitVec 128) : Nat := if fld w 24 16 = 0 then 1 else fld w 24 16

/-- TSIG (R243): the tsig at entry k is taken, and its tiles go on at once. -/
def execTsig (g : GroveId) (k : Fin 32) (s : State) : Host.Outcome State Fault Refusal :=
  .next (s.runEntry g.val k.val 4 (tsigCode s g.val) (fun s e =>
    let n := g.val
    let ts := qTiles e.word
    let s := s.passEntry n k.val ts
    s.setGrove n { s.grove n with
      tsigs := (s.grove n).tsigs ++
        [{ token := BitVec.ofNat 16 (fld e.word 40 16), count := tsigCount e.word,
           upto := ts.foldl (fun m t => SMap.set 0 m t (s.tile (4 * n + t)).nextJob) [] }] }))

/-- Every command of a tsig's tiles before it has ended. -/
def tsigReady (s : State) (n : Nat) (p : TsigPending) : Bool :=
  p.upto.all (fun e => (s.tile (4 * n + e.1)).jobs.all (fun j => decide (e.2 ≤ j.id)))

/-- TSIG_TOKEN_SIGNAL (R243, R240): the first tsig whose earlier commands have ended signals its token. -/
def execTsigTokenSignal (g : GroveId) (s : State) : Host.Outcome State Fault Refusal :=
  let n := g.val
  match (s.grove n).tsigs.findIdx? (tsigReady s n) with
  | none => .next s
  | some i =>
    match (s.grove n).tsigs[i]? with
    | none => .next s
    | some p =>
      if !s.signalRoom n p.token.toNat then .next s
      else
      let s := s.setGrove n { s.grove n with tsigs := (s.grove n).tsigs.eraseIdx i }
      match tokenCounter n p.token.toNat with
      | some (m, ctr) =>
        .next (if m = n then s.applySignal n ctr p.count
               else s.sendFlit (groveNode n) (groveNode m)
                 (signalFlit (groveNode n) (s.standOfGrove n) 0 p.token.toNat p.count))
      | none => .next s

/-! ## The output writer (R106 to R110, R173 to R181) -/

/-- The state a writer lane of tile number t loads at the release (R66, R67). -/
def State.writerLane (s : State) (t lane : Nat) : U32 :=
  match s.groveOwner (t / 4) with
  | none => srInit 0 0 (8 * (t / 4) + t % 4) lane
  | some d => srInit (s.obj 0x6020 (d + 1)) (s.obj (0x6100 + 16 * d) 5) (8 * (t / 4) + t % 4) lane

/-- The histogram bin of an exponent (R109, R117). -/
def State.histBin (s : State) (n : Nat) (e : Int) : Nat :=
  let base := signed 10 (s.getF (0x6200 + n) 1 4 10)
  let sh := s.getF (0x6200 + n) 1 14 2
  4 + min 59 ((e - base) / 2 ^ sh).toNat

/-- What the writer makes of one output vector: its bytes as (byte offset from OLINE, byte), its flags, the bin of each element, and
its special elements as (output, KIND) (R106, R108, R109, R122). -/
structure Written where
  /-- bytes and their offsets -/
  bytes : List (Nat × Byte)
  /-- flags -/
  flags : Flags
  /-- bin of each output -/
  bins : List Nat
  /-- special elements in write order -/
  specials : List (Nat × Nat)
  deriving DecidableEq, Repr

/-- An element to convert: its value and its inexact mark (R74). -/
abbrev Elem := Val × Bool

/-- Conversion of a vector of 128 to a Hazel format (R69, R106, R109). -/
def writeHazel (s : State) (n : Nat) (f : HFmt) (rm : Nat) (sat : Bool) (v : Nat) (xs : List Elem) (draw : Nat → Nat) : Written :=
  (xs.zipIdx).foldl (fun (acc : Written) ((x, mark), i) =>
    let r := toHazel f rm sat (draw i) x
    let y := hazelVal f r.bits
    let nb := f.width / 8
    { bytes := acc.bytes ++ (leBytes nb r.bits).zipIdx.map (fun (b, k) => (128 * nb * v + nb * i + k, b))
      flags := acc.flags ||| r.flags ||| (if mark && y != .nan then fINX else 0)
      bins := acc.bins ++ [match y with
        | .nan => 1 | .inf _ => 2 | .zero _ => 0
        | .fin _ g q => if r.flags &&& fOVF != 0 then 3 else s.histBin n (q + bitLength g - 1)]
      specials := acc.specials ++ (match y with
        | .nan => [(i, 1)] | .inf neg => [(i, if neg then 3 else 2)] | _ => []) }) ⟨[], 0, [], []⟩

/-- Conversion of a vector of 128 to a Berry format, outputs 32b to 32b + 31 as block b (R70, R106, R109). -/
def writeBerry (s : State) (n p rm v : Nat) (xs : List Elem) (draw : Nat → Nat) : Written :=
  (List.range 4).foldl (fun (acc : Written) b =>
    let part := (xs.drop (32 * b)).take 32
    let r := toBlock p rm (part.map (·.1)) (fun c => draw (32 * b + c))
    let nan := r.block.scale == 0xFF
    { bytes := acc.bytes ++ (subTileWrites p (v % 32) r.block).map (fun (o, y) => (waveSub p v b + o, y))
      flags := acc.flags ||| r.flags ||| (if !nan && part.any (·.2) then fINX else 0)
      bins := acc.bins ++ (List.range 32).map (fun c =>
        let m := r.block.m.getD c 0
        if nan then 1
        else if r.block.scale == 0 || m == 0 then 0
        else if r.clamped && r.held.getD c false then 3
        else s.histBin n ((r.block.scale : Int) - 127 - (p - 1 : Nat) + bitLength m.natAbs - 1))
      specials := acc.specials ++ (if nan then [(32 * b, 1)] else []) }) ⟨[], 0, [], []⟩

/-- Conversion of a vector to an output format (R106). -/
def writeVector (s : State) (n ofmt rm : Nat) (sat : Bool) (v : Nat) (xs : List Elem) (draw : Nat → Nat) : Written :=
  if ofmt = 5 then writeHazel s n hazel16 rm sat v xs draw
  else if ofmt = 6 then writeHazel s n hazel32 rm sat v xs draw
  else writeBerry s n (berryP ofmt) rm v xs draw

/-- A vector of zeros in an output format, for ZERO_FILL (R99). -/
def zeroVector (ofmt v : Nat) : List (Nat × Byte) :=
  if ofmt = 5 then (List.range 256).map (fun i => (256 * v + i, 0))
  else if ofmt = 6 then (List.range 512).map (fun i => (512 * v + i, 0))
  else (List.range 4).flatMap (fun b =>
    (subTileWrites (berryP ofmt) (v % 32) Block.zero).map (fun (o, y) => (waveSub (berryP ofmt) v b + o, y)))

/-- Writes (offset, byte) pairs from a line of a tile. -/
def State.writeLines (s : State) (t line : Nat) (bs : List (Nat × Byte)) : State :=
  bs.foldl (fun s (o, b) => (s.mergeSram (tileAddr t (256 * line) + o) [b] allBytes)) s

/-- The origin codes of R123 and R181. -/
def originInf : Nat := 0xFFFFFFFFFFFF
/-- A value a vine program created from a finite value (R181), and the model's code too for a NaN that it made from an infinite accumulator,
for which R181 names none (DESIGN CHOICE, log entry 105). -/
def originVine : Nat := 0xFFFFFFFFFFFE

/-- Counts a written vector and records its first special element (R108, R110, R122, R123). -/
def State.accountVector (s : State) (t : Nat) (j : WriterJob) (v : Nat) (r : Written) (origin : Nat → Nat → Nat) : State :=
  let n := t / 4
  let ix := 0x6200 + n
  let s := s.raiseTileFlags t r.flags
  let x := s.tile t
  let s := s.setTile t { x with
    hist := r.bins.foldl (fun m b => SMap.set 0 m b (BitVec.ofNat 32 (min 0xFFFFFFFF ((SMap.get 0 m b).toNat + 1)))) x.hist }
  match r.specials with
  | [] => s
  | (i, kind) :: _ =>
    if s.bit ix (tileSub (t % 4) 3) 23 then s
    else
      let step := match s.groveOwner n with | some d => fld (s.obj (0x6100 + 16 * d) 5) 0 32 | none => 0
      (s.setObj ix (tileSub (t % 4) 3) (BitVec.ofNat 64
        (step * 2 ^ 32 + fld j.w0 0 8 * 2 ^ 24 + 2 ^ 23 + kind * 2 ^ 21 + v * 2 ^ 14 + i * 2 ^ 7 + fld j.w0 51 1 * 2 ^ 6))).setObj
        ix (tileSub (t % 4) 4) (BitVec.ofNat 64 (origin i kind))

/-- The accumulators of a vector as elements (R106). -/
def accElems (x : Tile) (slot : Nat) : List (Elem × BitVec 48) :=
  (List.range 128).map (fun i =>
    let a := SMap.get AccSlot.reset x.acc (128 * slot + i)
    ((hazelVal hazel64 a.val.toNat, a.inexact), a.origin))

/-- The draw of a writer lane for the k-th rounding of a command (R177); 0 where RM is not stochastic. -/
def State.writerDraw (s : State) (t rm pos lane : Nat) : Nat :=
  if rm = 2 then srDraw (s.writerLane t lane) pos else 0

/-- The first NaN accumulator's origin among outputs lo to lo + cnt - 1. -/
def nanOrigin (xs : List (Elem × BitVec 48)) (lo cnt : Nat) : Option Nat :=
  (((xs.drop lo).take cnt).find? (fun e => e.1.1 == .nan)).map (fun e => e.2.toNat)

/-- Vectors 0 to cnt - 1 of a command without EPI: every unmasked vector converted and written, masked ones under ZERO_FILL (R99, R106). -/
def State.writeVectors (s : State) (t : Nat) (j : WriterJob) (cnt : Nat) : State :=
  let v := fld j.w0 42 7 + 1
  let slot := fld j.w0 11 7
  let ofmt := fld j.w1 60 4
  let rm := fld j.w1 58 2
  let oline := fld j.w1 43 12
  let fed := fedVectors v j.masked
  (List.range cnt).foldl (fun s u =>
    if bitOf j.masked u then (if bitOf j.w1 56 then s.writeLines t oline (zeroVector ofmt u) else s)
    else
      let xs := accElems (s.tile t) (slot + u)
      let pos := j.drawBase + (fed.takeWhile (· != u)).length
      let r := writeVector s (t / 4) ofmt rm (bitOf j.w1 57) u (xs.map (·.1)) (s.writerDraw t rm pos)
      (s.writeLines t oline r.bytes).accountVector t j u r (fun i kind =>
        if kind = 1 then (nanOrigin xs i (if ofmt < 5 then 32 else 1)).getD originInf else originInf)) s

/-- The vector of a command at which the writer meets a parity mismatch: one that it reads (R112, R113). -/
def parityAt (j : WriterJob) (parity : Option (Fin 128)) : Option Nat :=
  match parity with
  | some u => if (fedVectors (fld j.w0 42 7 + 1) j.masked).contains u.val then some u.val else none
  | none => none

/-- The whole of a command without EPI; a parity mismatch at a vector stops the tile there, the vectors before it written (R106, R112,
R113). -/
def State.writeCommand (s : State) (t : Nat) (j : WriterJob) (parity : Option (Fin 128)) : State :=
  match parityAt j parity with
  | some u => (s.writeVectors t j u).tileParity (t / 4) (t % 4) (fld j.w0 0 8)
  | none =>
    let s := s.writeVectors t j (fld j.w0 42 7 + 1)
    s.setTile t { s.tile t with jobs := (s.tile t).jobs.filter (·.id != j.id) }

/-- Hands one vector of an EPI command over to AQ (R106, R155, R175, R177, R181). -/
def State.handVector (s : State) (t : Nat) (j : WriterJob) (u : Nat) : State × WriterJob :=
  let slot := fld j.w0 11 7
  let rm := fld j.w1 58 2
  let xs := accElems (s.tile t) (slot + u)
  let r := writeHazel s (t / 4) hazel32 rm (bitOf j.w1 57) 0 (xs.map (·.1)) (s.writerDraw t rm (j.drawBase + 2 * j.handed))
  let words := (List.range 4).map (fun b => BitVec.ofNat 1024 (ofLe (((r.bytes.drop (128 * b)).take 128).map (·.2))))
  let c := s.ctx t
  let s := (s.raiseTileFlags t r.flags).setCtx t { c with aq := c.aq ++ words }
  let nans := (xs.zipIdx).foldl (fun m (e, i) =>
    if e.1.1 == .nan then SMap.insert m (128 * j.handed + i) e.2 else m) j.nanOrigins
  (s, { j with handed := j.handed + 1, nanOrigins := nans })

/-- Hands over vectors while AQ has room for four words (R155), up to the one at which a parity mismatch is met; whether it was. -/
def handVectors : Nat → State → Nat → WriterJob → Option Nat → State × WriterJob × Bool
  | 0, s, _, j, _ => (s, j, false)
  | fuel + 1, s, t, j, bad =>
    match (fedVectors (fld j.w0 42 7 + 1) j.masked)[j.handed]? with
    | none => (s, j, false)
    | some u =>
      if 16 < (s.ctx t).aq.length + 4 then (s, j, false)
      else if bad = some u then (s, j, true)
      else
        let r := s.handVector t j u
        handVectors fuel r.1 t r.2 bad

/-- OUTPUT_WRITER (R106, R112, R155): the writer serves the oldest command that has vectors still to convert or to hand over; `w.parity` names
the vector at which a read of the accumulator file finds a parity mismatch. -/
def execOutputWriter (w : WriterRun) (s : State) : Host.Outcome State Fault Refusal :=
  let k := w.tile.num
  match (s.tile k).jobs.find? (fun j => !bitOf j.w1 55 || decide (j.handed < (fedVectors (fld j.w0 42 7 + 1) j.masked).length) ||
      (fedVectors (fld j.w0 42 7 + 1) j.masked).isEmpty) with
  | none => .next s
  | some j =>
    if !bitOf j.w1 55 || (fedVectors (fld j.w0 42 7 + 1) j.masked).isEmpty then .next (s.writeCommand k j w.parity)
    else
      let s := if j.handed = 0 && bitOf j.w1 56 then
          (List.range (fld j.w0 42 7 + 1)).foldl (fun s u =>
            if bitOf j.masked u then s.writeLines k (fld j.w1 43 12) (zeroVector (fld j.w1 60 4) u) else s) s
        else s
      let r := handVectors 4 s k j (parityAt j w.parity)
      let x := r.1.tile k
      let s := r.1.setTile k { x with jobs := x.jobs.map (fun y => if y.id = j.id then r.2.1 else y) }
      .next (if r.2.2 then s.tileParity (k / 4) (k % 4) (fld j.w0 0 8) else s)

/-- EPI_RETURN (R176 to R178, R181): a whole vector in OQ is converted and written at the place of the next handed vector. -/
def execEpiReturn (t : TileRef) (s : State) : Host.Outcome State Fault Refusal :=
  let k := t.num
  let c := s.ctx k
  match (s.tile k).jobs.find? (fun j => bitOf j.w1 55 && decide (j.returned < j.handed)) with
  | none => .next s
  | some j =>
    let fed := fedVectors (fld j.w0 42 7 + 1) j.masked
    if c.oq.length < 4 then .next s
    else
      let ofmt := fld j.w1 60 4
      let rm := fld j.w1 58 2
      let u := fed.getD j.returned 0
      let xs : List Elem := ((c.oq.take 4).flatMap (fun w => (List.range 32).map (fun i => hazelVal hazel32 (fld w (32 * i) 32)))).map
        (fun x => (x, false))
      let s := s.setCtx k { c with oq := c.oq.drop 4 }
      let r := writeVector s (k / 4) ofmt rm (bitOf j.w1 57) u xs (s.writerDraw k rm (j.drawBase + 2 * j.returned + 1))
      let cnt := if ofmt < 5 then 32 else 1
      let org (i kind : Nat) : Nat :=
        if kind ≠ 1 then originInf
        else
          match (List.range cnt).findSome? (fun d => SMap.find? j.nanOrigins (128 * j.returned + i + d)) with
          | some o => o.toNat
          | none => if ((xs.drop i).take cnt).any (fun e => e.1 == .nan) then originVine else originInf
      let s := (s.writeLines k (fld j.w1 43 12) r.bytes).accountVector k j u r org
      let j' := { j with returned := j.returned + 1 }
      let x := s.tile k
      .next (s.setTile k { x with
        jobs := (x.jobs.map (fun y => if y.id = j.id then j' else y)).filter
          (fun y => !(y.id == j.id && decide (fed.length ≤ j'.returned))) })

end Sys2Proof.Machine
end

