-- ==== Sys2Proof/Machine/Recovery.lean ====
section
/-! DEFINITION. Records, fences, resets and the recovery stages (17_faults_recovery.md, R30 to R37). -/

namespace Sys2Proof.Machine

/-! ## What a record names (R31, R537, R540) -/

/-- The unit that a record names is marked failed: it raises no further error (R540). -/
def State.recordMuted (s : State) (e : ErrorReport) : Bool :=
  let u := e.unit.toNat
  match e.kind with
  | .tile => s.tileFailed u
  | .engine => s.engineFailed u
  | .stream => s.groveFailed u
  | .sramWord => s.wordFailed (e.addr.toNat / 8)
  | .stackLine => s.wideMark (stackMap e.addr.toNat).stack || SMap.get 0 (s.stack (stackMap e.addr.toNat).stack).poison (e.addr.toNat / 256) == 2
  | .router => s.failedBit 24 u
  | .lane => s.failedBit 31 u
  | .frame => let f := e.addr.toNat
              let d := f / 2 ^ 30
              let r := f / 2 ^ 23 % 128
              if r < 24 then s.failedBit 22 (24 * d + r) else if r < 80 then s.groveFailed (56 * d + (r - 24)) else s.wideMark (16 + d)
  | .steward => s.wideMark (12 + u)
  | _ => false

/-- The unit that a record makes a recovery reset and test (R537). A record of a grove's frames names the grove by its interface. -/
def recordUnits (e : ErrorReport) : List UnitRef :=
  let u := e.unit.toNat
  let g (n : Nat) : GroveId := Fin.ofNat 224 n
  match e.err with
  | .tileResidue => [.tile ⟨g (u / 4), Fin.ofNat 4 u⟩]
  | .tileAccParity => [.tile ⟨g (u / 4), Fin.ofNat 4 u⟩]
  | .vecRegParity => [.engine (g u)]
  | .unitHang =>
    (match e.kind with
     | .tile => [.tile ⟨g (u / 4), Fin.ofNat 4 u⟩]
     | .engine => [.engine (g u)]
     | _ => [.stream (g u)])
  | .cfgCe => let r := e.addr.toNat / 2 ^ 23 % 128
              if 24 ≤ r ∧ r < 80 then [.iface (g (56 * (e.addr.toNat / 2 ^ 30) + (r - 24)))] else []
  | .cfgUe => let r := e.addr.toNat / 2 ^ 23 % 128
              if 24 ≤ r ∧ r < 80 then [.iface (g (56 * (e.addr.toNat / 2 ^ 30) + (r - 24)))] else []
  | _ => []

/-- The Clearing that a record makes a recovery reset (R537). -/
def recordClearings (e : ErrorReport) : List ClearingId :=
  let r := e.addr.toNat / 2 ^ 23 % 128
  let here := if r < 24 then [Fin.ofNat 96 (24 * (e.addr.toNat / 2 ^ 30) + r)] else []
  match e.err with
  | .cfgCe => here
  | .cfgUe => here
  | _ => []

/-- The reset level at which a recovery starts, as FaultLog LEVEL counts (R537, R550). -/
def recordLevel (e : ErrorReport) : Nat :=
  let r := e.addr.toNat / 2 ^ 23 % 128
  let frame := if r < 24 then 6 else if r < 80 then 2 else 3
  match e.err with
  | .tileResidue => 1
  | .tileAccParity => 1
  | .vecRegParity => 1
  | .unitHang => 1
  | .stewardHang => 1
  | .cfgCe => frame
  | .cfgUe => frame
  | _ => 3

/-- The test that a record calls for outside a recovery's stage 6 (R537, R538). -/
def recordTest (e : ErrorReport) : Option TestUnit :=
  let a := e.addr.toNat
  match e.err with
  | .sramCe => some (.sramLine (256 * (a / 256)))
  | .sramUe => some (.sramLine (256 * (a / 256)))
  | .stkCe => some (.dramLine (256 * (a / 256)))
  | .stkUe => some (.dramLine (256 * (a / 256)))
  | .stkAddr => some (.dramLine (256 * (a / 256)))
  | .stkLink => some (.dramLink (stackMap a).stack (stackMap a).pc)
  | .netLink => some (.netLink (e.unit.toNat / 6) (e.unit.toNat % 6))
  | .netParity => some (.router e.unit.toNat)
  | .xanLane => some (.lane e.unit.toNat)
  | .cfgCe => some (.frame a 0)
  | .cfgUe => some (.frame a 0)
  | _ => none

/-- The OUTCOME with which an entry begins (R539, R556). -/
def recordOutcome (e : ErrorReport) : Nat :=
  match e.err with
  | .stkFail => outcomeLasting
  | .tileResidue => outcomePending
  | .tileAccParity => outcomePending
  | .vecRegParity => outcomePending
  | .unitHang => outcomePending
  | _ => if (recordTest e).isSome then outcomePending else outcomeNone

/-- ADDR is given for words, lines and frames (R557). -/
def recordAddr (e : ErrorReport) : U64 :=
  match e.kind with
  | .sramWord => e.addr
  | .stackLine => BitVec.ofNat 64 (256 * (e.addr.toNat / 256))
  | .frame => e.addr
  | _ => 0

/-! ## Starting a recovery (R544, R547, R551) -/

/-- The dies on which a Stand holds groves or Clearings (R547). -/
def State.recoveryDies (s : State) (d : Nat) : BitVec 4 :=
  (s.clearingsOf d).foldl (fun acc c => acc ||| BitVec.ofNat 4 (2 ^ (c / 24))) (s.diesOf d)

/-- The level of a recovery that another error joins: the wider one; Clearings are counted apart (R550, R551). -/
def joinLevel (a b : Nat) : Nat := if a = 6 then b else if b = 6 then a else max a b

/-- A recovery of a Stand starts, or one in progress takes the error in (R544, R551). -/
def State.startRecovery (s : State) (d level : Nat) (units : List UnitRef) (clears : List ClearingId) (logs : List Nat) : State :=
  let x := s.stand d
  let news := units.filter (fun u => !x.units.contains u)
  let newc := clears.filter (fun c => !x.clearings.contains c)
  if !s.enabled d || x.stuck then s
  else if x.phase = .fenced ∨ x.phase = .recovering then
    s.setStand d { x with
      level := joinLevel x.level level
      units := x.units ++ news
      clearings := x.clearings ++ newc
      left := if x.stage = 5 then x.left ++ news else x.left
      leftClearings := if x.stage = 5 then x.leftClearings ++ newc else x.leftClearings
      again := x.again || decide (5 < x.stage)
      logs := x.logs ++ logs }
  else
    s.setStand d { x with
      phase := .fenced, stage := 3, level := level, resetDone := 0, units := units, clearings := clears, left := [], leftClearings := []
      again := false, fencedDies := 0, failure := 0, failWho := 0, logs := logs, drainDies := 0 }

/-- A Stand is fenced and stays so (R540, R548, R550); a Function Level Reset that waited for its recovery completes (R508). -/
def State.stick (s : State) (d : Nat) : State :=
  if !s.enabled d then s
  else
    let s := s.startRecovery d 3 [] [] []
    let s := s.setStand d { s.stand d with phase := .fenced, stuck := true }
    if (s.func (d + 1)).flr then (s.setFunc (d + 1) { s.func (d + 1) with flr := false }).resetFunc (d + 1) else s

/-- Every enabled Stand is fenced and stays so. -/
def State.fenceForGood (s : State) : State := (List.range 8).foldl State.stick s

/-- A stack has failed (R537, R539, R540, R296). -/
def State.failStack (s : State) (k : Nat) : State := ((s.setWideMark k true).setF (0x8020 + k) 2 0 2 3).fenceForGood

/-- A die's Understory or the host path is marked failed, which stops the device from stepping any Stand: every Stand stays fenced (R540, R548,
R551). -/
def State.failWide (s : State) (k : Nat) : State := (s.setWideMark k true).fenceForGood

/-- What fails with the tier instance of an address when the failed-word table of its die is full (R539). -/
def State.markTier (s : State) (a : Nat) : State :=
  match regionOf a with
  | .tileSram t => s.markTile t true
  | .localStore n => s.markEngine n true
  | .blockRam d b => s.markClearing (24 * d + b / 192)
  | .understory d => s.failWide (8 + d)
  | _ => s

/-- Enters a word in the failed-word table of its die, 64 entries (R539, R558). -/
def State.markWord (s : State) (a : Nat) : State :=
  let d := sramDie a
  if s.wordFailed (a / 8) then s
  else
    match (List.range 64).find? (fun i => !bitOf (s.objW 0xA002 2 (64 * d + i)) 63) with
    | some i => s.setObjW 0xA002 2 (64 * d + i) (BitVec.ofNat 64 (2 ^ 63 + 8 * (a / 8)))
    | none => s.markTier a

/-! ## Records (R30, R31, R536, R537, R553, R556) -/

/-- Writes the entries of a record, one for each Stand it names; the serials written. -/
def State.logRecord (s : State) (e : ErrorReport) (down : Bool) : State × List Nat :=
  let level := if (s.errorStands e).isEmpty then 0 else recordLevel e
  let put (s : State) (o : Option Nat) : State :=
    s.writeLog { code := errCode e.err, die := e.die.val, stand := o, kind := e.kind, unit := e.unit.toNat, outcome := recordOutcome e,
                 level := level, down := down, detail := e.detail.toNat, addr := recordAddr e }
  let n := s.logSerial
  match e.stands with
  | [] => (put s none, [n])
  | l => (l.foldl (fun s d => put s (some d.val)) s, (List.range l.length).map (fun i => n + i))

/-- Two tests are of the same unit. -/
def sameTest : TestUnit → TestUnit → Bool
  | .frame a _, .frame b _ => a == b
  | x, y => x == y

/-- Ranger takes a record: the entries, the test, and the Stands (R31, R537). -/
def State.takeRecord (s : State) (e : ErrorReport) (down : Bool) : State :=
  let who := s.errorStands e
  let r := s.logRecord e down
  let s := r.1
  let s := match recordTest e with
    | some u =>
      if s.tests.any (fun t => sameTest t.unit u) then
        { s with tests := s.tests.map (fun t => if sameTest t.unit u then { t with logs := t.logs ++ r.2 } else t) }
      else { s with tests := s.tests ++ [⟨u, r.2⟩] }
    | none => s
  let s := if e.err = .netLink then { s with rerouteDue := true }.reroute else s
  let s := if e.err = .pcieInternal then s.send .fatal else s
  if e.err = .stkFail then s.failStack e.unit.toNat
  else who.foldl (fun s d => s.startRecovery d (recordLevel e) (recordUnits e) (recordClearings e) r.2) s

/-- A unit of a Stand's own, whose error its steward fences without Ranger (R544, R553). -/
def ownUnit (e : ErrorReport) : Bool :=
  match e.err with
  | .tileResidue => true
  | .tileAccParity => true
  | .vecRegParity => true
  | .unitHang => true
  | .sramUe => true
  | _ => false

/-- What the units do at the detection of an error that a command of its own does not show (R163). -/
def State.detected (s : State) (e : ErrorReport) : State :=
  if e.err = .vecRegParity then
    (let n := e.unit.toNat % 224
     (s.setGrove n { s.grove n with engineStopped := true }).event (0x6200 + n) (0x60 + 8 * (e.addr.toNat % 4)) 0x10)
  else s

/-- ERROR_RECORD (R30, R31, R544): a record reaches the steward of its die and Ranger. A record that is not among those a command left comes
from a detector with no command of its own (parity of the vector engine, with the context in ADDR; PCIE_INTERNAL; and others): the units do
what they do at its detection, and where the steward takes no records it waits with the others (R292). -/
def execErrorRecord (e : ErrorReport) (s : State) : Host.Outcome State Fault Refusal :=
  let left := s.reports.contains e
  let t := { s with reports := s.reports.erase e }
  if s.recordMuted e then .next t
  else if s.stewardOut e.die.val then .next (if left then s else (s.detected e).report e)
  else
      let t := if left then t else t.detected e
      if t.ranger = .up ∨ t.ranger = .handoff then .next (t.takeRecord e false)
      else
        let who := t.errorStands e
        let t := if ownUnit e then who.foldl (fun s d => s.startRecovery d (recordLevel e) (recordUnits e) (recordClearings e) []) t else t
        if (t.heldRecords.filter (fun r => r.die == e.die)).length < 64 then .next { t with heldRecords := t.heldRecords ++ [e] }
        else .next (t.event 0xA000 2 0x4000)

/-! ## Fencing (R544 to R546) -/

/-- FENCE (R544, R545): the steward of a die carries out the order; a restarted steward is back in order with it (R543). -/
def execFence (sd : StandId) (d : DieId) (s : State) : Host.Outcome State Fault Refusal :=
  let x := s.stand sd.val
  if x.phase ≠ .fenced ∨ x.stage ≠ 3 ∨ (s.recoveryDies sd.val).getLsbD d.val = false ∨ x.fencedDies.getLsbD d.val = true ∨
      s.wideMark (12 + d.val) = true then .next s
  else
    let s := { s with stewards := SMap.set 0 s.stewards d.val 0 }
    let s := ((s.grovesOf sd.val).filter (fun n => groveDie n == d.val)).foldl (fun s n => s.stopGrove n) s
    let s := s.dropNm sd.val (fun n => groveDie n == d.val)
    .next (s.setStand sd.val { s.stand sd.val with fencedDies := x.fencedDies ||| BitVec.ofNat 4 (2 ^ d.val) })

/-- The nodes of a Stand's groves and Clearings. -/
def State.standNodes (s : State) (d : Nat) : List Nat := (s.grovesOf d).map groveNode ++ (s.clearingsOf d).map clearingNode

/-- Responses that a fence gives up (R546). -/
def State.giveUp (s : State) (d : Nat) : State :=
  { s with outst := SMap.eraseAll s.outst (fun k => (s.standNodes d).contains (k / 128)) }

/-- The stage that follows, where no error has come that makes the recovery start again (R551). -/
def Stand.nextStage (x : Stand) (n : Nat) : Stand :=
  if x.again then { x with phase := .fenced, stage := 3, again := false, resetDone := 0 } else { x with phase := .recovering, stage := n }

/-- Ranger decides over the first reset level and orders it (R547, stage 4): STATE reads 5. -/
def State.rangerDecides (s : State) (d : Nat) : State :=
  let x := s.stand d
  if x.phase = .fenced ∧ x.stage = 4 ∧ x.stuck = false then
    let y := { x with phase := .recovering, stage := 5, left := x.units, leftClearings := x.clearings }
    if x.level < 3 ∧ x.units.isEmpty ∧ x.clearings.isEmpty then s.setStand d (y.nextStage 6) else s.setStand d y
  else s

/-- FENCE_COMPLETE (R546): every response is in, or 50 µs have passed; the decision needs Ranger (R553). -/
def execFenceComplete (sd : StandId) (afterLimit : Bool) (s : State) : Host.Outcome State Fault Refusal :=
  let d := sd.val
  let x := s.stand d
  if x.phase ≠ .fenced ∨ x.stage ≠ 3 ∨ x.fencedDies ≠ s.recoveryDies d ∨ (afterLimit = false ∧ (s.standNodes d).all s.settledNode = false) then
    .next s
  else
    let s := if afterLimit then s.giveUp d else s
    if x.stuck then .next s
    else
      let s := s.setStand d { x with stage := 4 }
      if s.ranger = .up ∨ s.ranger = .handoff then .next (s.rangerDecides d) else .next s

/-! ## Resets (R34, R35, R48) -/

/-- A unit after its reset (R34); an interface's queue is emptied with it, and what it had received is answered (R33, log entry 122). -/
def State.resetUnit (s : State) (u : UnitRef) : State :=
  match u with
  | .tile t => s.setTile t.num Tile.reset
  | .engine g =>
    let n := g.val
    let s := s.setGrove n { s.grove n with icache := [], engineStopped := false, owner := none, sliceLeft := 0 }
    (List.range 4).foldl (fun s t => s.setCtx (4 * n + t) Context.reset) s
  | .stream g => (List.range 8).foldl (fun s q => s.setSlot (8 * g.val + q) Slot.reset) s
  | .iface g => s.resetIface (groveNode g.val) codeFenced

/-- A grove after its reset: its units, and SRAM with unpredictable contents (R34, R48). -/
def State.resetGrove (s : State) (n : Nat) : State :=
  let g : GroveId := Fin.ofNat 224 n
  let s := s.setGrove n Grove.reset
  let s := (List.range 4).foldl (fun s t => (s.resetUnit (.tile ⟨g, Fin.ofNat 4 t⟩)).scramble (4 * n + t)) s
  (((s.resetUnit (.engine g)).resetUnit (.stream g)).resetUnit (.iface g)).scramble (1000 + n)

/-- A Clearing after its reset: it is held, a reconfiguration is stopped, and its block RAM is unpredictable (R34, R414). -/
def State.resetClearing (s : State) (c : Nat) : State :=
  let s := (s.dropReconfig c).holdClearing c 4 codeFenced
  (List.range 192).foldl (fun s b => s.scramble (3000 + 4608 * (c / 24) + 192 * (c % 24) + b)) s

/-- Every grove and Clearing of a Stand is reset (R34). -/
def State.resetStand (s : State) (d : Nat) : State :=
  (s.clearingsOf d).foldl State.resetClearing ((s.grovesOf d).foldl State.resetGrove s)

/-- The stage 5 of a Stand ends once nothing is left to reset (R547). -/
def State.endReset (s : State) (d : Nat) : State :=
  let x := s.stand d
  if x.stage = 5 ∧ x.left.isEmpty ∧ x.leftClearings.isEmpty then
    (s.logLevel x.logs x.level).setStand d { x with phase := .recovering, stage := 6, resetDone := x.level }
  else s

/-- The Stands whose stage 5 is at a level. -/
def State.resetting (s : State) (p : Nat → Bool) : List Nat :=
  (List.range 8).filter (fun d => (s.stand d).phase == .recovering && (s.stand d).stage == 5 && p (s.stand d).level)

/-- The grove of a unit. -/
def unitGrove : UnitRef → Nat
  | .tile t => t.grove.val
  | .engine g => g.val
  | .stream g => g.val
  | .iface g => g.val

/-- UNIT_RESET (R34, R36, R550): a unit that a recovery at unit level still has to reset. -/
def execUnitReset (u : UnitRef) (s : State) : Host.Outcome State Fault Refusal :=
  match (s.resetting (fun l => l == 1 && s.coreOn (groveDie (unitGrove u)))).find? (fun d => (s.stand d).left.contains u) with
  | none => .next s
  | some d =>
    let s := s.resetUnit u
    .next ((s.setStand d { s.stand d with left := (s.stand d).left.filter (fun v => v != u) }).endReset d)

/-- GROVE_RESET (R34, R36, R550). -/
def execGroveReset (g : GroveId) (s : State) : Host.Outcome State Fault Refusal :=
  match (s.resetting (fun l => l == 2 && s.coreOn (groveDie g.val))).find? (fun d => (s.stand d).left.any (fun u => unitGrove u == g.val)) with
  | none => .next s
  | some d =>
    let s := s.resetGrove g.val
    .next ((s.setStand d { s.stand d with left := (s.stand d).left.filter (fun v => unitGrove v != g.val) }).endReset d)

/-- CLEARING_RESET (R34, R414, R550). -/
def execClearingReset (c : ClearingId) (s : State) : Host.Outcome State Fault Refusal :=
  match (s.resetting (fun l => l == 1 || l == 2 || l == 6)).find? (fun d => (s.stand d).leftClearings.contains c) with
  | none => .next s
  | some d =>
    let s := s.resetClearing c.val
    .next ((s.setStand d { s.stand d with leftClearings := (s.stand d).leftClearings.filter (fun v => v != c) }).endReset d)

/-- A region's frames of the current copy, as a reconfiguration (R444). -/
def State.currentConfig (s : State) (image : Nat) (r : Nat × Nat) : Reconfig :=
  let inside (k : Nat) : Bool := decide (r.1 ≤ k) && decide (k < r.1 + r.2)
  { image := image, frames := s.shadow.filter (fun e => inside e.1), map := s.frameMap.filter (fun e => inside e.1), fills := [],
    begun := false, before := 0 }

/-- A Stand or compute reset during phase 4 stops an image switch (R444): the regions that were reset are restored with the configuration that
was current, every other changed region returns to it at the next boundary of its owner. `reset` says which Clearings were reset. -/
def State.stopSwitch (s : State) (reset : Nat → Bool) : State :=
  match s.switch with
  | some w =>
    if s.getF 0x5000 2 0 4 ≠ 4 ∨ w.current = true then s
    else
      let s := (List.range 96).foldl (fun s c =>
        match SMap.get 0 w.changed c with
        | 0 => s
        | b + 1 =>
          if reset c then s.setClearing c { s.clearing c with image := b }
          else
            let r := s.currentConfig b (clearingFrames c)
            if s.clearingOwner c = none then s.beginReconfig c r else s.setClearing c { s.clearing c with next := some r }) s
      let s := (List.range 224).foldl (fun s n =>
        let f := groveFrames n
        let r := s.currentConfig 0 f
        if r.frames = w.conf.frames.filter (fun e => decide (f.1 ≤ e.1) && decide (e.1 < f.1 + f.2)) then s
        else if s.groveOwner n = none then s.writeFrames s.shadow f.1 f.2
        else { s with groveNext := SMap.set none s.groveNext n (some r) }) s
      let s := (List.range 4).foldl (fun s d => s.writeFrames s.shadow (frameNum d 127 0) 256) s
      (({ s with switch := none }.event 0x5000 2 0x800).setF 0x5000 2 0 4 1).setF 0x5000 1 0 1 0
  | none => s

/-- STAND_RESET (R34, R414, R444, R550). -/
def execStandReset (sd : StandId) (s : State) : Host.Outcome State Fault Refusal :=
  let d := sd.val
  if (s.resetting (fun l => l == 3)).contains d then
    let s := (s.resetStand d).stopSwitch (fun c => s.clearingOwner c == some d)
    .next ((s.setStand d { s.stand d with left := [], leftClearings := [] }).endReset d)
  else .next s

/-- Every compute-side unit after a compute reset (R34, R33). -/
def State.resetCompute (s : State) : State :=
  let s := (List.range 224).foldl State.resetGrove s
  (((List.range 96).foldl State.resetClearing s).stopSwitch (fun _ => true))

/-- Every enabled Stand that is not fenced for good has reached the compute reset (R550). -/
def State.computeDue (s : State) (level : Nat) : Bool :=
  let ds := (List.range 8).filter (fun d => s.enabled d && !(s.stand d).stuck)
  !ds.isEmpty && ds.all (fun d => (s.stand d).phase == .recovering && (s.stand d).stage == 5 && (s.stand d).level == level)

/-- The compute reset is complete: every Stand recovers from stage 6 (R550). -/
def State.computeDone (s : State) : State :=
  let s := s.resetCompute
  (List.range 8).foldl (fun s d =>
    if (s.stand d).phase = .recovering ∧ (s.stand d).stage = 5 then
      (s.setStand d { s.stand d with left := [], leftClearings := [] }).endReset d
    else s) s

/-- COMPUTE_RESET (R34, R550). -/
def execComputeReset (s : State) : Host.Outcome State Fault Refusal :=
  if s.computeDue 4 then .next s.computeDone else .next s

/-! ## Escalation (R550) -/

/-- Every Stand goes to the compute level: those in recovery join, the others are fenced first (R550, R551). -/
def State.toCompute (s : State) : State :=
  (List.range 8).foldl (fun s d =>
    let x := s.stand d
    if !s.enabled d || x.stuck then s
    else if x.phase = .recovering ∧ 5 ≤ x.stage then
      s.setStand d { x with stage := 5, level := 4, left := [], leftClearings := [], again := false }
    else s.startRecovery d 4 [] [] []) s

/-- A power cycle of the compute rails starts: CORE_EN[3:0] low, CORE_CYCLING 1 (R532). -/
def State.beginCycle (s : State) : State := (s.setF 0x3100 3 4 4 0).setF 0x3100 3 2 1 1

/-- RESET_TIMEOUT (R550): the reset level of a Stand's recovery does not finish in its time. -/
def execResetTimeout (sd : StandId) (s : State) : Host.Outcome State Fault Refusal :=
  let d := sd.val
  let x := s.stand d
  if x.phase ≠ .recovering ∨ x.stage ≠ 5 ∨ (s.ranger ≠ .up ∧ s.ranger ≠ .handoff) then .next s
  else
    let s := s.writeLog { code := 0x0803, die := s.leadDie d, stand := some d, kind := .none, unit := 0, outcome := outcomeNone,
                          level := x.level, down := false, detail := 0, addr := 0 }
    match x.level with
    | 1 => .next (s.setStand d { x with level := if x.left.isEmpty then 3 else 2 })
    | 2 => .next (s.setStand d { x with level := 3 })
    | 6 => .next (s.setStand d { x with level := 3 })
    | 3 => .next s.toCompute
    | 4 =>
      if s.bit 0xA001 1 16 then
        .next ((List.range 8).foldl (fun s e =>
          if s.enabled e ∧ (s.stand e).stuck = false ∧ (s.stand e).level = 4 then s.setStand e { s.stand e with level := 5 } else s) s.beginCycle)
      else .next s.fenceForGood
    | _ => .next (s.setWideMark 21 true).fenceForGood

/-! ## Stage 6: targeted self-tests (R538, R539, R551) -/

/-- The units of a grove that have a targeted self-test. -/
def groveTests (n : Nat) : List UnitRef :=
  let g : GroveId := Fin.ofNat 224 n
  (List.range 4).map (fun t => .tile ⟨g, Fin.ofNat 4 t⟩) ++ [.engine g, .stream g]

/-- The unit is marked failed (R539). -/
def State.unitFailed (s : State) (u : UnitRef) : Bool :=
  match u with
  | .tile t => s.tileFailed t.num
  | .engine g => s.engineFailed g.val
  | .stream g => s.groveFailed g.val
  | .iface g => s.groveFailed g.val

/-- The units whose tests run in stage 6: those the recovery has reset, but for units that are marked failed and raise no further error
(R540, R547). -/
def State.testedUnits (s : State) (d : Nat) : List UnitRef :=
  let x := s.stand d
  let l : List UnitRef := match x.resetDone with
    | 0 => []
    | 1 => x.units
    | 2 => x.units.flatMap (fun u => groveTests (unitGrove u))
    | 6 => x.units
    | _ => (s.grovesOf d).flatMap groveTests
  l.filter (fun u => !s.unitFailed u)

/-- SELFTEST_REQ of an object ends, in force and in a value that waits for its boundary (R119, R167, R551). -/
def State.endRequest (s : State) (ix sb : Nat) : State :=
  let s := s.setF ix sb 0 1 0
  match s.waitingValue (objKey 0 ix sb 0) with
  | some v => s.setWaiting (objKey 0 ix sb 0) (some (setFld v 0 1 0))
  | none => s

/-- The result of a unit's test: the mark, the requests it satisfies (R539, R551, R561), and the log. -/
def State.testResult (s : State) (u : UnitRef) (pass : Bool) : State :=
  let done (s : State) (kind unit : Nat) : State :=
    if s.selfTest.any (fun v => v / 2 ^ 24 % 16 == kind && v % 65536 == unit) then
      ({ s with selfTest := none }.setF 0xA001 2 31 1 0).setF 0xA001 2 28 2 (if pass then 1 else 2)
    else s
  match u with
  | .tile t => (done ((if pass then s else s.markTile t.num true).endRequest (0x6200 + t.grove.val) (16 * (t.tile.val + 1))) 1 t.num)
  | .engine g => done ((if pass then s else s.markEngine g.val true).endRequest (0x6200 + g.val) 0x50) 2 g.val
  | .stream g => done (if pass then s else s.markGrove g.val true) 3 g.val
  | .iface _ => s

/-- A fault log entry is about a unit. -/
def State.logAbout (s : State) (n : Nat) : UnitRef → Bool
  | .tile t => s.logNames n .tile t.num
  | .engine g => s.logNames n .engine g.val
  | .stream g => s.logNames n .stream g.val
  | .iface _ => false

/-- TARGETED_SELF_TEST (R538, R539, R547): the tests of the units that were reset; `failing` lists those that fail. The line tests of the
Stand run before it ends. -/
def execTargetedSelfTest (sd : StandId) (failing : List UnitRef) (s : State) : Host.Outcome State Fault Refusal :=
  let d := sd.val
  let x := s.stand d
  if x.phase ≠ .recovering ∨ x.stage ≠ 6 ∨ s.tests.any (fun t => match t.unit with | .sramLine a => s.ownsByte d a | _ => false) then .next s
  else
    let units := s.testedUnits d
    let bad := units.filter (fun u => failing.contains u)
    let s := units.foldl (fun s u => s.testResult u (!bad.contains u)) s
    let s := x.logs.foldl (fun s n =>
      if bad.any (s.logAbout n) then s.logOutcome [n] outcomeLasting
      else if units.any (s.logAbout n) then s.logOutcome [n] outcomeTransient
      else s) s
    let s := if bad.isEmpty then s else s.unitOf (some d)
    .next (s.setStand d ((s.stand d).nextStage 7))

/-! ## Stage 7: configuration (R37, R410, R437) -/

/-- The groves whose frames a recovery restores. -/
def State.resetGroves (s : State) (d : Nat) : List Nat :=
  let x := s.stand d
  match x.resetDone with
  | 1 => x.units.map unitGrove
  | 2 => x.units.map unitGrove
  | 3 => s.grovesOf d
  | 4 => s.grovesOf d
  | 5 => s.grovesOf d
  | _ => []

/-- The Clearings that a recovery has reset. -/
def State.resetClearings (s : State) (d : Nat) : List Nat :=
  let x := s.stand d
  if 3 ≤ x.resetDone ∧ x.resetDone ≤ 5 then s.clearingsOf d else x.clearings.map (fun c => c.val)

/-- CONFIG_RESTORE (R37, R410, R437): the frames of the reset regions, from the shadow; the staged release of reset Clearings starts. -/
def execConfigRestore (sd : StandId) (s : State) : Host.Outcome State Fault Refusal :=
  let d := sd.val
  let x := s.stand d
  if x.phase ≠ .recovering ∨ x.stage ≠ 7 then .next s
  else
    let s := (s.resetGroves d).foldl (fun s n => s.writeFrames s.shadow (groveFrames n).1 (groveFrames n).2) s
    let s := (s.resetClearings d).foldl (fun s c =>
      ((s.writeFrames s.shadow (clearingFrames c).1 (clearingFrames c).2).declareBanks c).startRelease c) s
    -- a compute reset also reset the groves and Clearings that no Stand owns (R34, R37)
    let s := if 4 ≤ x.resetDone ∧ x.resetDone ≤ 5 then
        let s := (List.range 224).foldl (fun s n =>
          if s.groveOwner n = none then s.writeFrames s.shadow (groveFrames n).1 (groveFrames n).2 else s) s
        (List.range 96).foldl (fun s c =>
          if s.clearingOwner c = none ∧ s.clearingState c = 4 then
            ((s.writeFrames s.shadow (clearingFrames c).1 (clearingFrames c).2).declareBanks c).startRelease c
          else s) s
      else s
    .next (s.setStand d (x.nextStage 8))

/-! ## Stages 8 and 9 (R47, R541, R547 to R549, R551) -/

/-- The end of a recovery is counted (R549); LastRecoveryLength is a free value (log entry 4). -/
def State.countRecovery (s : State) : State :=
  ((s.count 0xA003 1 0 64 1).setObj 0xA003 2 (BitVec.ofNat 64 (s.drawn.toNat % 2 ^ 32))).advance

/-- A Stand out of recovery. -/
def Stand.recovered (x : Stand) : Stand :=
  { x with fencedDies := 0, stage := 0, level := 0, resetDone := 0, units := [], clearings := [], left := [], leftClearings := [],
           again := false, logs := [] }

/-- The Function Level Reset of a Stand's function: a Stand reset, with the step in progress lost and persistent lines restored (R34, R37,
R508). -/
def State.resetByFunction (s : State) (d : Nat) : State :=
  let s := s.resetStand d
  let s := (s.grovesOf d).foldl (fun s n => s.writeFrames s.shadow (groveFrames n).1 (groveFrames n).2) s
  let s := (s.clearingsOf d).foldl (fun s c =>
    ((s.writeFrames s.shadow (clearingFrames c).1 (clearingFrames c).2).declareBanks c).startRelease c) s
  let s := (s.restoreStand d).setStand d (s.stand d).recovered
  if (s.stand d).done then s.setStand d { s.stand d with phase := if (s.stand d).applyDone then .applied else .committed, current := none }
  else s.restAtBoundary d

/-- A Function Level Reset that waited for the recovery completes (R508, R551). -/
def State.finishFlr (s : State) (d : Nat) : State :=
  if (s.func (d + 1)).flr then
    let s := (s.setFunc (d + 1) { s.func (d + 1) with flr := false }).resetFunc (d + 1)
    if (s.stand d).unitFailed then s else s.resetByFunction d
  else s

/-- MIRROR_RESTORE (R47, R541, R547): persistent lines, once reset Clearings are released and, in a job, RELEASE STATUS 1 has come. -/
def execMirrorRestore (sd : StandId) (s : State) : Host.Outcome State Fault Refusal :=
  let d := sd.val
  let x := s.stand d
  if x.phase ≠ .recovering ∨ x.stage ≠ 8 ∨ (s.resetClearings d).any (fun c => s.clearingState c == 2 || s.clearingState c == 4) = true ∨
      (s.inJob d && !(s.job d).go) = true then .next s
  else
    let s := s.restoreStand d
    let x := s.stand d
    if x.again then .next (s.setStand d (x.nextStage 9))
    else if x.unitFailed then
      let s := s.countRecovery.setStand d { x.recovered with
        phase := .held, current := if x.done && !s.inJob d then none else x.current, done := false, failure := 0 }
      let s := if s.inJob d then s.setJob d { s.job d with restored := true } else s
      .next (s.finishFlr d)
    else .next (s.setStand d (x.nextStage 9))

/-- REJOIN (R547 to R549): the Stand goes on from its last committed boundary. -/
def execRejoin (sd : StandId) (s : State) : Host.Outcome State Fault Refusal :=
  let d := sd.val
  let x := s.stand d
  if x.phase ≠ .recovering ∨ x.stage ≠ 9 then .next s
  else if x.again then .next (s.setStand d (x.nextStage 9))
  else
    let s := s.countRecovery.setStand d x.recovered
    let y := s.stand d
    if (s.func (d + 1)).flr then .next (s.finishFlr d)
    else if s.inJob d then
      .next ((s.setStand d { y with phase := .drained }).setJob d { s.job d with restored := true })
    else if y.done then .next (s.setStand d { y with phase := if y.applyDone then .applied else .committed })
    else
      match y.current with
      | some w => .next (s.stepAgain d w)
      | none => .next (s.restAtBoundary d)

end Sys2Proof.Machine
end

