-- ==== Sys2Proof/Machine/Operands.lean ====
section
/-! DEFINITION. The operands of the vector engine: the fields of its four formats (R140 to R143), the operand codes (R133), the
rotating file (R130), lanes and predicates (R131, R146), and effective addresses (R141). -/

namespace Sys2Proof.Machine

/-! ## Fields -/

/-- OPC. -/
def vOpc (w : U64) : Nat := fld w 56 8
/-- TYPE of format V, SPACE of format M. -/
def vType (w : U64) : Nat := fld w 53 3
/-- PRED of formats V and M. -/
def vPred (w : U64) : Nat := fld w 49 4
/-- PZ. -/
def vPz (w : U64) : Bool := bitOf w 48
/-- VD. -/
def vVd (w : U64) : Nat := fld w 41 7
/-- VA. -/
def vVa (w : U64) : Nat := fld w 34 7
/-- VB. -/
def vVb (w : U64) : Nat := fld w 27 7
/-- VC. -/
def vVc (w : U64) : Nat := fld w 20 7
/-- RM. -/
def vRm (w : U64) : Nat := fld w 18 2
/-- SAT. -/
def vSat (w : U64) : Bool := bitOf w 17
/-- IS. -/
def vIs (w : U64) : Bool := bitOf w 16
/-- IMM. -/
def vImm (w : U64) : Nat := fld w 0 16
/-- SA of format M. -/
def mSa (w : U64) : Nat := fld w 36 5
/-- OFF of format M. -/
def mOff (w : U64) : Int := signed 16 (fld w 20 16)
/-- FMT of format M. -/
def mFmt (w : U64) : Nat := fld w 16 4
/-- ROW of format M. -/
def mRow (w : U64) : Nat := fld w 11 5
/-- SD of format S, SA of format B. -/
def sSd (w : U64) : Nat := fld w 51 5
/-- SA of format S. -/
def sSa (w : U64) : Nat := fld w 46 5
/-- SB of format S. -/
def sSb (w : U64) : Nat := fld w 41 5
/-- IMM32, sign-extended. -/
def sImm (w : U64) : U64 := BitVec.ofInt 64 (signed 32 (fld w 0 32))
/-- PRED of format B. -/
def bPred (w : U64) : Nat := fld w 47 4
/-- TYPE of format B. -/
def bType (w : U64) : Nat := fld w 44 3
/-- ALL. -/
def bAll (w : U64) : Bool := bitOf w 43
/-- IMM16 of format B. -/
def bImm (w : U64) : Nat := fld w 24 16
/-- OFF of format B. -/
def bOff (w : U64) : Int := signed 24 (fld w 0 24)

/-- The lane width of a TYPE (R140). -/
def typeWidth (ty : Nat) : Nat :=
  match ty with
  | 0 => 32 | 1 => 16 | 2 => 8 | 3 => 16 | _ => 32

/-- The Hazel format of a TYPE. -/
def typeHazel (ty : Nat) : HFmt := if ty = 1 then hazel16 else hazel32

/-! ## Which codes are legal (R133, R147) -/

/-- The kind of an operand. -/
inductive OpKind where
  | vec | pred | scalar
  deriving DecidableEq, Repr

/-- A source code of its kind (R133). -/
def srcOk (k : OpKind) (code : Nat) : Bool :=
  match k with
  | .vec => decide (code < 0x41) || decide (0x60 ≤ code)
  | .pred => decide (0x50 ≤ code) && decide (code < 0x60)
  | .scalar => decide (0x60 ≤ code)

/-- A destination code of its kind (R133). -/
def dstOk (k : OpKind) (code : Nat) : Bool :=
  match k with
  | .vec => decide (code < 0x40) || decide (code = 0x41)
  | .pred => decide (0x50 ≤ code) && decide (code < 0x60)
  | .scalar => decide (0x60 ≤ code)

/-- The operands of an instruction of format V: accepted TYPE codes, the kind of VD, the kinds of VA, VB and VC, none where the
instruction reads none (R147). -/
structure VForm where
  /-- accepted TYPE codes -/
  types : List Nat
  /-- the destination -/
  dst : OpKind
  /-- VA -/
  va : Option OpKind
  /-- VB -/
  vb : Option OpKind
  /-- VC -/
  vc : Option OpKind
  deriving DecidableEq, Repr

/-- Every TYPE code. -/
def typesAll : List Nat := [0, 1, 2, 3, 4]

/-- The forms of R147; none for an opcode that is not of format V. -/
def vForm (opc : Nat) : Option VForm :=
  match opc with
  | 0x01 | 0x02 | 0x03 | 0x06 | 0x07 | 0x19 | 0x1C => some ⟨typesAll, .vec, some .vec, some .vec, none⟩
  | 0x04 | 0x05 => some ⟨typesAll, .vec, some .vec, some .vec, some .vec⟩
  | 0x08 | 0x09 | 0x0E | 0x0F | 0x10 | 0x11 | 0x1B | 0x1D => some ⟨typesAll, .vec, some .vec, none, none⟩
  | 0x0A | 0x0B | 0x0C => some ⟨[0, 1], .vec, some .vec, none, none⟩
  | 0x0D => some ⟨[0], .vec, some .vec, none, none⟩
  | 0x12 | 0x13 | 0x14 | 0x15 | 0x16 | 0x17 => some ⟨[2, 3, 4], .vec, some .vec, some .vec, none⟩
  | 0x18 => some ⟨typesAll, .pred, some .vec, some .vec, none⟩
  | 0x1A => some ⟨[0, 1, 2, 3, 4, 5, 6, 7], .pred, some .pred, some .pred, none⟩
  | 0x1E => some ⟨typesAll, .scalar, some .vec, none, none⟩
  | 0x1F => some ⟨typesAll, .vec, none, some .scalar, none⟩
  | 0x20 => some ⟨[2, 3, 4], .vec, none, none, none⟩
  | _ => none

/-- A source that the instruction reads has a code of its kind. -/
def optSrcOk (k : Option OpKind) (code : Nat) : Bool :=
  match k with
  | none => true
  | some x => srcOk x code

/-- The conditions of single instructions of format V (R149, R150, R152); a vcvt part k ≥ r is refused (log entry 21), and so are a vcvt
whose source TYPE, and a vnorm whose Berry format, is a code that names none (DESIGN CHOICE, log entry 107). -/
def vExtra (w : U64) : Bool :=
  let imm := vImm w
  match vOpc w with
  | 0x0D => decide (256 ≤ imm % 512) || (decide (vPred w = 0) && decide (imm % 8 ≤ 4))
  | 0x0E =>
    let a := typeWidth (imm % 8)
    let b := typeWidth (vType w)
    decide (imm % 8 ≤ 4) && (decide (a = b) || decide (imm / 8 % 4 < max a b / min a b))
  | 0x18 => decide (imm % 8 ≠ 7)
  | _ => true

/-- An instruction that raises no VE_ILLEGAL by its word alone (R147, R162); a vldb or vstb with FMT 5 to 15 raises it (DESIGN CHOICE, log
entry 107). -/
def vLegal (w : U64) : Bool :=
  let opc := vOpc w
  match vForm opc with
  | some f =>
    f.types.contains (vType w) && dstOk f.dst (vVd w) && optSrcOk f.va (vVa w) && optSrcOk f.vb (vVb w) &&
      optSrcOk f.vc (vVc w) && vExtra w
  | none =>
    if opc = 0x30 then dstOk .vec (vVd w) && decide (vType w ≤ 5)
    else if opc = 0x31 then srcOk .vec (vVd w) && decide (vType w ≤ 5)
    else if opc = 0x32 then dstOk .vec (vVd w) && decide (vType w ≤ 5) && decide (vPred w = 0) && decide (mFmt w ≤ 4)
    else if opc = 0x33 then srcOk .vec (vVd w) && decide (vType w ≤ 5) && decide (vPred w = 0) && decide (mFmt w ≤ 4)
    else if opc = 0x34 ∨ opc = 0x35 then decide (0x60 ≤ vVd w) && decide (vType w = 0)
    else if opc = 0x53 then decide (bType w ≤ 4)
    else (decide (0x40 ≤ opc) && decide (opc ≤ 0x4D)) || (decide (0x50 ≤ opc) && decide (opc ≤ 0x5B))

/-- The vector source codes of an instruction, VA first (R133). -/
def vSources (w : U64) : List Nat :=
  match vForm (vOpc w) with
  | some f =>
    (if f.va = some .vec then [vVa w] else []) ++ (if f.vb = some .vec then [vVb w] else []) ++
      (if f.vc = some .vec then [vVc w] else [])
  | none => if vOpc w = 0x31 ∨ vOpc w = 0x33 then [vVd w] else []

/-- Words that an instruction pops from AQ (R133). -/
def vPops (w : U64) : Nat := (vSources w).countP (· == 0x40)

/-- The instruction pushes to OQ (R133). -/
def vPushes (w : U64) : Bool :=
  decide (vVd w = 0x41) &&
    (match vForm (vOpc w) with
     | some f => decide (f.dst = .vec)
     | none => decide (vOpc w = 0x30) || decide (vOpc w = 0x32))

/-- An instruction of format V pushes to OQ with a TYPE other than 0 (R155). -/
def vPushType (w : U64) : Bool := (vForm (vOpc w)).isSome && decide (vType w ≠ 0)

/-! ## Registers (R129, R130) -/

/-- The physical register that a code below 0x40 names (R130). -/
def physReg (c : Context) (code : Nat) : Nat := if code < 32 then code else 32 + (code - 32 + c.rb.toNat) % 32

/-- A predicate; P0 reads as all ones (R129). -/
def Context.pred (c : Context) (i : Nat) : BitVec 128 := if i = 0 then BitVec.allOnes 128 else SMap.get 0 c.p i

/-- A write of a predicate; P0's is discarded (R129). -/
def Context.setPred (c : Context) (i : Nat) (v : BitVec 128) : Context :=
  if i = 0 then c else { c with p := SMap.set 0 c.p i v }

/-- A scalar; S0 reads as 0 (R129). -/
def Context.scalar (c : Context) (i : Nat) : U64 := if i = 0 then 0 else SMap.get 0 c.sc i

/-- A write of a scalar; S0's is discarded (R129). -/
def Context.setScalar (c : Context) (i : Nat) (v : U64) : Context :=
  if i = 0 then c else { c with sc := SMap.set 0 c.sc i v }

/-- The value of `w` bits in lane i (R131). -/
def laneAt (w i : Nat) (v : BitVec 1024) : Nat := fld v (w * i) w

/-- A register from its lanes, lane 0 first. -/
def packLanes (w : Nat) (l : List Nat) : BitVec 1024 := BitVec.ofNat 1024 (l.foldr (fun x acc => x % 2 ^ w + 2 ^ w * acc) 0)

/-- Every lane holds x. -/
def allLanes (w x : Nat) : BitVec 1024 := packLanes w (List.replicate (1024 / w) x)

/-- Reads a vector source; AQ gives up its oldest word (R133). -/
def takeSource (c : Context) (code w : Nat) : Context × BitVec 1024 :=
  if code < 0x40 then (c, SMap.get 0 c.v (physReg c code))
  else if code = 0x40 then ({ c with aq := c.aq.drop 1 }, c.aq.headD 0)
  else (c, allLanes w (c.scalar (code - 0x60)).toNat)

/-- Reads the vector sources of an instruction in order (R133). -/
def takeSources : Context → List Nat → Nat → Context × List (BitVec 1024)
  | c, [], _ => (c, [])
  | c, code :: t, w =>
    let r := takeSource c code w
    let q := takeSources r.1 t w
    (q.1, r.2 :: q.2)

/-- Lane i of width w is enabled by a predicate (R131). -/
def laneOn (p : BitVec 128) (w i : Nat) : Bool := bitOf p (i * w / 8)

/-- What becomes of a lane of the destination. -/
inductive LaneOut where
  /-- the lane receives a value -/
  | wr (bits : Nat)
  /-- disabled by PRED (R146) -/
  | off
  /-- kept whatever PZ holds -/
  | keep
  deriving DecidableEq, Repr

/-- Writes the destination register or pushes OQ (R133, R146); a lane that an instruction keeps is pushed as 0, since OQ holds no old value
(DESIGN CHOICE, log entry 110). -/
def Context.putVec (c : Context) (w : U64) (width : Nat) (l : List LaneOut) : Context :=
  if vVd w = 0x41 then
    { c with oq := c.oq ++ [packLanes width (l.map (fun o => match o with | .wr b => b | _ => 0))] }
  else
    let r := physReg c (vVd w)
    let old := SMap.get 0 c.v r
    { c with v := SMap.set 0 c.v r (packLanes width (l.zipIdx.map (fun (o, i) =>
        match o with
        | .wr b => b
        | .off => if vPz w then 0 else laneAt width i old
        | .keep => laneAt width i old))) }

/-! ## Draws (R160) -/

/-- The number that context k would draw next in a lane (R66, R67, R160). -/
def State.vecDraw (s : State) (k lane : Nat) : Nat :=
  let n := k / 4
  let init := match s.groveOwner n with
    | none => srInit 0 0 (8 * n + 4) lane
    | some d => srInit (s.obj 0x6020 (d + 1)) (s.obj (0x6100 + 16 * d) 5) (8 * n + 4) lane
  srDraw init (k % 4 * 2 ^ 30 + SMap.get 0 (s.ctx k).draws lane)

/-- The lanes of a list have drawn once more. -/
def Context.countDraws (c : Context) (lanes : List Nat) : Context :=
  { c with draws := lanes.foldl (fun m i => SMap.set 0 m i (SMap.get 0 m i + 1)) c.draws }

/-! ## Addresses (R141) -/

/-- The bytes of a space. -/
def spaceSize (space : Nat) : Nat := if space = 0 then 0x40000 else 0x100000

/-- The device address of byte `off` of a space, seen by context k. -/
def spaceAddr (k space off : Nat) : Nat :=
  if space = 0 then storeAddr (k / 4) (off % 0x40000)
  else tileAddr (if space = 5 then k else 4 * (k / 4) + (space - 1)) (off % 0x100000)

/-- The effective address of a memory instruction within its space (R141). -/
def effAddr (c : Context) (w : U64) (unit : Nat) : Nat :=
  let size := spaceSize (vType w)
  let a := (((c.scalar (mSa w)).toNat : Int) + mOff w * unit) % size
  a.toNat / unit * unit

end Sys2Proof.Machine
end

