-- ==== Sys2Proof/Machine/VecOps.lean ====
section
/-! DEFINITION. Issue in the vector engine: the time slice, the instruction cache, the refusals of R162, the queues of R155, and what the
instruction families share. -/

namespace Sys2Proof.Machine

/-! ## Exceptions (R162, R168, R169) -/

/-- VE_ILLEGAL. -/
def veIllegal : Nat := 1
/-- VE_ACCESS. -/
def veAccess : Nat := 2
/-- VE_QUEUE. -/
def veQueue : Nat := 3
/-- VE_TRAP. -/
def veTrap : Nat := 4

/-- An exception of context k: recorded, the context stops, its tile discards later commands, and the step fails (R162, R169, R179). -/
def State.vecException (s : State) (k code info : Nat) : State :=
  let n := k / 4
  let ix := 0x6200 + n
  let sb := 0x60 + 8 * (k % 4)
  let c := s.ctx k
  let s := if s.bit ix sb 3 then s
    else s.setObj ix (sb + 1) (BitVec.ofNat 64 (info % 2 ^ 16 * 2 ^ 48 + c.tag.toNat * 2 ^ 40 + c.pc.toNat / 8 * 8))
  let s := (s.setF ix sb 8 8 code).event ix sb 0x8
  let s := s.setCtx k { s.ctx k with st := .exception }
  let x := s.tile k
  let s := s.setTile k { x with discard := true, jobs := x.jobs.filter (fun j => !bitOf j.w1 55) }
  s.failStep n statusCommand unitContext (k % 4)

/-! ## Readiness (R136, R155) -/

/-- An EPI command that names the tile is in the queue or executing (R155). -/
def State.epiPending (s : State) (k : Nat) : Bool :=
  (s.tile k).jobs.any (fun j => bitOf j.w1 55) ||
  (s.grove (k / 4)).queue.any (fun e =>
    decide (fld e.word 60 4 = 2) && bitOf e.word 8 && bitOf e.word 119 && bitOf e.word (56 + k % 4) && !bitOf e.done (k % 4))

/-- Vectors that the tile's EPI commands still await from OQ (R155, R173, R176): what the commands that have fed have not had returned, and the
whole wave of a command that the tile has reached and that has not fed yet. A command still behind others in the queue awaits none (DEDUCED,
log entry 106). -/
def State.epiAwaited (s : State) (k : Nat) : Nat :=
  (s.tile k).jobs.foldl (fun acc j =>
    if bitOf j.w1 55 then acc + ((fld j.w0 42 7 + 1) - ((List.range (fld j.w0 42 7 + 1)).countP (fun v => bitOf j.masked v))
      - j.returned) else acc) 0 +
  (s.reachedEpi (k / 4) (k % 4) 32).foldl (fun acc w => acc + fld w 42 7 + 1) 0

/-- The output vectors that the tile's EPI commands still await, oldest first, with word 1 of their command. Of a command that has not fed
yet every vector is named. -/
def State.awaitedVectors (s : State) (k : Nat) : List (U64 × Nat) :=
  ((s.tile k).jobs.filter (fun j => bitOf j.w1 55)).flatMap (fun j =>
    ((fedVectors (fld j.w0 42 7 + 1) j.masked).drop j.returned).map (fun u => (j.w1, u))) ++
  (s.reachedEpi (k / 4) (k % 4) 32).flatMap (fun w => (List.range (fld w 42 7 + 1)).map (fun u => (w.extractLsb' 64 64, u)))

/-- The bytes of the tile's SRAM that the words in OQ are to be written to, as (address, length) (R176, R178). -/
def State.pushedBytes (s : State) (k : Nat) : List (Nat × Nat) :=
  ((s.awaitedVectors k).flatMap (fun (w1, u) => (List.range 4).map (fun b =>
    (wordPieces (fld w1 60 4) u b).map (fun (o, n) => (256 * fld w1 43 12 + o, n))))).take (s.ctx k).oq.length |>.flatten

/-- A space of context k is its own tile's SRAM (R141). -/
def ownTile (k space : Nat) : Bool := space == 5 || space == k % 4 + 1

/-- The bytes of its space that a load or store reaches, as (address, length) (R141, R153). -/
def accessBytes (c : Context) (w : U64) : List (Nat × Nat) :=
  let opc := vOpc w
  if opc = 0x30 ∨ opc = 0x31 then [(effAddr c w 128, 128)]
  else if opc = 0x32 ∨ opc = 0x33 then
    ((List.range (berryP (mFmt w))).map (fun i => (planeOff 0 i (mRow w), 4)) ++ [(128 * berryP (mFmt w) + mRow w, 1)]).map
      (fun (o, n) => ((effAddr c w 32 + o) % spaceSize (vType w), n))
  else []

/-- A load or store of the context's own tile SRAM reaches bytes of an earlier OQ push that is not yet written: it waits, so that the two
take effect in program order (R145, R178, R189). -/
def State.meetsPush (s : State) (k : Nat) (w : U64) : Bool :=
  ownTile k (vType w) && !(s.ctx k).oq.isEmpty &&
  (accessBytes (s.ctx k) w).any (fun (a, n) => (s.pushedBytes k).any (fun (b, m) => decide (a < b + m) && decide (b < a + n)))

/-- The vwait of a counter may issue: its count has been taken, or is there with no earlier wait on it (R157, R240). -/
def State.vwaitReady (s : State) (k ctr : Nat) : Bool := (s.ctx k).granted || s.waitNow (k / 4) ctr 1

/-- A push finds a command that awaits output (R155). -/
def State.oqAwaited (s : State) (k : Nat) : Bool := decide ((s.ctx k).oq.length / 4 < s.epiAwaited k)

/-- The instruction word at a context's program counter. -/
def State.vecWord (s : State) (k : Nat) : U64 :=
  BitVec.ofNat 64 ((List.range 8).foldr (fun i acc =>
    (s.byte (storeAddr (k / 4) ((s.ctx k).pc.toNat + i))).toNat + 256 * acc) 0)

/-- What an instruction finds at issue. -/
inductive Issue where
  /-- the context is not ready (R136) -/
  | wait
  /-- an exception with its code and INFO (R162, R169) -/
  | except (code info : Nat)
  /-- the instruction issues -/
  | go
  deriving DecidableEq, Repr

/-- What an instruction word finds at issue in context k, before its own effect (R136, R138, R147, R155 to R157, R178, R179). -/
def State.vecIssue (s : State) (k : Nat) (w : U64) : Issue :=
  let c := s.ctx k
  let n := k / 4
  let opc := vOpc w
  if !vLegal w then .except veIllegal (fld w 48 16)
  else if s.meetsPush k w then .wait
  else if c.aq.length < vPops w then (if s.epiPending k then .wait else .except veQueue 1)
  else if vPushes w then
    (if vPushType w then .except veQueue 2
     else if !s.oqAwaited k then .except veQueue 2
     else if 16 ≤ c.oq.length then .wait
     else .go)
  else if opc = 0x4C then (if 32 ≤ (s.grove n).queue.length then .wait else .go)
  else if opc = 0x56 then
    (if !s.maySignal n (bImm w) then .except veIllegal (fld w 48 16)
     else if !c.oq.isEmpty || !s.signalRoom n (bImm w) then .wait
     else .go)
  else if opc = 0x57 then
    (match waitCounter n (bImm w) with
     | none => .except veIllegal (fld w 48 16)
     | some ctr => if s.vwaitReady k ctr then .go else .wait)
  else if opc = 0x5A then .except veTrap (bImm w)
  else if opc = 0x5B then
    (if 4 ≤ c.oq.length then .wait
     else if !c.aq.isEmpty || !c.oq.isEmpty || decide (0 < s.epiAwaited k) then .except veQueue 3
     else .go)
  else .go

/-- Context k can issue an instruction now: it runs, and its engine is neither stopped nor failed. -/
def State.ctxRuns (s : State) (k : Nat) : Bool :=
  decide ((s.ctx k).st = .running) && !(s.grove (k / 4)).engineStopped && !s.engineFailed (k / 4)

/-- The context is ready (R136). -/
def State.vecReady (s : State) (k : Nat) : Bool :=
  s.ctxRuns k && decide (s.vecIssue k (s.vecWord k) ≠ .wait)

/-! ## Issue (R127, R137, R144, R171) -/

/-- A vloop that is taken to a target other than itself: it issues in no cycle (R154). -/
def State.foldedLoop (s : State) (k : Nat) (w : U64) : Bool :=
  decide (vOpc w = 0x54) && decide ((s.ctx k).scalar (sSd w) ≠ 1) && decide (bOff w ≠ 0)

/-- The cycles an instruction issues in; an illegal word takes one, in which its exception is raised (R137, R144, R162). -/
def State.issueCycles (s : State) (k : Nat) (w : U64) : Nat :=
  if vLegal w = false then 1 else if vOpc w = 0x0A ∨ vOpc w = 0x0B then 4 else if s.foldedLoop k w then 0 else 1

/-- The fetch of context k's instruction: a line not held is filled from the local store, the oldest of 16 dropped (R126, R127;
log entry 22). -/
def State.vecFetch (s : State) (k : Nat) : State × U64 :=
  let n := k / 4
  let pc := (s.ctx k).pc.toNat
  let g := s.grove n
  if g.icache.contains (pc / 256) then (s, s.vecWord k)
  else
    let r := s.readMem (storeAddr n (pc / 256 * 256)) 256 (s.groveOwner n) true
    let g := r.1.grove n
    (r.1.setGrove n { g with icache := (pc / 256 :: g.icache).take 16, engineStopped := g.engineStopped || r.2.2 },
     BitVec.ofNat 64 (ofLe (sliceBytes r.2.1 (pc % 256) 8)))

/-- Counts the issue cycles of an instruction (R137, R171). -/
def State.useCycles (s : State) (k cycles : Nat) : State :=
  let n := k / 4
  let g := s.grove n
  (s.setGrove n { g with sliceLeft := g.sliceLeft - cycles }).count (0x6200 + n) (0x63 + 8 * (k % 4)) 0 64 cycles

/-- The context goes on at an address. -/
def State.setPc (s : State) (k a : Nat) : State := s.setCtx k { s.ctx k with pc := BitVec.ofNat 18 a }

/-- The address after the present instruction. -/
def State.nextPc (s : State) (k : Nat) : Nat := (s.ctx k).pc.toNat + 8

/-- Issues the instruction of opcode `opc` in context k where its slice owns the issue unit with the cycles that the instruction takes
left (DEDUCED, log entry 113), and the word at its PC is that instruction; an illegal word raises VE_ILLEGAL whatever the command (R137, R147, R162). `act` gives the effect, PC included. -/
def State.issue (s : State) (k opc : Nat) (act : State → U64 → State) : State :=
  let n := k / 4
  if !s.ctxRuns k || decide ((s.grove n).owner ≠ some (Fin.ofNat 4 (k % 4))) then s
  else
    let r := s.vecFetch k
    let w := r.2
    if (r.1.grove n).sliceLeft < s.issueCycles k w then s
    else if !vLegal w then (r.1.useCycles k 1).vecException k veIllegal (fld w 48 16)
    else if vOpc w ≠ opc then s
    else
      match r.1.vecIssue k w with
      | .wait => r.1.setGrove n { r.1.grove n with sliceLeft := 0 }
      | .except code info => (r.1.useCycles k 1).vecException k code info
      | .go => act (r.1.useCycles k (r.1.issueCycles k w)) w

/-- The effect of an instruction that goes on at the next one. -/
def State.issueNext (s : State) (k opc : Nat) (act : State → U64 → State) : State :=
  s.issue k opc (fun s w => (act s w).setPc k (s.nextPc k))

/-! ## Lane operations (R131, R146, R161) -/

/-- Runs a lane operation: `f` makes of lane i its values of VA, VB and VC and its draw a result with flags, for the lanes that PRED
enables; `draws` says that the operation is a rounding point of R67. -/
def State.vecLanes (s : State) (k : Nat) (w : U64) (width : Nat) (draws : Bool)
    (f : Nat → Nat → Nat → Nat → Rounded) : State :=
  let r := takeSources (s.ctx k) (vSources w) width
  let p := r.1.pred (vPred w)
  let on := (List.range (1024 / width)).filter (laneOn p width)
  let draw := draws && decide (vRm w = 2)
  let res : List (Option Rounded) := (List.range (1024 / width)).map (fun i =>
    if laneOn p width i then
      some (f (laneAt width i (r.2.getD 0 0)) (laneAt width i (r.2.getD 1 0)) (laneAt width i (r.2.getD 2 0))
        (if draw then s.vecDraw k i else 0))
    else none)
  let c := r.1.putVec w width (res.map (fun o => match o with | some x => .wr x.bits | none => .off))
  let c := if draw then c.countDraws on else c
  (s.setCtx k c).raiseVecFlags k (res.foldl (fun a o => match o with | some x => a ||| x.flags | none => a) 0)

/-- An operation on numbers: on Hazel types `fh` rounded by R69, on integer types `fi` narrowed by R79 (R148). -/
def State.vecArith (s : State) (k : Nat) (w : U64) (draws : Bool) (fh : Val → Val → Val → Val) (fi : Int → Int → Int → Int) : State :=
  let ty := vType w
  let width := typeWidth ty
  if ty ≤ 1 then
    let h := typeHazel ty
    s.vecLanes k w width draws (fun a b c r => toHazel h (vRm w) (vSat w) r (fh (hazelVal h a) (hazelVal h b) (hazelVal h c)))
  else s.vecLanes k w width false (fun a b c _ => intResult width (vIs w) (fi (signed width a) (signed width b) (signed width c)))

/-- A bit operation or a move on lanes: no flag, no draw (R148). -/
def State.vecBits (s : State) (k : Nat) (w : U64) (f : Nat → Nat → Nat) : State :=
  s.vecLanes k w (typeWidth (vType w)) false (fun a b _ _ => ⟨f a b, 0⟩)

/-! ## Memory (R128, R141, R145) -/

/-- A read of the engine (R128, R537): an uncorrectable word stops the engine. -/
def State.vecRead (s : State) (k space off n : Nat) : State × List Byte :=
  let r := s.readMem (spaceAddr k space off) n (s.groveOwner (k / 4)) true
  (if r.2.2 then r.1.setGrove (k / 4) { r.1.grove (k / 4) with engineStopped := true } else r.1, r.2.1)

/-- Tile SRAM lines that a store of n bytes at an offset reaches belong to the Stand (R162, VE_ACCESS). -/
def State.vecOwned (s : State) (k space off n : Nat) : Bool :=
  decide (space = 0) ||
  (match s.groveOwner (k / 4) with
   | none => false
   | some d => s.ownsRange d (spaceAddr k space off) n)

/-- A store of the engine. -/
def State.vecWrite (s : State) (k space off : Nat) (data : List Byte) (en : Nat → Bool) : State :=
  (s.writeMem (spaceAddr k space off) data en (s.groveOwner (k / 4))).1

end Sys2Proof.Machine
end

