-- ==== Sys2Proof/Machine/Faults.lean ====
section
/-! DEFINITION. Hangs, the stewards, Ranger and the self-tests (17_faults_recovery.md). -/

namespace Sys2Proof.Machine

/-! ## Hangs (R542) -/

/-- A command of the grove queue's tiles could go on: it changes the queue (R82, R101). -/
def State.queueMoves (s : State) (g : GroveId) (k : Fin 32) : Bool :=
  let len (o : Host.Outcome State Fault Refusal) : Bool := match o with
    | .next t => decide (t.grove g.val ≠ s.grove g.val)
    | _ => false
  len (execWload g k s) || len (execMmul g k (Vector.replicate 4 0) 0 s) || len (execVstart g k s) || len (execTsig g k s)

/-- A tile holds work that waits on nothing outside itself (R542): output the writer can produce, or a command that can run at it. -/
def State.tileBusy (s : State) (t : Nat) : Bool :=
  (s.tile t).jobs.any (fun j => !bitOf j.w1 55) ||
  (List.range (s.grove (t / 4)).queue.length).any (fun i =>
    match (s.grove (t / 4)).queue[i]? with
    | some e => (qTiles e.word).contains (t % 4) && !bitOf e.done (t % 4) && s.queueMoves (Fin.ofNat 224 (t / 4)) (Fin.ofNat 32 i)
    | none => false)

/-- A vector engine holds work that waits on nothing outside itself: a ready context (R136, R542). -/
def State.engineBusy (s : State) (n : Nat) : Bool := (List.range 4).any (fun t => s.vecReady (4 * n + t))

/-- A stream engine holds work that waits on nothing outside itself: a running slot that awaits nothing (R542). -/
def State.streamBusy (s : State) (n : Nat) : Bool :=
  (List.range 8).any (fun q => (s.slot (8 * n + q)).st == .running && (s.slot (8 * n + q)).hold == .none)

/-- One sample of a unit: whether its counter has changed since the last one is a free value (log entry 4). -/
def State.sampleUnit (s : State) (key n : Nat) (busy failed : Bool) (kind : UnitKind) (unit : Nat) : State :=
  if failed || !busy then { s with stalls := SMap.set 0 s.stalls key 0 }
  else
    let moved := bitOf s.drawn 0
    let s := s.advance
    if moved then { s with stalls := SMap.set 0 s.stalls key 0 }
    else
      let k := SMap.get 0 s.stalls key + 1
      if s.getF 0xA001 1 0 10 / 10 ≤ k then
        { s with stalls := SMap.set 0 s.stalls key 0 }.report (mkReport .unitHang (groveDie n) (s.groveOwner n) kind unit 0)
      else { s with stalls := SMap.set 0 s.stalls key k }

/-- HANG_SAMPLE (R542): a steward samples its die's units; a steward that samples is in order again (R543). It goes on while Ranger is down:
what R553 pauses is Ranger's watch over the stewards (log entry 70). -/
def execHangSample (d : DieId) (s : State) : Host.Outcome State Fault Refusal :=
  if s.wideMark (12 + d.val) then .next s
  else
    let s := { s with stewards := SMap.set 0 s.stewards d.val 0 }
    .next ((List.range 56).foldl (fun s g =>
      let n := 56 * d.val + g
      if (s.groveOwner n).isNone then s
      else
        let s := (List.range 4).foldl (fun s t => s.sampleUnit (4 * n + t) n (s.tileBusy (4 * n + t)) (s.tileFailed (4 * n + t)) .tile (4 * n + t)) s
        let s := s.sampleUnit (1000 + n) n (s.engineBusy n) (s.engineFailed n) .engine n
        s.sampleUnit (2000 + n) n (s.streamBusy n) (s.groveFailed n) .stream n) s)

/-! ## Stewards (R543) -/

/-- The enabled Stands with groves or Clearings on a die. -/
def State.standsOn (s : State) (d : Nat) : List Nat := (List.range 8).filter (fun k => s.enabled k && (s.recoveryDies k).getLsbD d)

/-- HEARTBEAT_TIMEOUT (R543): STEWARD_HANG; Ranger restarts the steward. -/
def execHeartbeatTimeout (d : DieId) (s : State) : Host.Outcome State Fault Refusal :=
  if s.wideMark (12 + d.val) ∨ s.ranger ≠ .up ∨ SMap.get 0 s.stewards d.val ≠ 0 then .next s
  else
    let s := { s with stewards := SMap.set 0 s.stewards d.val 1 }
    .next (s.takeRecord { mkReport .stewardHang d.val none .steward d.val 0 with stands := (s.standsOn d.val).map (Fin.ofNat 8) } false)

/-- STEWARD_RESTART_TIMEOUT (R543, R540): a second restart, then the steward is marked failed. -/
def execStewardRestartTimeout (d : DieId) (s : State) : Host.Outcome State Fault Refusal :=
  match SMap.get 0 s.stewards d.val with
  | 1 => .next { s with stewards := SMap.set 0 s.stewards d.val 2 }
  | 2 =>
    let who := s.standsOn d.val
    let s := { s with stewards := SMap.set 0 s.stewards d.val 0 }.setWideMark (12 + d.val) true
    let caught := (List.range 8).filter (fun k => (s.stand k).phase == .fenced || (s.stand k).phase == .recovering)
    .next ((who ++ caught).foldl State.stick s)
  | _ => .next s

/-! ## Ranger (R552 to R554) -/

/-- A management reset begins: Ranger and its private memory, the MAC's queue, the management interfaces' queues and the sessions (R32, R33,
R480, R552). -/
def State.rangerDown (s : State) : State :=
  { (((List.range 4).map managementNode).foldl State.resetNode s) with ranger := .down, sessions := [], halfOpen := [], rxFrames := [] }

/-- RANGER_WATCHDOG (R552). -/
def execRangerWatchdog (s : State) : Host.Outcome State Fault Refusal :=
  if s.ranger = .up ∨ s.ranger = .handoff then .next { s.rangerDown with watchdog := true } else .next s

/-- Ranger serves again (R441, R552 to R554): the entry of the watchdog, the held records in order, the stage of each recovery, and the
scrubbers that stopped. -/
def State.rangerUp (s : State) : State :=
  let wd := s.watchdog
  let s := { s with ranger := if s.getF 0x5000 2 0 4 = 5 then .handoff else .up, watchdog := false }.count 0xA003 3 0 32 1
  let s := if wd then
      s.writeLog { code := 0x0804, die := 0, stand := none, kind := .none, unit := 0, outcome := outcomeNone, level := 0, down := false, detail := 0, addr := 0 }
    else s
  let held := s.heldRecords
  let s := held.foldl (fun s e => if s.recordMuted e then s else s.takeRecord e true) { s with heldRecords := [] }
  let s := (List.range 8).foldl State.rangerDecides s
  let st := s.getF 0x5000 2 0 4
  if st = 0 ∨ st = 7 then s
  else
    { s.setF 0x5000 10 0 4 15 with
      scrubAt := (List.range 4).foldl (fun m d => if s.bit 0x5000 10 d then m else SMap.set 0 m d 0) s.scrubAt }

/-! ## Self-tests (R538 to R541, R561) -/

/-- A test waits. -/
def State.hasTest (s : State) (u : TestUnit) : Bool := s.tests.any (fun t => t.unit == u)
/-- A test is done, and updates its entries (R556). -/
def State.endTest (s : State) (u : TestUnit) (pass : Bool) : State :=
  let logs := (s.tests.filter (fun t => t.unit == u)).flatMap (fun t => t.logs)
  { s with tests := s.tests.filter (fun t => t.unit != u) }.logOutcome logs (if pass then outcomeTransient else outcomeLasting)

/-- SelfTestReq has a test of a kind and unit in progress (R561). -/
def State.asked (s : State) (kind unit : Nat) : Bool := s.selfTest.any (fun v => v / 2 ^ 24 % 16 == kind && v % 65536 == unit)

/-- The request of SelfTestReq is done. -/
def State.endAsked (s : State) (pass : Bool) : State :=
  ({ s with selfTest := none }.setF 0xA001 2 31 1 0).setF 0xA001 2 28 2 (if pass then 1 else 2)

/-- A unit's owner is where tests run: in its apply phase or waiting at its boundary; a unit that no Stand owns is tested at once (R42). -/
def State.mayTest (s : State) (o : Option Nat) : Bool :=
  match o with
  | none => true
  | some d => (s.stand d).phase == .applied || (s.stand d).phase == .held

/-- A unit of grove `n` may be tested now: its owner is where tests run, or, where the test was asked for, the unit is failed; and its grove
agent is clocked (R36, R42). -/
def State.testRuns (s : State) (n : Nat) (failed asked : Bool) : Bool :=
  s.coreOn (groveDie n) && (s.mayTest (s.groveOwner n) || (asked && failed))

/-- TILE_SELF_TEST (R114, R539, R561). UNIT_FAILED is set where the fault marks the unit failed, not where it was marked before (R541,
log entry 45). -/
def execTileSelfTest (t : TileRef) (pass : Bool) (s : State) : Host.Outcome State Fault Refusal :=
  let n := t.grove.val
  let k := t.num
  let asked := s.asked 1 k
  let o := s.groveOwner n
  let was := s.tileFailed k
  if (!asked && !s.bit (0x6200 + n) (16 * (t.tile.val + 1)) 0) || !s.testRuns n was asked then .next s
  else
    let s := (s.setTile k Tile.reset).testResult (.tile t) pass
    if pass then .next (if asked then s.markTile k false else s)
    else .next (if was then s else s.unitOf o)

/-- ENGINE_SELF_TEST (R163, R539, R561). -/
def execEngineSelfTest (g : GroveId) (pass : Bool) (s : State) : Host.Outcome State Fault Refusal :=
  let n := g.val
  let asked := s.asked 2 n
  let o := s.groveOwner n
  let was := s.engineFailed n
  if (!asked && !s.bit (0x6200 + n) 0x50 0) || !s.testRuns n was asked then .next s
  else
    let s := ((List.range 4).foldl (fun s t => s.setCtx (4 * n + t) Context.reset) s).testResult (.engine g) pass
    if pass then .next (if asked then s.markEngine n false else s)
    else .next (if was then s else s.unitOf o)

/-- STREAM_ENGINE_TEST (R538, R539, R561). -/
def execStreamEngineTest (g : GroveId) (pass : Bool) (s : State) : Host.Outcome State Fault Refusal :=
  let n := g.val
  let o := s.groveOwner n
  if !s.asked 3 n || !s.testRuns n (s.groveFailed n) true then .next s
  else
    let was := s.groveFailed n
    let s := s.testResult (.stream g) pass
    if pass then .next (s.markGrove n false) else .next (if was then s else s.unitOf o)

/-- The saved data of an SRAM line are written back: a word that was uncorrectable gets check bits that give syndrome 0xFF (R538, T3). -/
def State.rewriteLine (s : State) (a : Nat) : State :=
  (List.range 32).foldl (fun s i =>
    let w := a / 8 + i
    match s.sramFinding w with
    | .ok => s
    | .corrected d => s.storeWord w d
    | _ => s.setSramDiff w 0xFF) s

/-- SRAM_LINE_TEST (T3 of R538, R539): at the owner's boundary or in its recovery. -/
def execSramLineTest (addr : BitVec 44) (pass : Bool) (s : State) : Host.Outcome State Fault Refusal :=
  let a := 256 * (addr.toNat / 256)
  let o := (List.range 8).find? (fun d => s.ownsByte d a)
  let inRecovery := match o with | some d => (s.stand d).phase == .recovering && (s.stand d).stage == 6 | none => false
  if !s.hasTest (.sramLine a) || !(s.mayTest o || inRecovery) then .next s
  else
    let s := (s.rewriteLine a).endTest (.sramLine a) pass
    if pass then .next s else .next ((s.markWord addr.toNat).unitOf o)

/-- The saved data of a stack line are written back; an uncorrectable word keeps a check field that leaves it so (R538, T4). -/
def State.rewriteStackLine (s : State) (a : Nat) : State :=
  (List.range 8).foldl (fun s i =>
    let w := a / 32 + i
    match s.stackFinding w with
    | .corrected d => s.storeStackWord w d
    | _ => s) s

/-- DRAM_LINE_TEST (T4 of R538, R539): a lasting fault poisons the line for good; a full table raises STK_FAIL. -/
def execDramLineTest (addr : BitVec 44) (pass : Bool) (s : State) : Host.Outcome State Fault Refusal :=
  let a := 256 * (addr.toNat / 256)
  let k := (stackMap a).stack
  if !s.hasTest (.dramLine a) then .next s
  else
    let s := (s.rewriteStackLine a).endTest (.dramLine a) pass
    if pass then .next s
    else if SMap.get 0 (s.stack k).poison (a / 256) = 0 ∧ 256 ≤ (s.stack k).poison.length then
      .next (s.report (mkReport .stkFail (k / 2) none .none k 0))
    else .next (s.setStack k { s.stack k with poison := SMap.set 0 (s.stack k).poison (a / 256) 2 })

/-- DRAM_LINK_TEST (T5 of R538, R539): a lasting fault is STK_FAIL. -/
def execDramLinkTest (k : StackId) (pc : PcId) (pass : Bool) (s : State) : Host.Outcome State Fault Refusal :=
  if !s.hasTest (.dramLink k.val pc.val) then .next s
  else
    let s := s.endTest (.dramLink k.val pc.val) pass
    if pass then .next s else .next (s.report (mkReport .stkFail (k.val / 2) none .none k.val 0))

/-- LINK_FAIL of an output set or cleared by Ranger (R327). -/
def State.setLinkFail (s : State) (r o : Nat) (b : Bool) : State :=
  if s.linkFailed r o == b then s
  else if b then { s with rerouteDue := true }.event (0x6600 + r) 1 (2 ^ (10 + o)) else s.setF (0x6600 + r) 1 (10 + o) 1 0

/-- NETWORK_LINK_TEST (T6 of R538, R539, R561): at once; a link that passes is restored. -/
def execNetworkLinkTest (r : RouterId) (o : OutPort) (pass : Bool) (s : State) : Host.Outcome State Fault Refusal :=
  let u : TestUnit := .netLink r.val (portNum o)
  let asked := s.asked 5 (6 * r.val + portNum o)
  if !s.hasTest u && !asked then .next s
  else
    let s := s.endTest u pass
    let s := if asked then s.endAsked pass else s
    .next (s.setLinkFail r.val (portNum o) (!pass)).reroute

/-- The unit that a node serves fails with its router (R539). -/
def State.failNode (s : State) (node : Nat) : State :=
  match attachOf node with
  | .grove n => (s.markGrove n true).unitOf (s.groveOwner n)
  | .clearing c => (s.markClearing c).unitOf (s.clearingOwner c)
  | .understory d _ => s.failWide (8 + d)
  | .stack k _ => s.failStack k
  | .xannus p => s.clearPort p
  | .pcie => s.failWide 20
  | _ => s

/-- The links of a router, in both directions: router and output. -/
def routerLinks (r : Nat) : List (Nat × Nat) :=
  (List.range 6).map (fun o => (r, o)) ++
  (List.range 4).filterMap (fun o => (neighbour r (portOf o)).map (fun m => (m, portNum (oppositePort (portOf o)))))

/-- ROUTER_TEST (T7 of R538, R539, R561): a lasting fault fails the router, its links and every unit that it serves. -/
def execRouterTest (r : RouterId) (pass : Bool) (s : State) : Host.Outcome State Fault Refusal :=
  let u : TestUnit := .router r.val
  let asked := s.asked 4 r.val
  if !s.hasTest u && !asked then .next s
  else
    let s := s.endTest u pass
    let s := if asked then s.endAsked pass else s
    if pass then
      (if asked && s.failedBit 24 r.val then
        .next ((routerLinks r.val).foldl (fun s l => s.setLinkFail l.1 l.2 false) (s.setFailedBit 24 r.val false))
       else .next s)
    else if s.failedBit 24 r.val then .next s
    else
      let s := (routerLinks r.val).foldl (fun s l => s.setLinkFail l.1 l.2 true) (s.setFailedBit 24 r.val true)
      .next ((s.failNode (2 * r.val)).failNode (2 * r.val + 1)).reroute

/-- FRAME_REREAD (T8 of R538, R539): one of the next three scrub passes reads the frame again. -/
def execFrameReread (frame : BitVec 32) (pass : Bool) (s : State) : Host.Outcome State Fault Refusal :=
  let a := frame.toNat
  let d := a / 2 ^ 30
  let r := a / 2 ^ 23 % 128
  match s.tests.findSome? (fun t => match t.unit with | .frame b k => if b = a then some (k, t.logs) else none | _ => none) with
  | none => .next s
  | some (k, logs) =>
    if pass ∧ k < 2 then
      .next { s with tests := s.tests.map (fun t => if t.unit == TestUnit.frame a k then ⟨.frame a (k + 1), logs⟩ else t) }
    else
      let s := s.endTest (.frame a k) pass
      if pass then .next s
      else if r < 24 then .next ((s.markClearing (24 * d + r)).unitOf (s.clearingOwner (24 * d + r)))
      else if r < 80 then .next ((s.markGrove (56 * d + (r - 24)) true).unitOf (s.groveOwner (56 * d + (r - 24))))
      else
        let s := s.setWideMark (16 + d) true
        let s := (List.range 56).foldl (fun s g => s.markGrove (56 * d + g) true) s
        let s := (List.range 24).foldl (fun s c => s.markClearing (24 * d + c)) s
        .next ((s.standsOn d).foldl (fun s k => s.unitOf (some k)) s)

end Sys2Proof.Machine
end

