-- ==== Sys2Proof/Machine/Configuration.lean ====
section
/-! DEFINITION. Loading, scrubbing, writing and switching images (13_configuration.md), and the rollback minima (R581, R582). -/

namespace Sys2Proof.Machine

/-! ## ImageStatus (R447) -/

/-- STATE. -/
def State.imageState (s : State) : Nat := s.getF 0x5000 2 0 4
/-- Sets STATE. -/
def State.setImageState (s : State) (v : Nat) : State := s.setF 0x5000 2 0 4 v
/-- FALLBACK_CAUSE of a refused image, with the bits of its event: 0x800 SWITCH_FAIL, 0x400 NV_WRITE_FAIL. -/
def State.imageRefused (s : State) (cause bits : Nat) : State := (s.setF 0x5000 2 12 4 cause).event 0x5000 2 bits

/-! ## The load at power-up (R434, R435, R602) -/

/-- An image's contents marked INIT that go to the root stacks wait for STATE 2 (R434). -/
def State.fillsReady (s : State) (r : Reconfig) : Bool :=
  r.fills.all (fun f => !isStack f.1) || (List.range 8).all (fun k => s.getF (0x8020 + k) 2 0 2 == 2)

/-- Dictionary defaults that an image carries, outside 0x2000 and 0x4000 (R430, type 0x08). -/
def State.applyDefaults (s : State) (image : Nat) : State :=
  (Config.imageDefaults image).foldl (fun s e =>
    if e.1 / 0x1000 = 2 ∨ e.1 / 0x1000 = 4 ∨ (objInfo e.1 e.2.1).isNone then s else s.setObj e.1 e.2.1 e.2.2) s

/-- A full image is in every die whose AREF is locked, and in the current copy; every Clearing's release starts; the scrubbers run (R434,
R436, R440, R599). -/
def State.loadImage (s : State) (r : Reconfig) (release : Nat) : State :=
  let s := { s with
    cfg := r.frames.filter (fun e => !bitOf s.arefLost (e.1 / 20480))
    cfgDiff := [], shadow := r.frames, shadowDiff := [], decoded := r.frames, frameMap := r.map
    shadowRelease := BitVec.ofNat 64 release, scrubAt := [] }
  let s := s.writeFills r.fills
  let s := (List.range 96).foldl (fun s c =>
    if bitOf s.arefLost (c / 24) then s else ((s.setClearing c { s.clearing c with image := r.image }).declareBanks c).startRelease c) s
  ((s.applyDefaults r.image).setF 0x5000 10 0 4 15)

/-- BOOT_LOAD (R434, R435, R583, R602): the active slot, or Heartwood. -/
def execBootLoad (s : State) : Host.Outcome State Fault Refusal :=
  if s.booted = false ∨ s.ranger ≠ .up ∨ s.imageState ≠ 0 then .next s
  else
    let slot := s.activeB
    let s := s.setF 0x5000 2 5 1 (if slot then 1 else 0)
    let heart : ImageSrc := s.nvImage heartwoodBase
    let work : ImageSrc := s.nvImage (slotBase slot)
    let load (s : State) (i : ImageSrc) (source : Nat) : State :=
      let r := decodeImage i none
      if s.fillsReady r then
        (((s.loadImage r (imgRelease i)).setF 0x5000 2 6 2 source).setImageState 1).checkReady
      else s
    if s.minimaOk = false then .next ((s.setF 0x5000 2 6 2 3).setImageState 7)
    else
      let strap := decide (s.getF 0x1002 1 0 2 = 1)
      let c := if strap then 1 else s.imageCause work slotSize true
      if c = 0 then .next (load s work (if slot then 1 else 0))
      else
        let s' := if strap then s else s.imageRefused c 0
        let h := s.imageCause heart heartwoodSize true
        if h = 0 then
          (if s.fillsReady (decodeImage heart none) then .next (load s' heart 2) else .next s)
        else
          let s' := if strap then s.imageRefused h 0 else s'
          .next ((s'.setF 0x5000 2 6 2 3).setImageState 7)

/-! ## Partial images (R438, R439) -/

/-- A partial request is refused (R449). -/
def State.partialRefused (s : State) (code : Nat) : State := (s.setF 0x5000 9 12 4 code).event 0x5000 9 0

/-- Reads an image's bytes from device memory; none where a byte cannot be read. -/
def State.deviceImage (s : State) (who : Option Nat) (a n : Nat) : Option (State × List Byte) :=
  let r := s.readNow who a n
  if r.2.2 = 0 ∧ n ≠ 0 then some (r.1, r.2.1) else none

/-- An image in a list of bytes. -/
def listImage (l : List Byte) : ImageSrc := fun k => l.getD k 0

/-- PartialReq (R439): `who` is the Stand of the requesting function, none for the physical function. -/
def State.partialReq (s : State) (who : Option Nat) (w0 w1 : U64) : State :=
  let s := (s.setObjW 0x5000 7 0 w0).setObjW 0x5000 7 1 w1
  let region := fld w1 2 7
  let die := fld w1 0 2
  let addr := fld w0 0 44
  let c := 24 * die + region
  let n := 56 * die + (region - 24)
  let owner : Option Nat := if region < 24 then s.clearingOwner c else if region < 80 then s.groveOwner n else none
  let busy := s.switch.isSome || (decide (region < 24) && (s.clearing c).next.isSome) ||
    (decide (24 ≤ region) && decide (region < 80) && (SMap.get none s.groveNext n).isSome)
  if busy then
    (let s := s.partialRefused 8
     if region < 24 ∧ (s.clearing c).next.isSome = true then s.clearingEvent c 0x2000 else s)
  else if (match who with | some d => decide (owner ≠ some d) | none => false) then s.partialRefused 9
  else if 80 ≤ region then s.partialRefused 1
  else
    let fromStore := !bitOf w0 63
    let head : ImageSrc := if fromStore then s.nvImage (partialBase + addr) else fun k => s.byte (addr + k)
    let len := imgLength head
    let got : Option (State × ImageSrc × Nat) :=
      if fromStore then (if addr % 4096 = 0 ∧ addr < partialSize then some (s, head, partialSize - addr) else none)
      else if len < 4104 then some (s, head, len)
      else (s.deviceImage who addr len).map (fun r => (r.1, listImage r.2, len))
    match got with
    | none => s.partialRefused (if fromStore then 1 else 9)
    | some (s, i, limit) =>
      let cause := s.imageCause i limit false
      if cause ≠ 0 then s.partialRefused cause
      else if (imgKind i = 2 ∧ (24 ≤ region ∨ imgTargets i / 2 ^ region % 2 = 0)) ∨ (imgKind i = 3 ∧ region < 24) then s.partialRefused 1
      else
        let r := decodeImage i (some (die, region))
        let s := s.setF 0x5000 9 0 1 1
        if region < 24 then
          (let s := s.setClearing c { s.clearing c with next := some r }
           if owner = none then s.beginReconfig c r else s)
        else
          match owner with
          | none => s.reconfigGrove n r
          | some d => if s.waitingStand d then s.reconfigGrove n r else { s with groveNext := SMap.set none s.groveNext n (some r) }

/-! ## The scrubber (R440, R441) -/

/-- A frame of a region that is isolated or being restored (R440). -/
def State.frameSkipped (s : State) (f : Nat) : Bool :=
  let d := f / 20480
  let r := frameRegion f
  let recovering (o : Option Nat) : Bool := match o with | some k => (s.stand k).phase == .recovering || (s.stand k).phase == .fenced | none => false
  if r < 24 then s.clearingState (24 * d + r) != 3 || recovering (s.clearingOwner (24 * d + r))
  else if r < 80 then recovering (s.groveOwner (56 * d + (r - 24)))
  else false

/-- The record of a scrubber's finding (R31, R441). -/
def State.scrubRecord (s : State) (f : Nat) (err : CheckedError) : ErrorReport :=
  let d := f / 20480
  let r := frameRegion f
  let ess := (SMap.get 0 s.frameMap f).getLsbD 0
  let stands : List StandId :=
    if !ess then [] else if r < 24 then standList (s.clearingOwner (24 * d + r)) else if r < 80 then standList (s.groveOwner (56 * d + (r - 24)))
    else ((List.range 8).filter s.enabled).map (Fin.ofNat 8)
  { mkReport err d none .frame 0 (frameAddr f) with stands := stands, essential := ess }

/-- SCRUB_FRAME (R440, R441, R445): the next frame of a die. -/
def execScrubFrame (d : DieId) (s : State) : Host.Outcome State Fault Refusal :=
  if !s.bit 0x5000 10 d.val then .next s
  else
    let p := SMap.get 0 s.scrubAt d.val % 20480
    let f := 20480 * d.val + p
    let s := { s with scrubAt := SMap.set 0 s.scrubAt d.val ((p + 1) % 20480) }
    if s.frameSkipped f || (SMap.get 0 s.frameMap f).getLsbD 1 then .next s
    else
      let frame := SMap.get 0 s.cfg f
      let l := frameFindings frame (fun i => SMap.get 0 s.cfgDiff (128 * f + i))
      let clean (s : State) : State := { s with cfgDiff := SMap.eraseAll s.cfgDiff (fun w => w / 128 == f) }
      if allGood l then .next s
      else if !hasBad l then
        let s := clean { s with cfg := SMap.set 0 s.cfg f (correctFrame frame l) }
        .next (((s.countSat (0x5010 + d.val) 1 32 32 1).event 0x5000 10 0x1000).report (s.scrubRecord f .cfgCe))
      else
        let shadow := SMap.get 0 s.shadow f
        let m := frameFindings shadow (fun i => SMap.get 0 s.shadowDiff (128 * f + i))
        if hasBad m then
          let t := { s with
            shadow := SMap.set 0 s.shadow f (SMap.get 0 s.decoded f)
            shadowDiff := SMap.eraseAll s.shadowDiff (fun w => w / 128 == f) }
          .next ((t.event 0x5000 10 0x4000).report { s.scrubRecord f .cfgShadowUe with stands := [], essential := false })
        else
          let s := clean { s with cfg := SMap.set 0 s.cfg f (correctFrame shadow m) }
          .next (((s.countSat (0x5010 + d.val) 1 0 32 1).event 0x5000 10 0x2000).report (s.scrubRecord f .cfgUe))

/-- CFG_SCRUB_PARITY (R441): the scrubber stops; Ranger, where it is up, restarts it at frame 0. -/
def execCfgScrubParity (d : DieId) (s : State) : Host.Outcome State Fault Refusal :=
  if !s.bit 0x5000 10 d.val then .next s
  else
    let s := ((s.setF 0x5000 10 d.val 1 0).event 0x5000 10 0x8000).report (mkReport .cfgScrubParity d.val none .none 0 0)
    if s.ranger = .up ∨ s.ranger = .handoff then
      .next { s.setF 0x5000 10 d.val 1 1 with scrubAt := SMap.set 0 s.scrubAt d.val 0 }
    else .next s

/-! ## Writing images (R442) -/

/-- Erases the header of a place: it reads as empty (R442). -/
def State.eraseHeader (s : State) (base : Nat) : State := s.nvWrite base (List.replicate 4096 0)

/-- NvWriteReq (R442, R448), for a DEST_KIND other than 3. -/
def State.nvWriteReq (s : State) (w0 w1 w2 : U64) (interrupted : Bool) : State :=
  let s := ((s.setObjW 0x5000 3 0 w0).setObjW 0x5000 3 1 w1).setObjW 0x5000 3 2 w2
  let kind := fld w1 0 2
  let off := 4096 * fld w1 32 32
  let n := w2.toNat
  let place : Option (Nat × Nat) :=
    if kind = 0 then some (slotBase (!s.activeB), slotSize)
    else if kind = 1 then (if off + n ≤ partialSize then some (partialBase + off, partialSize - off) else none)
    else some (heartwoodBase, heartwoodSize)
  let failed (s : State) : State := s.event 0x5000 2 0x400
  match place with
  | none => failed s
  | some (base, limit) =>
    if limit < n ∨ n < 4104 ∨ (kind = 2 ∧ (s.imageCause (s.nvImage (slotBase false)) slotSize true ≠ 0 ∨
        s.imageCause (s.nvImage (slotBase true)) slotSize true ≠ 0)) then failed s
    else
      match s.deviceImage none (fld w0 0 44) n with
      | none => failed (s.eraseHeader base)
      | some (s, l) =>
        let i := listImage l
        if interrupted ∨ imgLength i ≠ n ∨ s.imageCause i limit (kind ≠ 1) ≠ 0 then
          (let s := (s.nvWrite (base + 4096) (l.drop 4096)).eraseHeader base
           if interrupted then s else failed s)
        else s.nvWrite base l

/-! ## Rollback minima (R581, R582) -/

/-- A raise of a minimum; none where it is refused (R582). -/
def State.raiseMinimum (s : State) (full : Bool) (v : Nat) : Option State :=
  let sb := if full then 1 else 2
  let st := s.imageState
  if v ≤ s.getF 0x2005 sb 0 32 ∨ (full = true ∧ imgVersion (s.nvImage heartwoodBase) < v) ∨ (2 ≤ st ∧ st ≤ 5) ∨ s.bit 0x5000 2 4 = true ∨
      s.bit 0x5000 9 0 = true ∨ s.getF 0x2005 4 0 8 = 0 then none
  else some ((s.setF 0x2005 sb 0 32 v).setF 0x2005 4 0 8 (s.getF 0x2005 4 0 8 - 1))

/-! ## The live switch (R443, R444) -/

/-- The switch ends: STATE 1, SWITCH_REQ 0. -/
def State.endSwitch (s : State) : State := ({ s with switch := none }.setImageState 1).setF 0x5000 1 0 1 0

/-- ImageCtrl.SWITCH_REQ (R443, phase 1): the inactive slot is checked and decoded, and the handoff of the firmware begins. -/
def State.switchReq (s : State) : State :=
  let slot := !s.activeB
  let i : ImageSrc := s.nvImage (slotBase slot)
  if s.switch.isSome ∨ s.imageState ≠ 1 ∨ s.bit 0x5000 9 0 = true ∨ s.bit 0x5000 2 4 = true then s.event 0x5000 2 0x800
  else
    let c := s.imageCause i slotSize true
    if c ≠ 0 then s.imageRefused c 0x800
    else
      let w : Switch := { slotB := slot, conf := decodeImage i none, release := BitVec.ofNat 64 (imgRelease i),
                          version := BitVec.ofNat 32 (imgVersion i), changed := [], current := false }
      ({ s with switch := some w, ranger := .handoff }.setImageState 5).setF 0x5000 1 0 1 1

/-- HANDOFF_TIMEOUT (R443): the old firmware resumes. -/
def State.handoffFails (s : State) : State := { s with ranger := .up }.endSwitch.event 0x5000 2 0x800

/-- Frames [a, a + n) of two stores differ. -/
def framesDiffer (x y : SMap (BitVec 8192)) (a n : Nat) : Bool :=
  x.filter (fun e => decide (a ≤ e.1) && decide (e.1 < a + n)) != y.filter (fun e => decide (a ≤ e.1) && decide (e.1 < a + n))

/-- SWITCH_APPLY (R39, R443, phase 4): every region whose frames differ is reconfigured, the Clearings by their staged releases, once every enabled Stand is at a boundary with its
buffered writes applied and its self-tests run. -/
def execSwitchApply (s : State) : Host.Outcome State Fault Refusal :=
  match s.switch with
  | none => .next s
  | some w =>
    if s.imageState ≠ 3 ∨ (List.range 8).all s.atBoundary = false ∨
        (List.range 8).any (fun d => (s.stand d).phase == .committed || (s.enabled d && s.testsPending d)) = true then .next s
    else
      let differs (a n : Nat) : Bool := framesDiffer w.conf.frames s.shadow a n
      let cs := (List.range 96).filter (fun c => differs (clearingFrames c).1 (clearingFrames c).2)
      let gs := (List.range 224).filter (fun n => differs (groveFrames n).1 (groveFrames n).2)
      let changed := cs.foldl (fun (m : SMap Nat) c => SMap.set 0 m c ((s.clearing c).image + 1)) []
      let s := { s with switch := some { w with conf := { w.conf with begun := true }, changed := changed } }.setImageState 4
      let s := cs.foldl (fun s c =>
        let s := s.beginReconfig c w.conf
        s.setClearing c { s.clearing c with next := none }) s
      let s := gs.foldl (fun s n =>
        (s.writeFrames w.conf.frames (groveFrames n).1 (groveFrames n).2).writeFills
          (w.conf.fills.filter (fun x => match regionOf x.1 with | .localStore m => m == n | .tileSram t => t / 4 == n | _ => false))) s
      .next ((List.range 4).foldl (fun s d =>
        if differs (frameNum d 127 0) 256 then s.writeFrames w.conf.frames (frameNum d 127 0) 256 else s) s).endApply

/-- SWITCH_COMMIT (R443, phase 5, R428, R582): with the staged copy current, the boot control record names the new slot. -/
def execSwitchCommit (s : State) : Host.Outcome State Fault Refusal :=
  match s.switch with
  | none => .next s
  | some w =>
    if s.imageState ≠ 4 ∨ w.current = false then .next s
    else
      let s := (s.nameSlot w.slotB).endSwitch
      let b := if w.slotB then 1 else 0
      let s := (s.setF 0x5000 2 5 1 b).setF 0x5000 2 6 2 b
      if s.bit 0x2005 3 0 && s.getF 0x2005 1 0 32 != w.version.toNat then
        match s.raiseMinimum true w.version.toNat with
        | some t => .next t
        | none => .next (s.event 0x2000 1 0x8000)
      else .next s

/-- ImageCtrl.ABANDON (R443, R446): before phase 4 the staged copy is discarded. -/
def State.abandon (s : State) : State :=
  match s.switch with
  | some _ => if s.imageState = 4 then s else s.endSwitch
  | none => s

end Sys2Proof.Machine
end

