-- ==== Sys2Proof/Machine/Power.lean ====
section
/-! DEFINITION. Sensors, operating points, the power controller and the power cycle (16_sensors_power.md). -/

namespace Sys2Proof.Machine

/-! ## Sensors (R515 to R518) -/

/-- The place of a sensor in the store of sensors: diodes 64 d + i, management diodes 256 + i, root dies 260 + k, voltages 268 + rail,
currents 288 + rail. -/
def sensorNum : Sensor → Nat
  | .diode d i => 64 * d.val + i.val
  | .mgmtDiode i => 256 + i.val
  | .stack k => 260 + k.val
  | .voltage r => 268 + r.val
  | .current r => 288 + r.val

/-- A sensor's state. -/
def State.sensor (s : State) (n : Nat) : SensorState := SMap.get SensorState.reset s.sensors n
/-- A die's power state. -/
def State.die (s : State) (d : Nat) : DiePower := SMap.get DiePower.reset s.diePower d
/-- Sets a die's power state. -/
def State.setDie (s : State) (d : Nat) (x : DiePower) : State := { s with diePower := SMap.set DiePower.reset s.diePower d x }

/-- A signed 16-bit object. -/
def State.s16 (s : State) (ix sb : Nat) : Int := signed 16 (s.obj ix sb).toNat
/-- Sets a signed 16-bit object. -/
def State.setS16 (s : State) (ix sb : Nat) (v : Int) : State := s.setObj ix sb (BitVec.ofNat 64 (toBits 16 v))

/-- Temperature in 1/16 °C (R517): raw + ThermalOffset. -/
def calibTemp (raw : U32) (offset : U64) : Int := signed 16 raw.toNat + signed 16 offset.toNat
/-- Voltage in 100 µV (R517): raw + VoltageTrim, not below 0. -/
def calibVolt (raw : U32) (trim : U64) : Nat := ((raw.toNat : Int) + signed 16 trim.toNat).toNat
/-- Current in mA (R517): to nearest, ties away from zero. -/
def calibCurrent (raw : U32) (gain : U64) : Nat := (raw.toNat * (gain.toNat % 2 ^ 32) + 2 ^ 29) / 2 ^ 30
/-- Power in mW of a voltage in 100 µV and a current in mA, rounded down (R517). -/
def railPower (v i : Nat) : Nat := v * i / 10000

/-- The object of a sensor's reading and the object of its calibration value (R516, R533). -/
def sensorObjects : Sensor → (Nat × Nat) × (Nat × Nat)
  | .diode d i => ((0x3010 + d.val, i.val + 1), (0x4000 + d.val, i.val + 1))
  | .mgmtDiode i => ((0x3014, i.val + 1), (0x4004, i.val + 1))
  | .stack k => ((0x3001, 6 + k.val), (0x4005, k.val + 1))
  | .voltage r => ((0x3020, r.val + 1), (0x4011, r.val + 1))
  | .current r => ((0x3021, r.val + 1), (0x4010, r.val + 1))

/-- The hottest of a row of diodes that are sampled and not faulted: their first sensor, the object that holds them and their number. -/
def State.hottest (s : State) (first ix n : Nat) : Option Int :=
  (((List.range n).filter (fun i => decide ((s.sensor (first + i)).same ≠ 0) && !(s.sensor (first + i)).faulted)).map
    (fun i => s.s16 ix (i + 1))).foldl (fun (m : Option Int) t => match m with | none => some t | some x => some (max x t)) none

/-- A maximum is published; where every diode is faulted the spec gives none, and the value is a free value (log entry 2). -/
def State.setHottest (s : State) (sb : Nat) (m : Option Int) : State :=
  match m with
  | some t => s.setS16 0x3001 sb t
  | none => (s.setS16 0x3001 sb (signed 16 s.drawn.toNat)).advance

/-- Faulted diodes of a fabric die (R518). -/
def State.faultedDiodes (s : State) (d : Nat) : Nat := ((List.range 64).filter (fun i => (s.sensor (64 * d + i)).faulted)).length

/-- A rail is counted in the sums: neither of its senses is faulted (R518). -/
def State.railGood (s : State) (r : Nat) : Bool := !(s.sensor (268 + r)).faulted && !(s.sensor (288 + r)).faulted

/-- The power of a rail for the power loop, in mW: a faulted VDD_CORE current sense counts as 600 A (R518). -/
def State.loopPower (s : State) (r : Nat) : Nat :=
  if (s.sensor (268 + r)).faulted then 0
  else if (s.sensor (288 + r)).faulted then (if r < 4 then railPower (s.obj 0x3020 (r + 1)).toNat 600000 else 0)
  else (s.obj 0x3022 (r + 1)).toNat

/-! ## PowerCtrl and ThermalCtrl (R526, R534) -/

/-- PowerCtrl or ThermalCtrl as the power controller uses it: a value written since its last decision takes effect at the next one (R526). -/
def State.powerWord (s : State) (sb : Nat) : U64 := (s.waitingValue (objKey stagingBank 0x3100 sb 0)).getD (s.obj 0x3100 sb)
/-- A field of PowerCtrl or ThermalCtrl as the power controller uses it. -/
def State.powerF (s : State) (sb lo w : Nat) : Nat := fld (s.powerWord sb) lo w
/-- CAP_W as the power controller uses it. -/
def State.capW (s : State) : Nat := s.powerF 1 0 12
/-- A write of PowerCtrl or ThermalCtrl: the object holds it at once, the controller goes on with the value it uses (R12, R526). -/
def State.writePower (s : State) (sb : Nat) (v : U64) : State :=
  (s.setWaiting (objKey stagingBank 0x3100 sb 0) (some (s.powerWord sb))).setObj 0x3100 sb v
/-- The power controller takes the written values at a decision (R526). -/
def State.takePower (s : State) : State :=
  (s.setWaiting (objKey stagingBank 0x3100 1 0) none).setWaiting (objKey stagingBank 0x3100 2 0) none

/-! ## Operating points (R522 to R524) -/

/-- ACLK of a point, in MHz (R522). -/
def pointMHz (p : Nat) : Nat := [2250, 2000, 1750, 1500, 1250, 1000, 750, 500].getD p 500
/-- Base VDD_CORE of a point, in mV (R522). -/
def pointBase (p : Nat) : Nat := [800, 770, 740, 720, 700, 700, 700, 700].getD p 700
/-- The VDD_CORE setpoint of a point on a die, in mV (R522). -/
def State.setpoint (s : State) (d p : Nat) : Nat := pointBase p + (s.die d).guard
/-- The point of a die (R533). -/
def State.point (s : State) (d : Nat) : Nat := s.getF 0x3100 4 (3 * d) 3
/-- CoreSetpoint of a die follows a point. -/
def State.driveSetpoint (s : State) (d p : Nat) : State := s.setObj 0x3101 (d + 1) (BitVec.ofNat 64 (s.setpoint d p))

/-- A die takes a slower point, or stays at its point: the frequency, then the voltage (R524). -/
def State.setPoint (s : State) (d p : Nat) : State :=
  ((s.setF 0x3100 4 (3 * d) 3 p).setDie d { s.die d with raising := none }).driveSetpoint d p

/-- A die starts towards the next faster point: its voltage is raised first (R524). -/
def State.raisePoint (s : State) (d p : Nat) : State := (s.setDie d { s.die d with raising := some p }).driveSetpoint d p

/-- CORE_VID of a die (R597): the code of the setpoint, 0x64 while CORE_EN is low. -/
def State.coreVid (s : State) (d : Nat) : Nat :=
  if s.bit 0x3100 3 (4 + d) then (s.obj 0x3101 (d + 1)).toNat - 600 else 0x64

/-- ALERT_N is asserted (R531). -/
def State.alert (s : State) : Bool :=
  let v := s.obj 0x3100 3
  let m := s.obj 0x3100 5
  [0, 1, 15, 14, 13, 12].zipIdx.any (fun (b, i) => bitOf v b && bitOf m i)

/-- THERMTRIP_N is asserted (R530). -/
def State.tripped (s : State) : Bool := s.bit 0x3100 3 10

/-! ## Limits -/

/-- THROTTLE_C, CRITICAL_C and STACK_THROTTLE_C in 1/16 °C (R534). -/
def State.throttleC (s : State) : Int := 16 * (s.powerF 2 0 8 : Int)
/-- CRITICAL_C. -/
def State.criticalC (s : State) : Int := 16 * (s.powerF 2 8 8 : Int)
/-- STACK_THROTTLE_C. -/
def State.stackC (s : State) : Int := 16 * (s.powerF 2 16 8 : Int)

/-- The point that a die's thermal state demands (R529); 0 where it demands none. -/
def State.thermalPoint (s : State) (d : Nat) : Nat :=
  let t := s.s16 0x3001 (d + 1)
  let p := s.point d
  if s.throttleC ≤ t then min 7 (p + 1)
  else if (s.die d).crit ∨ s.throttleC - 80 ≤ t then p
  else 0

/-- The slowest point of TOP_POINT and the die's usable points (R518, R523, R526). -/
def State.usable (s : State) (d : Nat) : Nat :=
  max (s.powerF 1 12 3) (max (s.die d).fastest (if (s.die d).slow then 4 else 0))

/-! ## Commands -/

/-- The consequences of a fabric diode's sample: DieTempMax, the hold at P4, and CRITICAL_C (R518, R529). -/
def State.dieHeat (s : State) (d : Nat) : State :=
  let s := s.setHottest (d + 1) (s.hottest (64 * d) (0x3010 + d) 64)
  let s := if 4 ≤ s.faultedDiodes d then s.setDie d { s.die d with slow := true } else s
  let t := s.s16 0x3001 (d + 1)
  if s.criticalC ≤ t ∧ (s.die d).crit = false then
    let s := (s.setDie d { s.die d with crit := true }).setPoint d 7
    ((s.event 0x3100 3 0x8000).setF 0x3100 3 1 1 1).logPower 0x0902 .none 0
  else if t < s.throttleC - 80 then s.setDie d { s.die d with crit := false }
  else s

/-- One 10 µs sample of all rails is complete (R517, R526, R533): the sum, the energy and the power loop's sample. -/
def State.closeSample (s : State) : State :=
  let p := ((List.range 20).filter s.railGood).foldl (fun acc r => acc + (s.obj 0x3022 (r + 1)).toNat) 0
  let q := (List.range 20).foldl (fun acc r => acc + s.loopPower r) 0
  let e := s.energyRest + p
  let s := (s.setObj 0x3000 1 (BitVec.ofNat 64 (p % 2 ^ 32))).count 0x3000 2 0 64 (e / 100000)
  { s with energyRest := e % 100000, packageSamples := (s.packageSamples ++ [q]).drop (s.packageSamples.length + 1 - 10)
           telemetrySamples := s.telemetrySamples + 1 }

/-- The reading of a sensor is published. -/
def State.publish (s : State) (x : Sensor) (raw : U32) : State :=
  let o := (sensorObjects x).1
  let c := s.obj (sensorObjects x).2.1 (sensorObjects x).2.2
  match x with
  | .voltage r =>
    let s := s.setObj o.1 o.2 (BitVec.ofNat 64 (calibVolt raw c % 2 ^ 32))
    s.setObj 0x3022 (r.val + 1) (BitVec.ofNat 64 (railPower (s.obj 0x3020 (r.val + 1)).toNat (s.obj 0x3021 (r.val + 1)).toNat % 2 ^ 32))
  | .current r =>
    let s := s.setObj o.1 o.2 (BitVec.ofNat 64 (calibCurrent raw c % 2 ^ 32))
    s.setObj 0x3022 (r.val + 1) (BitVec.ofNat 64 (railPower (s.obj 0x3020 (r.val + 1)).toNat (s.obj 0x3021 (r.val + 1)).toNat % 2 ^ 32))
  | _ => s.setS16 o.1 o.2 (calibTemp raw c)

/-- The sensor is faulted after a sample (R518): diodes by their reading, rail senses by their converter's range. -/
def sensorFaulty (x : Sensor) (t : Int) (same : Nat) (inRange : Bool) : Bool :=
  match x with
  | .diode _ _ => decide (t < -640) || decide (2400 < t) || decide (100 ≤ same)
  | .mgmtDiode _ => decide (t < -640) || decide (2400 < t) || decide (100 ≤ same)
  | .stack _ => false
  | _ => !inRange

/-- StackStatus.REFRESH_RATE by the temperature of the stack's own sensor, in 1/16 °C: tREFI is halved from 85 °C on and normal again below
80 °C (R277, R296). -/
def State.setRefreshRate (s : State) (k : Nat) (t : Int) : State :=
  if 16 * 85 ≤ t then s.setF (0x8020 + k) 2 4 2 1 else if t < 16 * 80 then s.setF (0x8020 + k) 2 4 2 0 else s

/-- A stack's sample: its root die activates half as often from STACK_THROTTLE_C on, until 5 °C below it (R529). -/
def State.stackHeat (s : State) (k : Nat) : State :=
  let t := s.s16 0x3001 (6 + k)
  let lim := s.stackC
  if lim ≤ t then { s with stackHot := SMap.set false s.stackHot k true }
  else if t < lim - 80 then { s with stackHot := SMap.set false s.stackHot k false }
  else s

/-- SENSOR_SAMPLE (R515 to R518, R526, R529, R533). The current of rail 19 is the last sample of the rails' 10 µs set (log entry 40). -/
def execSensorSample (x : Sensor) (raw : BitVec 32) (inRange : Bool) (s : State) : Host.Outcome State Fault Refusal :=
  let n := sensorNum x
  let old := s.sensor n
  let same := if old.same ≠ 0 ∧ old.raw = raw then old.same + 1 else 1
  let s := s.publish x raw
  let bad := sensorFaulty x (s.s16 (sensorObjects x).1.1 (sensorObjects x).1.2) same inRange
  let s := { s with sensors := SMap.set SensorState.reset s.sensors n ⟨raw, same, bad⟩ }
  let s := if bad ∧ old.faulted = false then s.event 0x3100 3 0x2000 else s
  match x with
  | .diode d _ => .next (s.dieHeat d.val)
  | .mgmtDiode _ => .next (s.setHottest 5 (s.hottest 256 0x3014 4))
  | .stack k =>
    .next ((s.setRefreshRate k.val (s.s16 0x3001 (6 + k.val))).stackHeat k.val)
  | .voltage _ => .next s
  | .current r => .next (if r.val = 19 then s.closeSample else s)

/-- The sum of fractions. -/
def sumFractions (l : List (Nat × Nat)) : Nat × Nat := l.foldl (fun acc x => (acc.1 * x.2 + x.1 * acc.2, acc.2 * x.2)) (0, 1)

/-- The projection of R527 allows the dies `up` to move one point faster: A_p ≤ 0.97 × CAP_W, in mW, exactly. -/
def State.projectionFits (s : State) (sum n : Nat) (up : List Nat) : Bool :=
  let core (d : Nat) : Nat := s.loopPower d
  let terms := up.map (fun d =>
    let p := s.point d
    (core d * (pointMHz (p - 1) * (s.setpoint d (p - 1)) ^ 2), pointMHz p * (s.setpoint d p) ^ 2))
  let t := sumFractions ((sum, n) :: terms)
  let back := (up.map core).foldl (· + ·) 0
  let cap := s.capW
  decide (100 * t.1 ≤ t.2 * (97 * 1000 * cap + 100 * back))

/-- POWER_DECISION (R526 to R529): written PowerCtrl and ThermalCtrl take effect, then each die takes its point. -/
def execPowerDecision (s : State) : Host.Outcome State Fault Refusal :=
  let s := s.takePower
  let n := s.packageSamples.length
  let sum := s.packageSamples.foldl (· + ·) 0
  let s := { s with packageSamples := [] }
  let floor (d : Nat) : Nat := max (s.usable d) (s.thermalPoint d)
  let loop := s.bit 0x3100 1 31
  let excess := decide (n ≠ 0) && decide (s.getF 0x3100 1 0 12 * 1000 * n < sum)
  let up := (List.range 4).filter (fun d => decide (floor d < s.point d))
  let rise := if loop then !excess && decide (n ≠ 0) && s.projectionFits sum n up else true
  let target (d : Nat) : Nat :=
    let p := s.point d
    let capped := if loop && excess then min 7 (p + 1) else if rise then p - 1 else p
    max capped (floor d)
  let points := (List.range 4).map target
  let held := (List.range 4).any (fun d => decide (s.usable d < s.thermalPoint d))
  let capped := (List.range 4).any (fun d => decide (max (s.getF 0x3100 1 12 3) (s.thermalPoint d) < points.getD d 0))
  let s := (List.range 4).foldl (fun s d =>
    let s := s.setDie d { s.die d with limited := false }
    if points.getD d 0 < s.point d then s.raisePoint d (points.getD d 0) else s.setPoint d (points.getD d 0)) s
  .next ((s.setF 0x3100 3 0 1 (b2n capped)).setF 0x3100 3 1 1 (b2n held))

/-- POINT_RAISE_SETTLED (R524): the sensed VDD_CORE, in 100 µV, is within 1% of the new setpoint. -/
def execPointRaiseSettled (d : DieId) (sensed : BitVec 32) (s : State) : Host.Outcome State Fault Refusal :=
  match (s.die d.val).raising with
  | some p =>
    let v := 10 * s.setpoint d.val p
    if 99 * v ≤ 100 * sensed.toNat ∧ 100 * sensed.toNat ≤ 101 * v then .next (s.setPoint d.val p) else .next s
  | none => .next s

/-- CURRENT_LIMIT (R528): the rail of a die carries more than 600 A. -/
def execCurrentLimit (d : DieId) (s : State) : Host.Outcome State Fault Refusal :=
  if (s.sensor (288 + d.val)).faulted = true ∨ (s.obj 0x3021 (d.val + 1)).toNat ≤ 600000 then .next s
  else
    let s := (s.setDie d.val { s.die d.val with limited := true }).setPoint d.val 7
    .next ((s.event 0x3100 3 0x4000).logPower 0x0903 .rail d.val)

/-- The thermal sensors that can trip the device, with their thresholds in 1/16 °C (R530). -/
def tripThreshold : Sensor → Option Int
  | .diode _ _ => some 1840
  | .mgmtDiode _ => some 1840
  | .stack _ => some 1680
  | _ => none

/-- THERMTRIP (R530, R551): CORE_EN falls, any recovery stops, and Stands stay fenced. -/
def execThermtrip (x : Sensor) (s : State) : Host.Outcome State Fault Refusal :=
  match tripThreshold x with
  | none => .next s
  | some limit =>
    if (s.sensor (sensorNum x)).faulted = true ∨ s.s16 (sensorObjects x).1.1 (sensorObjects x).1.2 < limit ∨ s.tripped = true then .next s
    else
      let s := ((s.setF 0x3100 3 10 1 1).setF 0x3100 3 4 4 0).setF 0x3100 3 2 1 0
      .next (s.fenceForGood.logPower 0x0901 .none 0)

/-- RAIL_FAULT (R531): the event; no point changes and nothing is reset. -/
def State.railFault (s : State) (r : Nat) : State := (s.event 0x3100 3 0x1000).logPower 0x0904 .rail r

/-- RAIL_FAULT (R531). -/
def execRailFault (r : RailId) (s : State) : Host.Outcome State Fault Refusal := .next (s.railFault r.val)

/-- DROOP (R525). -/
def execDroop (d : DieId) (s : State) : Host.Outcome State Fault Refusal :=
  .next ((s.count (0x3030 + d.val) 1 0 64 1).setDie d.val { s.die d.val with droop := true })

/-- DROOP_END (R525). -/
def execDroopEnd (d : DieId) (s : State) : Host.Outcome State Fault Refusal :=
  .next (s.setDie d.val { s.die d.val with droop := false })

/-- AGEING_UPDATE (R523): Ranger reads the monitors of a die, in ppm of slowdown; it pauses while Ranger is down. -/
def execAgeingUpdate (d : DieId) (ppm : List (BitVec 32)) (s : State) : Host.Outcome State Fault Refusal :=
  if s.ranger ≠ .up ∧ s.ranger ≠ .handoff then .next s
  else
    let d := d.val
    let m := ppm.foldl (fun acc x => max acc x.toNat) 0
    let old := s.die d
    let s := s.setObj (0x3030 + d) 2 (BitVec.ofNat 64 m)
    let guard := max old.guard (min 50 ((m + 999) / 1000))
    let fastest := ((List.range 8).find? (fun p => decide (pointBase p + guard ≤ 850))).getD 7
    let s := s.setDie d { old with guard := guard, fastest := fastest }
    let s := s.driveSetpoint d (match old.raising with | some p => p | none => s.point d)
    .next (if old.fastest < fastest then s.event 0x3100 3 0x800 else s)

/-! ## The power cycle (R532) -/

/-- A mark that stops the device from stepping any Stand (R540, R550). -/
def State.deviceWide (s : State) : Bool :=
  (List.range 22).any (fun k => s.wideMark k && (decide (k < 16) || decide (19 < k)))

/-- CORE_EN[3:0] high and every die at P7 (R532, R603). -/
def State.coresUp (s : State) : State := (List.range 4).foldl (fun s d => s.setPoint d 7) (s.setF 0x3100 3 4 4 15)

/-- Frames of every grove and Clearing from the shadow, and the staged release of the Clearings that no Stand owns (R37, R532). -/
def State.restoreCompute (s : State) : State :=
  let s := s.writeFrames s.shadow 0 81920
  (List.range 96).foldl (fun s c => if s.clearingOwner c = none ∧ s.clearingState c = 4 then (s.declareBanks c).startRelease c else s) s

/-- A VDD_CORE rail is not within 3% of its setpoint 20 ms after its CORE_EN rises at power-up (R604): RAIL_FAULT, one power cycle, then
the compute mark. -/
def State.railsLate (s : State) (slow : List RailId) : State :=
  let late := slow.filter (fun r => decide (r.val < 4))
  if late.isEmpty ∨ s.computeReady = true ∨ s.getF 0x3100 3 4 4 = 0 then s
  else
    let s := late.foldl (fun s r => s.railFault r.val) s
    if s.coreRetry then s.setWideMark 21 true else { s.beginCycle with coreRetry := true }

/-- POWER_CYCLE (R532, R604): the cycle in progress runs to its end, where `slow` lists the VDD_CORE rails that are still above 0.10 V after
20 ms; with none in progress `slow` lists the rails that are late at power-up. A thermal trip ends a cycle with CORE_EN low. -/
def execPowerCycle (slow : List RailId) (s : State) : Host.Outcome State Fault Refusal :=
  let ds := (List.range 8).filter (fun d => s.enabled d && !(s.stand d).stuck)
  if s.bit 0x3100 3 2 = false then .next (s.railsLate slow)
  else if (!ds.isEmpty && !s.computeDue 5) = true then .next s
  else
    let s := (slow.filter (fun r => r.val < 4)).foldl (fun s r => s.railFault r.val) s
    let s := (s.computeDone.coresUp.restoreCompute).setF 0x3100 3 2 1 0
    .next s

/-- Recovery action 0x03 (R487, R532, R550): the cycle starts at once, and every Stand that no device-wide mark holds recovers with it. -/
def State.cycleByAction (s : State) : State :=
  if s.tripped then s
  else if s.deviceWide then s.beginCycle
  else
    let s := s.beginCycle
    (List.range 8).foldl (fun s d =>
      if s.enabled d then
        let s := (s.setStand d { s.stand d with stuck := false }).startRecovery d 5 [] [] []
        (s.giveUp d).setStand d { s.stand d with phase := .recovering, stage := 5, level := 5, left := [], leftClearings := [], again := false }
      else s) s

end Sys2Proof.Machine
end

