-- ==== Sys2Proof/Machine/Security.lean ====
section
/-! DEFINITION. Identity, attestation, keys and debug access (18_security.md). -/

namespace Sys2Proof.Machine

/-! ## SecurityStatus (R586) -/

/-- KEYSET_VALID follows the fuses (R565, R586). -/
def State.showKeySets (s : State) : State :=
  s.setF 0x2000 1 0 4 (ofBitsLsb ((List.range 4).map (fun k => s.keySetValid s.fuses k)))

/-- An event of SecurityStatus: 0x8000 SIGN_REFUSED, 0x4000 KEY_CHANGED. -/
def State.securityEvent (s : State) (bits : Nat) : State := s.event 0x2000 1 bits

/-- Debug access is unlocked (R584). -/
def State.debugOpen (s : State) : Bool := s.bit 0x2000 1 7

/-! ## The HSS index (R568 to R570) -/

/-- The next unused index q. -/
def State.hssIndex (s : State) : Nat := (s.obj 0x2001 5).toNat

/-- A copy of the mark. -/
def State.hssMark (s : State) (k : Nat) : HssMark := SMap.get HssMark.reset s.hssMarks k
/-- The copy in force: the one with the higher sequence number. -/
def State.bestMark (s : State) : Nat := if (s.hssMark 1).seq ≤ (s.hssMark 0).seq then 0 else 1
/-- The mark M. -/
def State.mark (s : State) : Nat := (s.hssMark s.bestMark).mark.toNat

/-- Sets q, HSS_LOW and HSS_EXHAUSTED (R570, R586). -/
def State.setIndex (s : State) (q : Nat) : State :=
  let s := s.setObj 0x2001 5 (BitVec.ofNat 64 q)
  (s.setF 0x2000 1 5 1 (b2n (decide (2 ^ 40 < q + 2 ^ 30)))).setF 0x2000 1 4 1 (b2n (decide (2 ^ 40 ≤ q)))

/-- Before index M is used, M + 1,024 is written to the older copy (R569). -/
def State.reserveIndex (s : State) : State :=
  let k := s.bestMark
  let m := s.hssMark k
  if m.mark.toNat ≤ s.hssIndex then
    { s with hssMarks := SMap.set HssMark.reset s.hssMarks (1 - k) ⟨m.mark + 1024, m.seq + 1⟩ }
  else s

/-! ## Measurements and reports (R572, R573) -/

/-- The image that a BOOT_SOURCE names (R447). -/
def State.sourceImage (s : State) (src : Nat) : Option ImageSrc :=
  match src with
  | 0 => some (s.nvImage (slotBase false))
  | 1 => some (s.nvImage (slotBase true))
  | 2 => some (s.nvImage heartwoodBase)
  | _ => none

/-- The image whose firmware runs: the staged one once its handoff is done, else the image in force (R443). -/
def State.firmwareImage (s : State) : Option ImageSrc :=
  match s.switch with
  | some w => if s.imageState = 5 then s.sourceImage (s.getF 0x5000 2 6 2) else some (s.nvImage (slotBase w.slotB))
  | none => s.sourceImage (s.getF 0x5000 2 6 2)

/-- The bytes of an image's sections of a type. -/
def sectionBytes (i : ImageSrc) (ty : Nat) : List Byte :=
  ((imgSections i).filter (fun x => x.type == ty)).flatMap (fun x => imgBytes i x.off x.len)

/-- The 1,024 data bytes of each frame of the current copy of a die (R573). -/
def State.shadowBytes (s : State) (d : Nat) : List Byte :=
  (List.range 20480).flatMap (fun f => leBytes 1024 (SMap.get 0 s.shadow (20480 * d + f)).toNat)

/-- The words of a record as bytes. -/
def State.recordBytes (s : State) (ix sb n : Nat) : List Byte := (List.range n).flatMap (fun w => leBytes 8 (s.objW ix sb w).toNat)

/-- Words of CalibrationSet (R521): 85, the last one the CRC-64. -/
def State.calibrationBytes (s : State) : List Byte :=
  let offsets := (List.range 256).map (fun i => s.obj (0x4000 + i / 64) (i % 64 + 1)) ++ (List.range 4).map (fun i => s.obj 0x4004 (i + 1)) ++
    (List.range 8).map (fun i => s.obj 0x4005 (i + 1))
  let gains := (List.range 20).map (fun r => s.obj 0x4010 (r + 1))
  let trims := (List.range 20).map (fun r => s.obj 0x4011 (r + 1))
  let l := leBytes 8 (s.obj 0x1020 1).toNat ++ leBytes 4 1 ++ leBytes 4 0 ++ offsets.flatMap (fun v => leBytes 2 v.toNat) ++
    gains.flatMap (fun v => leBytes 4 v.toNat) ++ trims.flatMap (fun v => leBytes 2 v.toNat)
  l ++ leBytes 8 (crcBytes 64 0x42F0E1EBA9EA3693 0 l)

/-- RecoveryKeyCheck as R580 gives it for a key; 0 for no key. -/
def keyCheck (key : BitVec 384) : Nat :=
  if key = 0 then 0
  else ofLe (sliceBytes (leBytes 48 (Config.hmac384 key ("Harip-check1".toList.map (fun c => BitVec.ofNat 8 c.toNat))).toNat) 0 4)

/-- RELEASE and DIGEST of a measured image; an empty place has a digest of zeros (R573). -/
def imageMeasure : Option ImageSrc → Nat × BitVec 384
  | none => (0, 0)
  | some i => if imageEmpty i then (0, 0) else (imgRelease i, Config.sha384 (imgBytes i 0 (imgSig i)))

/-- The measurement of an ID: RELEASE and DIGEST (R573). -/
def State.measure (s : State) (id : Nat) : Nat × BitVec 384 :=
  let firmware (ty : Nat) : Nat × BitVec 384 :=
    match s.firmwareImage with
    | some i => (0, Config.sha384 (sectionBytes i ty))
    | none => (0, 0)
  match id with
  | 1 => (0, Config.bootRomDigest)
  | 2 => firmware 1
  | 3 => firmware 2
  | 4 => imageMeasure (s.sourceImage (s.getF 0x5000 2 6 2))
  | 5 => imageMeasure (s.sourceImage 0)
  | 6 => imageMeasure (s.sourceImage 1)
  | 7 => imageMeasure (s.sourceImage 2)
  | 8 => (0, Config.sha384 (s.shadowBytes 0))
  | 9 => (0, Config.sha384 (s.shadowBytes 1))
  | 10 => (0, Config.sha384 (s.shadowBytes 2))
  | 11 => (0, Config.sha384 (s.shadowBytes 3))
  | 12 => (0, Config.sha384 ((List.range 4).flatMap s.keySet ++ [BitVec.ofNat 8 s.fuses]))
  | 13 => (0, Config.sha384 (leBytes 4 (s.getF 0x2005 1 0 32) ++ leBytes 4 (s.getF 0x2005 2 0 32) ++ leBytes 8 (64 - s.getF 0x2005 4 0 8)))
  | 14 => (0, Config.sha384 (s.calibrationBytes.take 0x2A0))
  | 15 => (0, Config.sha384 ((List.range 8).flatMap (fun k => s.recordBytes 0x2003 (k + 1) 13) ++ leBytes 4 (s.getF 0x2004 2 0 32)))
  | _ => (0, 0)

/-- The bytes 0x000-0x40F of a report; TIME is a free value (R572, log entry 4). -/
def State.reportBody (s : State) (nonce : BitVec 256) (q : Nat) (time : U64) : List Byte :=
  let flags := b2n s.debugOpen + 2 * b2n (decide (s.getF 0x5000 2 6 2 = 2)) + 4 * b2n (s.bit 0x2000 1 6)
  [0x56, 0x4B, 0x41, 0x54, 0x54, 0x45, 0x53, 0x54] ++ leBytes 2 1 ++ leBytes 2 flags ++ leBytes 4 15 ++ leBytes 32 nonce.toNat ++
  leBytes 8 (s.obj 0x1020 1).toNat ++ leBytes 4 (s.obj 0x7001 1).toNat ++ leBytes 4 (s.getF 0x2005 1 0 32) ++ leBytes 8 q ++ leBytes 8 time.toNat ++
  (List.range 15).flatMap (fun i =>
    let m := s.measure (i + 1)
    leBytes 4 (i + 1) ++ leBytes 4 0 ++ leBytes 8 m.1 ++ leBytes 48 m.2.toNat)

/-- A whole report, 4,744 bytes (R572). -/
def State.reportBytes (s : State) (nonce : BitVec 256) (q : Nat) (time : U64) : List Byte :=
  let body := s.reportBody nonce q time
  body ++ sliceBytes (Config.ecdsaSign (Config.sha384 body)) 0 96 ++ leBytes 4 3604 ++ sliceBytes (Config.hssSign q body) 0 3604

/-- A report is signed with the next index, or refused (R570, R584): whether the request is beyond 100 a second is a free value (log
entry 4). -/
def State.signReport (s : State) (nonce : BitVec 256) : State × Option (List Byte) :=
  if s.debugOpen then (s, none)
  else if 2 ^ 40 ≤ s.hssIndex then (s.securityEvent 0x8000, none)
  else
    let excess := bitOf s.drawn 0
    let s := s.advance
    if excess then (s.securityEvent 0x8000, none)
    else
      let q := s.hssIndex
      let s := s.reserveIndex
      let time := s.drawn
      let s := s.advance
      ((s.setIndex (q + 1)), some (s.reportBytes nonce q time))

/-- A KEY_EXCHANGE transcript is signed with the ECDSA identity key (R575); not while debug access is unlocked (R584). -/
def State.signTranscript (s : State) (digest : BitVec 384) : Option (List Byte) :=
  if s.debugOpen then none else some (sliceBytes (Config.ecdsaSign digest) 0 96)

/-- SIGN_REQUEST (R568, R570). -/
def execSignRequest (q : SignKind) (s : State) : Host.Outcome State Fault Refusal :=
  if s.booted = false then .next s
  else
    match q with
    | .report nonce =>
      let r := s.signReport nonce
      .next (r.1.send (.spdm (if r.2.isSome then 4 else 0) (r.2.getD [])))
    | .transcript digest =>
      match s.signTranscript digest with
      | some l => .next (s.send (.spdm 3 l))
      | none => .next (s.send (.spdm 0 []))

/-! ## SPDM (R574, R575) -/

/-- VENDOR_DEFINED_REQUEST (R575): the report, carried in chunks. -/
def execVendorDefinedRequest (standard vendor : BitVec 16) (nonce : BitVec 256) (s : State) : Host.Outcome State Fault Refusal :=
  if s.booted = false then .next s
  else if (standard, vendor) ≠ Config.spdmVendor then .next (s.send (.spdm 0 []))
  else
    let r := s.signReport nonce
    .next (r.1.send (.spdm (if r.2.isSome then 4 else 0) (r.2.getD [])))

/-- KEY_EXCHANGE (R575): a secured session, its transcript signed with the ECDSA identity key. -/
def execKeyExchange (transcript : List (BitVec 8)) (s : State) : Host.Outcome State Fault Refusal :=
  if s.booted = false then .next s
  else
    match s.signTranscript (Config.sha384 transcript) with
    | some l => .next ({ s with spdmSecured := true }.send (.spdm 3 l))
    | none => .next (s.send (.spdm 0 []))

/-- IDE_KM (R494, R575). -/
def execIdeKm (stream : Fin 5) (key : BitVec 256) (secured : Bool) (s : State) : Host.Outcome State Fault Refusal :=
  if secured ∧ s.spdmSecured then .next ({ s with ideKeys := SMap.set 0 s.ideKeys stream.val key }.send (.spdm 5 []))
  else .next (s.send (.spdm 0 []))

/-- GET_MEASUREMENTS (R574): one digest, all of them (index 0xFF), or their number (index 0), without signature. -/
def execGetMeasurements (index : BitVec 8) (s : State) : Host.Outcome State Fault Refusal :=
  let i := index.toNat
  if s.booted = false then .next s
  else if i = 0 then .next (s.send (.spdm 2 [15]))
  else if i = 0xFF then .next (s.send (.spdm 2 ((List.range 15).flatMap (fun k => leBytes 48 (s.measure (k + 1)).2.toNat))))
  else if i ≤ 15 then .next (s.send (.spdm 2 (leBytes 48 (s.measure i).2.toNat)))
  else .next (s.send (.spdm 0 []))

/-- GET_CERTIFICATE (R574): IdentityCertChain from slot 0. -/
def execGetCertificate (slot : BitVec 8) (offset len : BitVec 16) (s : State) : Host.Outcome State Fault Refusal :=
  if s.booted = false then .next s
  else if slot ≠ 0 ∨ 16384 ≤ offset.toNat then .next (s.send (.spdm 0 []))
  else .next (s.send (.spdm 1 ((s.recordBytes 0x2001 3 2048).drop offset.toNat |>.take len.toNat)))

/-! ## Who may write (R454) -/

/-- The Harip session in a place of the session table. -/
def State.session (s : State) (k : Nat) : Option Session := SMap.get none s.sessions k

/-- ROLE and STAND of a key slot (R578). -/
def State.slotRole (s : State) (slot : Nat) : Nat × Nat :=
  if slot = 0 ∨ 8 < slot then (0, 0) else (fld (s.objW 0x2003 slot 12) 0 8, fld (s.objW 0x2003 slot 12) 8 3)

/-- What a requester may do (R454). -/
inductive Right where
  /-- the physical function, or an ADMIN session -/
  | full
  /-- the function of a Stand, or a session of its role -/
  | stand (d : Nat)
  /-- a MONITOR session -/
  | monitor
  /-- no session -/
  | none
  deriving DecidableEq, Repr

/-- The right of a requester (R454). -/
def State.rightOf (s : State) (r : Requester) : Right :=
  match r with
  | .func f => if f.val = 0 then .full else .stand (f.val - 1)
  | .session k =>
    (match s.session k.val with
     | some x =>
       (match s.slotRole x.slot.toNat with
        | (1, _) => .full
        | (2, _) => .monitor
        | (3, d) => .stand d
        | _ => .none)
     | none => .none)
  | .stranger => .none

/-- The requester is the physical function or an ADMIN session. -/
def State.isFull (s : State) (r : Requester) : Bool := s.rightOf r == .full

/-- The requester is an ADMIN session (R579). -/
def isSession : Requester → Bool
  | .session _ => true
  | _ => false

/-! ## Keys (R567, R578 to R580) -/

/-- ImageKeyRevoke (R567); none where it is refused. -/
def State.revokeKeys (s : State) (v : Nat) : Option State :=
  let fuses := s.fuses ||| v % 16
  let fails (base : Nat) : Bool :=
    let i := s.nvImage base
    !imageEmpty i && s.signatureCause fuses i != 0
  if (List.range 4).any (fun k => s.keySetValid fuses k) = false ∨ fails (slotBase false) = true ∨ fails (slotBase true) = true ∨
      fails heartwoodBase = true then none
  else some ((s.setObj 0x2002 5 (BitVec.ofNat 64 fuses)).showKeySets)

/-- Sessions and half-open exchanges of a slot end (R579): a half-open exchange keeps its number and fails at its FINISH. -/
def State.endKeySlot (s : State) (slot : Nat) : State :=
  { s with
    sessions := SMap.eraseAll s.sessions (fun k => match s.session k with | some x => x.slot.toNat == slot | none => false)
    halfOpen := s.halfOpen.map (fun (h : HalfOpen) => if h.slot.toNat = slot then { h with slot := 0 } else h) }

/-- A key slot record is written (R578, R579); none where it is refused. `admin` says that an ADMIN session writes. -/
def State.writeKeySlot (s : State) (slot : Nat) (words : List U64) (admin : Bool) : Option State :=
  let w12 := words.getD 12 0 &&& 0x7FF
  let role := fld w12 0 8
  let key := (words.take 12).flatMap (fun w => leBytes 8 w.toNat)
  let others := (List.range 8).any (fun k => decide (k + 1 ≠ slot) && decide ((s.slotRole (k + 1)).1 = 1))
  let empty := role == 0 && key.all (· == 0)
  if 3 < role ∨ (empty = false ∧ Config.onCurve key = false) ∨ (admin = true ∧ role ≠ 1 ∧ others = false) then none
  else
    let s := ((List.range 12).foldl (fun s w => s.setObjW 0x2003 slot w (words.getD w 0)) s).setObjW 0x2003 slot 12 w12
    some ((s.endKeySlot slot).securityEvent 0x4000)

/-- The recovery key is written or removed (R580). -/
def State.writeRecoveryKey (s : State) (key : BitVec 384) : State :=
  let s := (List.range 6).foldl (fun s w => s.setObjW 0x2004 1 w (key.extractLsb' (64 * w) 64)) s
  (s.setObj 0x2004 2 (BitVec.ofNat 64 (keyCheck key))).securityEvent 0x4000

/-- The recovery key in force. -/
def State.recoveryKey (s : State) : BitVec 384 := BitVec.ofNat 384 (ofLe (s.recordBytes 0x2004 1 6))

/-! ## Debug access (R584) -/

/-- DebugNonce is drawn anew (R585). -/
def State.newDebugNonce (s : State) : State :=
  (List.range 4).foldl (fun s w => (s.setObjW 0x2006 1 w s.drawn).advance) s

/-- The bytes that a token signs: FieldMac and DebugNonce. -/
def State.tokenBody (s : State) : List Byte := leBytes 8 (s.obj 0x1020 1).toNat ++ s.recordBytes 0x2006 1 4

/-- A token of FieldMac, DebugNonce and both signatures checks under R566. -/
def State.tokenOk (s : State) (token : List Byte) : Bool :=
  let body := s.tokenBody
  token.take 40 == body &&
  (List.range 4).any (fun k => s.keySetValid s.fuses k &&
    Config.ecdsaVerify ((s.keySet k).take 96) (Config.sha384 body) (sliceBytes token 40 96) &&
    Config.hssVerify ((s.keySet k).drop 96) body (sliceBytes token 136 3604))

/-- A DebugUnlock write (R584): whether it unlocks, and the new nonce. -/
def State.debugUnlock (s : State) (token : List Byte) : State × Bool :=
  if s.tokenOk token then ((s.setF 0x2000 1 7 1 1).newDebugNonce, true) else (s.newDebugNonce, false)

/-- TEST_PORT_ACCESS (R584): boundary scan is always available; internal state is reached only while debug access is unlocked. -/
def execTestPortAccess (a : TestPort) (s : State) : Host.Outcome State Fault Refusal :=
  match a with
  | .boundaryScan _ => .next s
  | .internal _ => if s.debugOpen then .refused .testPortInternal else .next s

end Sys2Proof.Machine
end

