-- ==== Sys2Proof/Machine/Access.lean ====
section
/-! DEFINITION. Who may read and write which object, which bits of a word a write changes, which values are refused, and what a read
returns (R11 to R14, R450 to R462). -/

namespace Sys2Proof.Machine

/-! ## Bits that a write changes (R13) -/

/-- A 16-bit pattern in each quarter of a word. -/
def quarters (m : Nat) : Nat := m * 0x0001000100010001

/-- Writable bits of 0x1000-0x5FFF. -/
def maskLow (ix sb w : Nat) : Nat :=
  match ix, sb with
  | 0x1010, 1 => 0xFFFFFF00
  | 0x1010, 2 => 0xFFF807FF
  | 0x1020, 2 => 0xFFFFFFFFFF01
  | 0x2002, 5 => 0xF
  | 0x2003, _ => if w = 12 then 0x7FF else 2 ^ 64 - 1
  | 0x2005, 3 => 1
  | 0x3100, 1 => 0x80007FFF
  | 0x3100, 2 => 0xFFFFFF
  | 0x3100, 5 => 0x3F
  | 0x5000, 1 => 3
  | 0x5000, 3 => (match w with | 0 => 0xFFFFFFFFFFF | 1 => 0xFFFFFFFF00000003 | _ => 2 ^ 64 - 1)
  | 0x5000, 7 => (match w with | 0 => 0x80000FFFFFFFFFFF | _ => 0x1FF)
  | _, _ => 2 ^ 64 - 1

/-- Writable bits of 0x6000-0x6FFF. -/
def maskCompute (ix sb w : Nat) : Nat :=
  if 0x6100 ≤ ix ∧ ix < 0x6180 then
    (if ix % 16 = 1 then 0x80FFFFFFFFFFFFFF else if sb = 1 then 3 else if sb = 2 then 0xFFFF else 0xFFFFFFFF)
  else if 0x6200 ≤ ix ∧ ix < 0x62E0 then (if sb = 1 then 0xFFFF else if sb = 0x50 then 1 else 3)
  else if 0x6400 ≤ ix ∧ ix < 0x6409 then (if sb = 1 then 0xFFFFF9 else if sb = 6 then 0x800FFFFF else 2 ^ 64 - 1)
  else if 0x6600 ≤ ix ∧ ix < 0x6790 then (if w % 2 = 1 then 0xFF0000FFFFFFFFFF else 2 ^ 64 - 1)
  else if 0x6800 ≤ ix ∧ ix < 0x6900 then (if sb = 2 then quarters 0x87FF else 0xFFFFFFFF)
  else 2 ^ 64 - 1

/-- Writable bits of 0x7000-0x7FFF. -/
def maskXannus (ix sb : Nat) : Nat :=
  if ix = 0x7000 then (if sb = 4 then 0xFFFF else 2 ^ 64 - 1)
  else if ix = 0x7001 then (match sb with | 1 => 0x83FF03FF | 2 => 0x70F77 | 3 => quarters 0x83FF | _ => 2 ^ 64 - 1)
  else if 0x7100 ≤ ix ∧ ix < 0x710C then 0x3FF7F
  else (match sb with | 1 => 0x8FFF07FF | 2 => quarters 0x83FF | 3 => 0xFFFFFFC0FFFFFFC0 | _ => 2 ^ 64 - 1)

/-- Writable bits of 0x8000-0xAFFF. -/
def maskHigh (ix sb : Nat) : Nat :=
  if ix = 0x8010 then 0xFFFF
  else if 0x8020 ≤ ix ∧ ix < 0x8028 then (if sb = 1 then 0x07FFFF1F else 2 ^ 64 - 1)
  else if 0x8100 ≤ ix ∧ ix < 0x8108 then 0x87FFFFF0007FFFFF
  else if 0x9000 ≤ ix ∧ ix < 0x9004 then 0xFFFF
  else if 0x9100 ≤ ix ∧ ix < 0x9160 then 0x3F
  else if 0x9200 ≤ ix ∧ ix < 0x9208 then 0x0303030303030303
  else if ix = 0xA001 then (if sb = 1 then 0x103FF else 0x8F00FFFF)
  else 2 ^ 64 - 1

/-- The bits of a word that a write changes; the others are reserved or read-only (R11, R13). -/
def writeMask (ix sb w : Nat) : Nat :=
  if ix < 0x6000 then maskLow ix sb w
  else if ix < 0x7000 then maskCompute ix sb w
  else if ix < 0x8000 then maskXannus ix sb
  else maskHigh ix sb

/-- A written word within its object's width, its other bits as they were. -/
def mergeWord (info : ObjInfo) (ix sb w : Nat) (old v : U64) : U64 :=
  let m := BitVec.ofNat 64 (writeMask ix sb w % 2 ^ info.bits)
  (old &&& ~~~m) ||| (v &&& m)

/-- The bits that a write of SEQ clears in a status object (R460); none where the object is no status object. -/
def statusMask (ix sb : Nat) : Option Nat :=
  if ix < 0x6000 then
    (match ix, sb with
     | 0x1011, 1 => some 0xE000
     | 0x1020, 5 => some 0xC000
     | 0x2000, 1 => some 0xC000
     | 0x3100, 3 => some 0xF800
     | 0x5000, 2 => some 0xFC00
     | 0x5000, 9 => some 0xFF00
     | 0x5000, 10 => some 0xF000
     | _, _ => none)
  else if ix < 0x6180 then (if ix % 16 = 0 ∧ sb = 4 then some 0x30 else none)
  else if 0x6200 ≤ ix ∧ ix < 0x62E0 then
    (if 0x10 ≤ sb ∧ sb < 0x50 then (match sb % 16 with | 1 => some 0xFFFE | 2 => some 0x1F | _ => none)
     else if 0x60 ≤ sb then (match sb % 8 with | 0 => some 0xFF18 | 2 => some 0x3F | _ => none)
     else none)
  else if 0x6300 ≤ ix ∧ ix < 0x63E0 then (if sb % 16 = 0 then some 0xFFF8 else none)
  else if 0x6400 ≤ ix ∧ ix < 0x6409 then (if sb = 4 then some 0xC000 else none)
  else if 0x6600 ≤ ix ∧ ix < 0x6790 then (if sb = 1 then some 0x200 else if sb % 16 = 0 then some 0xFFF0 else none)
  else if 0x6800 ≤ ix ∧ ix < 0x6900 then (if sb = 3 then some 0xFF00 else none)
  else if 0x7100 ≤ ix ∧ ix < 0x710C then (if sb = 2 then some 0xF000 else none)
  else if 0x7200 ≤ ix ∧ ix < 0x7260 then (if sb = 1 then some 0xE000 else none)
  else if 0x7400 ≤ ix ∧ ix < 0x7480 then (if sb = 4 then some 0xF800 else none)
  else if 0x8020 ≤ ix ∧ ix < 0x8028 then (if sb = 2 then some 0xF04 else none)
  else if 0x9000 ≤ ix ∧ ix < 0x9004 then (if sb = 2 then some 0xF0 else none)
  else if 0x9100 ≤ ix ∧ ix < 0x9160 then (if sb = 2 then some 0xE000 else none)
  else if 0x9200 ≤ ix ∧ ix < 0x9208 then (if sb = 1 then some 0x8000 else none)
  else if ix = 0xA000 then (if sb = 2 then some 0xC000 else none)
  else none

/-! ## Rights (R23, R68, R116, R320, R389, R421, R439, R454, R512, R558) -/

/-- The vendor range (R451). -/
def isVendor (ix : Nat) : Bool := decide (0xF000 ≤ ix)

/-- An Index:Sub is implemented; in the vendor range every one is, and a requester without full rights breaks R454 there (R451). -/
def isImplemented (ix sb : Nat) : Bool := isVendor ix || (objInfo ix sb).isSome

/-- A requester may read an implemented object (R454). -/
def State.canRead (s : State) (r : Requester) (ix sb : Nat) : Bool :=
  match s.rightOf r with
  | .full => true
  | .stand _ => ix / 0x1000 != 2 && !isVendor ix
  | .monitor => ix / 0x1000 != 2 && !isVendor ix
  | .none => isPublic ix sb

/-- The objects that the chapters grant to the function of a Stand, beside the banked ones. -/
def State.standMayWrite (s : State) (d ix sb : Nat) : Bool :=
  if 0x6100 ≤ ix ∧ ix < 0x6180 then
    (ix == standIx d && sb == 4) || ix == standIx d + 1
  else if ix = 0x6020 then sb == d + 1
  else if 0x6200 ≤ ix ∧ ix < 0x62E0 then s.groveOwner (ix - 0x6200) == some d
  else if 0x6300 ≤ ix ∧ ix < 0x63E0 then s.groveOwner (ix - 0x6300) == some d
  else if 0x6400 ≤ ix ∧ ix < 0x6409 then ix == 0x6401 + d
  else if 0x6800 ≤ ix ∧ ix < 0x6900 then (sb == 1 || sb == 2) && fld (s.treeCtrlAccepted (ix - 0x6800)) 27 3 == d
  else if 0x7400 ≤ ix ∧ ix < 0x7480 then ix == 0x7400 + 16 * d && (sb == 3 || sb == 4)
  else if 0x9100 ≤ ix ∧ ix < 0x9160 then s.clearingOwner (ix - 0x9100) == some d
  else if 0x9200 ≤ ix ∧ ix < 0x9208 then
    (List.range 96).any (fun c => s.clearingOwner c == some d && (s.banksOf c).contains (ix - 0x9200))
  else (ix == 0x5000 && sb == 7) || (ix == 0xA001 && sb == 2)

/-- A requester may write an implemented object (R454), whatever its access code. -/
def State.canWrite (s : State) (r : Requester) (ix sb : Nat) : Bool :=
  match s.rightOf r with
  | .full => true
  | .stand d => isBanked ix || s.standMayWrite d ix sb
  | .monitor => isBanked ix
  | .none => false

/-- Fields that only the physical function writes keep their values in a Stand's write: TreeCtrl.OWNER (R320), ClearingCtrl.OWNED and OWNER
(R421). -/
def State.keepOwner (s : State) (r : Requester) (ix sb : Nat) (old v : U64) : U64 :=
  if s.isFull r then v
  else if 0x6800 ≤ ix ∧ ix < 0x6900 ∧ sb = 1 then setFld v 27 3 (fld old 27 3)
  else if 0x9100 ≤ ix ∧ ix < 0x9160 ∧ sb = 1 then setFld v 0 4 (fld old 0 4)
  else v

/-! ## Values (R452, R455) -/

/-- The value most recently accepted: for RB objects and for RG objects with another effect point than immediate (R455). -/
def State.acceptedWord (s : State) (key : Nat) : U64 := (s.waitingValue key).getD (s.word key)

/-- The bank of an object for a requester (R454). -/
def objBank (r : Requester) (ix : Nat) : Nat := if isBanked ix then bankOf r else 0

/-- STATE of a slot (R255). -/
def slotStateCode : SlotState → Nat
  | .idle => 0
  | .running => 1
  | .waiting => 2
  | .halted => 3
  | .error => 4

/-- STATE of a context (R168). -/
def State.ctxStateCode (s : State) (c : Nat) : Nat :=
  if s.engineFailed (c / 4) then 4
  else
    match (s.ctx c).st with
    | .idle => 0
    | .running => if s.vecReady c then 1 else 2
    | .waiting => 2
    | .exception => 3

/-- JSTATE (R392). -/
def State.jobStateCode (s : State) (d : Nat) : Nat :=
  if !s.inJob d then 0
  else if (s.job d).aborted then (if (s.job d).restored then 4 else 3)
  else if (s.stand d).phase = .committed ∨ (s.stand d).phase = .applied then 2
  else 1

/-- FEEDING (R118): the tiles that are being fed. An mmul feeds its whole wave in one step of the model, so that between two steps no tile
is (DESIGN CHOICE, log entry 112). -/
def State.feeding (_s : State) (_n : Nat) : Nat := 0

/-- A word of a slot's information (R445): W1 holds SECURITY_VERSION in bits 31:0 and the cause in bits 35:32 (log entry 37). -/
def State.slotInfo (s : State) (base limit w : Nat) : U64 :=
  let i := s.nvImage base
  match w with
  | 0 => BitVec.ofNat 64 (if imageEmpty i then 0 else imgRelease i)
  | 1 => BitVec.ofNat 64 ((if imageEmpty i then 0 else imgVersion i) + 2 ^ 32 * s.imageCause i limit true)
  | _ => BitVec.ofNat 64 (if imageEmpty i then 0 else imgLength i)

/-- An entry of HaripSessions (R489); the milliseconds idle are a free value (log entry 4). -/
def State.sessionEntry (s : State) (k : Nat) : U64 :=
  match s.session k with
  | none => 0
  | some x => BitVec.ofNat 64 (2 ^ 63 + 2 ^ 48 * x.slot.toNat + 2 ^ 32 * x.num.toNat + (Config.freeWord (s.free + k)).toNat % 2 ^ 32)

/-- The Index:Sub of the telemetry values 0x3000 to 0x3033 in ascending order (R533). -/
def telemetryList : List (Nat × Nat) :=
  [(0x3000, 1), (0x3000, 2)] ++ (List.range 13).map (fun i => (0x3001, i + 1)) ++
  (List.range 256).map (fun i => (0x3010 + i / 64, i % 64 + 1)) ++ (List.range 4).map (fun i => (0x3014, i + 1)) ++
  (List.range 60).map (fun i => (0x3020 + i / 20, i % 20 + 1)) ++ (List.range 8).map (fun i => (0x3030 + i / 2, i % 2 + 1))

/-- The raw code behind a telemetry value: its sensor's, where it has one; 0 for a computed value. -/
def State.rawCode (s : State) (e : Nat × Nat) : U64 :=
  let raw (n : Nat) : U64 := (s.sensor n).raw.setWidth 64
  if 0x3010 ≤ e.1 ∧ e.1 < 0x3014 then raw (64 * (e.1 - 0x3010) + e.2 - 1)
  else if e.1 = 0x3014 then raw (256 + e.2 - 1)
  else if e.1 = 0x3001 ∧ 6 ≤ e.2 then raw (260 + e.2 - 6)
  else if e.1 = 0x3020 then raw (268 + e.2 - 1)
  else if e.1 = 0x3021 then raw (288 + e.2 - 1)
  else 0

/-- A word of TelemetrySnapshot (R533). -/
def State.snapshotWord (s : State) (w : Nat) : U64 :=
  if w = 0 then s.telemetrySamples
  else
    let e := telemetryList.getD ((w - 1) % 343) (0, 0)
    if w ≤ 343 then s.obj e.1 e.2 else s.rawCode e

/-- PLCA is configured: PLCA_EN with a node ID other than 255 (R471). -/
def State.plcaUsed (s : State) : Bool := s.bit 0x1020 2 0 && s.getF 0x1020 2 8 8 != 255

/-- A status word with the run state it shows. -/
def State.shownStatus (s : State) (ix sb : Nat) (v : U64) : U64 :=
  if ix = 0x1020 ∧ sb = 5 then
    let used := s.plcaUsed
    setFld v 0 3 (4 * b2n (used && s.plcaOk) + 2 * b2n (used && !s.plcaOk) + b2n (used && s.getF 0x1020 2 8 8 == 0 && !s.plcaDown))
  else if 0x6100 ≤ ix ∧ ix < 0x6180 ∧ ix % 16 = 0 ∧ sb = 4 then
    let d := (ix - 0x6100) / 16
    let v := setFld v 0 3 (phaseCode (s.stand d).phase)
    if s.enabled d then setFld (setFld v 10 2 (s.leadDie d)) 12 4 (s.diesOf d).toNat else v
  else if 0x6200 ≤ ix ∧ ix < 0x62E0 ∧ sb = 2 then
    let n := ix - 0x6200
    let g := s.grove n
    BitVec.ofNat 64 (256 * g.queue.length + 16 * s.feeding n + 4 * b2n g.tokenOvf + g.modeActive.toNat)
  else if 0x6200 ≤ ix ∧ ix < 0x62E0 ∧ 0x60 ≤ sb ∧ sb % 8 = 0 then setFld v 0 3 (s.ctxStateCode (4 * (ix - 0x6200) + (sb - 0x60) / 8))
  else if 0x6200 ≤ ix ∧ ix < 0x62E0 ∧ 0x11 ≤ sb ∧ sb ≤ 0x41 ∧ sb % 16 = 1 then setFld v 0 1 (b2n (s.tileFailed (4 * (ix - 0x6200) + (sb / 16 - 1))))
  else if 0x6300 ≤ ix ∧ ix < 0x63E0 ∧ sb % 16 = 0 then setFld v 0 3 (slotStateCode (s.slot (8 * (ix - 0x6300) + (sb / 16 - 1))).st)
  else if 0x6600 ≤ ix ∧ ix < 0x6790 ∧ 0x10 ≤ sb ∧ sb % 16 = 0 then
    let node := 2 * (ix - 0x6600) + (sb / 16 - 1)
    let fenced (o : Option Nat) : Bool := match o with | some d => (s.stand d).phase == .fenced || (s.stand d).phase == .recovering | none => false
    let st := match attachOf node with
      | .grove n => if s.coreOn (groveDie n) = false then 2 else if fenced (s.groveOwner n) || s.groveFailed n then 1 else 0
      | .clearing c =>
        if s.coreOn (c / 24) = false then 2
        else if s.clearingState c = 4 ∨ fenced (s.clearingOwner c) = true then 1
        else if s.clearingState c = 3 then 0 else 2
      | .pcie => if s.perstN then 0 else 1
      | .management _ => if s.ranger = .down then 1 else 0
      | _ => 0
    setFld v 0 2 st
  else if 0x7400 ≤ ix ∧ ix < 0x7480 ∧ sb = 4 then
    let d := (ix - 0x7400) / 16
    setFld (setFld v 4 4 (min 15 (s.job d).attempt.toNat)) 0 3 (s.jobStateCode d)
  else v

/-- Objects whose words the model does not hold: their values are free values (log entries 2, 4): write-only objects (R11), LaneFecCounts,
PcieLinkStatus and the vendor range (R451). -/
def freeObject (ix sb : Nat) : Bool :=
  isVendor ix || (ix == 0x2004 && sb == 1) || (ix == 0x2006 && sb == 2) ||
  (decide (0x7200 ≤ ix) && decide (ix < 0x7260) && sb == 4) || (ix == 0x1040)

/-- An Index:Sub names a StreamState (R254). -/
def isStreamState (ix sb : Nat) : Bool := decide (0x6300 ≤ ix) && decide (ix < 0x63E0) && sb % 16 == 1

/-- The bits of word `w` of StreamState that its fields hold; the others read 0 (R13, R252). -/
def streamStateMask (w : Nat) : Nat :=
  if w = 0 then 0xFF03FFFF000000E7 else if w ≤ 12 then 2 ^ 48 - 1 else if w = 13 then 2 ^ 64 - 1 else if w = 14 then 2 ^ 29 - 1 else 0

/-- A word of StreamState (R13, R14, R252): while the slot is running, W0 gives its stream's TAG and STATE, and every other field is a free value
within its width, W0's PC, FAULT_G and FAULT_WRITE among them, for which the spec states nothing while nothing has halted or failed
(DESIGN CHOICE, log entry 48); otherwise the record as it was kept, with the slot's STATE. -/
def State.streamStateWord (s : State) (ix sb w : Nat) : U64 :=
  let sl := s.slot (8 * (ix - 0x6300) + (sb / 16 - 1))
  let st := slotStateCode sl.st
  if sl.st = .running ∨ sl.st = .waiting then
    let v := Config.freeWord (s.free + w) &&& BitVec.ofNat 64 (streamStateMask w)
    (if w = 0 then setFld (setFld v 56 8 sl.tag.toNat) 0 3 st else v)
  else
    let v := s.word (objKey 0 ix sb w)
    if w = 0 then setFld (setFld v 56 8 sl.tag.toNat) 0 3 st else v

/-- What a read of a word of an object returns (R455). -/
def State.readWord (s : State) (r : Requester) (ix sb w : Nat) : U64 :=
  let key := objKey (objBank r ix) ix sb w
  if freeObject ix sb then (let v := Config.freeWord (s.free + w); if ix = 0x1040 then v &&& 0x7FF else v)
  else if isStreamState ix sb then s.streamStateWord ix sb w
  else if ix = 0x3040 then s.snapshotWord w
  else if ix = 0x1031 ∧ sb = 3 then s.sessionEntry w
  else if ix = 0x5000 ∧ 4 ≤ sb ∧ sb ≤ 6 then
    s.slotInfo (if sb = 4 then slotBase false else if sb = 5 then slotBase true else heartwoodBase) (if sb = 6 then heartwoodSize else slotSize) w
  else if ix = 0x4100 then BitVec.ofNat 64 (ofLe (sliceBytes s.calibrationBytes (8 * w) 8))
  else if ix = 0xA000 ∧ sb = 3 then
    (if s.snapNewest = 0 then 0 else (SMap.get [] s.snapAreas (s.snapNewest - 1)).getD w 0)
  else
    match objInfo ix sb with
    | some i =>
      if i.acc = .rb ∨ (i.acc = .rg ∧ i.eff ≠ .immediate) then s.acceptedWord key else s.shownStatus ix sb (s.word key)
    | none => 0

/-- The value of an object in its 8-byte slot, zero- or sign-extended (R452). -/
def State.slotWord (s : State) (r : Requester) (ix sb : Nat) : U64 :=
  let v := s.readWord r ix sb 0
  match objInfo ix sb with
  | some i =>
    (match i.ty with
     | .signed n => BitVec.ofNat 64 (toBits 64 (signed n v.toNat))
     | .unsigned n => BitVec.ofNat 64 (fld v 0 n)
     | _ => v)
  | none => v

/-- The state after words of an object are read: free values are drawn. -/
def State.afterRead (s : State) (ix sb n : Nat) : State :=
  if freeObject ix sb || isStreamState ix sb then { s with free := s.free + n } else if ix = 0x1031 ∧ sb = 3 then { s with free := s.free + 4 } else s

end Sys2Proof.Machine
end

