-- ==== Sys2Proof/Machine/Writes.lean ====
section
/-! DEFINITION. Writes of objects that take effect or are accepted: the value rules of R457 and what each object's write does. -/

namespace Sys2Proof.Machine

/-! ## Refused values (R457 and the chapters' limits) -/

/-- A value lies in a range. -/
def inRange (lo hi v : Nat) : Bool := decide (lo ≤ v) && decide (v ≤ hi)

/-- The values of 0x1000-0x5FFF that are refused (R474, R489, R490, R519, R534). -/
def refusedLow (ix sb : Nat) (v : U64) : Bool :=
  match ix, sb with
  | 0x1020, 2 => fld v 8 8 == 0 && fld v 16 8 == 0
  | 0x1020, 3 => decide (fld v 0 16 < 0x600)
  | 0x1020, 4 => !(fld v 0 32 == 0 || inRange 1000000 600000000 (fld v 0 32))
  | 0x1031, 1 => !inRange 1000000 3600000000 (fld v 0 32)
  | 0x1031, 2 => !inRange 1 1000 (fld v 0 16)
  | 0x3100, 1 => !inRange 1000 2400 (fld v 0 12)
  | 0x3100, 2 => !(inRange 80 105 (fld v 0 8) && inRange (fld v 0 8 + 5) 110 (fld v 8 8) && inRange 85 100 (fld v 16 8))
  | 0x4010, _ => !inRange 0x20000000 0x60000000 (fld v 0 32)
  | 0x4011, _ => !(decide (-500 ≤ signed 16 v.toNat) && decide (signed 16 v.toNat ≤ 500))
  | i, _ => decide (0x4000 ≤ i) && decide (i ≤ 0x4005) && !(decide (-320 ≤ signed 16 v.toNat) && decide (signed 16 v.toNat ≤ 320))

/-- The values of 0x6000-0xAFFF that are refused (R117, R273, R293, R295, R326, R363, R389, R391, R422, R512, R560). -/
def State.refusedHigh (s : State) (ix sb w : Nat) (v : U64) : Bool :=
  if ix = 0x6022 then decide (fld v 0 32 < 0x10000)
  else if 0x6200 ≤ ix ∧ ix < 0x62E0 then sb == 1 && decide (2 ≤ fld v 0 2)
  else if 0x6400 ≤ ix ∧ ix < 0x6409 then
    let f := ix - 0x6400
    (match sb with
     | 1 => !(inRange 4 16 (fld v 19 5) && inRange 4 16 (fld v 14 5) && inRange 1 (if f = 0 then 255 else 223) (fld v 3 11)) ||
            (s.ringOn f && (fld v 3 21 != s.getF ix 1 3 21))
     | 2 => s.ringOn f || v.toNat % 4096 != 0
     | 3 => s.ringOn f || v.toNat % 4096 != 0
     | 5 => s.ringOn f || v.toNat % 2 ^ (28 + (Config.bar2Size f).val) != 0
     | _ => false)
  else if ix = 0x7000 then
    (match sb with
     | 1 => decide (fld v 0 32 < 10000)
     | 2 => !inRange 2 1000 (fld v 0 32)
     | 3 => fld v 0 8 == 0
     | _ => false)
  else if ix = 0x7001 then sb == 4 && decide (fld v 0 32 < 100)
  else if 0x7400 ≤ ix ∧ ix < 0x7480 then
    sb == 3 && [0, 32].any (fun o => bitOf v (o + 31) && !inRect (s.rect ((ix - 0x7400) / 16)) (fld v (o + 6) 8))
  else if ix = 0x8010 then decide (fld v 0 16 < 64)
  else if 0x8020 ≤ ix ∧ ix < 0x8028 then
    (match sb with
     | 1 => decide (288 ≤ fld v 16 9) || decide (4 < fld v 2 3) || !inRange 1 63 (fld v 8 8) || (bitOf v 26 && s.getF ix 2 0 2 != 3)
     | _ => (List.range 4).any (fun i => decide (fld v (16 * i) 16 < dramDefaults.getD (4 * w + i) 0)))
  else if 0x9000 ≤ ix ∧ ix < 0x9004 then decide (fld v 0 16 < 32)
  else if ix = 0xA001 then sb == 1 && !(inRange 20 1000 (fld v 0 10) && fld v 0 10 % 10 == 0)
  else false

/-! ## Buffered objects (R12, R28, R29, R41, R279) -/

/-- A value that waits for a boundary is accepted: for a disabled Stand and for what no Stand owns it takes effect at once; so does what moves
between Stands that are all at a boundary, and an assignment or a persistent buffer of a Stand held for a failed unit (R28, R541); else it
waits for an apply phase that begins after it (R12, R29, R41). -/
def State.acceptWord (s : State) (key : Nat) (v : U64) : State :=
  let s := s.setWaiting key (some v)
  let ix := key / 2048 / 256 % 65536
  match s.dueOf key v with
  | .now => s.settleWord key
  | .stand d =>
    if !s.atBoundary d then s
    else if s.claimReady key || s.clearingReady key v then s.settleAssignments
    else if ix = 0x6101 + 16 * d ∧ (s.stand d).phase = .held ∧ (s.stand d).unitFailed = true then s.settleWord key
    else s
  | .all => if (List.range 8).any s.enabled then s else s.settleWord key
  | .other => s

/-- A value that waits for a refresh window is accepted: each pseudo-channel takes it at its next refresh (R279). A pseudo-channel that has
taken an earlier value keeps that one until then. -/
def State.acceptWindow (s : State) (key : Nat) (v : U64) : State :=
  { s.setWaiting key (some v) with
    windowTaken := s.windowTaken.map (fun e => if e.1 / 256 = key then (e.1, 2) else e) }

/-- StackCtrl (R12, R282, R284, R295): it waits for the refresh window. RELEARN_REQ that reads 1 stays, with its lane, until that lane is
done; a write that asks for a lane names the lane anew (log entry 116). -/
def State.writeStackCtrl (s : State) (key : Nat) (v : U64) : State :=
  let old := s.acceptedWord key
  s.acceptWindow key (if bitOf old 25 && !bitOf v 25 then setFld v 16 10 (fld old 16 10) else v)

/-- StandCtrl (R24, R29, R388, R541). -/
def State.writeStandCtrl (s : State) (d : Nat) (v : U64) : State :=
  let key := objKey 0 (standIx d) 1 0
  let old := s.acceptedWord key
  let s := s.acceptWord key v
  let s := if !bitOf v 1 || (s.stand d).unitFailed then s.unhold d else s
  if bitOf old 1 && !bitOf v 1 then s.abortRound d else s

/-! ## SelfTestReq (R561) -/

/-- The units of a kind of SelfTestReq; 0 for a reserved kind. -/
def testCount (kind : Nat) : Nat :=
  match kind with
  | 1 => 896
  | 2 => 224
  | 3 => 224
  | 4 => 400
  | 5 => 2400
  | _ => 0

/-- The Stand whose unit a test names, whether or not the unit is failed; links and routers are no Stand's. -/
def State.unitStand (s : State) (v : U64) : Option Nat :=
  match fld v 24 4 with
  | 1 => s.groveOwner (fld v 0 16 / 4)
  | 2 => s.groveOwner (fld v 0 16)
  | 3 => s.groveOwner (fld v 0 16)
  | _ => none

/-- A SelfTestReq write (R42, R561); none where it is refused. -/
def State.writeSelfTest (s : State) (r : Requester) (v : U64) : Option State :=
  let key := objKey 0 0xA001 2 0
  let mine := match s.rightOf r with | .stand d => s.unitStand v == some d | _ => true
  if bitOf (s.acceptedWord key) 31 || s.selfTest.isSome || testCount (fld v 24 4) ≤ fld v 0 16 || !mine then none
  else if bitOf v 31 then
    -- REQ reads 1 until the test ends, RESULT starts at 0
    some (s.acceptWord key (setFld v 28 2 0))
  else some (s.setWord key v)

/-! ## Ports and devices (R364, R368, R370) -/

/-- DeviceId or Topology (R368, R370); a refusal shows in PortStatus of X0. -/
def State.writeMachine (s : State) (sb : Nat) (v : U64) : Option State :=
  let id := if sb = 1 then v else s.obj 0x7001 1
  let top := if sb = 2 then v else s.obj 0x7001 2
  let outside := decide (fld top 0 3 < fld id 16 3) || decide (fld top 4 3 < fld id 19 3) || decide (fld top 8 4 < fld id 22 4)
  let bad := (List.range 8).any s.inJob || (outside && (sb == 1 || bitOf id 31))
  if bad then none else some (s.setObj 0x7001 sb v)

/-! ## Rings (R499, R512, R513) -/

/-- RingCtrl (R513). -/
def State.writeRing (s : State) (f : Nat) (v : U64) : State :=
  let on := s.ringOn f
  let s := s.setObj (0x6400 + f) 1 (setBit v 0 on)
  if bitOf v 0 && !on then s.enableRings f
  else if !bitOf v 0 && on then s.disableRings f
  else s

/-! ## Images (R443, R446) -/

/-- ImageCtrl: ABANDON, then SWITCH_REQ. -/
def State.writeImageCtrl (s : State) (v : U64) : State :=
  let s := if bitOf v 1 then s.abandon else s
  if bitOf v 0 && !s.bit 0x5000 1 0 then s.switchReq else s

/-! ## Field network (R473) -/

/-- FieldPlca and HaripEtherType: a change through Harip must be confirmed; a BAR0 change is never reverted, so a revert that waits restores
its value. -/
def State.writeField (s : State) (r : Requester) (sb : Nat) (v : U64) : State :=
  let before := (s.obj 0x1020 2, s.obj 0x1020 3)
  let s := s.setObj 0x1020 sb v
  let s := if sb = 2 then { s with plcaDown := false } else s
  if isSession r then
    (if s.getF 0x1020 4 0 32 = 0 then s else { s with revert := some (s.revert.getD before) })
  else { s with revert := s.revert.map (fun b => if sb = 2 then (v, b.2) else (b.1, v)) }

/-! ## Calibration (R519 to R521) -/

/-- A calibration value takes effect at the sensor's next sample. Where power is lost before the NV write completes (`stored` false) the
previous value returns at the next power-up (R520). -/
def State.writeCalibration (s : State) (ix sb : Nat) (v : U64) (stored : Bool) : State :=
  let key := objKey stagingBank ix sb 0
  let kept := match s.waitingValue key with | some x => x | none => s.obj ix sb
  (s.setObj ix sb v).setWaiting key (if stored then none else some kept)

/-- A word of the staging copy of CalibrationSet: the written one, else the value in force (R466, R521). -/
def State.stagedWord (s : State) (w : Nat) : U64 :=
  match s.waitingValue (objKey stagingBank 0x4100 1 w) with
  | some x => x
  | none => BitVec.ofNat 64 (ofLe (sliceBytes s.calibrationBytes (8 * w) 8))

/-- The staging copy is discarded. -/
def State.dropStaged (s : State) : State :=
  { s with accepted := SMap.eraseAll s.accepted (fun k => keyBank k == stagingBank && keyIx k == 0x4100) }

/-- Every calibration value of a record lies within R519. -/
def calibrationOk (l : List Byte) : Bool :=
  (List.range 268).all (fun i => !refusedLow 0x4000 1 (BitVec.ofNat 64 (ofLe (sliceBytes l (0x10 + 2 * i) 2)))) &&
  (List.range 20).all (fun r => !refusedLow 0x4010 1 (BitVec.ofNat 64 (ofLe (sliceBytes l (0x228 + 4 * r) 4)))) &&
  (List.range 20).all (fun r => !refusedLow 0x4011 1 (BitVec.ofNat 64 (ofLe (sliceBytes l (0x278 + 2 * r) 2))))

/-- The calibration objects take the values of a record. -/
def State.takeCalibration (s : State) (l : List Byte) : State :=
  let v (off n : Nat) : U64 := BitVec.ofNat 64 (ofLe (sliceBytes l off n))
  let s := (List.range 268).foldl (fun s i =>
    let o := if i < 256 then (0x4000 + i / 64, i % 64 + 1) else if i < 260 then (0x4004, i - 255) else (0x4005, i - 259)
    s.writeCalibration o.1 o.2 (v (0x10 + 2 * i) 2) true) s
  let s := (List.range 20).foldl (fun s r => s.writeCalibration 0x4010 (r + 1) (v (0x228 + 4 * r) 4) true) s
  (List.range 20).foldl (fun s r => s.writeCalibration 0x4011 (r + 1) (v (0x278 + 2 * r) 2) true) s

/-- A word of CalibrationSet is staged; word 84 applies the record where it checks, else discards it (R521): none where it is refused. -/
def State.writeCalibrationSet (s : State) (w : Nat) (v : U64) : State × Bool :=
  let s := s.setWaiting (objKey stagingBank 0x4100 1 w) (some v)
  if w ≠ 84 then (s, true)
  else
    let l := (List.range 85).flatMap (fun i => leBytes 8 (s.stagedWord i).toNat)
    let t := s.dropStaged
    let crc := crcBytes 64 0x42F0E1EBA9EA3693 0 (l.take 0x2A0)
    if ofLe (l.take 8) = (s.obj 0x1020 1).toNat ∧ ofLe (sliceBytes l 8 4) = 1 ∧ ofLe (sliceBytes l 0x2A0 8) = crc ∧ calibrationOk l = true then
      (t.takeCalibration l, true)
    else (t, false)

/-! ## One word of an object -/

/-- SEQ rule of a status object (R460), with what some of them clear besides: FirstSpecial.VALID (R122), the count of unread log entries
(R562). -/
def State.writeStatus (s : State) (key ix sb mask : Nat) (v : U64) : State :=
  let old := s.word key
  let s := s.setWord key (statusWritten old v mask)
  if fld v 16 16 ≠ fld old 16 16 then s
  else if 0x6200 ≤ ix ∧ ix < 0x62E0 ∧ sb < 0x50 ∧ sb % 16 = 2 then s.setF ix (sb + 1) 23 1 0
  else if ix = 0xA000 then { s with logUnread := 0 }
  else s

/-- The objects whose write does more than set their value; none: the object has no such rule; some none: refused. -/
def State.writeSpecial (s : State) (r : Requester) (ix sb : Nat) (v : U64) (stored : Bool) : Option (Option State) :=
  if ix = 0x1020 ∧ (sb = 2 ∨ sb = 3) then some (some (s.writeField r sb v))
  else if ix = 0x2002 then some (s.revokeKeys v.toNat)
  else if ix = 0x2005 ∧ sb < 3 then some (s.raiseMinimum (sb = 1) (fld v 0 32))
  else if ix = 0x3100 ∧ (sb = 1 ∨ sb = 2) then some (some (s.writePower sb v))
  else if 0x4000 ≤ ix ∧ ix < 0x4012 then some (some (s.writeCalibration ix sb v stored))
  else if ix = 0x5000 ∧ sb = 1 then some (some (s.writeImageCtrl v))
  else if 0x6100 ≤ ix ∧ ix < 0x6180 ∧ ix % 16 = 0 ∧ sb = 1 then some (some (s.writeStandCtrl ((ix - 0x6100) / 16) v))
  else if 0x6400 ≤ ix ∧ ix < 0x6409 ∧ sb = 1 then some (some (s.writeRing (ix - 0x6400) v))
  else if ix = 0x7001 ∧ sb < 3 then
    (match s.writeMachine sb v with
     | some t => some (some t)
     | none => some none)
  else if 0x7100 ≤ ix ∧ ix < 0x710C then some (some (s.takePortCtrl (ix - 0x7100) v))
  else if 0x8020 ≤ ix ∧ ix < 0x8028 ∧ sb = 1 then some (some (s.writeStackCtrl (objKey 0 ix 1 0) v))
  else if ix = 0xA001 ∧ sb = 2 then some (s.writeSelfTest r v)
  else none

/-- A refused value changes nothing but what its chapter names: PortStatus of X0 for DeviceId and Topology (R368, R370). -/
def State.refusalShown (s : State) (ix sb : Nat) : State := if ix = 0x7001 ∧ sb < 3 then s.portConfigErr 0 else s

/-- A word of an object is written by a requester who may write it: the new state and whether the value was accepted. -/
def State.writeWord (s : State) (r : Requester) (ix sb w : Nat) (v : U64) (stored : Bool) : State × Bool :=
  match objInfo ix sb with
  | none => (s, false)
  | some info =>
    let key := objKey (objBank r ix) ix sb w
    match statusMask ix sb with
    | some mask => (s.writeStatus key ix sb mask v, true)
    | none =>
      let old := if info.acc = .rb ∨ (info.acc = .rg ∧ info.eff ≠ .immediate) then s.acceptedWord key else s.word key
      let v := s.keepOwner r ix sb old (mergeWord info ix sb w old v)
      if (if ix < 0x6000 then refusedLow ix sb v else s.refusedHigh ix sb w v) then (s, false)
      else if ix = 0x4100 then s.writeCalibrationSet w v
      else
        match s.writeSpecial r ix sb v stored with
        | some (some t) => (t, true)
        | some none => (s.refusalShown ix sb, false)
        | none =>
          match info.eff with
          | .boundary => (s.acceptWord key v, true)
          | .boundaryAll => (s.acceptWord key v, true)
          | .refresh => (s.acceptWindow key v, true)
          | _ => (s.setWord key v, true)

end Sys2Proof.Machine
end

