-- ==== Sys2Proof/Machine/Mailbox.lean ====
section
/-! DEFINITION. The mailboxes (R464 to R469), the BAR0 window with its guard latches (R453, R458, R459, R462), and the requests held while
Ranger is down (R463). -/

namespace Sys2Proof.Machine

/-! ## Records (R466) -/

/-- Length in words of an object as a transfer sees it. -/
def objWords (ix sb : Nat) : Nat := match objInfo ix sb with | some i => i.words | none => 0

/-- The words of an object after some of them are written, as they stood otherwise. -/
def State.mergedWords (s : State) (ix sb off : Nat) (words : List U64) (n : Nat) : List U64 :=
  (List.range n).map (fun w => if off ≤ w ∧ w < off + words.length then words.getD (w - off) 0 else s.objW ix sb w)

/-- A DebugUnlock token written word by word: it is tried when its last word, 467, is written (log entry 39). -/
def State.writeToken (s : State) (off : Nat) (words : List U64) : State × Bool :=
  let s := words.zipIdx.foldl (fun s x => s.setWaiting (objKey stagingBank 0x2006 2 (off + x.2)) (some x.1)) s
  if off ≤ 467 ∧ 467 < off + words.length then
    let token := (List.range 468).flatMap (fun w => leBytes 8 ((s.waitingValue (objKey stagingBank 0x2006 2 w)).getD 0).toNat)
    let s := { s with accepted := SMap.eraseAll s.accepted (fun k => keyBank k == stagingBank && keyIx k == 0x2006) }
    s.debugUnlock (token.take 3740)
  else (s, true)

/-- Words of an object are written by a requester who may: the new state, and whether they were accepted (R457, R466). -/
def State.writeWords (s : State) (r : Requester) (ix sb off : Nat) (words : List U64) : State × Bool :=
  if ix = 0x2003 then
    (match s.writeKeySlot sb (s.mergedWords ix sb off words 13) (isSession r) with
     | some t => (t, true)
     | none => (s, false))
  else if ix = 0x2004 then (s.writeRecoveryKey (BitVec.ofNat 384 (ofLe ((s.mergedWords ix sb off words 6).flatMap (fun w => leBytes 8 w.toNat)))), true)
  else if ix = 0x2006 then s.writeToken off words
  else if ix = 0x5000 ∧ sb = 3 then
    let m := s.mergedWords ix sb off words 3
    if fld (m.getD 1 0) 0 2 = 3 ∨ s.bit 0x5000 2 4 = true then (s, false)
    else
      let cut := bitOf s.drawn 0
      (s.advance.nvWriteReq (m.getD 0 0 &&& 0xFFFFFFFFFFF) (m.getD 1 0 &&& 0xFFFFFFFF00000003) (m.getD 2 0) cut, true)
  else if ix = 0x5000 ∧ sb = 7 then
    let m := s.mergedWords ix sb off words 2
    let who := match s.rightOf r with | .stand d => some d | _ => none
    (s.partialReq who (m.getD 0 0 &&& 0x80000FFFFFFFFFFF) (m.getD 1 0 &&& 0x1FF), true)
  else
    -- the words in order; a refused word leaves nothing of the transfer
    let t := words.zipIdx.foldl (fun (acc : State × Bool) x =>
      if acc.2 then acc.1.writeWord r ix sb (off + x.2) x.1 true else acc) (s, true)
    if t.2 ∨ ix = 0x4100 then t else (s.refusalShown ix sb, false)

/-! ## Transfers (R464 to R469) -/

/-- Ends a transfer: MailboxStatus with VALID (R469). -/
def State.endTransfer (s : State) (bank tag words err : Nat) : State :=
  s.setWord (objKey bank 0x1010 3 0) (BitVec.ofNat 64 (2 ^ 24 * tag + 2 ^ 12 * words + 16 * err + 1))

/-- The words of an object, all from one moment (R465). -/
def State.captureWords (s : State) (r : Requester) (ix sb n : Nat) : List U64 := (List.range n).map (fun w => s.readWord r ix sb w)

/-- A read transfer (R465). -/
def State.readTransfer (s : State) (r : Requester) (ix sb off n : Nat) : State :=
  let bank := bankOf r
  let held := SMap.get none s.captures bank
  let fresh := off == 0 || (match held with | some c => !(c.ix == ix && c.sb == sb) | none => true)
  let count := if isVendor ix then off + n else objWords ix sb
  let words := if fresh then s.captureWords r ix sb count else (match held with | some c => c.words | none => [])
  let s := if fresh then s.afterRead ix sb count else s
  let s := { s with captures := SMap.set none s.captures bank (some ⟨ix, sb, words⟩) }
  (List.range n).foldl (fun s i => s.setWord (objKey bank 0x1010 (16 + i) 0) (words.getD (off + i) 0)) s

/-- MailboxTarget of a requester: Index and Subindex (R468). -/
def State.mailboxTarget (s : State) (r : Requester) : Nat × Nat :=
  let t := s.word (objKey (bankOf r) 0x1010 1 0)
  (fld t 16 16, fld t 8 8)

/-- A target is guarded (R466). -/
def isGuarded (ix sb : Nat) : Bool := match objInfo ix sb with | some i => i.acc == .rg | none => false

/-- The ERR of a transfer before it moves anything (R464, R466, R469); 0 where it may go on. -/
def State.transferErr (s : State) (r : Requester) (ix sb off n : Nat) (write guarded : Bool) : Nat :=
  if !isImplemented ix sb then 1
  else if (if write then !s.canWrite r ix sb else !s.canRead r ix sb) then 2
  else if guarded && (!write || !isGuarded ix sb) then 4
  else if write && (match objInfo ix sb with | some i => i.acc == .co || i.acc == .ro | none => false) then 5
  else if write && isGuarded ix sb && !guarded then 4
  else if !isVendor ix && decide (objWords ix sb < off + n) then 3
  else 0

/-- A write of MailboxCtrl starts a transfer, which completes at once (R464 to R466). A write of the vendor range, whose effect the spec leaves
open, completes and is confined to what its requester's Stand owns: for the physical function and an ADMIN session nothing (R15, R451). -/
def State.runMailbox (s : State) (r : Requester) (ctrl : U64) (guarded : Bool) : State :=
  let bank := bankOf r
  let ctrl := ctrl &&& 0xFFF807FF
  let s := s.setWord (objKey bank 0x1010 2 0) ctrl
  let t := s.mailboxTarget r
  let n := fld ctrl 20 4 + 1
  let off := fld ctrl 0 11
  let write := bitOf ctrl 19
  let tag := fld ctrl 24 8
  let e := s.transferErr r t.1 t.2 off n write guarded
  let words := objWords t.1 t.2
  if e ≠ 0 then s.endTransfer bank tag (words % 4096) e
  else if write then
    let s := { s with captures := SMap.set none s.captures bank none }
    (if isVendor t.1 then s.endTransfer bank tag (words % 4096) 0
     else
       let data := (List.range n).map (fun i => s.word (objKey bank 0x1010 (16 + i) 0))
       let x := s.writeWords r t.1 t.2 off data
       x.1.endTransfer bank tag (words % 4096) (if x.2 then 0 else 6))
  else (s.readTransfer r t.1 t.2 off n).endTransfer bank tag (words % 4096) 0

/-! ## DictStatus (R457, R458, R462) -/

/-- An event of DictStatus, with DictLastObject (R492): 0x8000 BUS_ERR, 0x4000 REFUSED, 0x2000 GUARD_FAIL. -/
def State.dictEvent (s : State) (r : Requester) (bits ix sb cause : Nat) : State :=
  (s.setWord (objKey (bankOf r) 0x1011 2 0) (BitVec.ofNat 64 (2 ^ 16 * ix + 2 ^ 8 * sb + 16 * cause))).eventIn (bankOf r) 0x1011 1 bits

/-- A write that a requester may make ends: a refused value sets REFUSED (R457). -/
def State.dictWrite (s : State) (r : Requester) (ix sb : Nat) (v : U64) (stored : Bool) : State × Bool :=
  let x := s.writeWord r ix sb 0 v stored
  if x.2 then x else (x.1.dictEvent r 0x4000 ix sb 5, false)

/-- The same for the words of a record. -/
def State.dictRecord (s : State) (r : Requester) (ix sb off : Nat) (words : List U64) : State × Bool :=
  let x := s.writeWords r ix sb off words
  if x.2 then x else (x.1.dictEvent r 0x4000 ix sb 5, false)

/-! ## BAR0 (R10, R453, R459, R462) -/

/-- Index of the object a BAR0 offset names. -/
def bar0Ix (off : BitVec 28) : Nat := off.toNat / 0x800 % 65536
/-- Its subindex. -/
def bar0Sb (off : BitVec 28) : Nat := off.toNat / 8 % 256
/-- The offset lies in the alias window. -/
def bar0Alias (off : BitVec 28) : Bool := bitOf off 27

/-- The access breaks R453: its size, its alignment, or its half of the slot. -/
def widthBad (a : Bar0Write) (bits : Nat) : Bool :=
  let n := a.bytesM1.toNat + 1
  !(n == 4 || n == 8) || a.offset.toNat % n != 0 || (bits == 64 && n != 8) || (bits != 64 && n == 4 && a.offset.toNat % 8 != 0)

/-- The MailboxCtrl object (R459). -/
def isMailboxCtrl (ix sb : Nat) : Bool := ix == 0x1010 && sb == 2

/-- The cause of the bus error of a BAR0 write, in the order of R462; 0 for none. -/
def State.bar0Cause (s : State) (a : Bar0Write) : Nat :=
  let r : Requester := .func a.func
  let ix := bar0Ix a.offset
  let sb := bar0Sb a.offset
  if !isImplemented ix sb then 1
  else if !s.canWrite r ix sb then 2
  else if isVendor ix then (if widthBad a 32 && widthBad a 64 then 3 else 0)
  else
    match objInfo ix sb with
    | none => 1
    | some i =>
      if i.acc = .co ∨ i.acc = .ro then 8
      else if widthBad a i.bits then 3
      else if bar0Alias a.offset && i.acc != .rg && !isMailboxCtrl ix sb then 4
      else if i.mailboxOnly then 7
      else 0

/-- The data of a BAR0 write. -/
def bar0Data (a : Bar0Write) : U64 := if a.bytesM1 = 7 then a.data else a.data &&& 0xFFFFFFFF

/-- An alias write meets the three conditions of R458 for a latched write. -/
def aliasMatches (latched a : Bar0Write) : Bool :=
  let bits := match objInfo (bar0Ix latched.offset) (bar0Sb latched.offset) with | some i => i.bits | none => 64
  bar0Ix latched.offset == bar0Ix a.offset && bar0Sb latched.offset == bar0Sb a.offset && latched.bytesM1 == a.bytesM1 &&
  fld (bar0Data a) 0 bits == fld (~~~(bar0Data latched)) 0 bits

/-- A BAR0 write that raises a bus error (R462). -/
def State.busError (s : State) (a : Bar0Write) (cause : Nat) : State :=
  (s.dictEvent (.func a.func) 0x8000 (bar0Ix a.offset) (bar0Sb a.offset) cause).send (.busError a.func.val)

/-- Empties a guard latch; a value it held is discarded with GUARD_FAIL (R458). -/
def State.dropLatch (s : State) (f : FuncId) (silent : Bool) : State :=
  match SMap.get none s.latches f.val with
  | none => s
  | some b =>
    let s := { s with latches := SMap.set none s.latches f.val none }
    if silent then s else s.dictEvent (.func f) 0x2000 (bar0Ix b.offset) (bar0Sb b.offset) 6

/-- Loads a guard latch. -/
def State.loadLatch (s : State) (a : Bar0Write) : State := { s with latches := SMap.set none s.latches a.func.val (some a) }

/-- The write loads the guard latch: the plain slot of an RG object, or MailboxCtrl for a write transfer to an RG target (R458, R466). -/
def State.loadsLatch (s : State) (a : Bar0Write) : Bool :=
  let ix := bar0Ix a.offset
  let sb := bar0Sb a.offset
  let t := s.mailboxTarget (.func a.func)
  !bar0Alias a.offset && (isGuarded ix sb || (isMailboxCtrl ix sb && bitOf (bar0Data a) 19 && isGuarded t.1 t.2))

/-- One BAR0 write that Ranger serves (R456 to R462). One to the vendor range completes without an effect on the model's state (R15, R451). -/
def State.bar0Write (s : State) (a : Bar0Write) : State :=
  let r : Requester := .func a.func
  let ix := bar0Ix a.offset
  let sb := bar0Sb a.offset
  let cause := s.bar0Cause a
  if cause ≠ 0 then (s.dropLatch a.func false).busError a cause
  else if isVendor ix then s.dropLatch a.func false
  else if bar0Alias a.offset then
    match SMap.get none s.latches a.func.val with
    | none => s.dictEvent r 0x2000 ix sb 6
    | some b =>
      if aliasMatches b a then
        let s := s.dropLatch a.func true
        if isMailboxCtrl ix sb then s.runMailbox r (bar0Data b) true else (s.dictWrite r ix sb (bar0Data b) true).1
      else s.dropLatch a.func false
  else if s.loadsLatch a then (s.dropLatch a.func true).loadLatch a
  else
    let s := s.dropLatch a.func false
    if isMailboxCtrl ix sb then s.runMailbox r (bar0Data a) false else (s.dictWrite r ix sb (bar0Data a) true).1

/-- The cause of the bus error of a BAR0 read of `n` bytes, in the order of R462; 0 for none. No command of the table is a read: what one
returns is `bar0Read`. -/
def State.bar0ReadCause (s : State) (f : FuncId) (off : BitVec 28) (n : Nat) : Nat :=
  let ix := bar0Ix off
  let sb := bar0Sb off
  let bits := match objInfo ix sb with | some i => i.bits | none => 64
  if !isImplemented ix sb then 1
  else if !s.canRead (.func f) ix sb then 2
  else if !(n == 4 || n == 8) || off.toNat % n != 0 || (bits != 64 && n == 4 && off.toNat % 8 != 0) then 3
  else if bar0Alias off && !isGuarded ix sb && !isMailboxCtrl ix sb then 4
  else if (match objInfo ix sb with | some i => i.mailboxOnly | none => false) then 7
  else 0

/-- What a BAR0 read returns: the slot's bytes, or the complement over the object's width in the alias window (R452, R453, R459). -/
def State.bar0Read (s : State) (f : FuncId) (off : BitVec 28) (n : Nat) : U64 :=
  let ix := bar0Ix off
  let sb := bar0Sb off
  let v := s.slotWord (.func f) ix sb
  let bits := match objInfo ix sb with | some i => i.bits | none => 64
  let v := if bar0Alias off then BitVec.ofNat 64 (fld (~~~v) 0 bits) else v
  BitVec.ofNat 64 (fld v (8 * (off.toNat % 8)) (8 * n))

/-! ## While Ranger is down (R463) -/

/-- Ranger takes requests for objects (R463, R553). -/
def State.serves (s : State) : Bool := s.ranger == .up

/-- A BAR0 write is served, or held while Ranger is down or hands over (R443, R463); none reaches an endpoint that is not ready (R507). -/
def State.bar0Arrives (s : State) (a : Bar0Write) : Host.Outcome State Fault Refusal :=
  if s.endpointReady = false then .next s
  else if s.serves then .next (s.bar0Write a) else .next { s with heldBar0 := s.heldBar0 ++ [a] }

/-- The held requests are served in order. -/
def State.serveHeld (s : State) : State := s.heldBar0.foldl State.bar0Write { s with heldBar0 := [] }

/-! ## Commands -/

/-- OBJECT_WRITE (R456): a BAR0 write of an object that has no row of its own. -/
def execObjectWrite (a : Bar0Write) (s : State) : Host.Outcome State Fault Refusal := s.bar0Arrives a

/-- GUARD_LATCH_LOAD (R458): a write to the plain slot of an RG object. -/
def execGuardLatchLoad (a : Bar0Write) (s : State) : Host.Outcome State Fault Refusal := s.bar0Arrives a

/-- ALIAS_WRITE (R458, R459). -/
def execAliasWrite (a : Bar0Write) (s : State) : Host.Outcome State Fault Refusal := s.bar0Arrives a

/-- STATUS_SEQ_WRITE (R460). -/
def execStatusSeqWrite (a : Bar0Write) (s : State) : Host.Outcome State Fault Refusal := s.bar0Arrives a

/-- GUARD_LATCH_EXPIRY (R458): 1 ms without the alias write. -/
def execGuardLatchExpiry (f : FuncId) (s : State) : Host.Outcome State Fault Refusal := .next (s.dropLatch f false)

/-- BAR0_HOLD_TIMEOUT (R463): the oldest held request of a function is answered as a bus error, without DictStatus. -/
def execBar0HoldTimeout (f : FuncId) (s : State) : Host.Outcome State Fault Refusal :=
  match s.heldBar0.find? (fun a => a.func == f) with
  | some a => .next ({ s with heldBar0 := s.heldBar0.erase a }.send (.busError f.val))
  | none => .next s

/-- MAILBOX_READ (R464, R465): a read transfer of a requester. -/
def execMailboxRead (r : Requester) (ctrl : BitVec 32) (s : State) : Host.Outcome State Fault Refusal :=
  if !s.serves || s.rightOf r == .none then .next s
  else .next (s.runMailbox r (setBit (ctrl.setWidth 64) 19 false) false)

/-- MAILBOX_WRITE (R464, R466): a write transfer; `guarded` says that the MailboxCtrl value came with its complement. -/
def execMailboxWrite (r : Requester) (ctrl : BitVec 32) (guarded : Bool) (s : State) : Host.Outcome State Fault Refusal :=
  if !s.serves || s.rightOf r == .none then .next s
  else .next (s.runMailbox r (setBit (ctrl.setWidth 64) 19 true) guarded)

/-- A guarded or plain write of one object by a requester, as it reaches Ranger's dictionary port (R456): rights, then the value. -/
def State.request (s : State) (r : Requester) (ix sb : Nat) (v : U64) (stored : Bool) : State :=
  if !s.serves || s.rightOf r == .none then s
  else if !s.canWrite r ix sb then s.dictEvent r 0x8000 ix sb 2
  else (s.dictWrite r ix sb v stored).1

/-- The same for the words of a record. -/
def State.requestRecord (s : State) (r : Requester) (ix sb off : Nat) (words : List U64) : State :=
  if !s.serves || s.rightOf r == .none then s
  else if !s.canWrite r ix sb then s.dictEvent r 0x8000 ix sb 2
  else (s.dictRecord r ix sb off words).1

/-- STAND_ENABLE (R29): StandCtrl with ENABLE = 1. -/
def execStandEnable (r : Requester) (sd : StandId) (v : BitVec 32) (s : State) : Host.Outcome State Fault Refusal :=
  .next (s.request r (standIx sd.val) 1 (setBit (v.setWidth 64) 0 true) true)

/-- STAND_DISABLE (R29): StandCtrl with ENABLE = 0. -/
def execStandDisable (r : Requester) (sd : StandId) (v : BitVec 32) (s : State) : Host.Outcome State Fault Refusal :=
  .next (s.request r (standIx sd.val) 1 (setBit (v.setWidth 64) 0 false) true)

/-- HOLD (R24): StandCtrl with the HOLD of `v`, ENABLE as last accepted. -/
def execHold (r : Requester) (sd : StandId) (v : BitVec 32) (s : State) : Host.Outcome State Fault Refusal :=
  .next (s.request r (standIx sd.val) 1
    (setBit (s.acceptedWord (objKey 0 (standIx sd.val) 1 0)) 1 (bitOf v 1)) true)

/-- SELF_TEST_REQ (R561). -/
def execSelfTestReq (r : Requester) (v : BitVec 32) (s : State) : Host.Outcome State Fault Refusal :=
  .next (s.request r 0xA001 2 (v.setWidth 64) true)

/-- RETRAIN_ALL (R282, R295): StackCtrl with RETRAIN_ALL = 1. -/
def execRetrainAll (r : Requester) (k : StackId) (v : BitVec 32) (s : State) : Host.Outcome State Fault Refusal :=
  .next (s.request r (0x8020 + k.val) 1 (setBit (v.setWidth 64) 26 true) true)

/-- RELEARN_REQ (R284, R295): StackCtrl with RELEARN_REQ = 1. -/
def execRelearnReq (r : Requester) (k : StackId) (v : BitVec 32) (s : State) : Host.Outcome State Fault Refusal :=
  .next (s.request r (0x8020 + k.val) 1 (setBit (v.setWidth 64) 25 true) true)

/-- PORT_ENABLE (R364): PortCtrl. -/
def execPortEnable (r : Requester) (p : PortId) (v : BitVec 32) (s : State) : Host.Outcome State Fault Refusal :=
  .next (s.request r (0x7100 + p.val) 1 (v.setWidth 64) true)

/-- TEST_REQ (R358): PortCtrl with TEST_REQ = 1. -/
def execTestReq (r : Requester) (p : PortId) (v : BitVec 32) (s : State) : Host.Outcome State Fault Refusal :=
  .next (s.request r (0x7100 + p.val) 1 (setBit (v.setWidth 64) 15 true) true)

/-- RETRAIN_REQ (R361): PortCtrl with RETRAIN_REQ = 1. -/
def execRetrainReq (r : Requester) (p : PortId) (v : BitVec 32) (s : State) : Host.Outcome State Fault Refusal :=
  .next (s.request r (0x7100 + p.val) 1 (setBit (v.setWidth 64) 11 true) true)

/-- DEVICE_ID_WRITE (R368, R370). -/
def execDeviceIdWrite (r : Requester) (v : BitVec 32) (s : State) : Host.Outcome State Fault Refusal :=
  .next (s.request r 0x7001 1 (v.setWidth 64) true)

/-- TOPOLOGY_WRITE (R370). -/
def execTopologyWrite (r : Requester) (v : BitVec 32) (s : State) : Host.Outcome State Fault Refusal :=
  .next (s.request r 0x7001 2 (v.setWidth 64) true)

/-- RETRY_RELEASE (R409): ClearingCtrl with RETRY_RELEASE = 1. -/
def execRetryRelease (r : Requester) (c : ClearingId) (v : BitVec 32) (s : State) : Host.Outcome State Fault Refusal :=
  .next (s.request r (0x9100 + c.val) 1 (setBit (v.setWidth 64) 5 true) true)

/-- PARTIAL_REQ (R439). -/
def execPartialReq (r : Requester) (w0 : BitVec 64) (w1 : BitVec 64) (s : State) : Host.Outcome State Fault Refusal :=
  .next (s.requestRecord r 0x5000 7 0 [w0, w1])

/-- NV_WRITE_REQ (R442): `interrupted` says that a reset or power loss cuts the write off. -/
def execNvWriteReq (r : Requester) (w0 : BitVec 64) (w1 : BitVec 64) (w2 : BitVec 64) (interrupted : Bool) (s : State) : Host.Outcome State Fault Refusal :=
  if !s.serves || s.rightOf r == .none then .next s
  else if !s.canWrite r 0x5000 3 then .next (s.dictEvent r 0x8000 0x5000 3 2)
  else if fld w1 0 2 = 3 ∨ s.bit 0x5000 2 4 = true then .next (s.dictEvent r 0x4000 0x5000 3 5)
  else .next (s.nvWriteReq (w0 &&& 0xFFFFFFFFFFF) (w1 &&& 0xFFFFFFFF00000003) w2 interrupted)

/-- SWITCH_REQ (R443): ImageCtrl with SWITCH_REQ = 1. -/
def execSwitchReq (r : Requester) (s : State) : Host.Outcome State Fault Refusal := .next (s.request r 0x5000 1 1 true)

/-- ABANDON (R446): ImageCtrl with ABANDON = 1. -/
def execAbandon (r : Requester) (s : State) : Host.Outcome State Fault Refusal := .next (s.request r 0x5000 1 2 true)

/-- FIRMWARE_HANDOFF (R443): the new firmware confirms; accesses made during the handoff complete. -/
def execFirmwareHandoff (s : State) : Host.Outcome State Fault Refusal :=
  if s.imageState = 5 ∧ s.ranger = .handoff then .next ({ s.setImageState 3 with ranger := .up }.serveHeld) else .next s

/-- HANDOFF_TIMEOUT (R443): the old firmware resumes. -/
def execHandoffTimeout (s : State) : Host.Outcome State Fault Refusal :=
  if s.imageState = 5 ∧ s.ranger = .handoff then .next s.handoffFails.serveHeld else .next s

/-- MANAGEMENT_RESET (R554): the management reset ends; Ranger serves again. -/
def execManagementReset (s : State) : Host.Outcome State Fault Refusal :=
  if s.ranger = .down then
    let s := s.rangerUp
    .next (if s.serves then s.serveHeld else s)
  else .next s

/-- RING_ENABLE (R513): RingCtrl. -/
def execRingEnable (r : Requester) (f : FuncId) (v : BitVec 32) (s : State) : Host.Outcome State Fault Refusal :=
  .next (s.request r (0x6400 + f.val) 1 (v.setWidth 64) true)

/-- CALIBRATION_WRITE (R519, R520). -/
def execCalibrationWrite (r : Requester) (idx : BitVec 16) (sub : BitVec 8) (v : BitVec 32) (stored : Bool) (s : State) :
    Host.Outcome State Fault Refusal :=
  let ix := idx.toNat
  if ix < 0x4000 ∨ 0x4011 < ix ∨ (objInfo ix sub.toNat).isNone then .next s
  else .next (s.request r ix sub.toNat (v.setWidth 64) stored)

/-- CALIBRATION_SET_WRITE (R521): word 84 of CalibrationSet. -/
def execCalibrationSetWrite (r : Requester) (v : BitVec 64) (s : State) : Host.Outcome State Fault Refusal :=
  .next (s.requestRecord r 0x4100 1 84 [v])

/-- IMAGE_KEY_REVOKE (R567). -/
def execImageKeyRevoke (r : Requester) (v : BitVec 32) (s : State) : Host.Outcome State Fault Refusal :=
  .next (s.request r 0x2002 5 (v.setWidth 64) true)

/-- KEY_SLOT_WRITE (R578, R579). -/
def execKeySlotWrite (r : Requester) (k : Fin 8) (words : List (BitVec 64)) (s : State) : Host.Outcome State Fault Refusal :=
  .next (s.requestRecord r 0x2003 (k.val + 1) 0 (words.take 13))

/-- RECOVERY_KEY_WRITE (R580). -/
def execRecoveryKeyWrite (r : Requester) (key : BitVec 384) (s : State) : Host.Outcome State Fault Refusal :=
  .next (s.requestRecord r 0x2004 1 0 ((List.range 6).map (fun w => key.extractLsb' (64 * w) 64)))

/-- SECURITY_MINIMUM_WRITE (R581, R582). -/
def execSecurityMinimumWrite (r : Requester) (partialImages : Bool) (v : BitVec 32) (s : State) : Host.Outcome State Fault Refusal :=
  .next (s.request r 0x2005 (if partialImages then 2 else 1) (v.setWidth 64) true)

/-- DEBUG_UNLOCK (R584). -/
def execDebugUnlock (r : Requester) (token : List (BitVec 8)) (s : State) : Host.Outcome State Fault Refusal :=
  if !s.serves || s.rightOf r == .none then .next s
  else if !s.canWrite r 0x2006 2 then .next (s.dictEvent r 0x8000 0x2006 2 2)
  else
    let x := s.debugUnlock token
    .next (if x.2 then x.1 else x.1.dictEvent r 0x4000 0x2006 2 5)

end Sys2Proof.Machine
end

