-- ==== Sys2Proof/Machine/Field.lean ====
section
/-! DEFINITION. The field network: the MAC and PLCA, Harip frames and sessions, attestation frames and recovery frames (14_management.md, R576,
R577). -/

namespace Sys2Proof.Machine

/-! ## Codes (R476, R477) -/

/-- STATUS OK. -/
def hOk : Nat := 0
/-- ERR_NOOBJ. -/
def hNoObj : Nat := 1
/-- ERR_AUTH. -/
def hAuth : Nat := 2
/-- ERR_ACCESS. -/
def hAccess : Nat := 3
/-- ERR_GUARD. -/
def hGuard : Nat := 4
/-- ERR_SESSION. -/
def hSession : Nat := 5
/-- ERR_BUSY. -/
def hBusy : Nat := 6
/-- ERR_FORMAT. -/
def hFormat : Nat := 7
/-- ERR_REFUSED. -/
def hRefused : Nat := 8

/-- One of HaripCount1-HaripCount10 counts (R489). -/
def State.haripCount (s : State) (n : Nat) : State := s.countSat 0x1030 n 0 32 1

/-! ## Frames (R474, R475) -/

/-- VERSION of a frame. -/
def hVersion (f : FieldFrame) : Nat := (f.body.getD 0 0).toNat
/-- TYPE. -/
def hType (f : FieldFrame) : Nat := (f.body.getD 1 0).toNat
/-- SESSION. -/
def hNum (f : FieldFrame) : Nat := ofLe (sliceBytes f.body 4 2)
/-- LENGTH. -/
def hLength (f : FieldFrame) : Nat := ofLe (sliceBytes f.body 6 2)
/-- SEQ. -/
def hSeq (f : FieldFrame) : Nat := ofLe (sliceBytes f.body 8 8)
/-- The plaintext body. -/
def hBody (f : FieldFrame) : List Byte := sliceBytes f.body 16 (hLength f)

/-- LENGTH is within the limit and within the frame. -/
def lengthOk (f : FieldFrame) (tag : Bool) : Bool := decide (hLength f ≤ 1468) && decide (16 + hLength f + (if tag then 16 else 0) ≤ f.body.length)

/-- A Harip header (R475). -/
def haripHeader (type status num len seq : Nat) : List Byte :=
  [1, BitVec.ofNat 8 type, BitVec.ofNat 8 status, 0] ++ leBytes 2 num ++ leBytes 2 len ++ leBytes 8 seq

/-- An Ethernet header as sent: destination, source, EtherType in network order (R474). -/
def etherHeader (dst src : BitVec 48) (type : Nat) : List Byte :=
  leBytes 6 dst.toNat ++ leBytes 6 src.toNat ++ (leBytes 2 type).reverse

/-- FieldMac. -/
def State.fieldMac (s : State) : BitVec 48 := (s.obj 0x1020 1).setWidth 48

/-- The frame passes the MAC's filter (R470, R474): FieldMac, or a broadcast DISCOVER or CHALLENGE_REQ; HaripEtherType; VERSION 1; no tag. -/
def State.frameForUs (s : State) (f : FieldFrame) : Bool :=
  !f.tagged && f.etherType.toNat == s.getF 0x1020 3 0 16 && hVersion f == 1 &&
  (f.dst == s.fieldMac || (f.dst == BitVec.ofNat 48 (2 ^ 48 - 1) && (hType f == 0x10 || hType f == 0x30)))

/-- A frame in the clear is sent to a requester. -/
def State.sendPlain (s : State) (f : FieldFrame) (type status num : Nat) (body : List Byte) : State :=
  s.send (.field f.src (haripHeader type status num body.length (hSeq f) ++ body))

/-- A response to a SESSION 0 frame, or ERR_SESSION, within HaripPublicRate: whether the second's number is used up is a free value (R484, log
entry 4). -/
def State.sendPublic (s : State) (f : FieldFrame) (type status num : Nat) (body : List Byte) : State :=
  let excess := bitOf s.drawn 0
  let s := s.advance
  if excess then s.haripCount 7 else s.sendPlain f type status num body

/-! ## Sealed frames (R479) -/

/-- The nonce of a frame: SEQ, SESSION and two zeros. -/
def gcmNonce (seq num : Nat) : List Byte := leBytes 8 seq ++ leBytes 2 num ++ [0, 0]

/-- The body of a request of a session; none where its tag fails. -/
def openFrame (f : FieldFrame) (x : Session) : Option (List Byte) :=
  Config.gcmOpen x.reqKey (gcmNonce (hSeq f) (hNum f)) (etherHeader f.dst f.src f.etherType.toNat ++ sliceBytes f.body 0 16)
    (sliceBytes f.body 16 (hLength f + 16))

/-- A response within a session: the frame after its Ethernet header. -/
def State.sealFrame (s : State) (f : FieldFrame) (key : BitVec 256) (num type status : Nat) (body : List Byte) : List Byte :=
  let h := haripHeader type status num body.length (hSeq f)
  h ++ Config.gcmSeal key (gcmNonce (hSeq f) num) (etherHeader f.src s.fieldMac (s.getF 0x1020 3 0 16) ++ h) body

/-! ## Recovery frames (R485 to R488) -/

/-- The hardware has answered 16 frames of the kind this second, and drops this one: a free value (R488, log entry 4). -/
def State.recoveryDropped (s : State) : Bool := bitOf s.drawn 0

/-- A CHALLENGE_REQ is answered (R485). LIFETIME is a free value up to 10,100 ms (log entry 4). -/
def State.answerChallenge (s : State) (f : FieldFrame) : State :=
  if s.recoveryDropped then s.advance
  else
    let s := s.advance
    let s := if s.challenge.isSome then s
      else
        let lo := s.drawn
        let s := s.advance
        { s.advance with challenge := some (s.drawn ++ lo) }
    let life := s.drawn.toNat % 10101
    let s := s.advance
    s.sendPlain f 0x31 hOk 0 (leBytes 16 (s.challenge.getD 0).toNat ++ leBytes 2 life)

/-- A recovery action is in progress (R486). -/
def State.actionRuns (s : State) (a : Nat) : Bool :=
  s.actions.contains a || (a == 1 && s.ranger == .down) || (a == 3 && s.bit 0x3100 3 2)

/-- The MAC of a RECOVERY frame matches under the key in force, and its NONCE is the valid challenge (R486, R580). -/
def State.recoveryAuth (s : State) (f : FieldFrame) : Bool :=
  let body := hBody f
  let msg := leBytes 6 f.dst.toNat ++ leBytes 6 f.src.toNat ++ sliceBytes f.body 0 16 ++ body.take 24
  hLength f == 72 && s.recoveryKey != 0 &&
  sliceBytes body 24 48 == leBytes 48 (Config.hmac384 s.recoveryKey msg).toNat &&
  (match s.challenge with | some n => sliceBytes body 8 16 == leBytes 16 n.toNat | none => false)

/-- A RECOVERY frame (R486): answered, counted, and its action started. -/
def State.takeRecoveryFrame (s : State) (f : FieldFrame) : State :=
  if s.recoveryDropped then s.advance
  else
    let s := s.advance
    let a := ((hBody f).getD 0 0).toNat
    if !s.recoveryAuth f then (s.haripCount 10).sendPlain f 0x33 hAuth 0 [BitVec.ofNat 8 a]
    else
      let s := { s with challenge := none }
      if a = 0 ∨ 3 < a then (s.haripCount 10).sendPlain f 0x33 hFormat 0 [BitVec.ofNat 8 a]
      else if s.actionRuns a then (s.haripCount 10).sendPlain f 0x33 hBusy 0 [BitVec.ofNat 8 a]
      else { s.haripCount 9 with actions := s.actions ++ [a] }.sendPlain f 0x33 hOk 0 [BitVec.ofNat 8 a]

/-! ## The MAC (R470 to R474, R482) -/

/-- Frames the MAC's receive queue holds (R32). -/
def fieldQueueDepth : Nat := 4

/-- MAC_FRAME_RECEIVE (R470, R474, R482, R485): recovery frames bypass the queue; while Ranger is down the others are dropped (R463). -/
def execMacFrameReceive (f : FieldFrame) (s : State) : Host.Outcome State Fault Refusal :=
  if s.booted = false ∨ f.body.length < 46 ∨ 1504 < f.body.length then .next s
  else if !f.fcsOk then .next (s.haripCount 2)
  else if !s.frameForUs f then .next s
  else
    let s := s.haripCount 1
    if hType f = 0x30 ∧ hNum f = 0 then .next (s.answerChallenge f)
    else if hType f = 0x32 ∧ hNum f = 0 then .next (s.takeRecoveryFrame f)
    else if s.ranger ≠ .up ∧ s.ranger ≠ .handoff then .next s
    else if fieldQueueDepth ≤ s.rxFrames.length then .next (s.haripCount 3)
    else .next { s with rxFrames := s.rxFrames ++ [f] }

/-- CHALLENGE_REQ (R485). -/
def execChallengeReq (f : FieldFrame) (s : State) : Host.Outcome State Fault Refusal :=
  if s.booted = false ∨ !f.fcsOk ∨ !s.frameForUs f ∨ hType f ≠ 0x30 ∨ hNum f ≠ 0 then .next s else .next ((s.haripCount 1).answerChallenge f)

/-- CHALLENGE_EXPIRY (R485). -/
def execChallengeExpiry (s : State) : Host.Outcome State Fault Refusal := .next { s with challenge := none }

/-- RECOVERY (R486). -/
def execRecovery (f : FieldFrame) (s : State) : Host.Outcome State Fault Refusal :=
  if s.booted = false ∨ !f.fcsOk ∨ !s.frameForUs f ∨ hType f ≠ 0x32 ∨ hNum f ≠ 0 then .next s else .next ((s.haripCount 1).takeRecoveryFrame f)

/-- RESET_MANAGEMENT_ACTION (R487, R552): action 0x01. -/
def execResetManagementAction (s : State) : Host.Outcome State Fault Refusal :=
  if s.actions.contains 1 then
    let s := { s with actions := s.actions.filter (fun a => a != 1) }
    .next (if s.ranger = .up ∨ s.ranger = .handoff then s.rangerDown else s)
  else .next s

/-- FAULT_LOG_SNAPSHOT (R487): action 0x02 copies the log into the area that does not hold the newest snapshot, or rolls back. -/
def execFaultLogSnapshot (completes : Bool) (s : State) : Host.Outcome State Fault Refusal :=
  if s.actions.contains 2 then
    let s := { s with actions := s.actions.filter (fun a => a != 2) }
    let area := if s.snapNewest = 1 then 1 else 0
    if completes then
      .next { s with snapAreas := SMap.set [] s.snapAreas area ((List.range 2048).map (fun w => s.objW 0xA000 1 w)), snapNewest := area + 1 }
    else .next s
  else .next s

/-- POWER_CYCLE_ACTION (R487, R532): action 0x03 starts the cycle. -/
def execPowerCycleAction (s : State) : Host.Outcome State Fault Refusal :=
  if s.actions.contains 3 then .next { s with actions := s.actions.filter (fun a => a != 3) }.cycleByAction else .next s

/-- BEACON_CONFLICT (R472): a coordinator received a BEACON it did not send. -/
def execBeaconConflict (s : State) : Host.Outcome State Fault Refusal :=
  if s.plcaUsed ∧ s.getF 0x1020 2 8 8 = 0 ∧ s.plcaDown = false then .next ({ s with plcaDown := true }.event 0x1020 5 0x4000) else .next s

/-- PLCA_STATUS_CHANGE (R472). -/
def execPlcaStatusChange (good : Bool) (s : State) : Host.Outcome State Fault Refusal := .next { s with plcaOk := good }

/-- FIELD_REVERT_TIMEOUT (R473): both objects return to their values before the change. -/
def execFieldRevertTimeout (s : State) : Host.Outcome State Fault Refusal :=
  match s.revert with
  | some (plca, ether) => .next (({ s with revert := none, plcaDown := false }.setObj 0x1020 2 plca).setObj 0x1020 3 ether |>.event 0x1020 5 0x8000)
  | none => .next s

/-! ## Entries (R454, R456, R458, R462, R476) -/

/-- One entry of a READ: STATUS and VALUE (R462, R484). -/
def State.readEntry (s : State) (r : Requester) (ix sb : Nat) : State × Nat × U64 :=
  if r = .stranger then
    (if isPublic ix sb && !(match objInfo ix sb with | some i => i.mailboxOnly | none => true) then (s, hOk, s.slotWord r ix sb) else (s, hAuth, 0))
  else if !isImplemented ix sb then (s.dictEvent r 0x8000 ix sb 1, hNoObj, 0)
  else if !s.canRead r ix sb then (s.dictEvent r 0x8000 ix sb 2, hAuth, 0)
  else if (match objInfo ix sb with | some i => i.mailboxOnly | none => false) then (s.dictEvent r 0x8000 ix sb 7, hAccess, 0)
  else (s.afterRead ix sb 1, hOk, s.slotWord r ix sb)

/-- The entries of a READ, in order. -/
def State.readEntries (s : State) (r : Requester) (body : List Byte) (n : Nat) : State × List Byte :=
  (List.range n).foldl (fun (acc : State × List Byte) i =>
    let ix := ofLe (sliceBytes body (4 + 4 * i) 2)
    let sb := (body.getD (6 + 4 * i) 0).toNat
    let x := acc.1.readEntry r ix sb
    (x.1, acc.2 ++ leBytes 2 ix ++ [BitVec.ofNat 8 sb, BitVec.ofNat 8 x.2.1] ++ leBytes 8 x.2.2.toNat)) (s, [])

/-- One entry of a WRITE: STATUS (R458, R462, R466). One to the vendor range completes without an effect on the model's state (R15, R451). -/
def State.writeEntry (s : State) (r : Requester) (ix sb : Nat) (guarded : Bool) (v comp : U64) : State × Nat :=
  if !isImplemented ix sb then (s.dictEvent r 0x8000 ix sb 1, hNoObj)
  else if !s.canWrite r ix sb then (s.dictEvent r 0x8000 ix sb 2, hAuth)
  else if isVendor ix then (s, hOk)
  else
    match objInfo ix sb with
    | none => (s, hNoObj)
    | some i =>
      if i.acc = .co ∨ i.acc = .ro then (s.dictEvent r 0x8000 ix sb 8, hAccess)
      else if guarded && i.acc != .rg && !isMailboxCtrl ix sb then (s.dictEvent r 0x8000 ix sb 4, hAccess)
      else if i.mailboxOnly then (s.dictEvent r 0x8000 ix sb 7, hAccess)
      else if (i.acc = .rg && !guarded) || (guarded && fld comp 0 i.bits != fld (~~~v) 0 i.bits) then (s, hGuard)
      else if isMailboxCtrl ix sb then (s.runMailbox r v guarded, hOk)
      else
        let x := s.dictWrite r ix sb v true
        (x.1, if x.2 then hOk else hRefused)

/-- The entries of a WRITE, in order, with no apply phase between them (R456). -/
def State.writeEntries (s : State) (r : Requester) (body : List Byte) (n : Nat) : State × List Byte :=
  (List.range n).foldl (fun (acc : State × List Byte) i =>
    let o := 4 + 24 * i
    let ix := ofLe (sliceBytes body o 2)
    let sb := (body.getD (o + 2) 0).toNat
    let guarded := bitOf (body.getD (o + 3) 0) 0
    let x := acc.1.writeEntry r ix sb guarded (BitVec.ofNat 64 (ofLe (sliceBytes body (o + 8) 8))) (BitVec.ofNat 64 (ofLe (sliceBytes body (o + 16) 8)))
    (x.1, acc.2 ++ leBytes 2 ix ++ [BitVec.ofNat 8 sb, BitVec.ofNat 8 x.2])) (s, [])

/-! ## Attestation frames (R576, R577) -/

/-- Keeps a report: the two newest of a session, the four newest of all SESSION 0 requesters (R577). -/
def State.keepReport (s : State) (k : KeptReport) : State :=
  let limit := if k.owner = 0 then 4 else 2
  let mine := (s.kept.filter (fun x => x.owner == k.owner)).take (limit - 1)
  { s with kept := k :: (s.kept.filter (fun x => x.owner != k.owner || mine.contains x)) }

/-- What a request asks for comes to: the state, STATUS and body. -/
abbrev Answer := State × Nat × List Byte

/-- ATTEST_REQ (R577): a refusal is answered ERR_BUSY. -/
def State.attestReq (s : State) (owner : Nat) (body : List Byte) : Answer :=
  if body.length ≠ 32 then (s, hFormat, [])
  else
    let r := s.signReport (BitVec.ofNat 256 (ofLe body))
    match r.2 with
    | none => (r.1, hBusy, [])
    | some l =>
      let id := r.1.nextReport
      ({ r.1 with nextReport := id + 1 }.keepReport ⟨id, BitVec.ofNat 16 owner, l⟩, hOk, leBytes 2 id.toNat ++ leBytes 2 0 ++ leBytes 4 4744)

/-- ATTEST_GET (R576, R577): whether the 10 s of a report have passed is a free value (log entry 4). -/
def State.attestGet (s : State) (body : List Byte) : Answer :=
  let id := ofLe (sliceBytes body 0 2)
  let n := ofLe (sliceBytes body 2 2)
  let off := ofLe (sliceBytes body 4 4)
  if body.length ≠ 8 ∨ n = 0 ∨ 1440 < n ∨ 4744 < off + n then (s, hFormat, [])
  else
    match s.kept.find? (fun x => x.id.toNat == id) with
    | none => (s, hFormat, [])
    | some k =>
      if bitOf s.drawn 0 then ({ s with kept := s.kept.erase k }.advance, hFormat, [])
      else (s.advance, hOk, leBytes 2 id ++ leBytes 2 n ++ leBytes 4 off ++ sliceBytes k.bytes off n)

/-! ## Requests (R476, R481) -/

/-- A request of a TYPE with a plaintext body, within a session or with SESSION 0. -/
def State.answer (s : State) (r : Requester) (type num : Nat) (body : List Byte) : Answer :=
  let n := (body.getD 0 0).toNat
  match type with
  | 0x01 =>
    if n = 0 ∨ 32 < n ∨ body.length ≠ 4 + 4 * n then (s, hFormat, [])
    else
      let x := s.readEntries r body n
      (x.1, hOk, [BitVec.ofNat 8 n, 0, 0, 0] ++ x.2)
  | 0x03 =>
    if n = 0 ∨ 16 < n ∨ body.length ≠ 4 + 24 * n then (s, hFormat, [])
    else if r = .stranger then
      (s.haripCount 4, hOk, [BitVec.ofNat 8 n, 0, 0, 0] ++
        (List.range n).flatMap (fun i => sliceBytes body (4 + 24 * i) 3 ++ [BitVec.ofNat 8 hAuth]))
    else
      let x := s.writeEntries r body n
      (x.1, hOk, [BitVec.ofNat 8 n, 0, 0, 0] ++ x.2)
  | 0x24 => (s, if body.isEmpty then hOk else hFormat, [])
  | 0x40 => s.attestReq num body
  | 0x42 => s.attestGet body
  | _ => (s, hFormat, [])

/-- A place of the session table with a session of that number. -/
def State.sessionPlace (s : State) (num : Nat) : Option (Fin 4) :=
  ([0, 1, 2, 3] : List (Fin 4)).find? (fun (k : Fin 4) => match s.session k.val with | some x => x.num.toNat == num | none => false)

/-- Sets a session. -/
def State.setSession (s : State) (k : Nat) (x : Option Session) : State := { s with sessions := SMap.set none s.sessions k x }

/-- The record of executed SEQs after s is executed (R481): H and bit i for H − i. -/
def markSeq (x : Session) (seq : Nat) : Session :=
  if x.high.toNat < seq then
    { x with high := BitVec.ofNat 64 seq, ran := (x.ran <<< (seq - x.high.toNat)) ||| 1 }
  else { x with ran := x.ran ||| BitVec.ofNat 64 (2 ^ (x.high.toNat - seq)) }

/-- The front frame of the queue is taken. -/
def State.popFrame (s : State) : State := { s with rxFrames := s.rxFrames.tail }

/-- A frame of a session in force (R479 to R481). -/
def State.sessionFrame (s : State) (k : Fin 4) (x : Session) (f : FieldFrame) : State :=
  if !lengthOk f true then s.haripCount 5
  else
    match openFrame f x with
    | none => s.haripCount 5
    | some body =>
      let seq := hSeq f
      match x.cache.find? (fun e => e.1.toNat == seq) with
      | some e => s.send (.field f.src e.2)
      | none =>
        let fresh := decide (x.high.toNat < seq) || (decide (x.high.toNat - seq < 64) && !bitOf x.ran (x.high.toNat - seq))
        if !fresh then s.haripCount 6
        else
          let y := { markSeq x seq with count := x.count + 1, used := s.sessionUse + 1 }
          let s := { s with revert := none, sessionUse := s.sessionUse + 1 }.setSession k.val (some y)
          let (t, status, out) := s.answer (.session k) (hType f) (hNum f) body
          let rsp := t.sealFrame f x.rspKey (hNum f) ((hType f + 1) % 256) status out
          let t := match t.session k.val with
            | some z => t.setSession k.val (if (hType f = 0x24 ∧ status = hOk) ∨ 2 ^ 32 ≤ z.count then none
                else some { z with cache := ((BitVec.ofNat 64 seq, rsp) :: z.cache).take 8 })
            | none => t
          t.send (.field f.src rsp)

/-- The front frame, where it is a request that belongs to a session or names one (R476, R484): READ, WRITE, CLOSE and the attestation frames,
with SESSION 0 or within a session. -/
def State.serveFrame (s : State) (f : FieldFrame) : State :=
  if hNum f = 0 then
    (if hType f = 0x24 then s
     else if !lengthOk f false then s.sendPublic f (hType f + 1) hFormat 0 []
     else
       let (t, status, out) := s.answer .stranger (hType f) 0 (hBody f)
       t.sendPublic f (hType f + 1) status 0 out)
  else
    match s.sessionPlace (hNum f) with
    | some k =>
      (match s.session k.val with
       | some x => s.sessionFrame k x f
       | none => s)
    | none => s.sendPublic f ((hType f + 1) % 256) hSession (hNum f) []

/-- The TYPEs that a command of the table serves. -/
def knownType (t : Nat) : Bool := [0x01, 0x03, 0x10, 0x20, 0x22, 0x24, 0x40, 0x42].contains t

/-- Frames at the front of the queue of a TYPE that no command serves are answered ERR_FORMAT within a session and dropped otherwise (R476). -/
def State.dropUnknown (s : State) : State :=
  s.rxFrames.foldl (fun (acc : State × Bool) f =>
    if acc.2 && !knownType (hType f) then
      (let t := acc.1.popFrame
       (if hNum f = 0 then t else t.serveFrame f, true))
    else (acc.1, false)) (s, true) |>.1

/-- The next frame in arrival order, where it is of a TYPE and Ranger serves (R482). -/
def State.frontOf (s : State) (type : Nat) : Option (State × FieldFrame) :=
  if !s.serves then none
  else
    let s := s.dropUnknown
    match s.rxFrames with
    | f :: _ => if hType f = type then some (s.popFrame, f) else none
    | [] => none

/-- HARIP_READ (R476). -/
def execHaripRead (s : State) : Host.Outcome State Fault Refusal :=
  match s.frontOf 0x01 with
  | some (t, f) => .next (t.serveFrame f)
  | none => .next s

/-- HARIP_WRITE (R456, R476). -/
def execHaripWrite (s : State) : Host.Outcome State Fault Refusal :=
  match s.frontOf 0x03 with
  | some (t, f) => .next (t.serveFrame f)
  | none => .next s

/-- CLOSE (R478). -/
def execClose (s : State) : Host.Outcome State Fault Refusal :=
  match s.frontOf 0x24 with
  | some (t, f) => .next (t.serveFrame f)
  | none => .next s

/-- ATTEST_REQ (R576, R577). -/
def execAttestReq (s : State) : Host.Outcome State Fault Refusal :=
  match s.frontOf 0x40 with
  | some (t, f) => .next (t.serveFrame f)
  | none => .next s

/-- ATTEST_GET (R576, R577). -/
def execAttestGet (s : State) : Host.Outcome State Fault Refusal :=
  match s.frontOf 0x42 with
  | some (t, f) => .next (t.serveFrame f)
  | none => .next s

/-- DISCOVER (R476, R484): PART_NUMBER, STEPPING, NODE_ID and DeviceId. -/
def execDiscover (s : State) : Host.Outcome State Fault Refusal :=
  match s.frontOf 0x10 with
  | none => .next s
  | some (t, f) =>
    if hNum f ≠ 0 then .next (t.serveFrame f)
    else if hLength f ≠ 0 then .next (t.sendPublic f 0x11 hFormat 0 [])
    else
      .next (t.sendPublic f 0x11 hOk 0 (leBytes 8 (t.objW 0x1001 1 0).toNat ++ leBytes 8 (t.objW 0x1001 1 1).toNat ++ leBytes 1 (t.obj 0x1001 2).toNat ++
        leBytes 1 (t.getF 0x1020 2 8 8) ++ [0, 0] ++ leBytes 4 (t.obj 0x7001 1).toNat))

/-! ## Sessions (R478 to R480) -/

/-- SESSION numbers in use. -/
def State.sessionsUsed (s : State) (n : Nat) : Bool := (s.sessionPlace n).isSome || s.halfOpen.any (fun h => h.num.toNat == n)

/-- The next free SESSION number after the last assigned; never 0 (R480). -/
def State.freeSession (s : State) : Nat :=
  (((List.range 10).map (fun i => (s.lastSession.toNat + i) % 65535 + 1)).find? (fun n => !s.sessionsUsed n)).getD 1

/-- `n` free words. -/
def drawWords (s : State) : Nat → List U64
  | 0 => []
  | n + 1 => drawWords s n ++ [Config.freeWord (s.free + n)]

/-- The exchange that a HELLO begins: ND, the ephemeral scalar and the keys (R478, R479). -/
def State.helloOpen (s : State) (f : FieldFrame) : State × HalfOpen × List Byte :=
  let body := hBody f
  let num := s.freeSession
  let nd := (drawWords s 4).flatMap (fun w => leBytes 8 w.toNat)
  let scalar : BitVec 384 := BitVec.ofNat 384 (ofLe ((drawWords s 10).drop 4 |>.flatMap (fun w => leBytes 8 w.toNat)))
  let s := { s with free := s.free + 10, lastSession := BitVec.ofNat 16 num }
  let first := leBytes 2 num ++ [0, 0] ++ nd ++ sliceBytes (Config.ephemeralPoint scalar) 0 96
  let rsp := first ++ sliceBytes (Config.ecdsaSign (Config.sha384 (body ++ first))) 0 96
  let z := Config.ecdhX (sliceBytes body 36 96) scalar
  let salt := sliceBytes body 4 32 ++ nd
  let key (label : String) : BitVec 256 := Config.hkdf salt z (label.toList.map (fun c => BitVec.ofNat 8 c.toNat))
  (s, { num := BitVec.ofNat 16 num, slot := body.getD 0 0, transcript := body ++ rsp, reqKey := key "Harip-v1 req", rspKey := key "Harip-v1 rsp" }, rsp)

/-- HELLO (R478, R480, R584): whether it is beyond 8 in this second is a free value (log entry 4). -/
def execHello (s : State) : Host.Outcome State Fault Refusal :=
  match s.frontOf 0x20 with
  | none => .next s
  | some (t, f) =>
    if hNum f ≠ 0 then .next (t.serveFrame f)
    else if hLength f ≠ 132 ∨ !lengthOk f false then .next (t.sendPublic f 0x21 hFormat 0 [])
    else if t.debugOpen then .next (t.sendPublic f 0x21 hBusy 0 [])
    else if bitOf t.drawn 0 then .next (t.advance.haripCount 7)
    else
      let x := t.advance.helloOpen f
      let open' := if 4 ≤ x.1.halfOpen.length then x.1.halfOpen.tail else x.1.halfOpen
      .next ({ x.1 with halfOpen := open' ++ [x.2.1] }.sendPublic f 0x21 hOk 0 x.2.2)

/-- The session idle longest. -/
def State.idlest (s : State) : Fin 4 :=
  ([0, 1, 2, 3] : List (Fin 4)).foldl (fun (b : Fin 4) (k : Fin 4) =>
    match s.session k.val, s.session b.val with
    | some x, some y => if x.used < y.used then k else b
    | _, _ => b) 0

/-- A session comes into force in a place of the table, with banked objects of its own (R454, R480). -/
def State.openSession (s : State) (k : Fin 4) (h : HalfOpen) : State :=
  let s := { s with
    dict := SMap.eraseAll s.dict (fun key => keyBank key == 10 + k.val)
    captures := SMap.set none s.captures (10 + k.val) none
    halfOpen := s.halfOpen.filter (fun x => x.num != h.num)
    sessionUse := s.sessionUse + 1 }
  (s.setSession k.val (some { num := h.num, slot := h.slot, reqKey := h.reqKey, rspKey := h.rspKey, high := 0, ran := 0, cache := [], count := 0,
                              used := s.sessionUse })).haripCount 8

/-- A FINISH checks: its signature under the key of its slot, and the slot's role (R478, R480). -/
def State.finishOk (s : State) (h : HalfOpen) (f : FieldFrame) : Bool :=
  let slot := h.slot.toNat
  hLength f == 96 && lengthOk f false && (let role := (s.slotRole slot).1; decide (1 ≤ role) && decide (role ≤ 3)) &&
  Config.ecdsaVerify (sliceBytes (s.recordBytes 0x2003 slot 12) 0 96) (Config.sha384 h.transcript) (hBody f)

/-- FINISH (R478, R480): with a full table the session idle longest is replaced where it has been idle for 10 s, a free value (log entry 4). -/
def execFinish (s : State) : Host.Outcome State Fault Refusal :=
  match s.frontOf 0x22 with
  | none => .next s
  | some (t, f) =>
    match t.halfOpen.find? (fun h => h.num.toNat == hNum f) with
    | none => if hNum f = 0 then .next t else .next (t.serveFrame f)
    | some h =>
      if !t.finishOk h f then
        .next ({ t with halfOpen := t.halfOpen.filter (fun x => x.num != h.num) }.sendPlain f 0x23 hAuth (hNum f) [])
      else
        let done (u : State) (k : Fin 4) : Host.Outcome State Fault Refusal :=
          let u := u.openSession k h
          .next (u.send (.field f.src (u.sealFrame f h.rspKey (hNum f) 0x23 hOk [])))
        match ([0, 1, 2, 3] : List (Fin 4)).find? (fun k => (t.session k.val).isNone) with
        | some k => done t k
        | none => if bitOf t.drawn 0 then done t.advance t.idlest else .next (t.advance.sendPlain f 0x23 hBusy (hNum f) [])

/-- HALF_OPEN_EXPIRY (R480): the oldest half-open exchange. -/
def execHalfOpenExpiry (s : State) : Host.Outcome State Fault Refusal := .next { s with halfOpen := s.halfOpen.tail }

/-- SESSION_IDLE_TIMEOUT (R480). -/
def execSessionIdleTimeout (k : Fin 4) (s : State) : Host.Outcome State Fault Refusal := .next (s.setSession k.val none)

end Sys2Proof.Machine
end

