-- ==== Sys2Proof/Machine/Host.lean ====
section
/-! DEFINITION. The PCI Express attachment (15_host_interface.md): doorbells, command and completion rings, interrupts, BAR2, translations,
and the resets of functions and of the endpoint. -/

namespace Sys2Proof.Machine

/-! ## MSI-X (R494, R505) -/

/-- Vectors in a function's table (R494). -/
def vectorCount (f : Nat) : Nat := if f = 0 then 256 else 224

/-- Sends an MSI-X vector, or sets its PBA bit while it is masked (R505). -/
def State.sendVector (s : State) (f v : Nat) : State :=
  let x := s.func f
  if SMap.get false x.unmasked v then s.send (.msix f v)
  else s.setFunc f { x with pba := SMap.set false x.pba v true }

/-- MSIX_VECTOR_UNMASK (R505): a write of the vector's entry in BAR4 that unmasks it. -/
def execMsixVectorUnmask (f : FuncId) (v : BitVec 11) (s : State) : Host.Outcome State Fault Refusal :=
  let n := v.toNat
  if s.endpointReady = false then .next s
  else if vectorCount f.val ≤ n then .next (s.send (.busError f.val))
  else
    let x := s.func f.val
    let t := s.setFunc f.val { x with unmasked := SMap.set false x.unmasked n true, pba := SMap.set false x.pba n false }
    .next (if SMap.get false x.pba n then t.send (.msix f.val n) else t)

/-- The status words whose SEQ vector 0 of a function reports: their number in `statusSent`, and SEQ (R505). -/
def State.statusSeqs (s : State) (f : Nat) : List (Nat × Nat) :=
  let ring := (16 * f, s.getF (0x6400 + f) 4 16 16)
  let stand (d : Nat) : Nat × Nat := (16 * f + 1 + d, s.getF (standIx d) 4 16 16)
  if f = 0 then ring :: (List.range 8).map stand ++ [(9, fld (s.word (objKey 1 0x1011 1 0)) 16 16)]
  else [ring, stand (f - 1)]

/-- STATUS_VECTOR (R505): the status vector, where a SEQ it reports has advanced since it was sent last. -/
def execStatusVector (f : FuncId) (s : State) : Host.Outcome State Fault Refusal :=
  let l := s.statusSeqs f.val
  if l.all (fun e => (SMap.get 0 s.statusSent e.1).toNat == e.2) then .next s
  else
    let t := { s with statusSent := l.foldl (fun (m : SMap U16) (e : Nat × Nat) => SMap.set 0 m e.1 (BitVec.ofNat 16 e.2)) s.statusSent }
    .next (t.sendVector f.val 0)

/-! ## Doorbells (R498, R499, R504) -/

/-- Entries of the command ring. -/
def State.cmdSize (s : State) (f : Nat) : Nat := 2 ^ s.getF (0x6400 + f) 1 19 5
/-- Entries of the completion ring. -/
def State.cplSize (s : State) (f : Nat) : Nat := 2 ^ s.getF (0x6400 + f) 1 14 5
/-- The distance from one index of a ring to another. -/
def ringDistance (size a b : Nat) : Nat := (b + size - a) % size

/-- BAR4 offset 0x0010 (R498): command fetch index, completion write index, STOPPED and PHASE. -/
def State.ringState (s : State) (f : Nat) : U64 :=
  let x := s.func f
  BitVec.ofNat 64 (x.fetch + 2 ^ 16 * x.cplWrite + 2 ^ 32 * b2n (s.ringStopped f) + 2 ^ 33 * b2n x.phase)

/-- A CMD_TAIL write is accepted (R499). -/
def State.tailOk (s : State) (f : Nat) (v : BitVec 32) : Bool :=
  let x := s.func f
  let n := s.cmdSize f
  let t := v.toNat % 65536
  s.ringOn f && decide (t < n) && decide (ringDistance n x.fetch x.tail ≤ ringDistance n x.fetch t)

/-- A write of BAR4 offset 0x0000: the entries it makes pending carry the number of this doorbell (R502); RESUME (R504). -/
def State.writeTail (s : State) (f : Nat) (v : BitVec 32) : State :=
  if !s.tailOk f v then s.ringEvent f 0x4000
  else
    let x := s.func f
    let t := v.toNat % 65536
    let new := ringDistance (s.cmdSize f) x.tail t
    let s := { s.setFunc f { x with tail := t, bells := x.bells ++ List.replicate new s.bells } with bells := s.bells + 1 }
    if v.getLsbD 31 then s.setF (0x6400 + f) 4 1 1 0 else s

/-- CMD_TAIL (R498, R499). -/
def execCmdTail (f : FuncId) (v : BitVec 32) (s : State) : Host.Outcome State Fault Refusal :=
  if s.endpointReady then .next (s.writeTail f.val v) else .next s

/-- RESUME (R504): a CMD_TAIL write whose bit 31 is 1. -/
def execResume (f : FuncId) (v : BitVec 32) (s : State) : Host.Outcome State Fault Refusal :=
  if s.endpointReady then .next (s.writeTail f.val (v ||| 0x80000000)) else .next s

/-- CPL_HEAD (R498, R499): the head moves on at most to the write index. -/
def execCplHead (f : FuncId) (v : BitVec 32) (s : State) : Host.Outcome State Fault Refusal :=
  let x := s.func f.val
  let n := s.cplSize f.val
  let h := v.toNat % 65536
  if s.endpointReady = false then .next s
  else if s.ringOn f.val = true ∧ h < n ∧ ringDistance n x.cplHead h ≤ ringDistance n x.cplHead x.cplWrite then
    .next (s.setFunc f.val { x with cplHead := h })
  else .next (s.ringEvent f.val 0x4000)

/-! ## Command entries (R500, R502, R504) -/

/-- The Stand of an entry: that of the function, or for the physical function STAND (R500). -/
def entryStand (f : Nat) (w0 : U64) : Nat := if f = 0 then fld w0 36 3 else f - 1

/-- An entry that is refused: its completion, and the ring stops (R504). -/
def State.refuseEntry (s : State) (f d status id : Nat) (w0 : U64) : State :=
  let x := s.func f
  let seq := if s.enabled d then (s.stepSeq d).toNat % 2 ^ 32 else 0
  let c : Completion :=
    { w0 := BitVec.ofNat 64 (fld w0 16 16 + 2 ^ 16 * status + 2 ^ 28 * d + 2 ^ 32 * seq), w1 := 0, irq := bitOf w0 32, gen := x.gen
      stand := some (Fin.ofNat 8 d), id := id }
  (s.setFunc f { x with done := x.done ++ [c], openSteps := x.openSteps ++ [id] }).ringEvent f 2

/-- The completions of the MARKs for which every STEP fetched before has completed (R502). -/
def Func.releaseMarks (x : Func) : Func :=
  let due := x.marks.filter (fun m => x.openSteps.all (fun i => decide (m.1 < i)))
  { x with
    marks := x.marks.filter (fun m => !x.openSteps.all (fun i => decide (m.1 < i)))
    done := x.done ++ due.map (fun m =>
      { w0 := BitVec.ofNat 64 (fld m.2 16 16 + 2 ^ 28 * fld m.2 36 3), w1 := 0, irq := bitOf m.2 32, gen := x.gen, stand := none, id := m.1 }) }

/-- The ring fetches its next entry: it runs, it is not stopped, and an entry is pending. -/
def State.mayFetch (s : State) (f : Nat) : Bool :=
  s.ringOn f && !s.ringStopped f && (s.func f).fetch != (s.func f).tail

/-- The device has fetched the entry at its fetch index: a STEP waits for its Stand, a MARK for the STEPs before it (R502). -/
def State.fetchEntry (s : State) (f : Nat) (e : HostEntry) : State :=
  let x := s.func f
  let id := x.fetched
  let d := entryStand f e.w0
  let bell := x.bells.headD 0
  let s := s.setFunc f { x with fetch := (x.fetch + 1) % s.cmdSize f, fetched := id + 1, bells := x.bells.drop 1 }
  let opc := fld e.w0 0 8
  if opc = 2 then
    (let y := s.func f
     s.setFunc f ({ y with marks := y.marks ++ [(id, if f = 0 then e.w0 else setFld e.w0 36 3 d)] } : Func).releaseMarks)
  else if opc ≠ 1 ∨ e.w1.toNat % 16 ≠ 0 ∨ (f = 0 ∧ s.enabled d = false) then s.refuseEntry f d 4 id e.w0
  else
    match e.records with
    | none => s.refuseEntry f d 3 id e.w0
    | some l =>
      let w : StepWork :=
        { w0 := e.w0, records := (List.range (fld e.w0 40 8 + 1)).map (fun i => l.getD i 0), func := Fin.ofNat 9 f, gen := x.gen, id := id
          bell := bell }
      let y := s.func f
      (s.setFunc f { y with openSteps := y.openSteps ++ [id] }).setStand d { s.stand d with steps := (s.stand d).steps ++ [w] }

/-- STEP (R502, R504): the next entry of a function's ring, with the launch records that the device read. -/
def execStep (f : FuncId) (e : HostEntry) (s : State) : Host.Outcome State Fault Refusal :=
  if s.mayFetch f.val then .next (s.fetchEntry f.val e) else .next s

/-- MARK (R502): the next entry of a function's ring. -/
def execMark (f : FuncId) (e : HostEntry) (s : State) : Host.Outcome State Fault Refusal :=
  if s.mayFetch f.val then .next (s.fetchEntry f.val e) else .next s

/-! ## Completions (R501, R503) -/

/-- Free entries of the completion ring (R499). -/
def State.cplFree (s : State) (f : Nat) : Nat :=
  let x := s.func f
  let n := s.cplSize f
  (x.cplHead + 2 * n - x.cplWrite - 1) % n

/-- The function after its oldest completion is written: the next entry, with PHASE inverted at a wrap (R501), and the MARKs it lets go. -/
def Func.written (x : Func) (c : Completion) (size : Nat) : Func :=
  let next := (x.cplWrite + 1) % size
  Func.releaseMarks { x with
    cplWrite := next, phase := if next = 0 then !x.phase else x.phase, done := x.done.drop 1
    openSteps := if fld c.w0 16 8 = 5 then x.openSteps else x.openSteps.filter (fun i => i != c.id) }

/-- COMPLETION (R503): the oldest completion of a function is written into a free entry; then its vector is sent. -/
def execCompletion (f : FuncId) (s : State) : Host.Outcome State Fault Refusal :=
  let x := s.func f.val
  match x.done with
  | [] => .next s
  | c :: _ =>
    if s.ringOn f.val = false ∨ s.cplFree f.val = 0 then .next s
    else
      let w0 := setBit c.w0 31 x.phase
      let a := s.obj (0x6400 + f.val) 3 + BitVec.ofNat 64 (16 * x.cplWrite)
      let s := s.send (.hostWrite f.val a (leBytes 8 w0.toNat ++ leBytes 8 c.w1.toNat))
      let s := s.setFunc f.val (x.written c (s.cplSize f.val))
      .next (if c.irq then s.sendVector f.val (s.getF (0x6400 + f.val) 1 3 11) else s)

/-! ## BAR2 (R497, R509, R510) -/

/-- Bytes of a function's BAR2 (R496). -/
def bar2Bytes (f : Nat) : Nat := 2 ^ (28 + (Config.bar2Size (Fin.ofNat 9 f)).val)

/-- A Stand whose function's BAR2 requests are answered with Completer Abort (R509): STATE 0, 4 or 5. -/
def State.bar2Closed (s : State) (f : Nat) : Bool :=
  f != 0 && ((s.stand (f - 1)).phase == .disabled || (s.stand (f - 1)).phase == .fenced || (s.stand (f - 1)).phase == .recovering)

/-- Counts the flits of an access by the PCI Express endpoint that the model makes in one step: for each 128-byte block one at the endpoint's
interface and one at the interface that responds (R326, log entry 19). -/
def State.countHostFlits (s : State) (a n : Nat) : State :=
  if n = 0 then s
  else
    ((List.range ((a + n - 1) / 128 - a / 128 + 1)).foldl (fun s i =>
      match nodeOfAddr (128 * (a / 128 + i)) with
      | some m => (s.count (0x6600 + m / 2) (ifaceSub m 2) 0 64 1).count (0x6600 + pcieNode / 2) (ifaceSub pcieNode 2) 0 64 1
      | none => s) s)

/-- BAR2_ACCESS (R497, R509, R510): status 4 is Completer Abort, status 5 a completion whose data is poisoned. -/
def execBar2Access (q : Bar2Req) (s : State) : Host.Outcome State Fault Refusal :=
  let f := q.func.val
  let n := if q.write then q.data.length else q.len.toNat
  let a := (s.obj (0x6400 + f) 5).toNat + q.offset.toNat
  let who : Option Nat := if f = 0 then none else some (f - 1)
  let closed := s.bar2Closed f || decide (bar2Bytes f < q.offset.toNat + n)
  if s.endpointReady = false ∨ (q.write = true ∧ q.poisoned = true) then .next s
  else if q.write then
    if closed then .next (s.send (.busError f))
    else
      let r := (s.countHostFlits a n).writeNow who a q.data allBytes
      .next (if r.2 = 0 then r.1 else r.1.send (.busError f))
  else if closed then .next (s.send (.completion f q.tag.toNat 4 []))
  else
    let r := (s.countHostFlits a n).readNow who a n
    .next (r.1.send (if r.2.2 = 0 then .completion f q.tag.toNat 0 r.2.1
      else if r.2.2 = codeUe then .completion f q.tag.toNat 5 r.2.1 else .completion f q.tag.toNat 4 []))

/-! ## Host-space requests that are out (R506, R508, R510) -/

/-- The slots of a function that await an answer of the host. -/
def State.hostWaiters (s : State) (f : Nat) : List Nat :=
  (s.slots.map (fun e => e.1)).filter (fun k =>
    s.groveOwner (k / 8) == some (f - 1) && f != 0 &&
    (s.slot k).miss.isSome)

/-- A slot's host request receives HOST_ERR (R508, R510): the stream has the error where it stands at the unit, else once it reaches it. -/
def State.hostError (s : State) (k : Nat) : State :=
  match (s.slot k).miss with
  | some m => s.failMiss k m (fun s => (s.ifaceEvent (groveNode (k / 8)) codeHost 0).streamError (k / 8) (k % 8) seRemote codeHost)
  | none => s

/-- The PCI Express nodes whose oldest read of host space is a function's. -/
def State.pcieReads (s : State) (f : Nat) : List Nat :=
  (List.range 800).filter (fun node => attachOf node == .pcie &&
    (match s.rxQueue node 0 with | r :: _ => r.kind == 1 && flitFunc r == f | [] => false))

/-- COMPLETION_TIMEOUT (R510): the request of a function that the tag names among those that are out, the streams' first, receives HOST_ERR
(log entry 41). -/
def execCompletionTimeout (f : FuncId) (tag : BitVec 10) (s : State) : Host.Outcome State Fault Refusal :=
  let l := s.hostWaiters f.val
  match l[tag.toNat]? with
  | some k => .next (s.hostError k)
  | none =>
    match (s.pcieReads f.val)[tag.toNat - l.length]? with
    | some node => .next (s.serve node 0 1 (fun s r => s.respondError node r codeHost 0))
    | none => .next s

/-- A function's translations for a range of pages are dropped. -/
def State.dropTranslations (s : State) (f page pages : Nat) : State :=
  { s with ats := SMap.eraseAll s.ats (fun k =>
      k / 2 ^ 53 == f && decide (page ≤ k / 2 % 2 ^ 52) && decide (k / 2 % 2 ^ 52 < page + pages)) }

/-- INVALIDATE_REQUEST (R506): translations for the pages are dropped, and the request completes; every request that used them is sent. -/
def execInvalidateRequest (f : FuncId) (page : BitVec 52) (pages : BitVec 20) (s : State) : Host.Outcome State Fault Refusal :=
  if s.endpointReady then .next ((s.dropTranslations f.val page.toNat pages.toNat).send (.invalidated f.val page.toNat)) else .next s

/-! ## Resets of functions and of the endpoint (R507, R508, R601) -/

/-- The function can issue no host-space request until its rings are enabled again (R508, log entry 42): those that are out fail. -/
def State.hostDown (s : State) (f : Nat) : State :=
  let s := (s.hostWaiters f).foldl State.hostError s
  { s with hostOff := s.hostOff ||| BitVec.ofNat 9 (2 ^ f) }

/-- A hot reset or a link-down: the state of every function (R508). -/
def State.hotReset (s : State) : State := (List.range 9).foldl (fun s f => (s.hostDown f).resetFunc f) s

/-- HOT_RESET (R508). -/
def execHotReset (s : State) : Host.Outcome State Fault Refusal := .next s.hotReset

/-- D3HOT (R508). -/
def execD3hot (f : FuncId) (s : State) : Host.Outcome State Fault Refusal := .next ((s.hostDown f.val).disableRings f.val)

/-- STEPs of a function's ring leave their Stands' queues. -/
def State.dropSteps (s : State) (f : Nat) : State :=
  (List.range 8).foldl (fun s d =>
    s.setStand d { s.stand d with steps := (s.stand d).steps.filter (fun w => w.func.val != f) }) s

/-- FUNCTION_LEVEL_RESET (R508, R551): of the physical function its state; of a Stand's function a Stand reset too, which waits for a
recovery of the Stand; a second one joins the first. -/
def execFunctionLevelReset (f : FuncId) (s : State) : Host.Outcome State Fault Refusal :=
  let n := f.val
  let x := s.stand (n - 1)
  if n = 0 then .next (s.resetFunc 0)
  else if (s.func n).flr then .next s
  else
    let s := s.dropSteps n
    if x.phase = .disabled ∨ x.stuck = true then .next (s.resetFunc n)
    else if x.phase = .fenced ∨ x.phase = .recovering then .next (s.setFunc n { s.func n with flr := true })
    else .next ((s.resetFunc n).resetByFunction (n - 1))

/-- CONFIG_REQUEST (R507): Request Retry Status (2) until the endpoint is ready, which the free bit decides; then it is answered. -/
def execConfigRequest (f : FuncId) (tag : BitVec 10) (s : State) : Host.Outcome State Fault Refusal :=
  if s.booted = false ∨ s.perstN = false then .next s
  else if s.endpointReady then .next (s.send (.completion f.val tag.toNat 0 []))
  else if bitOf s.drawn 0 then .next ({ s.advance with endpointReady := true }.send (.completion f.val tag.toNat 0 []))
  else .next (s.advance.send (.completion f.val tag.toNat 2 []))

end Sys2Proof.Machine
end

