-- ==== Sys2Proof/Machine/PowerUp.lean ====
section
/-! DEFINITION. Device reset and power-up (19_package_power_up.md): the reset inputs, the straps, the supplies and the reference clocks. -/

namespace Sys2Proof.Machine

/-! ## Device reset (R34, R427, R540) -/

/-- A word of the dictionary that the NV store or a fuse keeps over a device reset: key slots and the recovery key, the revocation fuses, the
minima and their control, calibration, and failed marks (R427, R520, R540, R563, R567, R580, R581). -/
def keptWord (key : Nat) : Bool :=
  let ix := keyIx key
  keyBank key == 0 &&
  (ix == 0xA002 || ix == 0x2003 || ix == 0x2004 || ix == 0x2005 || key == objKey 0 0x2002 5 0 || (decide (0x4000 ≤ ix) && decide (ix < 0x4012)))

/-- Calibration values whose NV write had not completed, with what the NV store still has (R520). -/
def State.unstored (s : State) : List (Nat × U64) :=
  s.accepted.filterMap (fun e =>
    if keyBank e.1 = 15 ∧ 0x4000 ≤ keyIx e.1 ∧ keyIx e.1 < 0x4012 then e.2.map (fun v => (e.1 - 15 * 2 ^ 35, v)) else none)

/-- A device reset: everything at its default, but for what the NV store and the fuses keep, and the inputs as they stand. -/
def State.deviceReset (s : State) : State :=
  let t : State := { State.reset with
    pending := s.pending, free := s.free, out := s.out, nv := s.nv, bootCopies := s.bootCopies, snapAreas := s.snapAreas
    snapNewest := s.snapNewest, hssMarks := s.hssMarks, xrefs := s.xrefs, perstN := s.perstN, arefLost := s.arefLost
    dict := SMap.eraseAll s.dict (fun k => !keptWord k) }
  s.unstored.foldl (fun t e => t.setWord e.1 e.2) t

/-! ## Time t0 (R565, R569, R583, R601, R603) -/

/-- The device leaves device reset: both resets are high, the MCLK PLL has locked, and STRAP_TEST was sampled 0 (R599, R601, R602). -/
def State.mayBoot (s : State) : Bool := !s.booted && s.devRstN && s.perstN && s.mclkLocked && !s.bit 0x1002 1 2

/-- The device-wide marks are tested again at power-up, and one whose test passes is cleared (R540); whether it passes is a free value (log
entry 127). -/
def State.testMarks (s : State) : State :=
  (List.range 16 ++ [20, 21]).foldl (fun s k =>
    if s.wideMark k then (if bitOf s.drawn 0 then s.setWideMark k false else s).advance else s) s

/-- What happens at t0: key sets, q, the first SESSION number and DebugNonce; the stored minima are checked, which a free bit decides
(log entry 2); the stacks that are not failed begin to train, and so do the Xannus ports that are enabled (R332, R345). -/
def State.tryBoot (s : State) : State :=
  if !s.mayBoot then s
  else
    let ok := bitOf s.drawn 0
    let s := { s.advance with booted := true, minimaOk := ok }
    let s := { s.advance with lastSession := BitVec.ofNat 16 s.drawn.toNat }
    let s := ((s.showKeySets.setF 0x2000 1 6 1 (b2n (!ok))).setIndex s.mark).newDebugNonce
    let s := (List.range 8).foldl (fun s k => s.setF (0x8020 + k) 2 0 2 (if s.wideMark k then 3 else 1)) s.testMarks
    (List.range 12).foldl (fun s p => if bitOf (s.portCtrl p) 0 then s.startTraining p else s) s

/-- DEV_RST_N (R596, R601, R602): low is a device reset; its rise samples the straps. -/
def execDevRstN (level : Bool) (strapBoot : BitVec 2) (strapTest : Bool) (s : State) : Host.Outcome State Fault Refusal :=
  if !level then .next s.deviceReset
  else if s.devRstN then .next s
  else .next (({ s with devRstN := true }.setF 0x1002 1 0 2 strapBoot.toNat).setF 0x1002 1 2 1 (b2n strapTest)).tryBoot

/-- PERST_N (R33, R34, R601, R603): low after t0 resets the endpoint alone: the state that a hot reset returns, and the endpoint's queue. -/
def execPerstN (level : Bool) (s : State) : Host.Outcome State Fault Refusal :=
  if level then .next { s with perstN := true }.tryBoot
  else if s.booted then .next { s.hotReset.resetNode pcieNode with perstN := false, endpointReady := false }
  else .next { s with perstN := false }

/-- MCLK_PLL_LOCK (R599). -/
def execMclkPllLock (s : State) : Host.Outcome State Fault Refusal := .next { s with mclkLocked := true }.tryBoot

/-- AREF_LOSS (R599): the lock of the die's ACLK PLL is missing. -/
def execArefLoss (d : DieId) (s : State) : Host.Outcome State Fault Refusal :=
  .next ({ s with arefLost := s.arefLost ||| BitVec.ofNat 4 (2 ^ d.val) }.setF 0x1002 1 (8 + d.val) 1 0)

/-- RANGER_START (R564, R603): Ranger serves the dictionary, and the compute rails come up unless the device has tripped; AREF_LOCK shows the
PLLs that lock. -/
def execRangerStart (s : State) : Host.Outcome State Fault Refusal :=
  if s.booted = false ∨ s.ranger ≠ .off then .next s
  else
    let s := { s with ranger := .up }
    let s := if s.tripped then s else s.coresUp.setF 0x1002 1 8 4 (15 - s.arefLost.toNat)
    .next s.serveHeld

/-! ## Supplies (R594, R596) -/

/-- RAIL_DROP (R596): a supply falls in service; without those of the stacks refresh stops and every stack is failed. -/
def execRailDrop (r : RailId) (s : State) : Host.Outcome State Fault Refusal :=
  if r.val = 10 then .next { s.deviceReset with perstN := false }
  else if 5 ≤ r.val ∧ r.val ≤ 7 then
    .next { (List.range 8).foldl State.failStack s with refreshOff := true }
  else .next (s.railFault r.val)

end Sys2Proof.Machine
end

