-- ==== Sys2Proof/Machine/StreamCopies.lean ====
section
/-! DEFINITION. Packing and copying by a stream (R212 to R215, R244 to R246). -/

namespace Sys2Proof.Machine

/-! ## spack (R212, R213, R244) -/

/-- The block of reduction block b and other index o of an spack, from the element origin `el` (R212, R213). -/
def CopyRun.packBlock (c : CopyRun) (f : CopySrc) (d : Desc) (es el : List Nat) (w : U64) (draw : Nat → Nat → Nat) (b o : Nat) :
    CopyRun × Block :=
  let r0 := el.getD (pkR w) 0 + 32 * b
  let oi := el.getD (pkO w) 0 + o
  let p := berryP (pkFmt w)
  let draws (i : Nat) : Nat := draw i (SMap.get 0 c.draws i)
  if c.code ≠ 0 ∨ packPad es el w b o = true then (c, Block.zero)
  else if dBerry d && !pkTransposed w then
    let r := c.s.srcBlock f d es (packAt el w (r0 / 32) oi)
    let x := toBlockUnit (dFmt d) (pkFmt w) (pkRm w) (min 32 (es.getD (pkR w) 0 - r0)) r.2.1 draws
    ({ c with s := r.1, code := r.2.2, flags := c.flags ||| x.flags
              draws := if convDraws (pkRm w) (dFmt d) (pkFmt w) then drawBlock c.draws else c.draws }, x.block)
  else
    let r := c.s.srcElems f d es ((List.range 32).map (fun j =>
      if r0 + j < es.getD (pkR w) 0 then some (packAt el w (r0 + j) oi) else none))
    let x := toBlock p (pkRm w) r.2.1 draws
    ({ c with s := r.1, code := r.2.2, flags := c.flags ||| x.flags
              draws := if pkRm w = 2 then drawBlock c.draws else c.draws }, x.block)

/-- The bytes of one block of a weight set at NIB j: (offset from byte 0 of the tile, bytes) (R207, R208). -/
def portWBytes (w : U64) (b n : Nat) (x : Block) : List (Nat × List Byte) :=
  let p := berryP (pkFmt w)
  let bitAt (i : Nat) : Nat := min (4 * pkNib w + i) (p - 1)
  (List.range 4).map (fun i =>
    (256 * pkLine w + 512 * (4 * b + n / 32) + 128 * i + 4 * (n % 32),
     leBytes 4 ((x.m.zipIdx).foldl (fun acc (m, c) => acc + (toBits p m / 2 ^ bitAt i % 2) * 2 ^ c) 0))) ++
  [(256 * pkSline w + 128 * b + n, [BitVec.ofNat 8 x.scale])]

/-- The bytes of one block of a wave (R209). -/
def portABytes (w : U64) (b v : Nat) (x : Block) : List (Nat × List Byte) :=
  let p := berryP (pkFmt w)
  (subTileWrites p (v % 32) x).map (fun (o, y) => (256 * pkLine w + waveSub p v b + o, [y]))

/-- The blocks that an spack reads and converts, with the writes it makes within each tile (R213, R216, R244). -/
def State.packRun (s : State) (u : SlotRef) (f : CopySrc) (g : Gen) (w0 : U64) : CopyRun :=
  let sl := s.slot u.num
  let es := extentsAt g.desc (s.ownCoord g.desc)
  (packUnits w0).foldl (fun (acc : CopyRun) (b, o) =>
    if pkPortA w0 && decide (pkV w0 ≤ o) then { acc with writes := acc.writes ++ portABytes w0 b o Block.zero }
    else
      let r := acc.packBlock f g.desc es (packIndex sl g es) w0 (fun i k => s.streamDraw u.grove.val u.slot.val i k) b o
      { r.1 with writes := r.1.writes ++ (if pkPortA w0 then portABytes w0 b o r.2 else portWBytes w0 b o r.2) })
    ⟨s, sl.draws, 0, [], 0⟩

/-- The writes of an spack in the tiles of its mask; the code of a failed write. -/
def State.packStore (s : State) (n d : Nat) (w0 : U64) (l : List (Nat × List Byte)) : State × Nat :=
  (List.range 4).foldl (fun (acc : State × Nat) t =>
    if pkMask w0 / 2 ^ t % 2 = 1 ∧ acc.2 = 0 then acc.1.writePieces (groveNode n) (some d) (l.map (fun (o, y) => (tileAddr (4 * n + t) o, y))) else acc) (s, 0)

/-- SPACK (R244): pages of host space that it reads must have translations (R250); its reads over the network count as flits, a flit for
each 128-byte block (R247, log entry 119). -/
def execSpack (u : SlotRef) (ext : ExtRead) (s : State) : Host.Outcome State Fault Refusal :=
  .next (s.stepStream u 0x11 (fun s0 d w0 _ =>
    let n := u.grove.val
    let q := u.slot.val
    let s := s0.endRun u.num
    let sl := s.slot u.num
    match sl.gen? (tGs w0) with
    | none => s
    | some g =>
      let desc := g.desc
      let es := extentsAt desc (s.ownCoord desc)
      let lines := if pkPortA w0 then waveLines (pkV w0) (berryP (pkFmt w0)) else 32
      if g.kind ≠ .local ∨ packBadDims desc w0 = true then s.streamError n q seIllegal 0
      else if 4096 < pkLine w0 + lines ∨ (pkPortA w0 = false ∧ 4096 < pkSline w0 + 2) then s.streamError n q seAccess 0
      else if dSpace desc = 1 && bitOf s.hostOff (d + 1) then (s.ifaceEvent (groveNode n) codeHost 0).streamError n q seRemote codeHost
      else if !s.pagesReady n d sl w0 then s0.haltAtMiss n q d (s.missingPages n d sl w0)
      else if !(s.groupPending u.num).isEmpty then s0
      else
        match copySource (groveNode n) (some d) desc es ext with
        | none => ((s.ifaceEvent pcieNode codeHost 0).ifaceEvent (groveNode n) codeHost 0).streamError n q seRemote codeHost
        | some f =>
          let blocks := unitBlocks n ⟨if dSpace desc = 1 then .host else .device, 0, packPieces desc es (packIndex sl g es) w0, false, 0⟩
          let c := (s.chargeBlocks n q blocks).packRun u f g w0
          if c.code ≠ 0 then c.s.streamError n q seRemote c.code
          else
            let w := c.s.packStore n d w0 c.writes
            if w.2 ≠ 0 then w.1.streamError n q seRemote w.2
            else
              let s := w.1.raiseStreamFlags n q c.flags
              (s.setSlot u.num { s.slot u.num with draws := c.draws }).slotNext u.num 16))

/-! ## scopy (R214, R215, R225, R245, R246) -/

/-- PERM of scopy. -/
def cpPerm (w : U64) : Nat := fld w 24 24
/-- RM of scopy. -/
def cpRm (w : U64) : Nat := fld w 50 2
/-- SAT of scopy. -/
def cpSat (w : U64) : Bool := bitOf w 49

/-- The device address of a generator's descriptor. -/
def descAddr (n : Nat) (g : Gen) : Nat := if g.space = 2 then storeAddr n g.addr.toNat else g.addr.toNat

/-- Sends the command of an scopy to a near-memory engine (R245, R246, R289): the stack that holds the source's first byte, or stack
M2k of the grove's die where no stack holds it (R246, log entry 30). The stream stays at the scopy until its writes are acknowledged. -/
def State.sendCopy (s : State) (n q d opc : Nat) (w0 : U64) (gs gd : Gen) (es : List Nat) : State :=
  let first := ((footprints gs.desc es).headD (0, 0)).1.toNat
  let node := if dSpace gs.desc = 0 && isStack first then (nodeOfAddr first).getD 0 else stackNode (2 * (n / 56)) 0
  let rec0 := opc * 2 ^ 60 + d * 2 ^ 57 + q * 2 ^ 54 + n * 2 ^ 46 + cpRm w0 * 2 ^ 44 + b2n (cpSat w0) * 2 ^ 43 + cpPerm w0
  let f := plainFlit 7 0 0 (BitVec.ofNat 1024 (rec0 + descAddr n gs * 2 ^ 64 + descAddr n gd * 2 ^ 128))
  match s.issueFlit n q d f true 1 copyMark (fun s f => s.sendFlit (groveNode n) node f) with
  | none => s
  | some (t, _) => t.setSlot (8 * n + q) { t.slot (8 * n + q) with hold := .copying gs.desc gd.desc }

/-- SCOPY (R245, R246): refused, staged or reshaped by a near-memory engine, or copied by the stream engine, whose reads and writes over the
network count as flits, a flit for each 128-byte block (R247, log entry 119). -/
def execScopy (u : SlotRef) (ext : ExtRead) (s : State) : Host.Outcome State Fault Refusal :=
  .next (s.stepStream u 0x12 (fun s0 d w0 _ =>
    let n := u.grove.val
    let q := u.slot.val
    let s := s0.endRun u.num
    let sl := s.slot u.num
    match sl.gen? (tGs w0), sl.gen? (tGd w0) with
    | some gs, some gd =>
      let ds := gs.desc
      let dd := gd.desc
      let es := extentsAt ds (s.ownCoord ds)
      let ed := extentsAt dd (s.ownCoord dd)
      let perm := cpPerm w0
      let overlap := copiesOverlap ds dd es ed
      let large := largeReshape ds dd es perm
      if gs.kind ≠ .local ∨ gd.kind ≠ .local then s.streamError n q seIllegal 0
      else if dDims ds ≠ dDims dd then s.streamError n q seShape 0
      else if !permOk perm (dDims ds) then s.streamError n q seIllegal 0
      else if (List.range (dDims ds)).any (fun k => es.getD (permOf perm k) 0 != ed.getD k 0) then s.streamError n q seShape 0
      else if dSplit dd then s.streamError n q seDesc 6
      else if ed.any (· == 0) then s.slotNext u.num 16
      else if large && !(inStacks ds es && inStacks dd ed) then s.streamError n q seDesc 9
      else if overlap && decide (0x4000000 < footprintBytes ds es) then s.streamError n q seOverlap 0
      else if (dSpace ds = 1 ∨ dSpace dd = 1) && bitOf s.hostOff (d + 1) then
        (s.ifaceEvent (groveNode n) codeHost 0).streamError n q seRemote codeHost
      else if !s.pagesReady n d sl w0 then s0.haltAtMiss n q d (s.missingPages n d sl w0)
      else if !(s.groupPending u.num).isEmpty then s0
      else if overlap then s.sendCopy n q d 2 w0 gs gd es
      else if large then s.sendCopy n q d 1 w0 gs gd es
      else
        match copySource (groveNode n) (some d) ds es ext with
        | none => ((s.ifaceEvent pcieNode codeHost 0).ifaceEvent (groveNode n) codeHost 0).streamError n q seRemote codeHost
        | some f =>
          let net (x : Desc) (l : List (Nat × Nat)) : List Nat := unitBlocks n ⟨if dSpace x = 1 then .host else .device, 0, l, false, 0⟩
          let s := s.chargeBlocks n q (net ds (tensorPieces ds es) ++ net dd ((destUnits dd ed).flatMap (fun x => (unitPieces dd ed x.2).1)))
          let r := s.copyTensor f (d + 1) ds dd es ed perm (cpRm w0) (cpSat w0) (fun i k => s.streamDraw n q i k) sl.draws
          if r.2.2.2 ≠ 0 then r.1.streamError n q seRemote r.2.2.2
          else
            let t := r.1.raiseStreamFlags n q r.2.2.1
            (t.setSlot u.num { t.slot u.num with draws := r.2.1 }).slotNext u.num 16
    | _, _ => s0))

end Sys2Proof.Machine
end

