-- ==== Sys2Proof/Machine/VecArith.lean ====
section
/-! DEFINITION. The arithmetic, conversion and reduction instructions of the vector engine (R147 to R152, R158, R159). Every meaning is
that of the instruction at the PC of context c.num = 4n + t. -/

namespace Sys2Proof.Machine

/-- VADD (R147, R148). -/
def execVadd (c : TileRef) (s : State) : Host.Outcome State Fault Refusal :=
  .next (s.issueNext c.num 0x01 (fun s w =>
    s.vecArith c.num w true (fun a b _ => a.add b) (fun a b _ => a + b)))

/-- VSUB (R147, R148). -/
def execVsub (c : TileRef) (s : State) : Host.Outcome State Fault Refusal :=
  .next (s.issueNext c.num 0x02 (fun s w =>
    s.vecArith c.num w true (fun a b _ => a.add b.neg) (fun a b _ => a - b)))

/-- VMUL (R147, R148). -/
def execVmul (c : TileRef) (s : State) : Host.Outcome State Fault Refusal :=
  .next (s.issueNext c.num 0x03 (fun s w =>
    s.vecArith c.num w true (fun a b _ => a.mul b) (fun a b _ => a * b)))

/-- VMAC (R147, R148): one rounding. -/
def execVmac (c : TileRef) (s : State) : Host.Outcome State Fault Refusal :=
  .next (s.issueNext c.num 0x04 (fun s w =>
    s.vecArith c.num w true (fun a b c => (a.mul b).add c) (fun a b c => a * b + c)))

/-- VNMAC (R147, R148): one rounding. -/
def execVnmac (c : TileRef) (s : State) : Host.Outcome State Fault Refusal :=
  .next (s.issueNext c.num 0x05 (fun s w =>
    s.vecArith c.num w true (fun a b c => c.add (a.mul b).neg) (fun a b c => c - a * b)))

/-- VMIN (R147, R148): no draw (R67). -/
def execVmin (c : TileRef) (s : State) : Host.Outcome State Fault Refusal :=
  .next (s.issueNext c.num 0x06 (fun s w =>
    s.vecArith c.num w false (fun a b _ => a.minV b) (fun a b _ => min a b)))

/-- VMAX (R147, R148): no draw (R67). -/
def execVmax (c : TileRef) (s : State) : Host.Outcome State Fault Refusal :=
  .next (s.issueNext c.num 0x07 (fun s w =>
    s.vecArith c.num w false (fun a b _ => a.maxV b) (fun a b _ => max a b)))

/-- VABS (R147, R148): on Hazel types a rounding point (DESIGN CHOICE, log entry 109). -/
def execVabs (c : TileRef) (s : State) : Host.Outcome State Fault Refusal :=
  .next (s.issueNext c.num 0x08 (fun s w =>
    s.vecArith c.num w true (fun a _ _ => a.abs) (fun a _ _ => (a.natAbs : Int))))

/-- VNEG (R147, R148): on Hazel types a rounding point (DESIGN CHOICE, log entry 109). -/
def execVneg (c : TileRef) (s : State) : Host.Outcome State Fault Refusal :=
  .next (s.issueNext c.num 0x09 (fun s w =>
    s.vecArith c.num w true (fun a _ _ => a.neg) (fun a _ _ => -a)))

/-- VRCP (R147, R148). -/
def execVrcp (c : TileRef) (s : State) : Host.Outcome State Fault Refusal :=
  .next (s.issueNext c.num 0x0A (fun s w =>
    s.vecArith c.num w true (fun a _ _ => a.rcp) (fun a _ _ => a)))

/-- VRSQRT (R147, R148). -/
def execVrsqrt (c : TileRef) (s : State) : Host.Outcome State Fault Refusal :=
  .next (s.issueNext c.num 0x0B (fun s w =>
    s.vecArith c.num w true (fun a _ _ => a.rsqrt) (fun a _ _ => a)))

/-- VEXP2 (R158, R159): a draw on Hazel16 lanes only. -/
def execVexp2 (c : TileRef) (s : State) : Host.Outcome State Fault Refusal :=
  .next (s.issueNext c.num 0x0C (fun s w =>
    if vType w = 0 then s.vecLanes c.num w 32 false (fun a _ _ _ => vexp2H32 (hazelVal hazel32 a) (vSat w))
    else s.vecLanes c.num w 16 true (fun a _ _ r => vexp2H16 (hazelVal hazel16 a) (vRm w) (vSat w) r)))

/-- A lane of the unbiased exponents that vnorm gives with IMM[8] = 1 (R152). -/
def expLane : Val → Nat
  | .zero _ => 0x80000000
  | .inf _ => 0x7FFFFFFF
  | .nan => 0x7FFFFFFE
  | .fin _ g q => toBits 32 (q + bitLength g - 1)

/-- A block in the block lane form (R152). -/
def blockLanes (b : Block) : List Nat := b.m.map (fun m => toBits 16 m + 0x10000 * b.scale)

/-- Block normalisation of the 32 lanes of VA (R152). -/
def State.vecBlock (s : State) (k : Nat) (w : U64) : State :=
  let r := takeSources (s.ctx k) (vSources w) 32
  let draw := decide (vRm w = 2)
  let b := toBlock (berryP (vImm w % 8)) (vRm w) ((List.range 32).map (fun i => hazelVal hazel32 (laneAt 32 i (r.2.getD 0 0))))
    (fun i => if draw then s.vecDraw k i else 0)
  let c := r.1.putVec w 32 ((blockLanes b.block).map .wr)
  let c := if draw then c.countDraws (List.range 32) else c
  (s.setCtx k c).raiseVecFlags k b.flags

/-- VNORM (R152): a block, or the exponents of the lanes. -/
def execVnorm (c : TileRef) (s : State) : Host.Outcome State Fault Refusal :=
  .next (s.issueNext c.num 0x0D (fun s w =>
    if vImm w / 256 % 2 = 0 then s.vecBlock c.num w
    else s.vecLanes c.num w 32 false (fun a _ _ _ => ⟨expLane (hazelVal hazel32 a), 0⟩)))

/-- One value of a vcvt from TYPE `st` to TYPE `dt` (R71, R79, R80, R150). -/
def cvtLane (st dt rm : Nat) (sat is : Bool) (r a : Nat) : Rounded :=
  let v : Val := if st ≤ 1 then hazelVal (typeHazel st) a else Val.ofInt (signed (typeWidth st) a) 0
  if dt ≤ 1 then toHazel (typeHazel dt) rm sat r v
  else if st ≤ 1 then hazelToInt (typeWidth dt) rm is r v
  else intResult (typeWidth dt) is (signed (typeWidth st) a)

/-- A vcvt is a rounding point but between integers and where a Hazel type is copied or widened (R67, R71; log entry 23). -/
def cvtDraws (st dt : Nat) : Bool :=
  (decide (st ≤ 1) && decide (1 < dt)) || (decide (1 < st) && decide (dt ≤ 1)) || (decide (st = 0) && decide (dt = 1))

/-- The source lane that destination lane i receives, none where the lane is kept (R150). -/
def cvtFrom (ws wd part i : Nat) : Option Nat :=
  if wd < ws then
    let n := 1024 / ws
    if part * n ≤ i ∧ i < (part + 1) * n then some (i - part * n) else none
  else if ws < wd then some (part * (1024 / wd) + i)
  else some i

/-- A conversion between types (R150). -/
def State.vecConvert (s : State) (k : Nat) (w : U64) : State :=
  let st := vImm w % 8
  let dt := vType w
  let ws := typeWidth st
  let wd := typeWidth dt
  let r := takeSources (s.ctx k) (vSources w) ws
  let p := r.1.pred (vPred w)
  let draw := cvtDraws st dt && decide (vRm w = 2)
  let res : List (LaneOut × Flags) := (List.range (1024 / wd)).map (fun i =>
    match cvtFrom ws wd (vImm w / 8 % 4) i with
    | none => (.keep, 0)
    | some j =>
      if laneOn p wd i then
        let x := cvtLane st dt (vRm w) (vSat w) (vIs w) (if draw then s.vecDraw k i else 0) (laneAt ws j (r.2.getD 0 0))
        (.wr x.bits, x.flags)
      else (.off, 0))
  let c := r.1.putVec w wd (res.map (fun o => o.1))
  let c := if draw then
      c.countDraws ((List.range (1024 / wd)).filter (fun i =>
        laneOn p wd i && (cvtFrom ws wd (vImm w / 8 % 4) i).isSome))
    else c
  (s.setCtx k c).raiseVecFlags k (res.foldl (fun a o => a ||| o.2) 0)

/-- VCVT (R150). -/
def execVcvt (c : TileRef) (s : State) : Host.Outcome State Fault Refusal :=
  .next (s.issueNext c.num 0x0E (fun s w =>
    s.vecConvert c.num w))

/-- The halving tree of R151: lane i becomes op of lanes i and i + h, for h halving down to 1; `op` takes the tree level and lane. -/
def treeFold {α : Type} (op : Nat → Nat → α → α → α × Flags) (d : α) : Nat → List α → Flags → List α × Flags
  | 0, l, fl => (l, fl)
  | fuel + 1, l, fl =>
    let h := l.length / 2
    if h = 0 then (l, fl)
    else
      let l' : List (α × Flags) := (List.range h).map (fun i => op fuel i (l.getD i d) (l.getD (i + h) d))
      treeFold op d fuel (l'.map (fun x => x.1)) (l'.foldl (fun a x => a ||| x.2) fl)

/-- The number of levels from the top that have a lane i, in a tree of n lanes: the draws of lane i before level `h` (R151, R160). -/
def treeDraws (n h i : Nat) : Nat :=
  ((List.range 8).map (fun j => n / 2 ^ (j + 1))).countP (fun g => decide (h < g) && decide (i < g))

/-- The draw of tree lane i at the level of width h, in a sum of n lanes (R151, R160). -/
def State.treeDraw (s : State) (k n h i : Nat) : Nat :=
  let g := k / 4
  let init := match s.groveOwner g with
    | none => srInit 0 0 (8 * g + 4) i
    | some d => srInit (s.obj 0x6020 (d + 1)) (s.obj (0x6100 + 16 * d) 5) (8 * g + 4) i
  srDraw init (k % 4 * 2 ^ 30 + SMap.get 0 (s.ctx k).draws i + treeDraws n h i)

/-- The sum of R151 on Hazel lanes: encodings of one format, rounded at each step. -/
def State.hazelSum (s : State) (k : Nat) (w : U64) (h : HFmt) (l : List Nat) : Nat × Flags :=
  let n := l.length
  let rm := vRm w
  let r := treeFold (fun fuel i a b =>
    let x := toHazel h rm (vSat w) (if rm = 2 then s.treeDraw k n (2 ^ (fuel - (7 - Nat.log2 n))) i else 0)
      ((hazelVal h a).add (hazelVal h b))
    (x.bits, x.flags)) 0 7 l 0
  (r.1.headD 0, r.2)

/-- The lanes that draw in a sum of n lanes, each as often as it draws (R151). -/
def sumDraws (n : Nat) : List Nat := ((List.range 8).map (fun j => n / 2 ^ (j + 1))).flatMap List.range

/-- Writes one value to every lane of VD (R147; log entry 24: PRED chooses what is reduced, not what is written). -/
def State.vecSpread (s : State) (k : Nat) (w : U64) (c : Context) (width x : Nat) (fl : Flags) : State :=
  (s.setCtx k (c.putVec w width (List.replicate (1024 / width) (.wr x)))).raiseVecFlags k fl

/-- The enabled lanes of VA, `d` in the disabled ones (R151). -/
def redLanes (p : BitVec 128) (width d : Nat) (v : BitVec 1024) : List Nat :=
  (List.range (1024 / width)).map (fun i => if laneOn p width i then laneAt width i v else d)

/-- A maximum or minimum over the lanes: on Hazel types `fh`, exact, with the flags of the result; on integers `fi` (R151). -/
def State.vecExtreme (s : State) (k : Nat) (w : U64) (dh : HFmt → Nat) (di : Nat → Nat) (fh : Val → Val → Val)
    (fi : Int → Int → Int) : State :=
  let ty := vType w
  let width := typeWidth ty
  let r := takeSources (s.ctx k) (vSources w) width
  let p := r.1.pred (vPred w)
  if ty ≤ 1 then
    let h := typeHazel ty
    let l := (redLanes p width (dh h) (r.2.getD 0 0)).map (hazelVal h)
    let x := toHazel h 0 false 0 ((treeFold (fun _ _ a b => (fh a b, 0)) .nan 7 l 0).1.headD .nan)
    s.vecSpread k w r.1 width x.bits x.flags
  else
    let l := (redLanes p width (di width) (r.2.getD 0 0)).map (signed width)
    s.vecSpread k w r.1 width (toBits width ((treeFold (fun _ _ a b => (fi a b, 0)) 0 7 l 0).1.headD 0)) 0

/-- A sum over the lanes (R151). -/
def State.vecSum (s : State) (k : Nat) (w : U64) : State :=
  let ty := vType w
  let width := typeWidth ty
  let r := takeSources (s.ctx k) (vSources w) width
  let l := redLanes (r.1.pred (vPred w)) width 0 (r.2.getD 0 0)
  if ty ≤ 1 then
    let x := s.hazelSum k w (typeHazel ty) l
    let c := if vRm w = 2 then r.1.countDraws (sumDraws l.length) else r.1
    s.vecSpread k w c width x.1 x.2
  else
    let x := intResult width (vIs w) ((l.map (signed width)).foldl (· + ·) 0)
    s.vecSpread k w r.1 width x.bits x.flags

/-- VREDADD (R151). -/
def execVredadd (c : TileRef) (s : State) : Host.Outcome State Fault Refusal :=
  .next (s.issueNext c.num 0x0F (fun s w =>
    s.vecSum c.num w))

/-- VREDMAX (R151). -/
def execVredmax (c : TileRef) (s : State) : Host.Outcome State Fault Refusal :=
  .next (s.issueNext c.num 0x10 (fun s w =>
    s.vecExtreme c.num w (fun h => h.infinity true) (fun n => 2 ^ (n - 1)) Val.maxV max))

/-- VREDMIN (R151). -/
def execVredmin (c : TileRef) (s : State) : Host.Outcome State Fault Refusal :=
  .next (s.issueNext c.num 0x11 (fun s w =>
    s.vecExtreme c.num w (fun h => h.infinity false) (fun n => 2 ^ (n - 1) - 1) Val.minV min))

end Sys2Proof.Machine
end

