-- ==== Sys2Proof/Machine/VecControl.lean ====
section
/-! DEFINITION. The control instructions of the vector engine and its issue unit (R136 to R139, R143, R154, R157, R161, R162). -/

namespace Sys2Proof.Machine

/-- The target of a branch: its own address plus OFF × 8, within the local store (R143). -/
def State.branchTarget (s : State) (k : Nat) (w : U64) : Nat := (((s.ctx k).pc.toNat : Int) + 8 * bOff w).emod 0x40000 |>.toNat

/-- Branches where a condition holds. -/
def State.vecBranch (s : State) (k : Nat) (w : U64) (taken : Bool) : State :=
  s.setPc k (if taken then s.branchTarget k w else s.nextPc k)

/-- VBR (R143). -/
def execVbr (c : TileRef) (s : State) : Host.Outcome State Fault Refusal :=
  .next (s.issue c.num 0x50 (fun s w =>
    s.vecBranch c.num w true))

/-- VBZ (R143). -/
def execVbz (c : TileRef) (s : State) : Host.Outcome State Fault Refusal :=
  .next (s.issue c.num 0x51 (fun s w =>
    s.vecBranch c.num w (decide ((s.ctx c.num).scalar (sSd w) = 0))))

/-- VBNZ (R143). -/
def execVbnz (c : TileRef) (s : State) : Host.Outcome State Fault Refusal :=
  .next (s.issue c.num 0x52 (fun s w =>
    s.vecBranch c.num w (decide ((s.ctx c.num).scalar (sSd w) ≠ 0))))

/-- The test of a vbp: all or any of the lanes' bits of PRED at lane width TYPE (R143). -/
def predTest (c : Context) (w : U64) : Bool :=
  let width := typeWidth (bType w)
  let l := (List.range (1024 / width)).map (laneOn (c.pred (bPred w)) width)
  if bAll w then l.all id else l.any id

/-- VBP (R143). -/
def execVbp (c : TileRef) (s : State) : Host.Outcome State Fault Refusal :=
  .next (s.issue c.num 0x53 (fun s w =>
    s.vecBranch c.num w (predTest (s.ctx c.num) w)))

/-- VLOOP (R154): the test uses the computed value. -/
def execVloop (c : TileRef) (s : State) : Host.Outcome State Fault Refusal :=
  .next (s.issue c.num 0x54 (fun s w =>
    let x := s.ctx c.num
    let v := x.scalar (sSd w) - 1
    (s.setCtx c.num { x.setScalar (sSd w) v with rb := x.rb - 1 }).vecBranch c.num w (decide (v ≠ 0))))

/-- VRB (R130). -/
def execVrb (c : TileRef) (s : State) : Host.Outcome State Fault Refusal :=
  .next (s.issueNext c.num 0x55 (fun s w =>
    s.setCtx c.num { s.ctx c.num with rb := BitVec.ofNat 5 (bImm w) }))

/-- VSIG (R157, R240): a count of 1; an overflow of the grove's own counter raises VE_ILLEGAL. -/
def execVsig (c : TileRef) (s : State) : Host.Outcome State Fault Refusal :=
  .next (s.issue c.num 0x56 (fun s w =>
    let r := s.signalFrom c.grove.val (bImm w) 1
    if r.2 then r.1.setPc c.num (s.nextPc c.num) else s.vecException c.num veIllegal (fld w 48 16)))

/-- The counter of the vwait at a running context's program counter, where its wait is to begin: it is not satisfied now (R136, R240). -/
def State.waitBegins (s : State) (k : Nat) : Option Nat :=
  let w := s.vecWord k
  if s.ctxRuns k && vLegal w && decide (vOpc w = 0x57) then (waitCounter (k / 4) (bImm w)).filter (fun ctr => !s.vwaitReady k ctr) else none

/-- The wait of a context on a counter begins: the context is not ready, its slice ends, and its program counter stays (R136, R137, R240;
log entry 114). -/
def State.beginWait (s : State) (n t ctr : Nat) : State :=
  let g := s.grove n
  (s.setGrove n { g with
    waits := g.waits ++ [⟨Fin.ofNat 64 ctr, .context (Fin.ofNat 4 t), 1⟩]
    sliceLeft := if g.owner = some (Fin.ofNat 4 t) then 0 else g.sliceLeft }).setCtx (4 * n + t)
    { s.ctx (4 * n + t) with st := .waiting }

/-- VWAIT (R157, R240): the wait begins, or, with its count taken or there, the vwait issues. -/
def execVwait (c : TileRef) (s : State) : Host.Outcome State Fault Refusal :=
  match s.waitBegins c.num with
  | some ctr => .next (s.beginWait c.grove.val c.tile.val ctr)
  | none =>
    .next (s.issueNext c.num 0x57 (fun s w =>
      let n := c.grove.val
      match waitCounter n (bImm w) with
      | none => s
      | some ctr =>
        if (s.ctx c.num).granted then s.setCtx c.num { s.ctx c.num with granted := false }
        else s.setToken n ctr (s.token n ctr - 1)))

/-- VCLRF (R161): VF only. -/
def execVclrf (c : TileRef) (s : State) : Host.Outcome State Fault Refusal :=
  .next (s.issueNext c.num 0x58 (fun s _ =>
    s.setCtx c.num { s.ctx c.num with vf := 0 }))

/-- VNOP (R147). -/
def execVnop (c : TileRef) (s : State) : Host.Outcome State Fault Refusal :=
  .next (s.issueNext c.num 0x59 (fun s _ => s))

/-- VTRAP (R162): VE_TRAP with INFO IMM16, raised at issue. -/
def execVtrap (c : TileRef) (s : State) : Host.Outcome State Fault Refusal :=
  .next (s.issueNext c.num 0x5A (fun s _ => s))

/-- VEND (R138, R179): the context ends; its refusals are raised at issue. -/
def execVend (c : TileRef) (s : State) : Host.Outcome State Fault Refusal :=
  .next (s.issueNext c.num 0x5B (fun s _ =>
    s.setCtx c.num { s.ctx c.num with st := .idle }))

/-- The context that the next slice goes to: the first ready one after the last owner (R137). -/
def State.nextOwner (s : State) (n : Nat) : Option Nat :=
  let first := match (s.grove n).owner with | none => 0 | some t => t.val + 1
  ((List.range 4).map (fun i => (first + i) % 4)).find? (fun t => s.vecReady (4 * n + t))

/-- The owner of the slice can issue its next instruction in it: the slice has not ended (R137). -/
def State.sliceGoes (s : State) (n : Nat) : Bool :=
  match (s.grove n).owner with
  | none => false
  | some t => s.vecReady (4 * n + t.val) && decide (0 < (s.grove n).sliceLeft) &&
      decide (s.issueCycles (4 * n + t.val) (s.vecWord (4 * n + t.val)) ≤ (s.grove n).sliceLeft)

/-- ISSUE_SLICE (R137, R171): at the end of a slice the next one, of 8 cycles, or an idle cycle where no context is ready. While the owner
can issue, its slice goes on. -/
def execIssueSlice (g : GroveId) (s : State) : Host.Outcome State Fault Refusal :=
  let n := g.val
  if s.sliceGoes n then .next s
  else
    match s.nextOwner n with
    | none => .next (s.count (0x6200 + n) 0x51 0 64 1)
    | some t => .next (s.setGrove n { s.grove n with owner := some (Fin.ofNat 4 t), sliceLeft := 8 })

end Sys2Proof.Machine
end

