-- ==== Sys2Proof/Machine/VecLogic.lean ====
section
/-! DEFINITION. The bit, predicate, move and lane instructions of the vector engine (R147 to R149). -/

namespace Sys2Proof.Machine

/-- VAND (R147, R148). -/
def execVand (c : TileRef) (s : State) : Host.Outcome State Fault Refusal :=
  .next (s.issueNext c.num 0x12 (fun s w =>
    s.vecBits c.num w (fun a b => a &&& b)))

/-- VOR (R147, R148). -/
def execVor (c : TileRef) (s : State) : Host.Outcome State Fault Refusal :=
  .next (s.issueNext c.num 0x13 (fun s w =>
    s.vecBits c.num w (fun a b => a ||| b)))

/-- VXOR (R147, R148). -/
def execVxor (c : TileRef) (s : State) : Host.Outcome State Fault Refusal :=
  .next (s.issueNext c.num 0x14 (fun s w =>
    s.vecBits c.num w (fun a b => a ^^^ b)))

/-- VSHL (R147, R148): bits shifted out are lost. -/
def execVshl (c : TileRef) (s : State) : Host.Outcome State Fault Refusal :=
  .next (s.issueNext c.num 0x15 (fun s w =>
    s.vecBits c.num w (fun a b => a * 2 ^ (b % typeWidth (vType w)))))

/-- VSHR (R147, R148): logical. -/
def execVshr (c : TileRef) (s : State) : Host.Outcome State Fault Refusal :=
  .next (s.issueNext c.num 0x16 (fun s w =>
    s.vecBits c.num w (fun a b => a / 2 ^ (b % typeWidth (vType w)))))

/-- VSRA (R147, R148): arithmetic. -/
def execVsra (c : TileRef) (s : State) : Host.Outcome State Fault Refusal :=
  .next (s.issueNext c.num 0x17 (fun s w =>
    s.vecBits c.num w (fun a b =>
      let n := typeWidth (vType w)
      toBits n (signed n a / (2 ^ (b % n) : Nat)))))

/-- A comparison by IMM[2:0] of numbers, on the order `lt` and equality `eq` of the operands, and whether one is NaN (R149). -/
def condHolds (cond : Nat) (lt gt eq nan : Bool) : Bool :=
  match cond with
  | 0 => eq
  | 1 => !eq
  | 2 => lt
  | 3 => lt || eq
  | 4 => gt
  | 5 => gt || eq
  | _ => nan

/-- A vcmp test of one lane (R149). -/
def cmpLane (ty cond a b : Nat) : Bool :=
  if ty ≤ 1 then
    let x := hazelVal (typeHazel ty) a
    let y := hazelVal (typeHazel ty) b
    let eq := x.eqNum y
    condHolds cond (x.ltTotal y && !eq) (y.ltTotal x && !eq) eq (x == .nan || y == .nan)
  else
    let x := signed (typeWidth ty) a
    let y := signed (typeWidth ty) b
    condHolds cond (decide (x < y)) (decide (y < x)) (decide (x = y)) false

/-- The predicate a vcmp writes: one bit a lane, the others 0 (R149). -/
def State.vecCompare (s : State) (k : Nat) (w : U64) : State :=
  let ty := vType w
  let width := typeWidth ty
  let r := takeSources (s.ctx k) (vSources w) width
  let p := r.1.pred (vPred w)
  let old := r.1.pred (vVd w - 0x50)
  let v := (List.range (1024 / width)).foldl (fun (v : BitVec 128) i =>
    let b := if laneOn p width i then cmpLane ty (vImm w % 8) (laneAt width i (r.2.getD 0 0)) (laneAt width i (r.2.getD 1 0))
             else !vPz w && laneOn old width i
    setBit v (i * width / 8) b) 0
  s.setCtx k (r.1.setPred (vVd w - 0x50) v)

/-- VCMP (R149). -/
def execVcmp (c : TileRef) (s : State) : Host.Outcome State Fault Refusal :=
  .next (s.issueNext c.num 0x18 (fun s w =>
    s.vecCompare c.num w))

/-- A vsel: every lane is written, PZ is ignored, no flag (R147). -/
def State.vecSelect (s : State) (k : Nat) (w : U64) : State :=
  let width := typeWidth (vType w)
  let r := takeSources (s.ctx k) (vSources w) width
  let p := r.1.pred (vPred w)
  s.setCtx k (r.1.putVec w width ((List.range (1024 / width)).map (fun i =>
    .wr (laneAt width i (if laneOn p width i then r.2.getD 0 0 else r.2.getD 1 0)))))

/-- VSEL (R147). -/
def execVsel (c : TileRef) (s : State) : Host.Outcome State Fault Refusal :=
  .next (s.issueNext c.num 0x19 (fun s w =>
    s.vecSelect c.num w))

/-- A vplog: the truth table of IMM on two predicates, bit by bit under PRED and PZ (R147). -/
def State.vecPredLogic (s : State) (k : Nat) (w : U64) : State :=
  let c := s.ctx k
  let a := c.pred (vVa w - 0x50)
  let b := c.pred (vVb w - 0x50)
  let p := c.pred (vPred w)
  let old := c.pred (vVd w - 0x50)
  let v := (List.range 128).foldl (fun (v : BitVec 128) i =>
    setBit v i (if bitOf p i then decide (vImm w / 2 ^ (2 * b2n (bitOf a i) + b2n (bitOf b i)) % 2 = 1)
                else !vPz w && bitOf old i)) 0
  s.setCtx k (c.setPred (vVd w - 0x50) v)

/-- VPLOG (R147). -/
def execVplog (c : TileRef) (s : State) : Host.Outcome State Fault Refusal :=
  .next (s.issueNext c.num 0x1A (fun s w =>
    s.vecPredLogic c.num w))

/-- VMOV (R147): bits are copied, no flag. -/
def execVmov (c : TileRef) (s : State) : Host.Outcome State Fault Refusal :=
  .next (s.issueNext c.num 0x1B (fun s w =>
    s.vecBits c.num w (fun a _ => a)))

/-- Lanes of VA taken from anywhere: `f` gives the source lane of lane i from VB's lane (R147, vperm and vbcast). -/
def State.vecGather (s : State) (k : Nat) (w : U64) (f : Nat → Nat) : State :=
  let width := typeWidth (vType w)
  let r := takeSources (s.ctx k) (vSources w) width
  let p := r.1.pred (vPred w)
  s.setCtx k (r.1.putVec w width ((List.range (1024 / width)).map (fun i =>
    if laneOn p width i then .wr (laneAt width (f (laneAt width i (r.2.getD 1 0)) % (1024 / width)) (r.2.getD 0 0)) else .off)))

/-- VPERM (R147). -/
def execVperm (c : TileRef) (s : State) : Host.Outcome State Fault Refusal :=
  .next (s.issueNext c.num 0x1C (fun s w =>
    s.vecGather c.num w (fun b => b)))

/-- VBCAST (R147). -/
def execVbcast (c : TileRef) (s : State) : Host.Outcome State Fault Refusal :=
  .next (s.issueNext c.num 0x1D (fun s w =>
    s.vecGather c.num w (fun _ => vImm w)))

/-- A vext: one lane of VA, zero-extended, into a scalar; no lane is disabled (R147; log entry 25). -/
def State.vecExtract (s : State) (k : Nat) (w : U64) : State :=
  let width := typeWidth (vType w)
  let r := takeSources (s.ctx k) (vSources w) width
  s.setCtx k (r.1.setScalar (vVd w - 0x60) (BitVec.ofNat 64 (laneAt width (vImm w % (1024 / width)) (r.2.getD 0 0))))

/-- A vins: one lane of VD from a scalar, under PRED; the others kept (R147). -/
def State.vecInsert (s : State) (k : Nat) (w : U64) : State :=
  let width := typeWidth (vType w)
  let c := s.ctx k
  let p := c.pred (vPred w)
  s.setCtx k (c.putVec w width ((List.range (1024 / width)).map (fun i =>
    if i = vImm w % (1024 / width) then
      (if laneOn p width i then .wr (c.scalar (vVb w - 0x60)).toNat else .off)
    else .keep)))

/-- A vlane: every lane its number (R147). -/
def State.vecNumber (s : State) (k : Nat) (w : U64) : State :=
  let width := typeWidth (vType w)
  let c := s.ctx k
  let p := c.pred (vPred w)
  s.setCtx k (c.putVec w width ((List.range (1024 / width)).map (fun i => if laneOn p width i then .wr i else .off)))

/-- VEXT (R147). -/
def execVext (c : TileRef) (s : State) : Host.Outcome State Fault Refusal :=
  .next (s.issueNext c.num 0x1E (fun s w =>
    s.vecExtract c.num w))

/-- VINS (R147). -/
def execVins (c : TileRef) (s : State) : Host.Outcome State Fault Refusal :=
  .next (s.issueNext c.num 0x1F (fun s w =>
    s.vecInsert c.num w))

/-- VLANE (R147). -/
def execVlane (c : TileRef) (s : State) : Host.Outcome State Fault Refusal :=
  .next (s.issueNext c.num 0x20 (fun s w =>
    s.vecNumber c.num w))

end Sys2Proof.Machine
end

