-- ==== Sys2Proof/Machine/VecMemory.lean ====
section
/-! DEFINITION. The loads and stores of the vector engine (R141, R145, R147, R153) and its scalar instructions (R142, R156, R161). -/

namespace Sys2Proof.Machine

/-- The bytes of a store that PRED enables at 32-bit lane width (R147). -/
def byteOn (p : BitVec 128) (i : Nat) : Bool := laneOn p 32 (i / 4)

/-- Goes on after a store, or raises VE_ACCESS on a tile SRAM line that the Stand does not own (R162, R169). -/
def State.vecStore (s : State) (k : Nat) (space off n : Nat) (go : State → State) : State :=
  if s.vecOwned k space off n then (go s).setPc k (s.nextPc k) else s.vecException k veAccess (off / 256)

/-- VLD (R141, R147): PRED and PZ at 32-bit lane width. -/
def execVld (c : TileRef) (s : State) : Host.Outcome State Fault Refusal :=
  .next (s.issueNext c.num 0x30 (fun s w =>
    let r := s.vecRead c.num (vType w) (effAddr (s.ctx c.num) w 128) 128
    let x := r.1.ctx c.num
    let v : BitVec 1024 := BitVec.ofNat 1024 (ofLe r.2)
    r.1.setCtx c.num (x.putVec w 32 ((List.range 32).map (fun i =>
      if laneOn (x.pred (vPred w)) 32 i then .wr (laneAt 32 i v) else .off)))))

/-- VST (R141, R147): the enabled 32-bit lanes. -/
def execVst (c : TileRef) (s : State) : Host.Outcome State Fault Refusal :=
  .next (s.issue c.num 0x31 (fun s w =>
    let off := effAddr (s.ctx c.num) w 128
    s.vecStore c.num (vType w) off 128 (fun s =>
      let r := takeSources (s.ctx c.num) (vSources w) 32
      (s.setCtx c.num r.1).vecWrite c.num (vType w) off (leBytes 128 (r.2.getD 0 0).toNat) (byteOn (r.1.pred (vPred w))))))

/-- Offsets, within a sub-tile of width p, of the bytes of row `row`: the plane words and the scale byte (R57, R58). -/
def rowOffsets (p row : Nat) : List Nat :=
  (List.range p).flatMap (fun k => (List.range 4).map (fun i => planeOff 0 k row + i)) ++ [128 * p + row]

/-- A row of the sub-tile at an offset of a space, read word by word (R153), modulo the space (log entry 108). -/
def State.vecReadRow (s : State) (k space off p row : Nat) : State × Block :=
  let words := (List.range p).map (fun i => planeOff 0 i row)
  let r := words.foldl (fun (acc : State × List (Nat × Nat)) o =>
    let x := acc.1.vecRead k space ((off + o) % spaceSize space) 4
    (x.1, acc.2 ++ x.2.zipIdx.map (fun (b, i) => (o + i, b.toNat)))) (s, [])
  let x := r.1.vecRead k space ((off + 128 * p + row) % spaceSize space) 1
  let bytes := r.2 ++ x.2.map (fun b => (128 * p + row, b.toNat))
  (x.1, subTileRow (fun o => (SMap.find? bytes o).getD 0) p row)

/-- The block of a register in the block lane form (R153): lane 0's scale, the low p bits of each mantissa. Where the mantissas are all 0
and the scale is no NaN block's, it is a zero block, since no unit writes a block of zero mantissas with another scale (R55; DEDUCED, log
entry 101). -/
def laneBlock (p : Nat) (v : BitVec 1024) : Block :=
  let e := laneAt 32 0 v / 2 ^ 16 % 256
  let m := (List.range 32).map (fun i => signed p (laneAt 32 i v))
  ⟨if e ≠ 0xFF ∧ m.all (· == 0) then 0 else e, m⟩

/-- Writes (offset, byte) pairs into a sub-tile at an offset of a space (R153); a sub-tile that runs past the end of its space goes on at its
start (DESIGN CHOICE, log entry 108). -/
def State.vecWriteRow (s : State) (k space off : Nat) (l : List (Nat × Byte)) : State :=
  l.foldl (fun s (o, b) => s.vecWrite k space ((off + o) % spaceSize space) [b] allBytes) s

/-- VLDB (R153): a row of a Berry sub-tile into the block lane form. -/
def execVldb (c : TileRef) (s : State) : Host.Outcome State Fault Refusal :=
  .next (s.issueNext c.num 0x32 (fun s w =>
    let r := s.vecReadRow c.num (vType w) (effAddr (s.ctx c.num) w 32) (berryP (mFmt w)) (mRow w)
    r.1.setCtx c.num ((r.1.ctx c.num).putVec w 32 (r.2.m.map (fun m => .wr (toBits 16 m + 0x10000 * r.2.scale))))))

/-- VSTB (R153): the block lane form into a row of a Berry sub-tile. -/
def execVstb (c : TileRef) (s : State) : Host.Outcome State Fault Refusal :=
  .next (s.issue c.num 0x33 (fun s w =>
    let off := effAddr (s.ctx c.num) w 32
    s.vecStore c.num (vType w) off 32 (fun s =>
      let r := takeSources (s.ctx c.num) (vSources w) 32
      (s.setCtx c.num r.1).vecWriteRow c.num (vType w) off
        (subTileWrites (berryP (mFmt w)) (mRow w) (laneBlock (berryP (mFmt w)) (r.2.getD 0 0))))))

/-- SLD (R141, R147). -/
def execSld (c : TileRef) (s : State) : Host.Outcome State Fault Refusal :=
  .next (s.issueNext c.num 0x34 (fun s w =>
    let r := s.vecRead c.num 0 (effAddr (s.ctx c.num) w 8) 8
    r.1.setCtx c.num ((r.1.ctx c.num).setScalar (vVd w - 0x60) (BitVec.ofNat 64 (ofLe r.2)))))

/-- SST (R141, R147). -/
def execSst (c : TileRef) (s : State) : Host.Outcome State Fault Refusal :=
  .next (s.issueNext c.num 0x35 (fun s w =>
    s.vecWrite c.num 0 (effAddr (s.ctx c.num) w 8) (leBytes 8 ((s.ctx c.num).scalar (vVd w - 0x60)).toNat) allBytes))

/-- A scalar operation: SD from SA and SB (R142). -/
def State.vecScalar (s : State) (k : Nat) (w : U64) (f : U64 → U64 → U64) : State :=
  let c := s.ctx k
  s.setCtx k (c.setScalar (sSd w) (f (c.scalar (sSa w)) (c.scalar (sSb w))))

/-- SADD (R142, R147): modulo 2^64. -/
def execSadd (c : TileRef) (s : State) : Host.Outcome State Fault Refusal :=
  .next (s.issueNext c.num 0x40 (fun s w =>
    s.vecScalar c.num w (fun a b => a + b)))

/-- SSUB (R142, R147): modulo 2^64. -/
def execSsub (c : TileRef) (s : State) : Host.Outcome State Fault Refusal :=
  .next (s.issueNext c.num 0x41 (fun s w =>
    s.vecScalar c.num w (fun a b => a - b)))

/-- SMUL (R142, R147): the low 64 bits. -/
def execSmul (c : TileRef) (s : State) : Host.Outcome State Fault Refusal :=
  .next (s.issueNext c.num 0x42 (fun s w =>
    s.vecScalar c.num w (fun a b => a * b)))

/-- SAND (R142, R147): bits. -/
def execSand (c : TileRef) (s : State) : Host.Outcome State Fault Refusal :=
  .next (s.issueNext c.num 0x43 (fun s w =>
    s.vecScalar c.num w (fun a b => a &&& b)))

/-- SOR (R142, R147): bits. -/
def execSor (c : TileRef) (s : State) : Host.Outcome State Fault Refusal :=
  .next (s.issueNext c.num 0x44 (fun s w =>
    s.vecScalar c.num w (fun a b => a ||| b)))

/-- SXOR (R142, R147): bits. -/
def execSxor (c : TileRef) (s : State) : Host.Outcome State Fault Refusal :=
  .next (s.issueNext c.num 0x45 (fun s w =>
    s.vecScalar c.num w (fun a b => a ^^^ b)))

/-- SSHL (R142, R147): by SB mod 64. -/
def execSshl (c : TileRef) (s : State) : Host.Outcome State Fault Refusal :=
  .next (s.issueNext c.num 0x46 (fun s w =>
    s.vecScalar c.num w (fun a b => a <<< (b.toNat % 64))))

/-- SSHR (R142, R147): logical. -/
def execSshr (c : TileRef) (s : State) : Host.Outcome State Fault Refusal :=
  .next (s.issueNext c.num 0x47 (fun s w =>
    s.vecScalar c.num w (fun a b => a >>> (b.toNat % 64))))

/-- SSRA (R142, R147): arithmetic. -/
def execSsra (c : TileRef) (s : State) : Host.Outcome State Fault Refusal :=
  .next (s.issueNext c.num 0x48 (fun s w =>
    s.vecScalar c.num w (fun a b => a.sshiftRight (b.toNat % 64))))

/-- SADDI (R142, R147): sign-extended immediate. -/
def execSaddi (c : TileRef) (s : State) : Host.Outcome State Fault Refusal :=
  .next (s.issueNext c.num 0x49 (fun s w =>
    s.vecScalar c.num w (fun a _ => a + sImm w)))

/-- SLI (R142, R147): sign-extended immediate. -/
def execSli (c : TileRef) (s : State) : Host.Outcome State Fault Refusal :=
  .next (s.issueNext c.num 0x4A (fun s w =>
    s.vecScalar c.num w (fun _ _ => sImm w)))

/-- SLIH (R147): bits 63:32 of SD, the low half kept. -/
def execSlih (c : TileRef) (s : State) : Host.Outcome State Fault Refusal :=
  .next (s.issueNext c.num 0x4B (fun s w =>
    let x := s.ctx c.num
    s.setCtx c.num (x.setScalar (sSd w) (setFld (x.scalar (sSd w)) 32 32 (fld w 0 32)))))

/-- VCMD (R156): a command at the end of the grove queue; a full queue is awaited. -/
def execVcmd (c : TileRef) (s : State) : Host.Outcome State Fault Refusal :=
  .next (s.issueNext c.num 0x4C (fun s w =>
    let n := c.grove.val
    let x := s.ctx c.num
    s.setGrove n { s.grove n with queue := (s.grove n).queue ++ [⟨x.scalar (sSb w) ++ x.scalar (sSa w), 0⟩] }))

/-- VGETF (R161). -/
def execVgetf (c : TileRef) (s : State) : Host.Outcome State Fault Refusal :=
  .next (s.issueNext c.num 0x4D (fun s w =>
    s.setCtx c.num ((s.ctx c.num).setScalar (sSd w) ((s.ctx c.num).vf.setWidth 64))))

end Sys2Proof.Machine
end

