-- ==== Sys2Proof/Machine/XanPeers.lean ====
section
/-! DEFINITION. Flits between devices at the port they arrive on (R373 to R377): transit, requests for this device, and responses. -/

namespace Sys2Proof.Machine

/-- The flits a port has received on a channel. -/
def State.portRx (s : State) (p ch : Nat) : List (BitVec 1216) := SMap.get [] (s.port p).rxq ch

/-- The oldest flit of a channel leaves the port's buffer, and its credit is to be returned (R354). -/
def State.takePortRx (s : State) (p ch : Nat) : State :=
  let x := s.port p
  s.setPort p { x with rxq := SMap.set [] x.rxq ch (SMap.get [] x.rxq ch).tail, freed := x.freed ++ [BitVec.ofNat 2 ch] }

/-- The flit is for this device (R374); with DeviceId.VALID 0 none is (R368). -/
def State.forMe (s : State) (f : Flit) : Bool := s.deviceValid && peerDest f == s.deviceId

/-- A flit that awaits responses (R304). -/
def wantsAnswer (f : Flit) : Bool := f.kind == 1 || f.kind == 3 || f.kind == 4 || f.kind == 7

/-- An error answer to a peer request: it goes back to the requester's device, by the route of R371, or on the port the request came in
on where this device has no coordinate (R368, R374, R377). -/
def State.answerPeer (s : State) (p : Nat) (f : Flit) (data : BitVec 1024) : State :=
  if !wantsAnswer f then s
  else
    let g : Flit := { f with route := peerHeader (peerOrig f) s.deviceId 0, kind := 8, run := 0, opx := 0,
                             addr := BitVec.ofNat 57 (f.addr.toNat / 2 ^ 44 * 2 ^ 44), data := data }
    if !s.deviceValid then s.portSend p g
    else
      match s.devRoute (peerOrig f) with
      | none => s
      | some c =>
        let q := s.firstHop c s.deviceId (peerOrig f) f.src
        if s.portUp q then s.portSend q g else s

/-- PEER_ERR with a detail (R377). -/
def State.refusePeer (s : State) (p : Nat) (f : Flit) (detail : Nat) : State :=
  s.answerPeer p f (peerErrData detail s.deviceId)

/-- A flit that is not for this device: forwarded to the next hop, answered, or discarded (R368, R371, R374, R377). -/
def State.transit (s : State) (p : Nat) (f : Flit) : State :=
  if !s.deviceValid then s.refusePeer p f 4
  else if 31 ≤ peerHops f then s.refusePeer p f 5
  else
    match s.devRoute (peerDest f) with
    | none => s.refusePeer p f 1
    | some c =>
      let q := s.firstHop c (peerOrig f) (peerDest f) f.src
      if s.portUp q then s.portSend q { f with route := peerHeader (peerDest f) (peerOrig f) (peerHops f + 1) }
      else s.refusePeer p f 2

/-- TRANSIT (R32, R374): the oldest flit for another device among those at the heads of the port's channels, where the egress port's queue has
room. -/
def execTransit (p : PortId) (s : State) : Host.Outcome State Fault Refusal :=
  let pp := p.val
  let heads := (List.range 3).filterMap (fun ch => (s.portRx pp ch).head?.map (fun b => (ch, flitOf b)))
  match heads.find? (fun x => !s.forMe x.2) with
  | none => .next s
  | some (ch, f) => .next (s.whereFits ((s.takePortRx pp ch).transit pp f))

/-- The lowest free peer tag of a port (R375). -/
def State.freePeerTag (s : State) (p : Nat) : Option Nat :=
  (List.range 4096).find? (fun t => (SMap.get none (s.port p).tags t).isNone)

/-- A SIGNAL of a peer for a Stand of this device: a job token, or a message of the job unit (R379, R380). -/
def State.peerSignal (s : State) (d : Nat) (f : Flit) : State :=
  let token := fld f.data 0 16
  let count := fld f.data 16 32
  if token = tokenBarrier then s.hearBarrier d (peerOrig f) (barrierOf f.data)
  else if token = tokenRelease then s.hearRelease d (barrierOf f.data)
  else if 0x8000 ≤ token ∧ token ≤ 0x8FFF then
    let s := s.applyJobToken d token count
    if s.jobEntry d (token - 0x8000) / 2 ^ 30 % 2 = 1 then s.forwardJobToken d token count (some (peerOrig f)) else s
  else s

/-- A request for this device, with the Stand it names: its tag, and onto the network (R300, R375). -/
def State.admitPeer (s : State) (p ch : Nat) (f : Flit) : State :=
  match nodeOfAddr (f.addr.toNat % 2 ^ 44) with
  | none => (s.takePortRx p ch).answerPeer p f (BitVec.ofNat 1024 codeRange)
  | some node =>
    match if s.sendRoom (xannusNode p) 0 1 then s.freePeerTag p else none with
    | none => s
    | some t =>
      let s := s.takePortRx p ch
      let x := s.port p
      let left := if f.kind = 1 then f.opx.toNat % 4 + 1 else 1
      let s := s.setPort p { x with tags := SMap.set none x.tags t (some ⟨BitVec.ofNat 10 (peerOrig f), f.src, f.txn, left⟩) }
      s.sendFlit (xannusNode p) node
        { f with route := 0, src := xannusNode p, cls := 3, txn := BitVec.ofNat 7 t,
                 addr := BitVec.ofNat 57 (f.addr.toNat % 2 ^ 44 + 2 ^ 52 * (t / 128)) }

/-- PEER_REQUEST (R368, R375, R377, R379, R380). -/
def execPeerRequest (p : PortId) (s : State) : Host.Outcome State Fault Refusal :=
  let pp := p.val
  match (s.portRx pp 0).head?.map flitOf with
  | none => .next s
  | some f =>
    if !s.deviceValid then .next (s.whereFits ((s.takePortRx pp 0).refusePeer pp f 4))
    else if peerDest f ≠ s.deviceId then .next s
    else
      match f.stand with
      | none => .next (s.whereFits ((s.takePortRx pp 0).refusePeer pp f 3))
      | some d =>
        if !(s.enabled d.val && s.inJob d.val) then .next (s.whereFits ((s.takePortRx pp 0).refusePeer pp f 3))
        else if f.kind = 6 then .next (s.whereFits ((s.takePortRx pp 0).peerSignal d.val f))
        else .next (s.whereFits (s.admitPeer pp 0 f))

/-- PEER_RESPONSE (R376): a response of this device's network frees its tag and goes back to the requester's device; else a response
that has arrived for this device is delivered to its node. -/
def execPeerResponse (p : PortId) (s : State) : Host.Outcome State Fault Refusal :=
  let pp := p.val
  match s.rxQueue (xannusNode pp) 1 with
  | f :: rest => .next (s.whereFits ((s.setRx (xannusNode pp) 1 rest).returnToPeer pp f))
  | [] =>
    match (s.portRx pp 1).head?.map flitOf with
    | none => .next s
    | some f =>
      if s.forMe f && s.sendRoom (xannusNode pp) 1 1 then .next ((s.takePortRx pp 1).sendFlit (xannusNode pp) f.src { f with route := 0 }) else .next s

end Sys2Proof.Machine
end

