-- ==== Sys2Proof/Machine/Dispatch.lean ====
section
/-! DEFINITION. The dispatch: one arm per command, each one direct call of its meaning. -/

namespace Sys2Proof.Machine

/-- The effect of a command on everything but the queue. -/
def exec (i : Instr) (s : State) : Host.Outcome State Fault Refusal :=
  match i with
  | .objectWrite x1 => Sys2Proof.Machine.execObjectWrite x1 s
  | .guardLatchLoad x1 => Sys2Proof.Machine.execGuardLatchLoad x1 s
  | .aliasWrite x1 => Sys2Proof.Machine.execAliasWrite x1 s
  | .guardLatchExpiry x1 => Sys2Proof.Machine.execGuardLatchExpiry x1 s
  | .statusSeqWrite x1 => Sys2Proof.Machine.execStatusSeqWrite x1 s
  | .bar0HoldTimeout x1 => Sys2Proof.Machine.execBar0HoldTimeout x1 s
  | .standEnable x1 x2 x3 => Sys2Proof.Machine.execStandEnable x1 x2 x3 s
  | .standDisable x1 x2 x3 => Sys2Proof.Machine.execStandDisable x1 x2 x3 s
  | .hold x1 x2 x3 => Sys2Proof.Machine.execHold x1 x2 x3 s
  | .assignmentTakesEffect x1 => Sys2Proof.Machine.execAssignmentTakesEffect x1 s
  | .drainReport x1 x2 => Sys2Proof.Machine.execDrainReport x1 x2 s
  | .drainPoint x1 => Sys2Proof.Machine.execDrainPoint x1 s
  | .commit x1 => Sys2Proof.Machine.execCommit x1 s
  | .applyPhase x1 => Sys2Proof.Machine.execApplyPhase x1 s
  | .release x1 => Sys2Proof.Machine.execRelease x1 s
  | .errorRecord x1 => Sys2Proof.Machine.execErrorRecord x1 s
  | .fence x1 x2 => Sys2Proof.Machine.execFence x1 x2 s
  | .fenceComplete x1 x2 => Sys2Proof.Machine.execFenceComplete x1 x2 s
  | .unitReset x1 => Sys2Proof.Machine.execUnitReset x1 s
  | .groveReset x1 => Sys2Proof.Machine.execGroveReset x1 s
  | .clearingReset x1 => Sys2Proof.Machine.execClearingReset x1 s
  | .standReset x1 => Sys2Proof.Machine.execStandReset x1 s
  | .computeReset => Sys2Proof.Machine.execComputeReset s
  | .resetTimeout x1 => Sys2Proof.Machine.execResetTimeout x1 s
  | .targetedSelfTest x1 x2 => Sys2Proof.Machine.execTargetedSelfTest x1 x2 s
  | .configRestore x1 => Sys2Proof.Machine.execConfigRestore x1 s
  | .mirrorRestore x1 => Sys2Proof.Machine.execMirrorRestore x1 s
  | .rejoin x1 => Sys2Proof.Machine.execRejoin x1 s
  | .hangSample x1 => Sys2Proof.Machine.execHangSample x1 s
  | .heartbeatTimeout x1 => Sys2Proof.Machine.execHeartbeatTimeout x1 s
  | .stewardRestartTimeout x1 => Sys2Proof.Machine.execStewardRestartTimeout x1 s
  | .rangerWatchdog => Sys2Proof.Machine.execRangerWatchdog s
  | .managementReset => Sys2Proof.Machine.execManagementReset s
  | .selfTestReq x1 x2 => Sys2Proof.Machine.execSelfTestReq x1 x2 s
  | .tileSelfTest x1 x2 => Sys2Proof.Machine.execTileSelfTest x1 x2 s
  | .engineSelfTest x1 x2 => Sys2Proof.Machine.execEngineSelfTest x1 x2 s
  | .sramLineTest x1 x2 => Sys2Proof.Machine.execSramLineTest x1 x2 s
  | .dramLineTest x1 x2 => Sys2Proof.Machine.execDramLineTest x1 x2 s
  | .dramLinkTest x1 x2 x3 => Sys2Proof.Machine.execDramLinkTest x1 x2 x3 s
  | .networkLinkTest x1 x2 x3 => Sys2Proof.Machine.execNetworkLinkTest x1 x2 x3 s
  | .routerTest x1 x2 => Sys2Proof.Machine.execRouterTest x1 x2 s
  | .frameReread x1 x2 => Sys2Proof.Machine.execFrameReread x1 x2 s
  | .streamEngineTest x1 x2 => Sys2Proof.Machine.execStreamEngineTest x1 x2 s
  | .wload x1 x2 => Sys2Proof.Machine.execWload x1 x2 s
  | .mmul x1 x2 x3 x4 => Sys2Proof.Machine.execMmul x1 x2 x3 x4 s
  | .outputWriter x1 => Sys2Proof.Machine.execOutputWriter x1 s
  | .epiReturn x1 => Sys2Proof.Machine.execEpiReturn x1 s
  | .vstart x1 x2 => Sys2Proof.Machine.execVstart x1 x2 s
  | .tsig x1 x2 => Sys2Proof.Machine.execTsig x1 x2 s
  | .tsigTokenSignal x1 => Sys2Proof.Machine.execTsigTokenSignal x1 s
  | .issueSlice x1 => Sys2Proof.Machine.execIssueSlice x1 s
  | .vadd x1 => Sys2Proof.Machine.execVadd x1 s
  | .vsub x1 => Sys2Proof.Machine.execVsub x1 s
  | .vmul x1 => Sys2Proof.Machine.execVmul x1 s
  | .vmac x1 => Sys2Proof.Machine.execVmac x1 s
  | .vnmac x1 => Sys2Proof.Machine.execVnmac x1 s
  | .vmin x1 => Sys2Proof.Machine.execVmin x1 s
  | .vmax x1 => Sys2Proof.Machine.execVmax x1 s
  | .vabs x1 => Sys2Proof.Machine.execVabs x1 s
  | .vneg x1 => Sys2Proof.Machine.execVneg x1 s
  | .vrcp x1 => Sys2Proof.Machine.execVrcp x1 s
  | .vrsqrt x1 => Sys2Proof.Machine.execVrsqrt x1 s
  | .vexp2 x1 => Sys2Proof.Machine.execVexp2 x1 s
  | .vnorm x1 => Sys2Proof.Machine.execVnorm x1 s
  | .vcvt x1 => Sys2Proof.Machine.execVcvt x1 s
  | .vredadd x1 => Sys2Proof.Machine.execVredadd x1 s
  | .vredmax x1 => Sys2Proof.Machine.execVredmax x1 s
  | .vredmin x1 => Sys2Proof.Machine.execVredmin x1 s
  | .vand x1 => Sys2Proof.Machine.execVand x1 s
  | .vor x1 => Sys2Proof.Machine.execVor x1 s
  | .vxor x1 => Sys2Proof.Machine.execVxor x1 s
  | .vshl x1 => Sys2Proof.Machine.execVshl x1 s
  | .vshr x1 => Sys2Proof.Machine.execVshr x1 s
  | .vsra x1 => Sys2Proof.Machine.execVsra x1 s
  | .vcmp x1 => Sys2Proof.Machine.execVcmp x1 s
  | .vsel x1 => Sys2Proof.Machine.execVsel x1 s
  | .vplog x1 => Sys2Proof.Machine.execVplog x1 s
  | .vmov x1 => Sys2Proof.Machine.execVmov x1 s
  | .vperm x1 => Sys2Proof.Machine.execVperm x1 s
  | .vbcast x1 => Sys2Proof.Machine.execVbcast x1 s
  | .vext x1 => Sys2Proof.Machine.execVext x1 s
  | .vins x1 => Sys2Proof.Machine.execVins x1 s
  | .vlane x1 => Sys2Proof.Machine.execVlane x1 s
  | .vld x1 => Sys2Proof.Machine.execVld x1 s
  | .vst x1 => Sys2Proof.Machine.execVst x1 s
  | .vldb x1 => Sys2Proof.Machine.execVldb x1 s
  | .vstb x1 => Sys2Proof.Machine.execVstb x1 s
  | .sld x1 => Sys2Proof.Machine.execSld x1 s
  | .sst x1 => Sys2Proof.Machine.execSst x1 s
  | .sadd x1 => Sys2Proof.Machine.execSadd x1 s
  | .ssub x1 => Sys2Proof.Machine.execSsub x1 s
  | .smul x1 => Sys2Proof.Machine.execSmul x1 s
  | .sand x1 => Sys2Proof.Machine.execSand x1 s
  | .sor x1 => Sys2Proof.Machine.execSor x1 s
  | .sxor x1 => Sys2Proof.Machine.execSxor x1 s
  | .sshl x1 => Sys2Proof.Machine.execSshl x1 s
  | .sshr x1 => Sys2Proof.Machine.execSshr x1 s
  | .ssra x1 => Sys2Proof.Machine.execSsra x1 s
  | .saddi x1 => Sys2Proof.Machine.execSaddi x1 s
  | .sli x1 => Sys2Proof.Machine.execSli x1 s
  | .slih x1 => Sys2Proof.Machine.execSlih x1 s
  | .vcmd x1 => Sys2Proof.Machine.execVcmd x1 s
  | .vgetf x1 => Sys2Proof.Machine.execVgetf x1 s
  | .vbr x1 => Sys2Proof.Machine.execVbr x1 s
  | .vbz x1 => Sys2Proof.Machine.execVbz x1 s
  | .vbnz x1 => Sys2Proof.Machine.execVbnz x1 s
  | .vbp x1 => Sys2Proof.Machine.execVbp x1 s
  | .vloop x1 => Sys2Proof.Machine.execVloop x1 s
  | .vrb x1 => Sys2Proof.Machine.execVrb x1 s
  | .vsig x1 => Sys2Proof.Machine.execVsig x1 s
  | .vwait x1 => Sys2Proof.Machine.execVwait x1 s
  | .vclrf x1 => Sys2Proof.Machine.execVclrf x1 s
  | .vnop x1 => Sys2Proof.Machine.execVnop x1 s
  | .vtrap x1 => Sys2Proof.Machine.execVtrap x1 s
  | .vend x1 => Sys2Proof.Machine.execVend x1 s
  | .launch x1 => Sys2Proof.Machine.execLaunch x1 s
  | .sgen x1 => Sys2Proof.Machine.execSgen x1 s
  | .sstep x1 => Sys2Proof.Machine.execSstep x1 s
  | .soff x1 => Sys2Proof.Machine.execSoff x1 s
  | .smov x1 x2 => Sys2Proof.Machine.execSmov x1 x2 s
  | .spack x1 x2 => Sys2Proof.Machine.execSpack x1 x2 s
  | .scopy x1 x2 => Sys2Proof.Machine.execScopy x1 x2 s
  | .sloop x1 => Sys2Proof.Machine.execSloop x1 s
  | .snext x1 => Sys2Proof.Machine.execSnext x1 s
  | .ssig x1 => Sys2Proof.Machine.execSsig x1 s
  | .swait x1 => Sys2Proof.Machine.execSwait x1 s
  | .tokenWaitSatisfied x1 x2 => Sys2Proof.Machine.execTokenWaitSatisfied x1 x2 s
  | .sbtk x1 => Sys2Proof.Machine.execSbtk x1 s
  | .scmd x1 => Sys2Proof.Machine.execScmd x1 s
  | .sfork x1 => Sys2Proof.Machine.execSfork x1 s
  | .skill x1 => Sys2Proof.Machine.execSkill x1 s
  | .send x1 => Sys2Proof.Machine.execSend x1 s
  | .streamEnd x1 => Sys2Proof.Machine.execStreamEnd x1 s
  | .prefetch x1 => Sys2Proof.Machine.execPrefetch x1 s
  | .translationMiss x1 => Sys2Proof.Machine.execTranslationMiss x1 s
  | .translationCompletion x1 x2 => Sys2Proof.Machine.execTranslationCompletion x1 x2 s
  | .pageResponse x1 x2 => Sys2Proof.Machine.execPageResponse x1 x2 s
  | .pageRequestTimeout x1 => Sys2Proof.Machine.execPageRequestTimeout x1 s
  | .sramWriteBack x1 => Sys2Proof.Machine.execSramWriteBack x1 s
  | .sramPatrol x1 => Sys2Proof.Machine.execSramPatrol x1 s
  | .stackRequest x1 => Sys2Proof.Machine.execStackRequest x1 s
  | .dramSchedule x1 x2 x3 => Sys2Proof.Machine.execDramSchedule x1 x2 x3 s
  | .stackReduction x1 x2 => Sys2Proof.Machine.execStackReduction x1 x2 s
  | .shareWindow x1 => Sys2Proof.Machine.execShareWindow x1 s
  | .refresh x1 x2 x3 x4 => Sys2Proof.Machine.execRefresh x1 x2 x3 x4 s
  | .stackTraining x1 x2 => Sys2Proof.Machine.execStackTraining x1 x2 s
  | .retrainAll x1 x2 x3 => Sys2Proof.Machine.execRetrainAll x1 x2 x3 s
  | .relearnReq x1 x2 x3 => Sys2Proof.Machine.execRelearnReq x1 x2 x3 s
  | .relearnComplete x1 x2 => Sys2Proof.Machine.execRelearnComplete x1 x2 s
  | .reshape x1 x2 => Sys2Proof.Machine.execReshape x1 x2 s
  | .stagedCopy x1 x2 x3 => Sys2Proof.Machine.execStagedCopy x1 x2 x3 s
  | .fill x1 x2 x3 => Sys2Proof.Machine.execFill x1 x2 x3 s
  | .datapathSlice x1 => Sys2Proof.Machine.execDatapathSlice x1 s
  | .routerHop x1 x2 x3 => Sys2Proof.Machine.execRouterHop x1 x2 x3 s
  | .linkReplay x1 x2 x3 => Sys2Proof.Machine.execLinkReplay x1 x2 x3 s
  | .readReq x1 => Sys2Proof.Machine.execReadReq x1 s
  | .readRsp x1 => Sys2Proof.Machine.execReadRsp x1 s
  | .write x1 => Sys2Proof.Machine.execWrite x1 s
  | .writeMasked x1 => Sys2Proof.Machine.execWriteMasked x1 s
  | .writeAck x1 => Sys2Proof.Machine.execWriteAck x1 s
  | .signal x1 => Sys2Proof.Machine.execSignal x1 s
  | .command x1 => Sys2Proof.Machine.execCommand x1 s
  | .error x1 => Sys2Proof.Machine.execError x1 s
  | .detach x1 => Sys2Proof.Machine.execDetach x1 s
  | .mcWrite x1 => Sys2Proof.Machine.execMcWrite x1 s
  | .netTimeout x1 x2 => Sys2Proof.Machine.execNetTimeout x1 x2 s
  | .treeDetachTimeout x1 x2 => Sys2Proof.Machine.execTreeDetachTimeout x1 x2 s
  | .xrefChange x1 x2 => Sys2Proof.Machine.execXrefChange x1 x2 s
  | .portEnable x1 x2 x3 => Sys2Proof.Machine.execPortEnable x1 x2 x3 s
  | .trainingFrame x1 x2 x3 x4 => Sys2Proof.Machine.execTrainingFrame x1 x2 x3 x4 s
  | .laneTrained x1 x2 x3 => Sys2Proof.Machine.execLaneTrained x1 x2 x3 s
  | .portUp x1 => Sys2Proof.Machine.execPortUp x1 s
  | .xanTrain x1 x2 => Sys2Proof.Machine.execXanTrain x1 x2 s
  | .frame x1 x2 x3 => Sys2Proof.Machine.execFrame x1 x2 x3 s
  | .idle x1 x2 => Sys2Proof.Machine.execIdle x1 x2 s
  | .retry x1 x2 => Sys2Proof.Machine.execRetry x1 x2 s
  | .retryResendTimer x1 => Sys2Proof.Machine.execRetryResendTimer x1 s
  | .controlBlockTimer x1 => Sys2Proof.Machine.execControlBlockTimer x1 s
  | .laneMap x1 x2 => Sys2Proof.Machine.execLaneMap x1 x2 s
  | .deskew x1 x2 x3 => Sys2Proof.Machine.execDeskew x1 x2 x3 s
  | .xanDown x1 => Sys2Proof.Machine.execXanDown x1 s
  | .xanLane x1 x2 => Sys2Proof.Machine.execXanLane x1 x2 s
  | .portReset x1 => Sys2Proof.Machine.execPortReset x1 s
  | .testReq x1 x2 x3 => Sys2Proof.Machine.execTestReq x1 x2 x3 s
  | .laneTest x1 x2 x3 => Sys2Proof.Machine.execLaneTest x1 x2 x3 s
  | .retrainReq x1 x2 x3 => Sys2Proof.Machine.execRetrainReq x1 x2 x3 s
  | .laneEyeUpdate x1 x2 x3 x4 => Sys2Proof.Machine.execLaneEyeUpdate x1 x2 x3 x4 s
  | .deviceIdWrite x1 x2 => Sys2Proof.Machine.execDeviceIdWrite x1 x2 s
  | .topologyWrite x1 x2 => Sys2Proof.Machine.execTopologyWrite x1 x2 s
  | .transit x1 => Sys2Proof.Machine.execTransit x1 s
  | .peerRequest x1 => Sys2Proof.Machine.execPeerRequest x1 s
  | .peerResponse x1 => Sys2Proof.Machine.execPeerResponse x1 s
  | .jobTokenSignal x1 x2 x3 => Sys2Proof.Machine.execJobTokenSignal x1 x2 x3 s
  | .barrier x1 => Sys2Proof.Machine.execBarrier x1 s
  | .barrierRelease x1 x2 => Sys2Proof.Machine.execBarrierRelease x1 x2 s
  | .barrierTimeout x1 => Sys2Proof.Machine.execBarrierTimeout x1 s
  | .abortOriginate x1 => Sys2Proof.Machine.execAbortOriginate x1 s
  | .abort x1 x2 => Sys2Proof.Machine.execAbort x1 x2 s
  | .utxReq x1 x2 => Sys2Proof.Machine.execUtxReq x1 x2 s
  | .urxReq x1 => Sys2Proof.Machine.execUrxReq x1 s
  | .utxRsp x1 x2 => Sys2Proof.Machine.execUtxRsp x1 x2 s
  | .stageIssue x1 x2 => Sys2Proof.Machine.execStageIssue x1 x2 s
  | .stageAck x1 x2 => Sys2Proof.Machine.execStageAck x1 x2 s
  | .releaseStall x1 => Sys2Proof.Machine.execReleaseStall x1 s
  | .retryRelease x1 x2 x3 => Sys2Proof.Machine.execRetryRelease x1 x2 x3 s
  | .reconfiguration x1 => Sys2Proof.Machine.execReconfiguration x1 s
  | .pllLockLoss x1 x2 => Sys2Proof.Machine.execPllLockLoss x1 x2 s
  | .bootLoad => Sys2Proof.Machine.execBootLoad s
  | .partialReq x1 x2 x3 => Sys2Proof.Machine.execPartialReq x1 x2 x3 s
  | .scrubFrame x1 => Sys2Proof.Machine.execScrubFrame x1 s
  | .cfgScrubParity x1 => Sys2Proof.Machine.execCfgScrubParity x1 s
  | .nvWriteReq x1 x2 x3 x4 x5 => Sys2Proof.Machine.execNvWriteReq x1 x2 x3 x4 x5 s
  | .switchReq x1 => Sys2Proof.Machine.execSwitchReq x1 s
  | .firmwareHandoff => Sys2Proof.Machine.execFirmwareHandoff s
  | .handoffTimeout => Sys2Proof.Machine.execHandoffTimeout s
  | .switchApply => Sys2Proof.Machine.execSwitchApply s
  | .switchCommit => Sys2Proof.Machine.execSwitchCommit s
  | .abandon x1 => Sys2Proof.Machine.execAbandon x1 s
  | .mailboxRead x1 x2 => Sys2Proof.Machine.execMailboxRead x1 x2 s
  | .mailboxWrite x1 x2 x3 => Sys2Proof.Machine.execMailboxWrite x1 x2 x3 s
  | .macFrameReceive x1 => Sys2Proof.Machine.execMacFrameReceive x1 s
  | .beaconConflict => Sys2Proof.Machine.execBeaconConflict s
  | .plcaStatusChange x1 => Sys2Proof.Machine.execPlcaStatusChange x1 s
  | .haripRead => Sys2Proof.Machine.execHaripRead s
  | .haripWrite => Sys2Proof.Machine.execHaripWrite s
  | .discover => Sys2Proof.Machine.execDiscover s
  | .hello => Sys2Proof.Machine.execHello s
  | .finish => Sys2Proof.Machine.execFinish s
  | .close => Sys2Proof.Machine.execClose s
  | .halfOpenExpiry => Sys2Proof.Machine.execHalfOpenExpiry s
  | .sessionIdleTimeout x1 => Sys2Proof.Machine.execSessionIdleTimeout x1 s
  | .fieldRevertTimeout => Sys2Proof.Machine.execFieldRevertTimeout s
  | .challengeReq x1 => Sys2Proof.Machine.execChallengeReq x1 s
  | .challengeExpiry => Sys2Proof.Machine.execChallengeExpiry s
  | .recovery x1 => Sys2Proof.Machine.execRecovery x1 s
  | .resetManagementAction => Sys2Proof.Machine.execResetManagementAction s
  | .faultLogSnapshot x1 => Sys2Proof.Machine.execFaultLogSnapshot x1 s
  | .powerCycleAction => Sys2Proof.Machine.execPowerCycleAction s
  | .attestReq => Sys2Proof.Machine.execAttestReq s
  | .attestGet => Sys2Proof.Machine.execAttestGet s
  | .signRequest x1 => Sys2Proof.Machine.execSignRequest x1 s
  | .cmdTail x1 x2 => Sys2Proof.Machine.execCmdTail x1 x2 s
  | .resume x1 x2 => Sys2Proof.Machine.execResume x1 x2 s
  | .cplHead x1 x2 => Sys2Proof.Machine.execCplHead x1 x2 s
  | .step x1 x2 => Sys2Proof.Machine.execStep x1 x2 s
  | .mark x1 x2 => Sys2Proof.Machine.execMark x1 x2 s
  | .completion x1 => Sys2Proof.Machine.execCompletion x1 s
  | .statusVector x1 => Sys2Proof.Machine.execStatusVector x1 s
  | .ringEnable x1 x2 x3 => Sys2Proof.Machine.execRingEnable x1 x2 x3 s
  | .bar2Access x1 => Sys2Proof.Machine.execBar2Access x1 s
  | .functionLevelReset x1 => Sys2Proof.Machine.execFunctionLevelReset x1 s
  | .hotReset => Sys2Proof.Machine.execHotReset s
  | .d3hot x1 => Sys2Proof.Machine.execD3hot x1 s
  | .perstN x1 => Sys2Proof.Machine.execPerstN x1 s
  | .configRequest x1 x2 => Sys2Proof.Machine.execConfigRequest x1 x2 s
  | .invalidateRequest x1 x2 x3 => Sys2Proof.Machine.execInvalidateRequest x1 x2 x3 s
  | .completionTimeout x1 x2 => Sys2Proof.Machine.execCompletionTimeout x1 x2 s
  | .vendorDefinedRequest x1 x2 x3 => Sys2Proof.Machine.execVendorDefinedRequest x1 x2 x3 s
  | .keyExchange x1 => Sys2Proof.Machine.execKeyExchange x1 s
  | .ideKm x1 x2 x3 => Sys2Proof.Machine.execIdeKm x1 x2 x3 s
  | .getMeasurements x1 => Sys2Proof.Machine.execGetMeasurements x1 s
  | .getCertificate x1 x2 x3 => Sys2Proof.Machine.execGetCertificate x1 x2 x3 s
  | .sensorSample x1 x2 x3 => Sys2Proof.Machine.execSensorSample x1 x2 x3 s
  | .powerDecision => Sys2Proof.Machine.execPowerDecision s
  | .currentLimit x1 => Sys2Proof.Machine.execCurrentLimit x1 s
  | .thermtrip x1 => Sys2Proof.Machine.execThermtrip x1 s
  | .railFault x1 => Sys2Proof.Machine.execRailFault x1 s
  | .droop x1 => Sys2Proof.Machine.execDroop x1 s
  | .ageingUpdate x1 x2 => Sys2Proof.Machine.execAgeingUpdate x1 x2 s
  | .pointRaiseSettled x1 x2 => Sys2Proof.Machine.execPointRaiseSettled x1 x2 s
  | .powerCycle x1 => Sys2Proof.Machine.execPowerCycle x1 s
  | .calibrationWrite x1 x2 x3 x4 x5 => Sys2Proof.Machine.execCalibrationWrite x1 x2 x3 x4 x5 s
  | .calibrationSetWrite x1 x2 => Sys2Proof.Machine.execCalibrationSetWrite x1 x2 s
  | .imageKeyRevoke x1 x2 => Sys2Proof.Machine.execImageKeyRevoke x1 x2 s
  | .keySlotWrite x1 x2 x3 => Sys2Proof.Machine.execKeySlotWrite x1 x2 x3 s
  | .recoveryKeyWrite x1 x2 => Sys2Proof.Machine.execRecoveryKeyWrite x1 x2 s
  | .securityMinimumWrite x1 x2 x3 => Sys2Proof.Machine.execSecurityMinimumWrite x1 x2 x3 s
  | .debugUnlock x1 x2 => Sys2Proof.Machine.execDebugUnlock x1 x2 s
  | .devRstN x1 x2 x3 => Sys2Proof.Machine.execDevRstN x1 x2 x3 s
  | .rangerStart => Sys2Proof.Machine.execRangerStart s
  | .arefLoss x1 => Sys2Proof.Machine.execArefLoss x1 s
  | .railDrop x1 => Sys2Proof.Machine.execRailDrop x1 s
  | .pllLock x1 x2 => Sys2Proof.Machine.execPllLock x1 x2 s
  | .droopEnd x1 => Sys2Proof.Machine.execDroopEnd x1 s
  | .mclkPllLock => Sys2Proof.Machine.execMclkPllLock s
  | .testPortAccess x1 => Sys2Proof.Machine.execTestPortAccess x1 s
  | .msixVectorUnmask x1 x2 => Sys2Proof.Machine.execMsixVectorUnmask x1 x2 s
  | .blockRamPortAccess x1 x2 x3 x4 => Sys2Proof.Machine.execBlockRamPortAccess x1 x2 x3 x4 s

end Sys2Proof.Machine
end

