-- ==== Sys2Proof/Safety.lean ====
section
/-! DEFINITION. What counts as a safe run, in the terms that claims use: the canonical form of the stores, the outcomes of a command, and what
a command leaves as it was. -/

namespace Sys2Proof.Machine

/-- The byte store and the dictionary store are in canonical form: keys rise strictly, and no entry is what an unlisted key reads as. -/
def State.canonical (s : State) : Bool := Memory.wf s.scram s.mem && SMap.wf dictDefault s.dict

/-- A command completes: it answers a next state, not a refusal. -/
def completes (i : Instr) (s : State) : Prop := ∃ t, exec i s = .next t

/-- A command completes in a state of which `p` holds. -/
def completesTo (i : Instr) (s : State) (p : State → Prop) : Prop := ∃ t, exec i s = .next t ∧ p t

/-- Every byte of the device map reads as before. -/
def sameBytes (s t : State) : Prop := ∀ a, t.byte a = s.byte a

/-- Every byte outside [a, a + n) reads as before. -/
def sameBytesBut (s t : State) (a n : Nat) : Prop := ∀ c, c < a ∨ a + n ≤ c → t.byte c = s.byte c

/-- Every object reads as before but the words that `p` names. -/
def sameWordsBut (s t : State) (p : Nat → Prop) : Prop := ∀ k, ¬ p k → t.word k = s.word k

/-- No SRAM word holds an error: the check bits of every word agree with its data, and no word is marked failed (R262, R539). -/
abbrev sramSound (s : State) : Prop := s.sramDiff = [] ∧ ∀ i, i < 256 → bitOf (s.objW 0xA002 2 i) 63 = false

/-! ## Objects -/

/-- Ranger serves the requester, which may write the object (R454, R463). -/
abbrev mayWrite (s : State) (r : Requester) (ix sb : Nat) : Prop := s.serves = true ∧ s.rightOf r ≠ .none ∧ s.canWrite r ix sb = true

/-- The word that a write of `v` gives: the bits of `mask` change (R13). -/
def maskedWord (old v mask : U64) : U64 := (old &&& ~~~mask) ||| (v &&& mask)

/-- A word of a command that sets or clears one bit of a written value. -/
def withBit (v : BitVec 32) (i : Nat) (b : Bool) : U64 := setBit (v.setWidth 64) i b

/-! ## The vector engine -/

/-- Context `c` issues the word `w` of opcode `opc` in this cycle: its slice owns the issue unit and has the cycles that it takes left, the word
that it fetches is legal, and the instruction's own conditions hold (R136, R137, R147, R155, R162). -/
abbrev issues (s : State) (c : TileRef) (opc : Nat) (w : U64) : Prop :=
  s.ctxRuns c.num = true ∧ (s.grove c.grove.val).owner = some c.tile ∧
  (s.vecFetch c.num).2 = w ∧ vLegal w = true ∧ vOpc w = opc ∧
  s.issueCycles c.num w ≤ ((s.vecFetch c.num).1.grove c.grove.val).sliceLeft ∧
  (s.vecFetch c.num).1.vecIssue c.num w = .go

/-- The state in which an issued instruction takes effect: the line fetched, the issue cycles counted (R127, R137, R171). -/
def issued (s : State) (c : TileRef) (w : U64) : State :=
  (s.vecFetch c.num).1.useCycles c.num ((s.vecFetch c.num).1.issueCycles c.num w)

/-- The value of a destination lane: of a register, with the lane's old value (R146), or of the word pushed to OQ (R133). -/
def laneAfter (w : U64) (width : Nat) (o : LaneOut) (old : Nat) : Nat :=
  match o with
  | .wr b => b % 2 ^ width
  | .off => if vVd w = 0x41 then 0 else if vPz w then 0 else old
  | .keep => if vVd w = 0x41 then 0 else old

/-- From `u`, context `c` has executed the word `w`: lane i of VD, or of one word pushed to OQ, is what `out` gives; AQ gave up the words that
the sources pop; VF and VecFlags gathered `flags`; the lanes that `drawn` names drew once; the program counter is at the next word; nothing
else changed (R129 to R133, R146, R161). -/
def vecWrites (u : State) (c : TileRef) (w : U64) (width : Nat) (out : Nat → LaneOut) (flags : Flags) (drawn : Nat → Nat) (t : State) :
    Prop :=
  let x := u.ctx c.num
  let y := t.ctx c.num
  let r := physReg x (vVd w)
  let key := objKey 0 (0x6200 + c.grove.val) (0x62 + 8 * c.tile.val) 0
  (vVd w = 0x41 →
    y.v = x.v ∧ ∃ v, y.oq = x.oq ++ [v] ∧ ∀ i, i < 1024 / width → laneAt width i v = laneAfter w width (out i) 0) ∧
  (vVd w ≠ 0x41 →
    y.oq = x.oq ∧
    (∀ i, i < 1024 / width → laneAt width i (SMap.get 0 y.v r) = laneAfter w width (out i) (laneAt width i (SMap.get 0 x.v r))) ∧
    ∀ q, q ≠ r → SMap.get 0 y.v q = SMap.get 0 x.v q) ∧
  y.aq = x.aq.drop (vPops w) ∧ y.vf = x.vf ||| flags ∧ (∀ i, SMap.get 0 y.draws i = SMap.get 0 x.draws i + drawn i) ∧
  y.pc = x.pc + 8 ∧ y.p = x.p ∧ y.sc = x.sc ∧ y.rb = x.rb ∧ y.tag = x.tag ∧ y.st = x.st ∧
  (∀ j, j ≠ c.num → t.ctx j = u.ctx j) ∧
  t.word key = flagEvent (u.word key) flags.toNat ∧ sameWordsBut u t (fun k => k = key) ∧
  t = { u with ctxs := t.ctxs, dict := t.dict }

/-- The values of the vector sources of an issued word, VA first (R133). -/
def srcVals (u : State) (c : TileRef) (w : U64) (width : Nat) : List (BitVec 1024) := (takeSources (u.ctx c.num) (vSources w) width).2

/-- Lane i of the nth vector source. -/
def srcLane (u : State) (c : TileRef) (w : U64) (width n i : Nat) : Nat := laneAt width i ((srcVals u c w width).getD n 0)

/-- Lane i is enabled by PRED (R131). -/
def enabledLane (u : State) (c : TileRef) (w : U64) (width i : Nat) : Bool := laneOn ((u.ctx c.num).pred (vPred w)) width i

/-- Each enabled lane receives `f` of its lanes of VA, VB, VC and its draw, with the flags of all of them; the others are off. -/
def laneWise (u : State) (c : TileRef) (w : U64) (width : Nat) (draws : Bool) (f : Nat → Nat → Nat → Nat → Rounded) (t : State) : Prop :=
  let draw := draws && decide (vRm w = 2)
  let res := fun i => f (srcLane u c w width 0 i) (srcLane u c w width 1 i) (srcLane u c w width 2 i) (if draw then u.vecDraw c.num i else 0)
  let on := (List.range (1024 / width)).filter (enabledLane u c w width)
  vecWrites u c w width (fun i => if enabledLane u c w width i then .wr (res i).bits else .off)
    (on.foldl (fun a i => a ||| (res i).flags) 0) (fun i => if draw ∧ on.contains i = true then 1 else 0) t

/-- The same for an operation on numbers: `fh` on Hazel types, rounded to the TYPE; `fi` on integers, narrowed to the lane (R148). -/
def arithWise (u : State) (c : TileRef) (w : U64) (draws : Bool) (fh : Val → Val → Val → Val) (fi : Int → Int → Int → Int) (t : State) :
    Prop :=
  let ty := vType w
  let n := typeWidth ty
  let h := typeHazel ty
  if ty ≤ 1 then
    laneWise u c w n draws (fun a b d r => toHazel h (vRm w) (vSat w) r (fh (hazelVal h a) (hazelVal h b) (hazelVal h d))) t
  else laneWise u c w n false (fun a b d _ => intResult n (vIs w) (fi (signed n a) (signed n b) (signed n d))) t

/-- The same for an operation on the bits of the lanes: no flag, no draw (R148). -/
def bitsWise (u : State) (c : TileRef) (w : U64) (f : Nat → Nat → Nat) (t : State) : Prop :=
  laneWise u c w (typeWidth (vType w)) false (fun a b _ _ => ⟨f a b, 0⟩) t

/-- From `u`, context `c` has executed the word `w`, which wrote scalar `i`: S0 stays 0; the program counter is at the next word; nothing else
changed (R129, R142). -/
def scalarWrites (u : State) (c : TileRef) (i : Nat) (v : U64) (t : State) : Prop :=
  let x := u.ctx c.num
  let y := t.ctx c.num
  (∀ j, y.scalar j = if j = i ∧ i ≠ 0 then v else x.scalar j) ∧ y = { x with sc := y.sc, pc := x.pc + 8 } ∧
  (∀ j, j ≠ c.num → t.ctx j = u.ctx j) ∧ t = { u with ctxs := t.ctxs }

/-- From `u`, context `c` has executed the word `w`, which wrote predicate `i`: P0 stays all ones (R129). -/
def predWrites (u : State) (c : TileRef) (w : U64) (i : Nat) (v : Nat → Bool) (t : State) : Prop :=
  let x := u.ctx c.num
  let y := t.ctx c.num
  (∀ j b, b < 128 → bitOf (y.pred j) b = if j = i ∧ i ≠ 0 then v b else bitOf (x.pred j) b) ∧
  y = { x with p := y.p, aq := x.aq.drop (vPops w), pc := x.pc + 8 } ∧ (∀ j, j ≠ c.num → t.ctx j = u.ctx j) ∧ t = { u with ctxs := t.ctxs }

/-- From `u`, context `c` has gone to the address `a`, with the rotating base and scalars of `x` (R130, R143). -/
def goesTo (u : State) (c : TileRef) (a : BitVec 18) (x : Context) (t : State) : Prop :=
  t.ctx c.num = { x with pc := a } ∧ (∀ j, j ≠ c.num → t.ctx j = u.ctx j) ∧ t = { u with ctxs := t.ctxs }

/-! ## Streams -/

/-- The stream of slot `u` executes the instruction `w0`, `w1` of opcode `opc` now, for Stand `d`: its fetch meets no error and the word is
legal (R218, R227). -/
abbrev streamAt (s : State) (u : SlotRef) (d opc : Nat) (w0 w1 : U64) : Prop :=
  s.groveOwner u.grove.val = some d ∧ (s.slot u.num).st = .running ∧ (s.slot u.num).hold = .none ∧
  s.fetch16 u.grove.val (s.slot u.num).pc.toNat = (s, w0, w1, 0) ∧ tLegal (s.slot u.num) w0 = true ∧ tOpc w0 = opc

/-- The same, with no bytes of a run still to be sent (R234): an instruction other than smov and snext waits for those. -/
abbrev streamClear (s : State) (u : SlotRef) (d opc : Nat) (w0 w1 : U64) : Prop :=
  streamAt s u d opc w0 w1 ∧ ∀ r, (s.slot u.num).run = some r → r.out = []

/-- The state in which a stream instruction takes effect: the grove remembers the slot that issued last. -/
def streamBase (s : State) (u : SlotRef) : State := s.setGrove u.grove.val { s.grove u.grove.val with lastSlot := u.slot.val }

/-- Slot `u` is now `x`, and nothing else changed. -/
def slotOnly (s : State) (u : SlotRef) (x : Slot) (t : State) : Prop :=
  t.slot u.num = x ∧ (∀ k, k ≠ u.num → t.slot k = s.slot k) ∧ t = { streamBase s u with slots := t.slots }

/-! ## Xannus -/

/-- What the ports have sent, as their link layer hands it over: the device's outputs without the codewords that the coding pipeline makes of
it. -/
def linkOut (s : State) : List Output := s.out.filter (fun o => match o with | .line _ _ _ => false | _ => true)

/-- Port `p` hears `b`: a control block of payload `w`, after which the state is `u`; no lane of the port has lost block lock (R336, R340). -/
abbrev hears (s : State) (p : Nat) (b : BitVec 66) (w : U64) (u : State) : Prop :=
  s.hearControl p b = (u, true, w) ∧ ∀ k, k < 8 → lockLost (u.lane (laneNum p k)).headers = false

end Sys2Proof.Machine
end

