-- ==== Sys2Proof/Certificates/Slice0/Obligations.lean ====
section
/-! DEFINITION. The statements for the provers. -/

open Sys2Proof Sys2Proof.Machine

/-! ## The vector engine -/

/-- VectorControlTokens (R130, R138, R143, R147, R154, R156, R161, R157, R240). Branches, the loop, the rotating base, vcmd, vclrf, vnop and vend.
A vsig of a counter of its own grove raises it by one; a vwait that finds its token takes it, one whose token was taken for it while it waited goes
on, and one that finds none makes the context wait in its turn, at its own address (that the wait ends the slice is the model's reading, log
entry 114). A vtrap stops its context with VE_TRAP: VecCtxFault holds INFO, TAG and the address of the word, unless an earlier fault is held; the
registers, the memory and the program counter stay, and the step of the grove's Stand fails (R162, R168, R169, R179). An illegal word raises
VE_ILLEGAL whichever command issues it. -/
def Obligations.VectorControlTokens : Prop :=
  (∀ (s : State) (c : TileRef) (w : U64),
    let u := issued s c w
    let x := u.ctx c.num
    let next := x.pc + 8
    let target := BitVec.ofInt 18 ((x.pc.toNat : Int) + 8 * bOff w)
    let v := x.scalar (sSd w) - 1
    (issues s c 0x50 w → completesTo (.vbr c) s (goesTo u c target x)) ∧
    (issues s c 0x51 w → completesTo (.vbz c) s (goesTo u c (if x.scalar (sSd w) = 0 then target else next) x)) ∧
    (issues s c 0x52 w → completesTo (.vbnz c) s (goesTo u c (if x.scalar (sSd w) = 0 then next else target) x)) ∧
    (issues s c 0x53 w → completesTo (.vbp c) s (goesTo u c (if predTest x w then target else next) x)) ∧
    (issues s c 0x54 w → completesTo (.vloop c) s
      (goesTo u c (if v = 0 then next else target) { x.setScalar (sSd w) v with rb := x.rb - 1 })) ∧
    (issues s c 0x55 w → completesTo (.vrb c) s (goesTo u c next { x with rb := BitVec.ofNat 5 (bImm w) })) ∧
    (issues s c 0x58 w → completesTo (.vclrf c) s (goesTo u c next { x with vf := 0 })) ∧
    (issues s c 0x59 w → completesTo (.vnop c) s (goesTo u c next x)) ∧
    (issues s c 0x5B w → completesTo (.vend c) s (goesTo u c next { x with st := .idle })) ∧
    (issues s c 0x4C w → completesTo (.vcmd c) s (fun t =>
      t.grove c.grove.val = { u.grove c.grove.val with
        queue := (u.grove c.grove.val).queue ++ [⟨x.scalar (sSb w) ++ x.scalar (sSa w), 0⟩] } ∧
      (∀ m, m ≠ c.grove.val → t.grove m = u.grove m) ∧ t.ctx c.num = { x with pc := next } ∧ (∀ j, j ≠ c.num → t.ctx j = u.ctx j) ∧
      t = { u with ctxs := t.ctxs, groves := t.groves }))) ∧
  (∀ (s : State) (c : TileRef) (w : U64) (ctr : Nat),
    let u := issued s c w
    let n := c.grove.val
    let x := u.ctx c.num
    tokenCounter n (bImm w) = some (n, ctr) → ctr < 64 →
    (issues s c 0x56 w → u.token n ctr < 0xFFFFFFFF → completesTo (.vsig c) s (fun t =>
      t.token n ctr = u.token n ctr + 1 ∧ (∀ m k, ¬(m = n ∧ k = ctr) → t.token m k = u.token m k) ∧
      t.ctx c.num = { x with pc := x.pc + 8 } ∧ t = { u with ctxs := t.ctxs, groves := t.groves, dict := t.dict })) ∧
    (issues s c 0x57 w → s.vecWord c.num = w → x.granted = false → s.waitNow n ctr 1 = true → completesTo (.vwait c) s (fun t =>
      t.token n ctr + 1 = u.token n ctr ∧ (∀ m k, ¬(m = n ∧ k = ctr) → t.token m k = u.token m k) ∧
      t.ctx c.num = { x with pc := x.pc + 8 } ∧ (∀ j, j ≠ c.num → t.ctx j = u.ctx j))) ∧
    (issues s c 0x57 w → s.vecWord c.num = w → (s.ctx c.num).granted = true → completesTo (.vwait c) s (fun t =>
      t.ctx c.num = { x with granted := false, pc := x.pc + 8 } ∧ (∀ j, j ≠ c.num → t.ctx j = u.ctx j) ∧ t = { u with ctxs := t.ctxs })) ∧
    (s.ctxRuns c.num = true → s.vecWord c.num = w → vLegal w = true → vOpc w = 0x57 → (s.ctx c.num).granted = false →
      s.waitNow n ctr 1 = false → completesTo (.vwait c) s (fun t =>
        t.ctx c.num = { s.ctx c.num with st := .waiting } ∧ (∀ j, j ≠ c.num → t.ctx j = s.ctx j) ∧
        (t.grove n).waits = (s.grove n).waits ++ [⟨Fin.ofNat 64 ctr, .context c.tile, 1⟩] ∧ (∀ m k, t.token m k = s.token m k) ∧
        t = { s with ctxs := t.ctxs, groves := t.groves }))) ∧
  (∀ (s : State) (c : TileRef) (w : U64),
    s.ctxRuns c.num = true → (s.grove c.grove.val).owner = some c.tile → (s.grove c.grove.val).sliceLeft ≠ 0 →
    (s.grove c.grove.val).icache.contains ((s.ctx c.num).pc.toNat / 256) = true → s.vecWord c.num = w →
    let stopped := fun (code info : Nat) (t : State) =>
      (t.ctx c.num).st = .exception ∧ t.getF (0x6200 + c.grove.val) (0x60 + 8 * c.tile.val) 8 8 = code ∧
      t.bit (0x6200 + c.grove.val) (0x60 + 8 * c.tile.val) 3 = true ∧
      (t.ctx c.num).v = (s.ctx c.num).v ∧ (t.ctx c.num).p = (s.ctx c.num).p ∧ (t.ctx c.num).sc = (s.ctx c.num).sc ∧
      (t.ctx c.num).pc = (s.ctx c.num).pc ∧ sameBytes s t ∧
      (s.bit (0x6200 + c.grove.val) (0x60 + 8 * c.tile.val) 3 = false →
        t.obj (0x6200 + c.grove.val) (0x61 + 8 * c.tile.val) =
          BitVec.ofNat 64 (info * 2 ^ 48 + (s.ctx c.num).tag.toNat * 2 ^ 40 + (s.ctx c.num).pc.toNat / 8 * 8)) ∧
      (∀ d, s.groveOwner c.grove.val = some d → (s.stand d).failure = 0 → (t.stand d).failure = BitVec.ofNat 8 statusCommand)
    (vOpc w = 0x5A → completesTo (.vtrap c) s (stopped veTrap (bImm w))) ∧
    (vLegal w = false → completesTo (.vnop c) s (stopped veIllegal (fld w 48 16))))

/-- VectorArithmetic (R147, R148). Addition, subtraction, multiplication and the multiply-adds, with one rounding. Minimum, maximum and the
operations of one operand; vmin and vmax do not draw (R67). -/
def Obligations.VectorArithmetic : Prop :=
  (∀ (s : State) (c : TileRef) (w : U64),
    (issues s c 0x01 w → completesTo (.vadd c) s (arithWise (issued s c w) c w true (fun a b _ => a.add b) (fun a b _ => a + b))) ∧
    (issues s c 0x02 w → completesTo (.vsub c) s (arithWise (issued s c w) c w true (fun a b _ => a.add b.neg) (fun a b _ => a - b))) ∧
    (issues s c 0x03 w → completesTo (.vmul c) s (arithWise (issued s c w) c w true (fun a b _ => a.mul b) (fun a b _ => a * b))) ∧
    (issues s c 0x04 w → completesTo (.vmac c) s
      (arithWise (issued s c w) c w true (fun a b d => (a.mul b).add d) (fun a b d => a * b + d))) ∧
    (issues s c 0x05 w → completesTo (.vnmac c) s
      (arithWise (issued s c w) c w true (fun a b d => d.add (a.mul b).neg) (fun a b d => d - a * b)))) ∧
  (∀ (s : State) (c : TileRef) (w : U64),
    (issues s c 0x06 w → completesTo (.vmin c) s (arithWise (issued s c w) c w false (fun a b _ => a.minV b) (fun a b _ => min a b))) ∧
    (issues s c 0x07 w → completesTo (.vmax c) s (arithWise (issued s c w) c w false (fun a b _ => a.maxV b) (fun a b _ => max a b))) ∧
    (issues s c 0x08 w → completesTo (.vabs c) s (arithWise (issued s c w) c w true (fun a _ _ => a.abs) (fun a _ _ => (a.natAbs : Int)))) ∧
    (issues s c 0x09 w → completesTo (.vneg c) s (arithWise (issued s c w) c w true (fun a _ _ => a.neg) (fun a _ _ => -a))) ∧
    (issues s c 0x0A w → vType w ≤ 1 → completesTo (.vrcp c) s
      (arithWise (issued s c w) c w true (fun a _ _ => a.rcp) (fun a _ _ => a))) ∧
    (issues s c 0x0B w → vType w ≤ 1 → completesTo (.vrsqrt c) s
      (arithWise (issued s c w) c w true (fun a _ _ => a.rsqrt) (fun a _ _ => a))))

/-- The values that a vcvt gives: from lane `cvtFrom` of VA where the part has one, the others kept (R150). -/
def cvtOut (u : State) (c : TileRef) (w : U64) (i : Nat) : Option Rounded :=
  let st := vImm w % 8
  let dt := vType w
  match cvtFrom (typeWidth st) (typeWidth dt) (vImm w / 8 % 4) i with
  | none => none
  | some j => some (cvtLane st dt (vRm w) (vSat w) (vIs w) (if cvtDraws st dt && decide (vRm w = 2) then u.vecDraw c.num i else 0)
      (srcLane u c w (typeWidth st) 0 j))

/-- VectorConvertReduce (R150, R152, R158, R159, R79, R151). The base-2 exponential, block and exponent normalisation, and conversion. An integer
result of width n outside its range sets IOV, and becomes the nearer bound or the value modulo 2^n. Every lane of VD receives the reduction of the
enabled lanes of VA; a sum of integers is exact before it is narrowed, and minima and maxima of integers are those of the lanes. That the result
goes to every lane, whatever PRED, is the model's choice (log entry 24). -/
def Obligations.VectorConvertReduce : Prop :=
  (∀ (s : State) (c : TileRef) (w : U64),
    let u := issued s c w
    (issues s c 0x0C w → completesTo (.vexp2 c) s (fun t =>
      if vType w = 0 then laneWise u c w 32 false (fun a _ _ _ => vexp2H32 (hazelVal hazel32 a) (vSat w)) t
      else laneWise u c w 16 true (fun a _ _ r => vexp2H16 (hazelVal hazel16 a) (vRm w) (vSat w) r) t)) ∧
    (issues s c 0x0D w → completesTo (.vnorm c) s (fun t =>
      if vImm w / 256 % 2 = 1 then laneWise u c w 32 false (fun a _ _ _ => ⟨expLane (hazelVal hazel32 a), 0⟩) t
      else
        let b := toBlock (berryP (vImm w % 8)) (vRm w) ((List.range 32).map (fun i => hazelVal hazel32 (srcLane u c w 32 0 i)))
          (fun i => if vRm w = 2 then u.vecDraw c.num i else 0)
        vecWrites u c w 32 (fun i => .wr ((blockLanes b.block).getD i 0)) b.flags (fun i => if vRm w = 2 ∧ i < 32 then 1 else 0) t)) ∧
    (issues s c 0x0E w → completesTo (.vcvt c) s (fun t =>
      let n := typeWidth (vType w)
      let on := (List.range (1024 / n)).filter (fun i => enabledLane u c w n i && (cvtOut u c w i).isSome)
      vecWrites u c w n
        (fun i => match cvtOut u c w i with
          | none => .keep
          | some x => if enabledLane u c w n i then .wr x.bits else .off)
        (on.foldl (fun a i => a ||| ((cvtOut u c w i).map (fun x => x.flags)).getD 0) 0)
        (fun i => if (cvtDraws (vImm w % 8) (vType w) && decide (vRm w = 2)) = true ∧ on.contains i = true then 1 else 0) t))) ∧
  (∀ (n : Nat) (sat : Bool) (z : Int), 0 < n →
    let lo : Int := -2 ^ (n - 1)
    let hi : Int := 2 ^ (n - 1) - 1
    let r := intResult n sat z
    (lo ≤ z → z ≤ hi → signed n r.bits = z ∧ r.flags = 0) ∧
    (z < lo ∨ hi < z → r.flags = fIOV ∧ (sat = true → signed n r.bits = if z < lo then lo else hi) ∧
      (sat = false → r.bits < 2 ^ n ∧ ∃ k : Int, signed n r.bits = z + k * 2 ^ n))) ∧
  (∀ (s : State) (c : TileRef) (w : U64),
    let u := issued s c w
    let n := typeWidth (vType w)
    let on := (List.range (1024 / n)).filter (enabledLane u c w n)
    let vals := on.map (fun i => signed n (srcLane u c w n 0 i))
    let every := fun (x : Nat) (fl : Flags) (d : Nat → Nat) => vecWrites u c w n (fun _ => .wr x) fl d
    (issues s c 0x0F w → 1 < vType w → completesTo (.vredadd c) s
      (let x := intResult n (vIs w) vals.sum; every x.bits x.flags (fun _ => 0))) ∧
    (issues s c 0x0F w → vType w ≤ 1 → completesTo (.vredadd c) s
      (let x := u.hazelSum c.num w (typeHazel (vType w)) (redLanes ((u.ctx c.num).pred (vPred w)) n 0 ((srcVals u c w n).getD 0 0))
       every x.1 x.2 (fun i => if vRm w = 2 then (sumDraws (1024 / n)).count i else 0))) ∧
    (issues s c 0x10 w → 1 < vType w → completesTo (.vredmax c) s
      (every (toBits n (vals.foldl max (-(2 ^ (n - 1) : Nat)))) 0 (fun _ => 0))) ∧
    (issues s c 0x11 w → 1 < vType w → completesTo (.vredmin c) s
      (every (toBits n (vals.foldl min ((2 ^ (n - 1) : Nat) - 1))) 0 (fun _ => 0))) ∧
    let h := typeHazel (vType w)
    let lanes := on.map (fun i => hazelVal h (srcLane u c w n 0 i))
    let extreme := fun (x : Val) => every (toHazel h 0 false 0 x).bits
      (match x with | .nan => fNAN | .inf _ => fINF | _ => 0) (fun _ => 0)
    (issues s c 0x10 w → vType w ≤ 1 → completesTo (.vredmax c) s (extreme (lanes.foldl Val.maxV (.inf true)))) ∧
    (issues s c 0x11 w → vType w ≤ 1 → completesTo (.vredmin c) s (extreme (lanes.foldl Val.minV (.inf false)))))

/-- VectorBitsPredicates (R147, R148, R149). Bit operations and shifts, by the amount modulo the lane width, and the move: no flag, no draw.
Comparison writes one bit a lane, the other bits 0; vplog applies its truth table bit by bit; vsel chooses lanes by PRED and writes them all. -/
def Obligations.VectorBitsPredicates : Prop :=
  (∀ (s : State) (c : TileRef) (w : U64),
    let u := issued s c w
    let n := typeWidth (vType w)
    (issues s c 0x12 w → completesTo (.vand c) s (bitsWise u c w (fun a b => a &&& b))) ∧
    (issues s c 0x13 w → completesTo (.vor c) s (bitsWise u c w (fun a b => a ||| b))) ∧
    (issues s c 0x14 w → completesTo (.vxor c) s (bitsWise u c w (fun a b => a ^^^ b))) ∧
    (issues s c 0x15 w → completesTo (.vshl c) s (bitsWise u c w (fun a b => a <<< (b % n)))) ∧
    (issues s c 0x16 w → completesTo (.vshr c) s (bitsWise u c w (fun a b => a >>> (b % n)))) ∧
    (issues s c 0x17 w → completesTo (.vsra c) s (bitsWise u c w (fun a b => toBits n (signed n a / 2 ^ (b % n))))) ∧
    (issues s c 0x1B w → completesTo (.vmov c) s (bitsWise u c w (fun a _ => a)))) ∧
  (∀ (s : State) (c : TileRef) (w : U64),
    let u := issued s c w
    let x := u.ctx c.num
    let n := typeWidth (vType w)
    let vd := vVd w - 0x50
    (issues s c 0x18 w → completesTo (.vcmp c) s (predWrites u c w vd (fun b =>
      decide (b * 8 % n = 0) &&
        (if enabledLane u c w n (b * 8 / n) then cmpLane (vType w) (vImm w % 8) (srcLane u c w n 0 (b * 8 / n)) (srcLane u c w n 1 (b * 8 / n))
         else !vPz w && bitOf (x.pred vd) b)))) ∧
    (issues s c 0x1A w → completesTo (.vplog c) s (predWrites u c w vd (fun b =>
      if bitOf (x.pred (vPred w)) b then
        (vImm w).testBit (2 * (bitOf (x.pred (vVa w - 0x50)) b).toNat + (bitOf (x.pred (vVb w - 0x50)) b).toNat)
      else !vPz w && bitOf (x.pred vd) b))) ∧
    (issues s c 0x19 w → completesTo (.vsel c) s
      (vecWrites u c w n (fun i => .wr (srcLane u c w n (if enabledLane u c w n i then 0 else 1) i)) 0 (fun _ => 0))))

/-- VectorLanes (R147). Permutation, broadcast, insertion and lane numbers; vext writes a scalar. Where the rules leave a point open it follows
the model's readings in log entry 25. -/
def Obligations.VectorLanes : Prop := ∀ (s : State) (c : TileRef) (w : U64),
  let u := issued s c w
  let n := typeWidth (vType w)
  let m := 1024 / n
  let out := fun (f : Nat → Nat) i => if enabledLane u c w n i then LaneOut.wr (f i) else LaneOut.off
  (issues s c 0x1C w → completesTo (.vperm c) s
    (vecWrites u c w n (out (fun i => srcLane u c w n 0 (srcLane u c w n 1 i % m))) 0 (fun _ => 0))) ∧
  (issues s c 0x1D w → completesTo (.vbcast c) s (vecWrites u c w n (out (fun _ => srcLane u c w n 0 (vImm w % m))) 0 (fun _ => 0))) ∧
  (issues s c 0x1F w → completesTo (.vins c) s
    (vecWrites u c w n (fun i => if i = vImm w % m then out (fun _ => ((u.ctx c.num).scalar (vVb w - 0x60)).toNat) i else .keep) 0
      (fun _ => 0))) ∧
  (issues s c 0x20 w → completesTo (.vlane c) s (vecWrites u c w n (out (fun i => i)) 0 (fun _ => 0))) ∧
  (issues s c 0x1E w → completesTo (.vext c) s (fun t =>
    (∀ j, (t.ctx c.num).scalar j = if j = vVd w - 0x60 ∧ j ≠ 0 then BitVec.ofNat 64 (srcLane u c w n 0 (vImm w % m)) else (u.ctx c.num).scalar j) ∧
    t.ctx c.num = { u.ctx c.num with
      sc := (t.ctx c.num).sc, aq := (u.ctx c.num).aq.drop (vPops w), pc := (u.ctx c.num).pc + 8 } ∧
    (∀ j, j ≠ c.num → t.ctx j = u.ctx j) ∧ t = { u with ctxs := t.ctxs }))

/-- VectorMemory (R128, R141, R145, R153, R162). A load whose words hold no error reads the bytes at its effective address and changes nothing
else. A store whose words hold no error writes exactly the enabled bytes at its effective address; a tile SRAM line that the Stand does not own
raises VE_ACCESS and nothing is written. -/
def Obligations.VectorMemory : Prop :=
  (∀ (s : State) (c : TileRef) (w : U64),
    let u := issued s c w
    let x := u.ctx c.num
    let at_ := fun unit => spaceAddr c.num (vType w) (effAddr x w unit)
    (issues s c 0x30 w → u.badSram (at_ 128) 128 = [] → completesTo (.vld c) s
      (vecWrites u c w 32 (fun i => if enabledLane u c w 32 i then .wr (u.readNat (at_ 128 + 4 * i) 4) else .off) 0 (fun _ => 0))) ∧
    (issues s c 0x34 w → u.badSram (spaceAddr c.num 0 (effAddr x w 8)) 8 = [] → completesTo (.sld c) s
      (scalarWrites u c (vVd w - 0x60) (BitVec.ofNat 64 (u.readNat (spaceAddr c.num 0 (effAddr x w 8)) 8)))) ∧
    (issues s c 0x32 w → sramSound u →
      completesTo (.vldb c) s (fun t =>
        let b := subTileRow (fun o => (u.byte (spaceAddr c.num (vType w) ((effAddr x w 32 + o) % spaceSize (vType w)))).toNat)
          (berryP (mFmt w)) (mRow w)
        vecWrites u c w 32 (fun i => .wr (toBits 16 (b.m.getD i 0) + 0x10000 * b.scale)) 0 (fun _ => 0) t))) ∧
  (∀ (s : State) (c : TileRef) (w : U64),
    let u := issued s c w
    let x := u.ctx c.num
    let off := effAddr x w 128
    let a := spaceAddr c.num (vType w) off
    let b := spaceAddr c.num 0 (effAddr x w 8)
    (issues s c 0x31 w → u.vecOwned c.num (vType w) off 128 = true → u.badSram a 128 = [] → completesTo (.vst c) s (fun t =>
      (∀ i, i < 128 → t.byte (a + i) =
        if enabledLane u c w 32 (i / 4) then BitVec.ofNat 8 (((srcVals u c w 32).getD 0 0).toNat / 256 ^ i) else u.byte (a + i)) ∧
      sameBytesBut u t a 128 ∧
      t.ctx c.num = { x with aq := x.aq.drop (vPops w), pc := x.pc + 8 } ∧ (∀ j, j ≠ c.num → t.ctx j = u.ctx j) ∧
      (∀ k, t.word k = u.word k) ∧ t = { u with
        ctxs := t.ctxs, mem := t.mem, sramDiff := t.sramDiff, writeBack := t.writeBack, written := t.written, groves := t.groves })) ∧
    (issues s c 0x31 w → u.vecOwned c.num (vType w) off 128 = false → completesTo (.vst c) s (fun t =>
      (t.ctx c.num).st = .exception ∧ t.getF (0x6200 + c.grove.val) (0x60 + 8 * c.tile.val) 8 8 = veAccess ∧ sameBytes u t)) ∧
    (issues s c 0x33 w → u.vecOwned c.num (vType w) (effAddr x w 32) 32 = true → sramSound u → completesTo (.vstb c) s (fun t =>
      let puts := (subTileWrites (berryP (mFmt w)) (mRow w) (laneBlock (berryP (mFmt w)) ((srcVals u c w 32).getD 0 0))).map
        (fun e => (spaceAddr c.num (vType w) ((effAddr x w 32 + e.1) % spaceSize (vType w)), e.2))
      (∀ e, e ∈ puts → t.byte e.1 = e.2) ∧ (∀ a, a ∉ puts.map (fun e => e.1) → t.byte a = u.byte a) ∧
      t.ctx c.num = { x with aq := x.aq.drop (vPops w), pc := x.pc + 8 } ∧ (∀ j, j ≠ c.num → t.ctx j = u.ctx j))) ∧
    (issues s c 0x35 w → u.badSram b 8 = [] → completesTo (.sst c) s (fun t =>
      t.readNat b 8 = (x.scalar (vVd w - 0x60)).toNat ∧ sameBytesBut u t b 8 ∧
      t.ctx c.num = { x with pc := x.pc + 8 } ∧ (∀ j, j ≠ c.num → t.ctx j = u.ctx j) ∧ (∀ k, t.word k = u.word k))))

/-- ScalarOps (R142, R147). The fields of format S; scalar arithmetic modulo 2^64, which raises no flag; shifts by SB mod 64; immediates
sign-extended. -/
def Obligations.ScalarOps : Prop := ∀ (s : State) (c : TileRef) (w : U64),
  let u := issued s c w
  let a := (u.ctx c.num).scalar (sSa w)
  let b := (u.ctx c.num).scalar (sSb w)
  let d := (u.ctx c.num).scalar (sSd w)
  let sd := fun v t => scalarWrites u c (sSd w) v t ∧ (t.ctx c.num).vf = (u.ctx c.num).vf
  (w.toNat = vOpc w * 2 ^ 56 + sSd w * 2 ^ 51 + sSa w * 2 ^ 46 + sSb w * 2 ^ 41 + w.toNat / 2 ^ 32 % 2 ^ 9 * 2 ^ 32 + fld w 0 32 ∧
    vOpc w < 256 ∧ sSd w < 32 ∧ sSa w < 32 ∧ sSb w < 32) ∧
  (issues s c 0x40 w → completesTo (.sadd c) s (sd (a + b))) ∧ (issues s c 0x41 w → completesTo (.ssub c) s (sd (a - b))) ∧
  (issues s c 0x42 w → completesTo (.smul c) s (sd (a * b))) ∧ (issues s c 0x43 w → completesTo (.sand c) s (sd (a &&& b))) ∧
  (issues s c 0x44 w → completesTo (.sor c) s (sd (a ||| b))) ∧ (issues s c 0x45 w → completesTo (.sxor c) s (sd (a ^^^ b))) ∧
  (issues s c 0x46 w → completesTo (.sshl c) s (sd (a <<< (b.toNat % 64)))) ∧
  (issues s c 0x47 w → completesTo (.sshr c) s (sd (a >>> (b.toNat % 64)))) ∧
  (issues s c 0x48 w → completesTo (.ssra c) s (sd (a.sshiftRight (b.toNat % 64)))) ∧
  (issues s c 0x49 w → completesTo (.saddi c) s (sd (a + BitVec.ofInt 64 (signed 32 (fld w 0 32))))) ∧
  (issues s c 0x4A w → completesTo (.sli c) s (sd (BitVec.ofInt 64 (signed 32 (fld w 0 32))))) ∧
  (issues s c 0x4B w → completesTo (.slih c) s (sd (BitVec.ofNat 64 (fld w 0 32 * 2 ^ 32 + fld d 0 32)))) ∧
  (issues s c 0x4D w → completesTo (.vgetf c) s (sd ((u.ctx c.num).vf.setWidth 64)))

/-- VectorIssue (R137, R144). Fetching and counting leave everything that an instruction computes with: contexts, bytes of memory where the fetched
line holds no error, and every object but the issue-cycle count; vrcp and vrsqrt take four cycles of the slice. While the owner of the slice can
issue its next instruction in it the slice goes on; else the next one, of 8 issue cycles, goes to the first ready context after the last owner, and
with none ready the cycle is idle. That an instruction of four cycles waits for a slice that has them is the model's reading (log entry 113). -/
def Obligations.VectorIssue : Prop :=
  (∀ (s : State) (c : TileRef) (opc : Nat) (w : U64), issues s c opc w →
    s.badSram (storeAddr c.grove.val ((s.ctx c.num).pc.toNat / 256 * 256)) 256 = [] →
    let u := issued s c w
    let key := objKey 0 (0x6200 + c.grove.val) (0x63 + 8 * c.tile.val) 0
    u = { s with groves := u.groves, dict := u.dict } ∧
    u.word key = s.word key + BitVec.ofNat 64 (s.issueCycles c.num w) ∧ sameWordsBut s u (fun k => k = key) ∧
    (vOpc w = 0x0A ∨ vOpc w = 0x0B → s.issueCycles c.num w = 4) ∧ (∀ m, m ≠ c.grove.val → u.grove m = s.grove m) ∧
    u.grove c.grove.val = { s.grove c.grove.val with
      icache := (u.grove c.grove.val).icache, sliceLeft := (s.grove c.grove.val).sliceLeft - s.issueCycles c.num w } ∧
    (u.grove c.grove.val).icache.contains ((s.ctx c.num).pc.toNat / 256) = true) ∧
  (∀ (s : State) (g : GroveId),
    let left := (s.grove g.val).sliceLeft
    let goes := ∃ t, (s.grove g.val).owner = some t ∧ s.vecReady (4 * g.val + t.val) = true ∧ left ≠ 0 ∧
      s.issueCycles (4 * g.val + t.val) (s.vecWord (4 * g.val + t.val)) ≤ left
    (goes → exec (.issueSlice g) s = .next s) ∧
    (∀ t, ¬goes → s.nextOwner g.val = some t → completesTo (.issueSlice g) s (fun u =>
      u.grove g.val = { s.grove g.val with owner := some (Fin.ofNat 4 t), sliceLeft := 8 } ∧ s.vecReady (4 * g.val + t) = true ∧ t < 4 ∧
      (∀ m, m ≠ g.val → u.grove m = s.grove m) ∧ u = { s with groves := u.groves })) ∧
    (¬goes → s.nextOwner g.val = none → completesTo (.issueSlice g) s (fun u =>
      u.obj (0x6200 + g.val) 0x51 = s.obj (0x6200 + g.val) 0x51 + 1 ∧ (∀ t, t < 4 → s.vecReady (4 * g.val + t) = false) ∧
      sameWordsBut s u (fun k => k = objKey 0 (0x6200 + g.val) 0x51 0) ∧ u = { s with dict := u.dict })))

/-! ## The matrix tiles -/

/-- Entry k of a grove's queue is the command `w`, not yet begun; its tiles have all reached it and nothing refuses it: not its
TMASK, not a tile (R96, R101, R105). -/
abbrev cmdRuns (s : State) (g : GroveId) (k : Fin 32) (op : Nat) (w : BitVec 128) (code : State → Nat → BitVec 128 → Nat → Nat) : Prop :=
  (s.grove g.val).queue[k.val]? = some ⟨w, 0⟩ ∧ cmdReached s g.val (s.grove g.val).queue k.val w = true ∧ qOp w = op ∧ s.maskCode g.val w = 0 ∧
  ∀ t, t < 4 → code s g.val w t = 0

/-- The tiles of a grove that `p` names may differ, and its queue; every other tile and grove is as it was. -/
def tilesOnly (s t : State) (n : Nat) : Prop :=
  (∀ k, k / 4 ≠ n → t.tile k = s.tile k) ∧ (∀ m, m ≠ n → t.grove m = s.grove m) ∧
  t = { s with tiles := t.tiles, groves := t.groves, dict := t.dict } ∧ (∀ m, t.grove m = { s.grove m with queue := (t.grove m).queue })

/-- Wload (R89, R90, R92). A wload whose tiles have their shadow registers free reads 32 lines of mantissas and 2 of scales into the shadow set of
each tile; a tile whose shadow set is full, or whose lines are pending in a writer, waits. -/
def Obligations.Wload : Prop := ∀ (s : State) (g : GroveId) (k : Fin 32) (w : BitVec 128),
  cmdRuns s g k 1 w wloadCode → sramSound s →
  let src := fun t => if fld w 46 3 = 4 then t else fld w 46 3
  ((∀ t, t < 4 → inMask (qMask w) t = true → (s.tile (4 * g.val + t)).shadow = none ∧
      s.linesWait g.val k.val (src t) (fld w 34 12) 32 = false ∧ s.linesWait g.val k.val (src t) (fld w 22 12) 2 = false) →
    completesTo (.wload g k) s (fun t =>
      (t.grove g.val).queue = (s.grove g.val).queue.eraseIdx k.val ∧
      (∀ i, i < 4 → inMask (qMask w) i = true → ∃ ws, t.tile (4 * g.val + i) = { s.tile (4 * g.val + i) with shadow := some ws } ∧
        ws.lines = linesOf (s.bytes (tileAddr (4 * g.val + src i) (256 * fld w 34 12)) 8192) 32 ∧
        ws.scales = linesOf (s.bytes (tileAddr (4 * g.val + src i) (256 * fld w 22 12)) 512) 2 ∧
        ws.wfmt = BitVec.ofNat 4 (fld w 52 4) ∧ ws.nib = BitVec.ofNat 2 (fld w 50 2) ∧ (ws.square = true → bitOf w 49 = true)) ∧
      (∀ i, i < 4 → inMask (qMask w) i = false → t.tile (4 * g.val + i) = s.tile (4 * g.val + i)) ∧ tilesOnly s t g.val ∧
      (∀ key, t.word key = s.word key))) ∧
  ((∀ t, t < 4 → inMask (qMask w) t = true → (s.tile (4 * g.val + t)).shadow.isSome = true ∨
      s.linesWait g.val k.val (src t) (fld w 34 12) 32 = true ∨ s.linesWait g.val k.val (src t) (fld w 22 12) 2 = true) →
    exec (.wload g k) s = .next s)

/-- Mmul (R95, R96, R98, R124). An mmul that waits on no writer feeds its wave to every tile of its mask: each is as `feedTile` of the bytes read,
its feed cycles are counted, and the command leaves the queue. In split mode the wave is the tile's own, else that of ASRC. -/
def Obligations.Mmul : Prop := ∀ (s : State) (g : GroveId) (k : Fin 32) (w : BitVec 128) (ws : Nat → WeightSet),
  cmdRuns s g k 2 w mmulCode → sramSound s →
  let n := g.val
  let x := fun i => s.tile (4 * n + i)
  let src := if s.splitMode n then (qTiles w).headD 0 else s.asrc n
  let v := fld w 42 7 + 1
  let lines := waveLines v (berryP (fld w 52 4))
  let masked : BitVec 128 := if bitOf w 49 then BitVec.ofNat 128 (s.readNat (tileAddr (4 * n + src) (256 * fld w 18 12)) 16) else 0
  let seeded := fun i => finalPass (ws i) && bitOf w 10 && bitOf w 9
  s.linesWait n k.val src (fld w 30 12) lines = false → (bitOf w 49 = true → s.linesWait n k.val src (fld w 18 12) 1 = false) →
  (∀ i, i < 4 → inMask (qMask w) i = true → mmulSet (x i) w = some (ws i) ∧ slotsBusy (x i) (fld w 11 7) v = false ∧
    (seeded i = true → s.linesWait n k.val i (fld w 95 12) (2 * v) = false)) →
  completesTo (.mmul g k (Vector.replicate 4 0) 0) s (fun t =>
    (∀ i, i < 4 → inMask (qMask w) i = true → t.tile (4 * n + i) =
      feedTile w (ws i) (s.bytes (tileAddr (4 * n + src) (256 * fld w 30 12)) (256 * lines)) masked
        (if seeded i then some (s.bytes (tileAddr (4 * n + i) (256 * fld w 95 12)) (512 * v)) else none) (x i)) ∧
    (∀ i, i < 4 → inMask (qMask w) i = false → t.tile (4 * n + i) = x i) ∧
    (t.grove n).queue = (s.grove n).queue.eraseIdx k.val ∧ tilesOnly s t n ∧
    (∀ i, i < 4 → t.obj (0x6200 + n) (tileSub i 7) = s.obj (0x6200 + n) (tileSub i 7) +
      if inMask (qMask w) i then
        BitVec.ofNat 64 ((if s.splitMode n then 4 else 1) * berryP (fld w 52 4) * (fedVectors v masked).length)
      else 0) ∧
    sameWordsBut s t (fun q => ∃ i, i < 4 ∧ q = objKey 0 (0x6200 + n) (tileSub i 7) 0))

/-- The value of nibble planes at reduction position c (R82). -/
def nibbleAt (top : Bool) (wp : List Nat) (c : Nat) : Int :=
  ((wp.zipIdx).map (fun e => if e.1.testBit c then nibWeight top e.2 else 0)).sum

/-- The value of activation planes at reduction position c (R83). -/
def mantissaAt (ap : List Nat) (c : Nat) : Int :=
  ((ap.zipIdx).map (fun e => if e.1.testBit c then (if e.2 + 1 = ap.length then -1 else 1) * 2 ^ e.2 else 0)).sum

/-- BitSerialDot (R83). The bit-serial sum P_j of one pass over a block is the sum over the activation bits of their weights times T_jk; the sum
of 16^j P_j over the passes is the dot product of the block's 32 weights and mantissas; and a pass before the last adds 16^j P_j to what the pass
buffer holds of its block. -/
def Obligations.BitSerialDot : Prop := (∀ (top : Bool) (wp ap : List Nat), (∀ x, x ∈ wp → x < 2 ^ 32) → (∀ x, x ∈ ap → x < 2 ^ 32) →
    passSum top wp ap = ((List.range ap.length).map (fun k => (if k + 1 = ap.length then -1 else 1) * 2 ^ k *
      ((List.range 32).map (fun i => nibbleAt top wp i * (if (ap.getD k 0).testBit i then 1 else 0))).sum)).sum) ∧
  (∀ (wps : List (List Nat)) (ap : List Nat), (∀ wp, wp ∈ wps → ∀ x, x ∈ wp → x < 2 ^ 32) → (∀ x, x ∈ ap → x < 2 ^ 32) →
    let top := fun j => decide (j + 1 = wps.length)
    ((List.range wps.length).map (fun j => 16 ^ j * passSum (top j) (wps.getD j []) ap)).sum =
      ((List.range 32).map (fun i =>
        ((List.range wps.length).map (fun j => 16 ^ j * nibbleAt (top j) (wps.getD j []) i)).sum * mantissaAt ap i)).sum) ∧
  (∀ (ws : WeightSet) (axis : Bool) (pa : Nat) (act : Nat → Nat → Nat) (aScale : Nat → Nat) (slot v out b : Nat) (x : Tile),
    finalPass ws = false → b < 4 →
    let key := (128 * v + out) * 4 + b
    SMap.get 0 (feedOutput ws axis pa act aScale slot v x out).pass key =
      BitVec.ofInt 37 ((if ws.nib.toNat = 0 then 0 else (SMap.get 0 x.pass key).toInt) +
        16 ^ ws.nib.toNat * passSum false (weightPlanes ws axis out b) ((List.range pa).map (act b))))

/-- VstartTsig (R134, R135, R243, R240). A vstart starts the idle contexts of its mask at their program, with S1, S2, the base, the flags and the
TAG set; a context that runs makes its tile wait. A tsig leaves the queue at once and is remembered with the commands before it; its token is
signalled once every earlier command of its tiles has ended. -/
def Obligations.VstartTsig : Prop :=
  (∀ (s : State) (g : GroveId) (k : Fin 32) (w : BitVec 128), cmdRuns s g k 3 w vstartCode →
    completesTo (.vstart g k) s (fun t =>
      (∀ i, i < 4 → inMask (qMask w) i = true → (s.ctx (4 * g.val + i)).st = .idle →
        let x := s.ctx (4 * g.val + i)
        let y := t.ctx (4 * g.val + i)
        y.st = .running ∧ y.pc = BitVec.ofNat 18 (8 * fld w 41 15) ∧ y.rb = 0 ∧ y.vf = 0 ∧ y.tag = BitVec.ofNat 8 (fld w 0 8) ∧
        y.scalar 1 = w.extractLsb' 64 64 ∧ y.scalar 2 = BitVec.ofNat 64 i ∧ y.granted = false ∧
        (∀ j, j ≠ 1 → j ≠ 2 → y.scalar j = x.scalar j) ∧ y.v = x.v ∧ y.p = x.p ∧ y.aq = x.aq ∧ y.oq = x.oq ∧ y.draws = x.draws) ∧
      (∀ j, ¬(j / 4 = g.val ∧ inMask (qMask w) (j % 4) = true ∧ (s.ctx j).st = .idle) → t.ctx j = s.ctx j) ∧
      ((∀ i, i < 4 → inMask (qMask w) i = true → (s.ctx (4 * g.val + i)).st = .idle) →
        (t.grove g.val).queue = (s.grove g.val).queue.eraseIdx k.val) ∧
      (∀ m, m ≠ g.val → t.grove m = s.grove m) ∧ t = { s with ctxs := t.ctxs, groves := t.groves })) ∧
  (∀ (s : State) (g : GroveId) (w : BitVec 128),
    (∀ k, cmdRuns s g k 4 w tsigCode → completesTo (.tsig g k) s (fun t =>
      (t.grove g.val).queue = (s.grove g.val).queue.eraseIdx k.val ∧
      (∃ p, (t.grove g.val).tsigs = (s.grove g.val).tsigs ++ [p] ∧ p.token = BitVec.ofNat 16 (fld w 40 16) ∧ p.count = tsigCount w ∧
        ∀ i, i < 4 → SMap.get 0 p.upto i = if inMask (qMask w) i then (s.tile (4 * g.val + i)).nextJob else 0) ∧
      t.grove g.val = { s.grove g.val with queue := (t.grove g.val).queue, tsigs := (t.grove g.val).tsigs } ∧
      (∀ m, m ≠ g.val → t.grove m = s.grove m) ∧ t = { s with groves := t.groves })) ∧
    (∀ p rest ctr, (s.grove g.val).tsigs = p :: rest → tsigReady s g.val p = true → tokenCounter g.val p.token.toNat = some (g.val, ctr) →
      s.token g.val ctr + p.count ≤ 0xFFFFFFFF → completesTo (.tsigTokenSignal g) s (fun t =>
        t.token g.val ctr = s.token g.val ctr + p.count ∧ (∀ j, j ≠ ctr → t.token g.val j = s.token g.val j) ∧
        (t.grove g.val).tsigs = rest ∧ (∀ m, m ≠ g.val → t.grove m = s.grove m) ∧ t = { s with groves := t.groves })))

/-- The job of a tile that the writer serves next (R106, R155). -/
def writerNext (x : Tile) : Option WriterJob :=
  x.jobs.find? (fun j => !bitOf j.w1 55 || decide (j.handed < (fedVectors (fld j.w0 42 7 + 1) j.masked).length) ||
    (fedVectors (fld j.w0 42 7 + 1) j.masked).isEmpty)

/-- OutputAndReturn (R106, R107, R112, R113, R155, R176, R178). A command without EPI is converted and written whole: its output lines alone change in memory,
the accumulators stay, and the command ends; one vector is written as `writeVector` converts its accumulators. A parity mismatch at a vector that
the writer reads stops the tile with PARITY_ERR, and no later vector is written. With EPI, while AQ has room for
four words, a vector is handed over to AQ. Four words of OQ are one output vector: they leave OQ and are written at the place of the next vector
that was handed over, and the command ends with its last. -/
def Obligations.OutputAndReturn : Prop :=
  (∀ (s : State) (c : TileRef) (j : WriterJob),
    let k := c.num
    let v := fld j.w0 42 7 + 1
    let base := tileAddr k (256 * fld j.w1 43 12)
    let size := 256 * outLines (fld j.w1 60 4) v
    writerNext (s.tile k) = some j → sramSound s →
    (bitOf j.w1 55 = false → fld j.w1 60 4 ≤ 6 → fld j.w1 43 12 + outLines (fld j.w1 60 4) v ≤ 4096 → completesTo (.outputWriter ⟨c, none⟩) s (fun t =>
      (t.tile k).jobs = (s.tile k).jobs.filter (fun y => y.id != j.id) ∧ (t.tile k).acc = (s.tile k).acc ∧
      (t.tile k).live = (s.tile k).live ∧ (t.tile k).shadow = (s.tile k).shadow ∧ sameBytesBut s t base size ∧
      (v = 1 → bitOf j.masked 0 = false →
        ∀ e, e ∈ (writeVector s c.grove.val (fld j.w1 60 4) (fld j.w1 58 2) (bitOf j.w1 57) 0
            ((accElems (s.tile k) (fld j.w0 11 7)).map (fun y => y.1)) (s.writerDraw k (fld j.w1 58 2) j.drawBase)).bytes →
          t.byte (base + e.1) = e.2) ∧
      (∀ i, i ≠ k → t.tile i = s.tile i) ∧ t.ctxs = s.ctxs ∧ t.slots = s.slots ∧ t.stands = s.stands)) ∧
    (∀ u, bitOf j.w1 55 = false → u.val < v → bitOf j.masked u.val = false → fld j.w1 60 4 ≤ 6 →
      fld j.w1 43 12 + outLines (fld j.w1 60 4) v ≤ 4096 → completesTo (.outputWriter ⟨c, some u⟩) s (fun t =>
        (t.tile k).stopped = true ∧ (t.tile k).jobs = [] ∧ t.bit (0x6200 + c.grove.val) (tileSub c.tile.val 1) 1 = true ∧
        (∃ e, e ∈ t.reports ∧ e.err = .tileAccParity ∧ e.unit.toNat = k) ∧ sameBytesBut s t base size ∧
        (∀ i, i ≠ k → t.tile i = s.tile i) ∧ t.ctxs = s.ctxs ∧ t.stands = s.stands)) ∧
    (bitOf j.w1 55 = true → bitOf j.w1 56 = false → j.handed < (fedVectors v j.masked).length →
      9 ≤ (s.ctx k).aq.length → (s.ctx k).aq.length ≤ 12 → completesTo (.outputWriter ⟨c, none⟩) s (fun t =>
        (∃ words, words.length = 4 ∧ (t.ctx k).aq = (s.ctx k).aq ++ words) ∧
        (t.tile k).jobs.length = (s.tile k).jobs.length ∧
        (∃ y, y ∈ (t.tile k).jobs ∧ y.id = j.id ∧ y.handed = j.handed + 1 ∧ y.returned = j.returned) ∧ sameBytes s t ∧
        (∀ i, i ≠ k → t.ctx i = s.ctx i) ∧ (∀ i, i ≠ k → t.tile i = s.tile i)))) ∧
  (∀ (s : State) (c : TileRef) (j : WriterJob),
    let k := c.num
    let fed := fedVectors (fld j.w0 42 7 + 1) j.masked
    let u := fed.getD j.returned 0
    let xs : List Elem := ((s.ctx k).oq.take 4).flatMap (fun w => (List.range 32).map (fun i => (hazelVal hazel32 (laneAt 32 i w), false)))
    let out := writeVector s c.grove.val (fld j.w1 60 4) (fld j.w1 58 2) (bitOf j.w1 57) u xs
      (s.writerDraw k (fld j.w1 58 2) (j.drawBase + 2 * j.returned + 1))
    let base := tileAddr k (256 * fld j.w1 43 12)
    (s.tile k).jobs.find? (fun y => bitOf y.w1 55 && decide (y.returned < y.handed)) = some j → sramSound s → fld j.w1 60 4 ≤ 6 →
    fld j.w1 43 12 + outLines (fld j.w1 60 4) (fld j.w0 42 7 + 1) ≤ 4096 →
    4 ≤ (s.ctx k).oq.length → completesTo (.epiReturn c) s (fun t =>
      t.ctx k = { s.ctx k with oq := (s.ctx k).oq.drop 4 } ∧ (∀ i, i ≠ k → t.ctx i = s.ctx i) ∧
      (∀ e, e ∈ out.bytes → t.byte (base + e.1) = e.2) ∧ (∀ a, (∀ e, e ∈ out.bytes → a ≠ base + e.1) → t.byte a = s.byte a) ∧
      (t.tile k).jobs = if fed.length ≤ j.returned + 1 then (s.tile k).jobs.filter (fun y => y.id != j.id)
        else (s.tile k).jobs.map (fun y => if y.id = j.id then { j with returned := j.returned + 1 } else y)))

/-! ## Streams -/

/-- StreamPrograms (R226, R228, R194, R206, R229, R230). sloop opens a level with counter 0, or branches past it where the extent is 0; snext
counts and branches back until the extent is reached; the counter then reads 0. sgen configures a generator from its instruction or its
descriptor, with steps and offsets 0; sstep adds to a step, soff sets an offset. Bytes of a run that cannot go out yet are awaited first (R234). -/
def Obligations.StreamPrograms : Prop :=
  (∀ (s : State) (u : SlotRef) (d : Nat) (w0 w1 : U64),
    let sl := s.slot u.num
    let l := tLevel w0
    let c := (SMap.get 0 sl.cnt l).toNat + 1
    let target := BitVec.ofInt 18 ((sl.pc.toNat : Int) + 16 * tOff w1)
    (streamClear s u d 0x20 w0 w1 → completesTo (.sloop u) s (slotOnly s u { sl with
      cnt := SMap.set 0 sl.cnt l 0, ext := SMap.set 0 sl.ext l (BitVec.ofNat 48 (fld w0 0 48)), run := none
      pc := if fld w0 0 48 = 0 then target else sl.pc + 16 })) ∧
    (streamAt s u d 0x21 w0 w1 → c < (SMap.get 0 sl.ext l).toNat → completesTo (.snext u) s
      (slotOnly s u { sl with cnt := SMap.set 0 sl.cnt l (BitVec.ofNat 48 c), pc := target })) ∧
    (streamClear s u d 0x21 w0 w1 → (SMap.get 0 sl.ext l).toNat ≤ c → completesTo (.snext u) s
      (slotOnly s u { sl with cnt := SMap.set 0 sl.cnt l 0, run := none, pc := sl.pc + 16 })) ∧
    (∀ i o f, (i, o) ∈ [(Instr.sgen u, 0x01), (.sstep u, 0x02), (.soff u, 0x03), (.sloop u, 0x20)] → streamAt s u d o w0 w1 →
      (streamBase s u).flushRun u.grove.val u.slot.val d true = (f, .wait) → exec i s = .next f)) ∧
  (∀ (s : State) (u : SlotRef) (d : Nat) (w0 w1 : U64),
    let sl := s.slot u.num
    let n := u.grove.val
    let at_ := if fld w0 48 3 = 2 then storeAddr n w1.toNat else w1.toNat
    let blocks := ((List.range ((at_ + 191) / 128 - at_ / 128 + 1)).map (fun i => 128 * (at_ / 128 + i))).filter (overNet n)
    let u0 := ((streamBase s u).endRun u.num).chargeBlocks n u.slot.val blocks
    let space := fld w0 48 3
    let put := fun (g : Gen) => slotOnly s u { sl with gens := SMap.set none sl.gens (tGs w0) (some g), run := none, pc := sl.pc + 16 }
    (streamClear s u d 0x01 w0 w1 → fld w0 51 3 = 0 → s.windowOk n d space w1.toNat (fld w0 0 48) = true → completesTo (.sgen u) s
      (put ⟨.linear, BitVec.ofNat 3 space, w1, BitVec.ofNat 48 (fld w0 0 48), [], [], []⟩)) ∧
    (∀ bytes, streamClear s u d 0x01 w0 w1 → fld w0 51 3 ≠ 0 → w1.toNat % 64 = 0 → space = 0 ∨ space = 2 →
      (space = 2 → w1.toNat + 192 ≤ 0x40000) →
      u0.readNow (some d) at_ 192 = (u0, bytes, 0) →
      let desc := (List.range 24).map (fun i => BitVec.ofNat 64 (ofLe (sliceBytes bytes (8 * i) 8)))
      let g : Gen := ⟨if fld w0 51 3 = 1 then .local else .global, BitVec.ofNat 3 space, w1, BitVec.ofNat 48 (fld w0 0 48), desc, [], []⟩
      descCode desc d s.deviceId (fun a m => s.ownsRange d a m) = 0 → completesTo (.sgen u) s (fun t =>
        (blocks = [] → put g t) ∧
        t.slot u.num = { sl with gens := SMap.set none sl.gens (tGs w0) (some g), run := none, pc := sl.pc + 16, spent := (t.slot u.num).spent } ∧
        (∀ k, k ≠ u.num → t.slot k = s.slot k) ∧
        t = { streamBase s u with slots := t.slots, dict := t.dict, free := t.free })) ∧
    (∀ g, streamClear s u d 0x02 w0 w1 → sl.gen? (tGs w0) = some g → completesTo (.sstep u) s
      (let key := 8 * fld w0 51 3 + (if g.kind = .linear then 0 else fld w0 48 3)
       put { g with steps := SMap.set 0 g.steps key (SMap.get 0 g.steps key + signed 48 (fld w0 0 48)) })) ∧
    (∀ g, streamClear s u d 0x03 w0 w1 → sl.gen? (tGs w0) = some g → completesTo (.soff u) s
      (put { g with offs := SMap.set 0 g.offs (if g.kind = .linear then 0 else fld w0 48 3) (signed 48 (fld w0 0 48)) })))

/-- StreamTokenWaits (R239 to R241, R240). ssig waits for the stream's earlier writes, then raises a counter of its grove; swait takes its count,
or waits in its turn; the first wait on a counter is satisfied once the count is there. The first wait on a counter that holds its count takes it;
a context runs on, and a slot goes on at its next instruction; other waits, counters and units stay. -/
def Obligations.StreamTokenWaits : Prop :=
  (∀ (s : State) (u : SlotRef) (d ctr : Nat) (w0 w1 : U64),
    let sl := s.slot u.num
    let n := u.grove.val
    let u0 := streamBase s u
    let others := fun (t : State) => ∀ k, k ≠ ctr → t.token n k = s.token n k
    tokenCounter n (tToken w1) = some (n, ctr) → ctr < 64 →
    (streamClear s u d 0x22 w0 w1 → s.slotWrites u.num = false → s.token n ctr + tCount w1 ≤ 0xFFFFFFFF → completesTo (.ssig u) s (fun t =>
      t.token n ctr = s.token n ctr + tCount w1 ∧ others t ∧ t.slot u.num = { sl with run := none, pc := sl.pc + 16 } ∧
      (∀ k, k ≠ u.num → t.slot k = s.slot k) ∧ (∀ m, m ≠ n → t.grove m = s.grove m) ∧ t = { s with slots := t.slots, groves := t.groves })) ∧
    (streamClear s u d 0x22 w0 w1 → s.slotWrites u.num = true → exec (.ssig u) s = .next u0) ∧
    (streamClear s u d 0x23 w0 w1 → s.waitNow n ctr (tCount w1) = true → completesTo (.swait u) s (fun t =>
      t.token n ctr + tCount w1 = s.token n ctr ∧ others t ∧ t.slot u.num = { sl with buffer := [], run := none, pc := sl.pc + 16 } ∧
      (∀ k, k ≠ u.num → t.slot k = s.slot k) ∧ t = { s with slots := t.slots, groves := t.groves })) ∧
    (streamClear s u d 0x23 w0 w1 → s.waitNow n ctr (tCount w1) = false → completesTo (.swait u) s (fun t =>
      t.slot u.num = { sl with st := .waiting, buffer := [], run := none } ∧ (∀ k, k ≠ u.num → t.slot k = s.slot k) ∧
      t.grove n = { u0.grove n with waits := (s.grove n).waits ++ [⟨Fin.ofNat 64 ctr, .slot u.slot, tCount w1⟩] } ∧
      t = { s with slots := t.slots, groves := t.groves })) ∧
    (streamClear s u d 0x24 w0 w1 → completesTo (.sbtk u) s (slotOnly s u (
      if tCount w1 ≤ s.token n ctr then
        { sl with buffer := [], miss := none, run := none, pc := BitVec.ofInt 18 ((sl.pc.toNat : Int) + 16 * tOff w1) }
      else { sl with run := none, pc := sl.pc + 16 })))) ∧
  (∀ (s : State) (g : GroveId) (ctr : Fin 64) (w : Machine.TokenWait),
    firstWait (s.grove g.val) ctr.val = some w → w.count ≤ s.token g.val ctr.val → completesTo (.tokenWaitSatisfied g ctr) s (fun t =>
      t.token g.val ctr.val + w.count = s.token g.val ctr.val ∧ (∀ k, k ≠ ctr.val → t.token g.val k = s.token g.val k) ∧
      (t.grove g.val).waits = (s.grove g.val).waits.erase w ∧ (∀ m, m ≠ g.val → t.grove m = s.grove m) ∧
      (match w.who with
       | .context c => t.ctx (4 * g.val + c.val) = { s.ctx (4 * g.val + c.val) with st := .running, granted := true } ∧ t.slots = s.slots ∧
           ∀ k, k ≠ 4 * g.val + c.val → t.ctx k = s.ctx k
       | .slot q => t.slot (8 * g.val + q.val) =
             { s.slot (8 * g.val + q.val) with st := .running, pc := (s.slot (8 * g.val + q.val)).pc + 16 } ∧ t.ctxs = s.ctxs ∧
           ∀ k, k ≠ 8 * g.val + q.val → t.slot k = s.slot k) ∧
      t = { s with groves := t.groves, ctxs := t.ctxs, slots := t.slots }))

/-- StreamLaunchEnd (R218 to R220, R221, R249). The first record of a step starts its slot from the state of a launch; a record that names a slot
that is not idle, or RATE without BURST, ends the step with COMMAND_ERROR. A stream ends when its writes have been acknowledged; skill ends
another slot of the grove and goes on. Where the rules leave a point open it follows the model's readings in log entries 12 and 92. -/
def Obligations.StreamLaunchEnd : Prop :=
  (∀ (s : State) (g : GroveId) (r : BitVec 128) (rest : List (BitVec 128)),
    (s.grove g.val).launches = r :: rest →
    let k := 8 * g.val + recSlot r
    let free := (s.slot k).st = .idle ∨ (s.slot k).st = .error
    let regulated := fld r 35 12 ≠ 0 → fld r 19 16 ≠ 0
    (free → s.slotWrites k = false → regulated → s.groveFailed g.val = false → completesTo (.launch g) s (fun t =>
      t.slot k = { Slot.reset with
        pc := BitVec.ofNat 18 (16 * fld r 50 14), rate := BitVec.ofNat 12 (fld r 35 12), burst := BitVec.ofNat 16 (fld r 19 16)
        tag := BitVec.ofNat 8 (fld r 0 8), st := .running } ∧
      (∀ j, j ≠ k → t.slot j = s.slot j) ∧ t.grove g.val = { s.grove g.val with launches := rest } ∧
      (∀ m, m ≠ g.val → t.grove m = s.grove m) ∧ (∀ i, i < 16 → t.objW (0x6300 + g.val) (slotSub (recSlot r) 1) i = 0) ∧
      t = { s with slots := t.slots, groves := t.groves, dict := t.dict })) ∧
    (∀ d, s.groveOwner g.val = some d → (s.stand d).failure = 0 →
      ((s.slot k).st = .running ∨ (s.slot k).st = .waiting ∨ (s.slot k).st = .halted ∨ ¬regulated) → completesTo (.launch g) s (fun t =>
        (t.stand d).failure = BitVec.ofNat 8 statusCommand ∧ (t.grove g.val).launches = [] ∧ sameBytes s t))) ∧
  (∀ (s : State) (u : SlotRef) (d : Nat) (w0 w1 : U64),
    let sl := s.slot u.num
    let n := u.grove.val
    let k := 8 * n + fld w0 50 3
    let frame := fun (t : State) => (∀ m, t.grove m = { s.grove m with lastSlot := (t.grove m).lastSlot, waits := (t.grove m).waits }) ∧
      t = { s with slots := t.slots, groves := t.groves }
    (streamClear s u d 0x28 w0 w1 → s.slotWrites u.num = false → completesTo (.send u) s (fun t =>
      t.slot u.num = { sl with st := .idle, miss := none, buffer := [], run := none } ∧ (∀ j, j ≠ u.num → t.slot j = s.slot j) ∧ frame t)) ∧
    (streamClear s u d 0x28 w0 w1 → s.slotWrites u.num = true → completesTo (.send u) s (fun t =>
      t.slot u.num = { sl with hold := .ending, miss := none, buffer := [], run := none } ∧ (∀ j, j ≠ u.num → t.slot j = s.slot j) ∧ frame t)) ∧
    (sl.hold = .ending → s.slotWrites u.num = false → completesTo (.streamEnd u) s (fun t =>
      t.slot u.num = { sl with st := .idle, hold := .none } ∧ (∀ j, j ≠ u.num → t.slot j = s.slot j) ∧ t = { s with slots := t.slots })) ∧
    (streamClear s u d 0x27 w0 w1 → k ≠ u.num → (s.slot k).st = .running → (s.slot k).hold = .none → s.slotWrites k = false →
      completesTo (.skill u) s (fun t =>
        t.slot k = { s.slot k with st := .idle, miss := none, buffer := [], run := none } ∧ t.slot u.num = { sl with run := none, pc := sl.pc + 16 } ∧
        (∀ j, j ≠ u.num → j ≠ k → t.slot j = s.slot j) ∧ frame t)))

/-- StreamMoves (R232, R233, R234). A linear generator's byte address is ADDR + ((OFF + sum over l of C_l × STEP_l) mod WINDOW), DIM ignored. A
move of one unit within the device's SRAM: a linear unit is copied, a Hazel unit converted, and nothing outside the destination changes in memory.
Where the rules leave a point open it follows the model's readings in log entry 19. -/
def Obligations.StreamMoves : Prop :=
  (∀ (s : State) (n : Nat) (sl : Slot) (g : Gen), g.kind = .linear →
    let off := ((SMap.get 0 g.offs 0 + ((List.range 6).map (fun l => sl.counter l * SMap.get 0 g.steps (8 * l))).sum) % (g.window.toNat : Int)).toNat
    s.unitAt n sl g = match spaceBase n g.space.toNat g.addr.toNat with
      | some a => some ⟨.device, 7, [(a + off, 4)], false, 1⟩
      | none => some ⟨.host, 7, [((g.addr.toNat + off) % 2 ^ 64, 4)], false, 1⟩) ∧
  (∀ (s : State) (u : SlotRef) (d : Nat) (w0 w1 : U64) (gs gd : Gen) (sf df a m b k real real' : Nat)
      (split split' : Bool),
    let sl := s.slot u.num
    let n := u.grove.val
    streamClear s u d 0x10 w0 w1 → sl.gen? (tGs w0) = some gs → sl.gen? (tGd w0) = some gd → gs.fmt = sf → gd.fmt = df →
    s.unitAt n sl gs = some ⟨.device, sf, [(a, m)], split, real⟩ → s.unitAt n sl gd = some ⟨.device, df, [(b, k)], split', real'⟩ →
    tOp w0 = 0 → tMc w0 = false → sramSound s → isStack a = false → isStack b = false → s.accessCode (some d) a m = 0 →
    s.accessCode (some d) b k = 0 → sl.buffer = [] → s.groupPending u.num = [] → 0 < m → 0 < k →
    let done := fun (t : State) => (t.slot u.num).pc = sl.pc + 16 ∧ sameBytesBut s t b k ∧ (∀ j, j ≠ u.num → t.slot j = s.slot j) ∧
      t.ctxs = s.ctxs ∧ t.tiles = s.tiles ∧ t.stands = s.stands ∧ t.out = s.out
    (sf = 7 → df = 7 → m = 4 → k = 4 → completesTo (.smov u (.data [])) s (fun t => done t ∧ t.readNat b 4 = s.readNat a 4)) ∧
    (sf = 5 ∨ sf = 6 → df = 5 ∨ df = 6 → m = (hazelFmt sf).width / 8 → k = (hazelFmt df).width / 8 →
      completesTo (.smov u (.data [])) s (fun t => done t ∧
        t.readNat b k = (toHazelUnit sf df (tRm w0) (tSat w0) (s.readNat a m) (hazelVal (hazelFmt sf) (s.readNat a m))
          (s.streamDraw n u.slot.val (b / k % 32) (SMap.get 0 sl.draws (b / k % 32)))).bits % 256 ^ k)))

/-- StreamCopies (R244 to R247). An spack whose blocks are read and stored without error goes on at its next instruction, with its bytes in the
tiles of its mask alone; an scopy without elements ends at once, one that a near-memory engine must do is sent to it and awaited, and every other is copied by
the stream engine. What the engine itself reads and writes over the network counts as flits. Where the rules leave a point open it follows the model's
readings in log entries 30, 61 and 119. -/
def Obligations.StreamCopies : Prop := ∀ (s : State) (u : SlotRef) (d : Nat) (w0 w1 : U64) (g gd : Gen) (ext : ExtRead) (f : CopySrc),
  let sl := s.slot u.num
  let n := u.grove.val
  let q := u.slot.val
  let u0 := (streamBase s u).endRun u.num
  let net := fun (l : List (Nat × Nat)) => unitBlocks n ⟨.device, 0, l, false, 0⟩
  let lines := if pkPortA w0 then waveLines (pkV w0) (berryP (pkFmt w0)) else 32
  let es := extentsAt g.desc (s.ownCoord g.desc)
  let c := (u0.chargeBlocks n q (net (packPieces g.desc es (packIndex sl g es) w0))).packRun u f g w0
  let ed := extentsAt gd.desc (s.ownCoord gd.desc)
  s.groupPending u.num = [] → copySource (groveNode n) (some d) g.desc es ext = some f →
  (streamClear s u d 0x11 w0 w1 → sl.gen? (tGs w0) = some g → g.kind = .local → packBadDims g.desc w0 = false → dSpace g.desc = 0 →
    pkLine w0 + lines ≤ 4096 → (pkPortA w0 = false → pkSline w0 + 2 ≤ 4096) → c.code = 0 → (c.s.packStore n d w0 c.writes).2 = 0 →
    completesTo (.spack u ext) s (fun t => (t.slot u.num).pc = sl.pc + 16 ∧ (t.slot u.num).draws = c.draws ∧
      ∀ a, t.byte a = (c.s.packStore n d w0 c.writes).1.byte a)) ∧
  (streamClear s u d 0x12 w0 w1 → sl.gen? (tGs w0) = some g → sl.gen? (tGd w0) = some gd → g.kind = .local → gd.kind = .local →
    dDims g.desc = dDims gd.desc → permOk (cpPerm w0) (dDims g.desc) = true →
    (∀ k, k < dDims g.desc → es.getD (permOf (cpPerm w0) k) 0 = ed.getD k 0) → dSplit gd.desc = false →
    (ed.any (fun e => e == 0) = true → completesTo (.scopy u ext) s (slotOnly s u { sl with run := none, pc := sl.pc + 16 })) ∧
    (ed.any (fun e => e == 0) = false → dSpace g.desc = 0 → dSpace gd.desc = 0 →
      (copiesOverlap g.desc gd.desc es ed = true ∧ footprintBytes g.desc es ≤ 0x4000000 ∨
        copiesOverlap g.desc gd.desc es ed = false ∧ largeReshape g.desc gd.desc es (cpPerm w0) = true) →
      (largeReshape g.desc gd.desc es (cpPerm w0) = true → inStacks g.desc es = true ∧ inStacks gd.desc ed = true) →
      (u0.freeTxn (groveNode n)).isSome = true → u0.sendRoom (groveNode n) 0 1 = true → completesTo (.scopy u ext) s (fun t =>
        (t.slot u.num).hold = .copying g.desc gd.desc ∧ (t.slot u.num).pc = sl.pc ∧ sameBytes s t)) ∧
    (ed.any (fun e => e == 0) = false → copiesOverlap g.desc gd.desc es ed = false → largeReshape g.desc gd.desc es (cpPerm w0) = false →
      dSpace g.desc = 0 → dSpace gd.desc = 0 →
      let u1 := u0.chargeBlocks n q (net (tensorPieces g.desc es) ++ net ((destUnits gd.desc ed).flatMap (fun x => (unitPieces gd.desc ed x.2).1)))
      let r := u1.copyTensor f (d + 1) g.desc gd.desc es ed (cpPerm w0) (cpRm w0) (cpSat w0) (fun i k => u1.streamDraw n q i k) sl.draws
      r.2.2.2 = 0 → completesTo (.scopy u ext) s (fun t =>
        (t.slot u.num).pc = (r.1.slot u.num).pc + 16 ∧ (t.slot u.num).draws = r.2.1 ∧ ∀ a, t.byte a = r.1.byte a)))

/-- StreamCommandsPrefetch (R219, R242, R247, R248). scmd appends the literal of the next instruction slot to the grove's queue once the stream's
writes are acknowledged and the queue has room; sfork starts the record in the next instruction slot. The next block that the program will read
over the network is fetched into the read buffer while it has room. -/
def Obligations.StreamCommandsPrefetch : Prop :=
  (∀ (s : State) (u : SlotRef) (d : Nat) (w0 w1 l0 l1 : U64),
    let sl := s.slot u.num
    let n := u.grove.val
    let u0 := (streamBase s u).endRun u.num
    let r : BitVec 128 := l1 ++ l0
    let k := 8 * n + recSlot r
    u0.fetch16 n (sl.pc.toNat + 16) = (u0, l0, l1, 0) →
    (streamClear s u d 0x25 w0 w1 → s.slotWrites u.num = false → (s.grove n).queue.length < 32 → completesTo (.scmd u) s (fun t =>
      t.grove n = { s.grove n with lastSlot := u.slot.val, queue := (s.grove n).queue ++ [⟨r, 0⟩] } ∧
      t.slot u.num = { sl with run := none, pc := sl.pc + 32 } ∧ (∀ j, j ≠ u.num → t.slot j = s.slot j) ∧
      (∀ m, m ≠ n → t.grove m = s.grove m) ∧ t = { s with slots := t.slots, groves := t.groves })) ∧
    (streamClear s u d 0x26 w0 w1 → (s.slot k).st = .idle → s.slotWrites k = false → (fld r 35 12 = 0 ∨ fld r 19 16 ≠ 0) →
      s.groveFailed n = false → completesTo (.sfork u) s (fun t =>
        (t.slot k).st = .running ∧ (t.slot k).pc = BitVec.ofNat 18 (16 * fld r 50 14) ∧ (t.slot k).tag = BitVec.ofNat 8 (fld r 0 8) ∧
        (t.slot k).gens = [] ∧ (t.slot k).cnt = [] ∧ t.slot u.num = { sl with run := none, pc := sl.pc + 32 } ∧
        (∀ j, j ≠ u.num → j ≠ k → t.slot j = s.slot j) ∧ t = { streamBase s u with slots := t.slots, dict := t.dict }))) ∧
  (∀ (s : State) (u : SlotRef) (d b : Nat) (bytes : List Byte),
    let sl := s.slot u.num
    s.groveOwner u.grove.val = some d → sl.st = .running → sl.hold = .none → sl.buffer.length < 64 →
    let place := (s.nextFetch u.grove.val d u.slot.val sl).map (fun x => x.1)
    (place = none → ∀ ext, exec (.prefetch ⟨u, ext⟩) s = .next s) ∧
    (∀ ext, (s.nextFetch u.grove.val d u.slot.val sl).map (fun x => x.2) = some b →
      (place = some .device ∧ s.readNow (some d) b 128 = (s, bytes, 0) ∨
        place = some .host ∧ ext = .data bytes ∧ bytes.length = 128) → completesTo (.prefetch ⟨u, ext⟩) s (fun t =>
      (t.slot u.num).buffer = sl.buffer ++ [⟨b, 0, some bytes⟩] ∧ (t.slot u.num).pc = sl.pc ∧ (∀ k, k ≠ u.num → t.slot k = s.slot k) ∧
      t.obj (0x6300 + u.grove.val) (slotSub u.slot.val 2) = s.obj (0x6300 + u.grove.val) (slotSub u.slot.val 2) + 1 ∧ sameBytes s t ∧
      t = { s with slots := t.slots, dict := t.dict, free := t.free })))

/-- StreamTranslation (R250 to R252, R494, R506). With address translation the first host access at or ahead of the program position without a
translation is asked for, while the stream goes on; a completion with a page gives the translation and resumes a stream that halted. One without
asks for the page where the function may, and halts the stream only where its position has reached the unit; else the step ends with SE_PAGE, as it
does on the Page Request's failure or time-out. With 512 Page Requests out the next waits. Whether a function has ATS and PRI enabled is the
configuration's (log entry 26); that one miss of a slot is out at a time is the model's choice (log entry 121). -/
def Obligations.StreamTranslation : Prop := ∀ (s : State) (u : SlotRef) (d : Nat),
  let sl := s.slot u.num
  let n := u.grove.val
  let q := u.slot.val
  let status := fun (t : State) lo => t.getF (0x6300 + n) (slotSub q 0) lo 4
  let asks := fun (m : Miss) (t : State) => t.slot u.num = { sl with miss := some { m with prg := none } } ∧
    t.out = s.out ++ [.translation (d + 1) (m.addr.toNat / 4096)] ∧ (∀ k, k ≠ u.num → t.slot k = s.slot k) ∧
    t = { s with slots := t.slots, out := t.out }
  let faults := fun (m : Miss) detail (t : State) => (t.slot u.num).st = .error ∧ status t 8 = sePage ∧ status t 12 = detail ∧
    t.objW (0x6300 + n) (slotSub q 1) 13 = m.addr
  s.groveOwner n = some d → d < 8 →
  (∀ w0 w1 wr g a rest, s.fetch16 n sl.pc.toNat = (s, w0, w1, 0) → tLegal sl w0 = true → s.missingPages n d sl w0 = (wr, g, a) :: rest →
    s.missAhead n d q sl = some ⟨BitVec.ofNat 64 a, wr, Fin.ofNat 4 g, sl.pc, sl.cnt, sl.ext, none⟩) ∧
  (∀ m, sl.st = .running → sl.hold = .none → sl.miss = none → bitOf s.hostOff (d + 1) = false → s.missAhead n d q sl = some m →
    completesTo (.translationMiss u) s (fun t => if Config.atsEnabled (d + 1) = true then asks m t else t = s)) ∧
  (∀ m page, sl.miss = some m → m.prg = none → completesTo (.translationCompletion u (.present page)) s (fun t =>
    t.slot u.num = { sl with miss := none, st := if sl.st = .halted then .running else sl.st } ∧
    SMap.get none t.ats (2 * (2 ^ 52 * (d + 1) + m.addr.toNat / 4096) + m.write.toNat) = some page ∧
    (∀ k, k ≠ u.num → t.slot k = s.slot k) ∧ t = { s with slots := t.slots, ats := t.ats })) ∧
  (∀ m, sl.miss = some m → m.prg = none →
    (Config.priEnabled (d + 1) = true → s.pagesAsked d < 512 → completesTo (.translationCompletion u .missing) s (fun t => ∃ prg : BitVec 9,
      t.out = s.out ++ [.pageRequest (d + 1) (m.addr.toNat / 4096) m.write prg.toNat] ∧ (∀ k, k ≠ u.num → t.slot k = s.slot k) ∧
      (m.here sl = true → t.slot u.num = { sl with miss := some { m with prg := some prg }, st := .halted, buffer := [] } ∧
        t.objW (0x6300 + n) (slotSub q 1) 13 = m.addr) ∧
      (m.here sl = false → t.slot u.num = { sl with miss := some { m with prg := some prg } }))) ∧
    (Config.priEnabled (d + 1) = true → 512 ≤ s.pagesAsked d → exec (.translationCompletion u .missing) s = .next s) ∧
    (Config.priEnabled (d + 1) = false → m.here sl = true → completesTo (.translationCompletion u .missing) s (faults m 3)) ∧
    (m.here sl = true → completesTo (.translationCompletion u .failed) s (fun t =>
      (t.slot u.num).st = .error ∧ status t 8 = seRemote ∧ status t 12 = codeHost)) ∧
    (m.here sl = false → ∀ r, r = .failed ∨ r = .missing ∧ Config.priEnabled (d + 1) = false → completesTo (.translationCompletion u r) s
      (fun t => t.slot u.num = { sl with miss := none } ∧ (∀ k, k ≠ u.num → t.slot k = s.slot k) ∧ t = { s with slots := t.slots }))) ∧
  (∀ m prg, sl.miss = some m → m.prg = some prg →
    completesTo (.pageResponse u .success) s (asks m) ∧
    (∀ r, r ≠ .success → completesTo (.pageResponse u r) s (faults m 1)) ∧
    completesTo (.pageRequestTimeout u) s (faults m 2))

/-! ## Stands' control, the BAR0 window, mailboxes and the objects that act -/

/-- StandControl (R24, R25, R26, R29, R41). ENABLE = 1 creates a disabled Stand where its rectangle and shares fit beside the enabled Stands:
STATE 2 and StepSeq 0; else it sets CONFIG_ERR and the Stand stays disabled. An enabled Stand, held or not, keeps a value for its next boundary; a
held one goes on when HOLD is written 0. Where the rules leave a point open it follows the model's readings in log entry 67. -/
def Obligations.StandControl : Prop := ∀ (s : State) (r : Requester) (sd : StandId) (v : BitVec 32),
  let d := sd.val
  let ix := standIx d
  let key := objKey 0 ix 1 0
  let old := s.acceptedWord key
  let new := fun b => maskedWord old (withBit v 0 b) 3
  let fits := rectValid (s.rect d) = true ∧
    (∀ o, o < 8 → o ≠ d → s.enabled o = true → rectsMeet (s.rect d) (s.rect o) = false) ∧
    ∀ k, k < 8 → shareOf (s.obj ix 3) k + ((s.others d).map (fun o => shareOf (s.obj (standIx o) 3) k)).foldl (· + ·) 0 ≤ 16
  let frame := fun (t : State) => (∀ e, e ≠ d → t.stand e = s.stand e) ∧ sameBytes s t ∧
    t = { s with dict := t.dict, accepted := t.accepted, stands := t.stands, jobs := t.jobs, freed := t.freed, mirror := t.mirror }
  mayWrite s r ix 1 →
  ((s.stand d).phase = .disabled → fits → completesTo (.standEnable r sd v) s (fun t =>
    (t.stand d).phase = .applied ∧ t.stepSeq d = 0 ∧ (t.stand d).commitRec = none ∧ t.obj ix 1 = new true ∧ frame t)) ∧
  ((s.stand d).phase = .disabled → ¬fits → completesTo (.standEnable r sd v) s (fun t =>
    t.stand d = s.stand d ∧ t.bit ix 4 4 = true ∧ t.obj ix 1 = s.obj ix 1 ∧ frame t)) ∧
  ((s.stand d).phase = .held → bitOf v 1 = true → (s.stand d).unitFailed = false → ∀ b,
    exec (if b then .standEnable r sd v else .standDisable r sd v) s = .next (s.setWaiting key (some (new b)))) ∧
  ((s.stand d).phase ≠ .disabled → (s.stand d).phase ≠ .held → bitOf old 1 = bitOf v 1 → ∀ b,
    exec (if b then .standEnable r sd v else .standDisable r sd v) s = .next (s.setWaiting key (some (new b)))) ∧
  ((s.stand d).phase ≠ .disabled → (s.stand d).phase ≠ .held → bitOf v 1 = true →
    exec (.hold r sd v) s = .next (s.setWaiting key (some (setBit old 1 true)))) ∧
  ((s.stand d).phase = .held → bitOf old 0 = true → bitOf v 1 = false → s.inJob d = false → (s.job d).restored = false →
    completesTo (.hold r sd v) s (fun t =>
      (t.stand d).phase = .applied ∧ (t.stand d).unitFailed = false ∧ t.waitingValue key = some (setBit old 1 false) ∧ t.obj ix 1 = s.obj ix 1 ∧
      t.dict = s.dict ∧ frame t))

/-- StatusWrites (R460). Writing a status object clears its clearable bits where the written SEQ is the SEQ read, and nothing else of it; a write
with another SEQ changes nothing. -/
def Obligations.StatusWrites : Prop := ∀ (s : State) (a : Bar0Write) (mask : Nat),
  let ix := bar0Ix a.offset
  let sb := bar0Sb a.offset
  let key := objKey (objBank (.func a.func) ix) ix sb 0
  let old := s.word key
  s.endpointReady = true → s.serves = true → s.bar0Cause a = 0 → statusMask ix sb = some mask → bar0Alias a.offset = false →
  isGuarded ix sb = false → SMap.get none s.latches a.func.val = none → completesTo (.statusSeqWrite a) s (fun t =>
    t.word key = (if fld (bar0Data a) 16 16 = fld old 16 16 then old &&& ~~~(BitVec.ofNat 64 mask) else old) ∧
    sameWordsBut s t (fun k => k = key ∨ (fld (bar0Data a) 16 16 = fld old 16 16 ∧ k = objKey 0 ix (sb + 1) 0)) ∧
    t = { s with dict := t.dict, logUnread := if ix = 0xA000 ∧ fld (bar0Data a) 16 16 = fld old 16 16 then 0 else s.logUnread })

/-- GuardedWrites (R10, R458, R459, R456, R457, R462, R463, R507). The slot of object 0xIIII:SS starts at index × 0x800 + subindex × 8, and its
alias 0x0800_0000 above it; the highest slot starts at 0x07FF_FFF8, and the two windows fill BAR0. The plain slot of a guarded object loads the
function's latch and changes nothing else; the alias write with the complement empties it and performs the write; any other alias write discards
it with GUARD_FAIL, as 1 ms does. A write of a mailbox's target or data sets that object of the requester's bank. A write that breaks a rule of
R462 is answered with a bus error whose cause DictLastObject shows, and changes nothing else. While Ranger is down a write is held; one held 10 ms
is answered as a bus error. -/
def Obligations.GuardedWrites : Prop :=
  ((∀ ix sb, ix < 65536 → sb < 256 →
      let o : BitVec 28 := BitVec.ofNat 28 (ix * 0x800 + sb * 8)
      let up : BitVec 28 := o + 0x8000000
      bar0Ix o = ix ∧ bar0Sb o = sb ∧ bar0Alias o = false ∧ bar0Ix up = ix ∧ bar0Sb up = sb ∧ bar0Alias up = true ∧
      ix * 0x800 + sb * 8 ≤ 0x7FFFFF8) ∧
    0xFFFF * 0x800 + 0xFF * 8 = 0x7FFFFF8 ∧
    (∀ o : BitVec 28, o.toNat = (if bar0Alias o then 0x8000000 else 0) + bar0Ix o * 0x800 + bar0Sb o * 8 + o.toNat % 8)) ∧
  (∀ (s : State) (a : Bar0Write),
    let f := a.func
    let ix := bar0Ix a.offset
    let sb := bar0Sb a.offset
    let dropped := fun (b : Bar0Write) (t : State) => SMap.get none t.latches f.val = none ∧
      t.word (objKey (1 + f.val) 0x1011 1 0) = statusEvent (s.word (objKey (1 + f.val) 0x1011 1 0)) 0x2000 ∧
      t.word (objKey (1 + f.val) 0x1011 2 0) = BitVec.ofNat 64 (2 ^ 16 * bar0Ix b.offset + 2 ^ 8 * bar0Sb b.offset + 16 * 6) ∧
      sameWordsBut s t (fun k => k = objKey (1 + f.val) 0x1011 1 0 ∨ k = objKey (1 + f.val) 0x1011 2 0) ∧
      (∀ g, g ≠ f.val → SMap.get none t.latches g = SMap.get none s.latches g) ∧ t = { s with dict := t.dict, latches := t.latches }
    (s.endpointReady = true → s.serves = true → s.bar0Cause a = 0 →
      (isGuarded ix sb = true → bar0Alias a.offset = false → completesTo (.guardLatchLoad a) s (fun t =>
        SMap.get none t.latches f.val = some a ∧ (∀ g, g ≠ f.val → SMap.get none t.latches g = SMap.get none s.latches g) ∧
        t = { s with latches := t.latches })) ∧
      (bar0Alias a.offset = true → isVendor ix = false →
        (∀ b, SMap.get none s.latches f.val = some b → aliasMatches b a = true → isMailboxCtrl ix sb = false →
          exec (.aliasWrite a) s = .next (({ s with latches := SMap.set none s.latches f.val none }).dictWrite (.func f) ix sb (bar0Data b) true).1) ∧
        (∀ b, SMap.get none s.latches f.val = some b → aliasMatches b a = false → completesTo (.aliasWrite a) s (dropped b)) ∧
        (SMap.get none s.latches f.val = none → completesTo (.aliasWrite a) s (dropped a)))) ∧
    (∀ b, SMap.get none s.latches f.val = some b → completesTo (.guardLatchExpiry f) s (dropped b))) ∧
  (∀ (s : State) (a : Bar0Write),
    let f := a.func
    let bank := 1 + f.val
    let ix := bar0Ix a.offset
    let sb := bar0Sb a.offset
    let status := objKey bank 0x1011 1 0
    let last := objKey bank 0x1011 2 0
    (s.endpointReady = true → s.serves = true → SMap.get none s.latches f.val = none → bar0Alias a.offset = false → ix = 0x1010 →
      (sb = 1 → widthBad a 32 = false → exec (.objectWrite a) s =
        .next (s.setWord (objKey bank 0x1010 1 0) (maskedWord (s.word (objKey bank 0x1010 1 0)) (bar0Data a) 0xFFFFFF00))) ∧
      (0x10 ≤ sb → sb ≤ 0x1F → widthBad a 64 = false → exec (.objectWrite a) s = .next (s.setWord (objKey bank 0x1010 sb 0) a.data))) ∧
    (s.endpointReady = true → s.serves = true → SMap.get none s.latches f.val = none → s.bar0Cause a ≠ 0 →
      completesTo (.objectWrite a) s (fun t =>
        t.word status = statusEvent (s.word status) 0x8000 ∧
        t.word last = BitVec.ofNat 64 (2 ^ 16 * ix + 2 ^ 8 * sb + 16 * s.bar0Cause a) ∧
        sameWordsBut s t (fun k => k = status ∨ k = last) ∧ t = { s with dict := t.dict, out := s.out ++ [.busError f.val] })) ∧
    (s.endpointReady = true → s.serves = false → exec (.objectWrite a) s = .next { s with heldBar0 := s.heldBar0 ++ [a] }) ∧
    (s.heldBar0.find? (fun b => b.func == f) = some a →
      exec (.bar0HoldTimeout f) s = .next { s with heldBar0 := s.heldBar0.erase a, out := s.out ++ [.busError f.val] }) ∧
    (s.endpointReady = true → s.serves = true → s.bar0Cause a = 0 → isVendor ix = true → SMap.get none s.latches f.val = none →
      exec (.objectWrite a) s = .next s))

/-- MailboxTransfers (R464 to R466, R469). A transfer that breaks a rule ends with its ERR and moves nothing; a read from word 0 on captures the
object and gives its words, and one that goes on gives those captured; a write writes the words of MailboxData, and ERR is 6 where a value is
refused. Where the rules leave a point open it follows the model's readings in log entry 82. -/
def Obligations.MailboxTransfers : Prop := ∀ (s : State) (r : Requester) (ctrl : BitVec 32) (guarded write : Bool),
  let bank := bankOf r
  let c := withBit ctrl 19 write &&& 0xFFF807FF
  let u := s.setWord (objKey bank 0x1010 2 0) c
  let ix := (u.mailboxTarget r).1
  let sb := (u.mailboxTarget r).2
  let n := fld c 20 4 + 1
  let off := fld c 0 11
  let e := u.transferErr r ix sb off n write (write && guarded)
  let status := fun err => BitVec.ofNat 64 (2 ^ 24 * fld c 24 8 + 2 ^ 12 * (objWords ix sb % 4096) + 16 * err + 1)
  let cmd : Instr := if write then .mailboxWrite r ctrl guarded else .mailboxRead r ctrl
  let data := (List.range n).map (fun i => u.word (objKey bank 0x1010 (16 + i) 0))
  s.serves = true → s.rightOf r ≠ .none →
  (e ≠ 0 → exec cmd s = .next (u.setWord (objKey bank 0x1010 3 0) (status e))) ∧
  (e = 0 → write = false → off = 0 → completesTo cmd s (fun t =>
    t.word (objKey bank 0x1010 3 0) = status 0 ∧
    (∀ i, i < n → t.word (objKey bank 0x1010 (16 + i) 0) = u.readWord r ix sb i) ∧
    sameWordsBut u t (fun k => k = objKey bank 0x1010 3 0 ∨ ∃ i, i < n ∧ k = objKey bank 0x1010 (16 + i) 0) ∧
    t = { s with dict := t.dict, captures := t.captures, free := t.free })) ∧
  (∀ ws, e = 0 → write = false → off ≠ 0 → SMap.get none s.captures bank = some ⟨ix, sb, ws⟩ → completesTo cmd s (fun t =>
    t.word (objKey bank 0x1010 3 0) = status 0 ∧
    (∀ i, i < n → t.word (objKey bank 0x1010 (16 + i) 0) = ws.getD (off + i) 0) ∧
    sameWordsBut u t (fun k => k = objKey bank 0x1010 3 0 ∨ ∃ i, i < n ∧ k = objKey bank 0x1010 (16 + i) 0) ∧
    t = { s with dict := t.dict, captures := t.captures })) ∧
  (e = 0 → write = true → isVendor ix = false →
    let x := { u with captures := SMap.set none s.captures bank none }.writeWords r ix sb off data
    exec cmd s = .next (x.1.setWord (objKey bank 0x1010 3 0) (status (if x.2 then 0 else 6)))) ∧
  (e = 0 → write = true → isVendor ix = true →
    exec cmd s = .next ({ u with captures := SMap.set none s.captures bank none }.setWord (objKey bank 0x1010 3 0) (status 0)))

/-- From `s`, the value `x` of StackCtrl of stack `k` is accepted and waits: no pseudo-channel has taken it (R12, R279, R295). -/
def awaitsWindow (s : State) (k : Nat) (x : U64) (t : State) : Prop :=
  let key := objKey 0 (0x8020 + k) 1 0
  t.waitingValue key = some x ∧ (∀ c, c < 32 → SMap.get 0 t.windowTaken (256 * key + 32 * k + c) ≠ 1) ∧
  t = { s with accepted := SMap.set none s.accepted key (some x), windowTaken := t.windowTaken }

/-- RegisterActions (R282, R284, R295, R368, R370, R409, R512, R513, R519, R520, R561). Writes of objects that act: a self-test of a unit no Stand
owns starts; training again is taken in STATE 3 alone, and like a lane's relearning waits for the refresh windows; a stalled Clearing's release starts again; DeviceId and
Topology are taken where no Stand is in a job and the coordinates lie inside; a ring starts anew; a calibration value is taken. Where the rules
leave a point open it follows the model's readings in log entry 38. -/
def Obligations.RegisterActions : Prop := ∀ (s : State) (r : Requester) (v : BitVec 32),
  let w : U64 := v.setWidth 64
  (∀ x, x = maskedWord (s.acceptedWord (objKey 0 0xA001 2 0)) w 0x8F00FFFF → mayWrite s r 0xA001 2 → s.rightOf r = .full →
    bitOf (s.acceptedWord (objKey 0 0xA001 2 0)) 31 = false → s.selfTest = none → fld x 0 16 < testCount (fld x 24 4) → bitOf x 31 = true →
    s.testOwner (setFld x 28 2 0) = none → completesTo (.selfTestReq r v) s (fun t =>
      t.selfTest = some (setFld x 28 2 0).toNat ∧ t.obj 0xA001 2 = setFld x 28 2 0 ∧ sameWordsBut s t (fun k => k = objKey 0 0xA001 2 0) ∧
      t = { s with dict := t.dict, accepted := t.accepted, selfTest := t.selfTest })) ∧
  (∀ (k : StackId) x, x = maskedWord (s.acceptedWord (objKey 0 (0x8020 + k.val) 1 0)) (withBit v 26 true) 0x07FFFF1F →
    mayWrite s r (0x8020 + k.val) 1 →
    (s.getF (0x8020 + k.val) 2 0 2 ≠ 3 → exec (.retrainAll r k v) s = .next (s.dictEvent r 0x4000 (0x8020 + k.val) 1 5)) ∧
    (s.getF (0x8020 + k.val) 2 0 2 = 3 → bitOf v 25 = false → bitOf (s.acceptedWord (objKey 0 (0x8020 + k.val) 1 0)) 25 = false →
      fld v 16 9 < 288 → fld v 2 3 ≤ 4 → fld v 8 8 ≠ 0 → fld v 8 8 ≤ 63 → completesTo (.retrainAll r k v) s (awaitsWindow s k.val x))) ∧
  (∀ (k : StackId) x, x = maskedWord (s.acceptedWord (objKey 0 (0x8020 + k.val) 1 0)) (withBit v 25 true) 0x07FFFF1F →
    mayWrite s r (0x8020 + k.val) 1 → bitOf v 26 = false → fld v 16 9 < 288 → fld v 2 3 ≤ 4 → fld v 8 8 ≠ 0 → fld v 8 8 ≤ 63 →
    completesTo (.relearnReq r k v) s (awaitsWindow s k.val x)) ∧
  (∀ (c : ClearingId) x, x = maskedWord (s.acceptedWord (objKey 0 (0x9100 + c.val) 1 0)) (withBit v 5 true) 0x3F →
    mayWrite s r (0x9100 + c.val) 1 → s.rightOf r = .full → s.clearingOwner c.val = none → bitOf v 3 = false →
    s.getF (0x9100 + c.val) 2 0 3 = 5 → completesTo (.retryRelease r c v) s (fun t =>
      t.getF (0x9100 + c.val) 2 0 3 = 2 ∧ t.getF (0x9100 + c.val) 2 3 2 = 0 ∧ t.obj (0x9100 + c.val) 1 = setBit x 5 false ∧
      (t.clearing c.val).issued = 0 ∧ (t.clearing c.val).acks = [] ∧
      sameWordsBut s t (fun q => q = objKey 0 (0x9100 + c.val) 1 0 ∨ q = objKey 0 (0x9100 + c.val) 2 0) ∧
      t = { s with dict := t.dict, accepted := t.accepted, clearings := t.clearings })) ∧
  (∀ id top, id = maskedWord (s.obj 0x7001 1) w 0x83FF03FF → top = s.obj 0x7001 2 → mayWrite s r 0x7001 1 →
    (∀ d, d < 8 → s.inJob d = false) → fld id 16 3 ≤ fld top 0 3 → fld id 19 3 ≤ fld top 4 3 → fld id 22 4 ≤ fld top 8 4 →
    exec (.deviceIdWrite r v) s = .next (s.setObj 0x7001 1 id)) ∧
  (∀ id top, top = maskedWord (s.obj 0x7001 2) w 0x70F77 → id = s.obj 0x7001 1 → mayWrite s r 0x7001 2 →
    (∀ d, d < 8 → s.inJob d = false) → (bitOf id 31 = true → fld id 16 3 ≤ fld top 0 3 ∧ fld id 19 3 ≤ fld top 4 3 ∧ fld id 22 4 ≤ fld top 8 4) →
    exec (.topologyWrite r v) s = .next (s.setObj 0x7001 2 top)) ∧
  (∀ d, d < 8 → s.inJob d = true → mayWrite s r 0x7001 1 →
    exec (.deviceIdWrite r v) s = .next ((s.event 0x7100 2 0x8000).dictEvent r 0x4000 0x7001 1 5)) ∧
  (∀ (f : FuncId) x, x = maskedWord (s.obj (0x6400 + f.val) 1) w 0xFFFFF9 → mayWrite s r (0x6400 + f.val) 1 →
    (s.ringOn f.val = false → bitOf x 0 = true → inRange 4 16 (fld x 19 5) = true → inRange 4 16 (fld x 14 5) = true →
      inRange 1 (if f.val = 0 then 255 else 223) (fld x 3 11) = true → completesTo (.ringEnable r f v) s (fun t =>
        t.obj (0x6400 + f.val) 1 = x ∧ t.bit (0x6400 + f.val) 4 0 = true ∧ (t.func f.val).tail = 0 ∧ (t.func f.val).fetch = 0 ∧
        (t.func f.val).cplHead = 0 ∧ (t.func f.val).cplWrite = 0 ∧ (t.func f.val).phase = true ∧ (t.func f.val).bells = [] ∧
        (t.func f.val).gen = (s.func f.val).gen + 1 ∧ (∀ g, g ≠ f.val → t.func g = s.func g) ∧
        sameWordsBut s t (fun q => q = objKey 0 (0x6400 + f.val) 1 0 ∨ q = objKey 0 (0x6400 + f.val) 4 0) ∧
        t = { s with dict := t.dict, funcs := t.funcs, hostOff := t.hostOff })) ∧
    (s.ringOn f.val = true → fld x 3 21 ≠ s.getF (0x6400 + f.val) 1 3 21 →
      exec (.ringEnable r f v) s = .next (s.dictEvent r 0x4000 (0x6400 + f.val) 1 5))) ∧
  (∀ (idx : BitVec 16) (sub : BitVec 8) info stored x, 0x4000 ≤ idx.toNat → idx.toNat ≤ 0x4011 → objInfo idx.toNat sub.toNat = some info →
    mayWrite s r idx.toNat sub.toNat → x = maskedWord (s.obj idx.toNat sub.toNat) w (BitVec.ofNat 64 (2 ^ info.bits - 1)) →
    (refusedLow idx.toNat sub.toNat x = false → completesTo (.calibrationWrite r idx sub v stored) s (fun t =>
      t.obj idx.toNat sub.toNat = x ∧ sameWordsBut s t (fun q => q = objKey 0 idx.toNat sub.toNat 0) ∧
      t = { s with dict := t.dict, accepted := t.accepted })) ∧
    (refusedLow idx.toNat sub.toNat x = true →
      exec (.calibrationWrite r idx sub v stored) s = .next (s.dictEvent r 0x4000 idx.toNat sub.toNat 5)))

/-- ImageCommands (R439, R442, R443, R446, R449). A partial load, a write of an image, a switch, its handoff and its abandonment: each is refused
with the status of its cause, or has its effect. Where the rules leave a point open it follows the model's readings in log entries 73 and 97. -/
def Obligations.ImageCommands : Prop := ∀ (s : State) (r : Requester),
  let slot : ImageSrc := s.nvImage (slotBase (!s.activeB))
  (mayWrite s r 0x5000 1 → s.bit 0x5000 1 0 = false →
    (s.switch.isSome = true ∨ s.imageState ≠ 1 ∨ s.bit 0x5000 9 0 = true ∨ s.bit 0x5000 2 4 = true) →
    exec (.switchReq r) s = .next (s.event 0x5000 2 0x800)) ∧
  (mayWrite s r 0x5000 1 → s.bit 0x5000 1 0 = false → s.switch = none → s.imageState = 1 → s.bit 0x5000 9 0 = false → s.bit 0x5000 2 4 = false →
    completesTo (.switchReq r) s (fun t =>
      if s.imageCause slot slotSize true = 0 then
        t.imageState = 5 ∧ t.bit 0x5000 1 0 = true ∧ t.ranger = .handoff ∧ (∃ w, t.switch = some w ∧ w.slotB = !s.activeB) ∧
        sameWordsBut s t (fun k => k = objKey 0 0x5000 2 0 ∨ k = objKey 0 0x5000 1 0) ∧
        t = { s with dict := t.dict, switch := t.switch, ranger := t.ranger }
      else
        t.getF 0x5000 2 12 4 = s.imageCause slot slotSize true ∧ t.bit 0x5000 2 11 = true ∧ t.imageState = 1 ∧
        sameWordsBut s t (fun k => k = objKey 0 0x5000 2 0) ∧ t = { s with dict := t.dict })) ∧
  (∀ w, mayWrite s r 0x5000 1 → s.switch = some w → s.imageState ≠ 4 → completesTo (.abandon r) s (fun t =>
    t.switch = none ∧ t.imageState = 1 ∧ t.bit 0x5000 1 0 = false ∧
    sameWordsBut s t (fun k => k = objKey 0 0x5000 2 0 ∨ k = objKey 0 0x5000 1 0) ∧ t = { s with dict := t.dict, switch := t.switch })) ∧
  (mayWrite s r 0x5000 1 → s.imageState = 4 → exec (.abandon r) s = .next s) ∧
  (s.imageState = 5 → s.ranger = .handoff → s.heldBar0 = [] →
    completesTo .firmwareHandoff s (fun t => t.ranger = .up ∧ t.imageState = 3 ∧ sameWordsBut s t (fun k => k = objKey 0 0x5000 2 0) ∧
      t = { s with dict := t.dict, ranger := t.ranger }) ∧
    completesTo .handoffTimeout s (fun t => t.ranger = .up ∧ t.imageState = 1 ∧ t.switch = none ∧ t.bit 0x5000 2 11 = true ∧
      t.bit 0x5000 1 0 = false ∧ sameWordsBut s t (fun k => k = objKey 0 0x5000 2 0 ∨ k = objKey 0 0x5000 1 0) ∧
      t = { s with dict := t.dict, ranger := t.ranger, switch := t.switch })) ∧
  (∀ w0 w1 w2 cut, mayWrite s r 0x5000 3 → fld w1 0 2 = 0 → s.bit 0x5000 2 4 = false → w2.toNat < 4104 ∨ slotSize < w2.toNat →
    completesTo (.nvWriteReq r w0 w1 w2 cut) s (fun t => t.bit 0x5000 2 10 = true ∧ t.nv = s.nv ∧
      sameWordsBut s t (fun k => k = objKey 0 0x5000 2 0 ∨ ∃ i, i < 3 ∧ k = objKey 0 0x5000 3 i) ∧ t = { s with dict := t.dict })) ∧
  (∀ w0 w1 w2 u, mayWrite s r 0x5000 3 → fld w1 0 2 = 0 → s.bit 0x5000 2 4 = false → 4104 ≤ w2.toNat → w2.toNat ≤ slotSize →
    u = ((s.setObjW 0x5000 3 0 (w0 &&& 0xFFFFFFFFFFF)).setObjW 0x5000 3 1 (w1 &&& 0xFFFFFFFF00000003)).setObjW 0x5000 3 2 w2 →
    completesTo (.nvWriteReq r w0 w1 w2 false) s (fun t =>
      let base := slotBase (!s.activeB)
      let failed := t.bit 0x5000 2 10 = true ∧ ∀ i, i < 4096 → t.nvByte (base + i) = 0
      match u.deviceImage none (fld w0 0 44) w2.toNat with
      | none => failed ∧ ∀ a, a < base ∨ base + 4096 ≤ a → t.nvByte a = s.nvByte a
      | some (u', l) =>
        if imgLength (listImage l) = w2.toNat ∧ u'.imageCause (listImage l) slotSize true = 0 then
          (∀ i, i < l.length → t.nvByte (base + i) = l.getD i 0) ∧
          (∀ a, a < base ∨ base + l.length ≤ a → t.nvByte a = u'.nvByte a) ∧ t = { u' with nv := t.nv }
        else failed)) ∧
  (∀ w0 w1, mayWrite s r 0x5000 7 → s.rightOf r = .full → bitOf w0 63 = false → fld w1 2 7 < 80 → s.switch = none →
    (s.clearing (24 * fld w1 0 2 + fld w1 2 7)).next = none → SMap.get none s.groveNext (56 * fld w1 0 2 + (fld w1 2 7 - 24)) = none →
    (fld w0 0 44 % 4096 ≠ 0 ∨ partialSize ≤ fld w0 0 44) → completesTo (.partialReq r w0 w1) s (fun t =>
      t.getF 0x5000 9 12 4 = 1 ∧ t.objW 0x5000 7 0 = w0 &&& 0x80000FFFFFFFFFFF ∧ t.objW 0x5000 7 1 = w1 &&& 0x1FF ∧
      sameWordsBut s t (fun k => k = objKey 0 0x5000 9 0 ∨ ∃ i, i < 2 ∧ k = objKey 0 0x5000 7 i) ∧ t = { s with dict := t.dict })) ∧
  (∀ w0 w1 i, mayWrite s r 0x5000 7 → s.rightOf r = .full → bitOf w0 63 = false → 24 ≤ fld w1 2 7 → fld w1 2 7 < 80 → s.switch = none →
    SMap.get none s.groveNext (56 * fld w1 0 2 + (fld w1 2 7 - 24)) = none → fld w0 0 44 % 4096 = 0 → fld w0 0 44 < partialSize →
    i = s.nvImage (partialBase + fld w0 0 44) → imgKind i = 3 →
    (∃ d, s.groveOwner (56 * fld w1 0 2 + (fld w1 2 7 - 24)) = some d ∧ s.waitingStand d = false) →
    completesTo (.partialReq r w0 w1) s (fun t =>
      (if s.imageCause i (partialSize - fld w0 0 44) false = 0 then
        t.bit 0x5000 9 0 = true ∧
        SMap.get none t.groveNext (56 * fld w1 0 2 + (fld w1 2 7 - 24)) = some (decodeImage i (some (fld w1 0 2, fld w1 2 7)))
      else t.getF 0x5000 9 12 4 = s.imageCause i (partialSize - fld w0 0 44) false ∧ t.groveNext = s.groveNext) ∧
      sameWordsBut s t (fun k => k = objKey 0 0x5000 9 0 ∨ ∃ i, i < 2 ∧ k = objKey 0 0x5000 7 i) ∧
      t = { s with dict := t.dict, groveNext := t.groveNext }))

/-- SecurityObjects (R521, R565, R567, R578 to R584). Keys, minima and unlocking: each write is refused with a cause, or has its effect and no
other. Where the rules leave a point open it follows the model's readings in log entries 39 and 78. -/
def Obligations.SecurityObjects : Prop := ∀ (s : State) (r : Requester),
  let refused := fun ix sb (u : State) => (u.dictEvent r 0x4000 ix sb 5)
  (∀ v, mayWrite s r 0x2002 5 →
    let old := s.fuses
    let m := (maskedWord (s.obj 0x2002 5) (BitVec.setWidth 64 v) 0xF).toNat
    match s.revokeKeys m with
    | some t => exec (.imageKeyRevoke r v) s = .next t ∧ t.fuses = old ||| fld v 0 4 ∧ t.fuses ||| old = t.fuses
    | none => exec (.imageKeyRevoke r v) s = .next (refused 0x2002 5 s)) ∧
  (∀ (v : BitVec 32), mayWrite s r 0x2005 1 → (s.imageState = 1 ∨ s.imageState = 0) → s.bit 0x5000 2 4 = false → s.bit 0x5000 9 0 = false →
    (v.toNat ≤ s.getF 0x2005 1 0 32 ∨ imgVersion (s.nvImage heartwoodBase) < v.toNat ∨ s.getF 0x2005 4 0 8 = 0 →
      exec (.securityMinimumWrite r false v) s = .next (refused 0x2005 1 s)) ∧
    (s.getF 0x2005 1 0 32 < v.toNat → v.toNat ≤ imgVersion (s.nvImage heartwoodBase) → s.getF 0x2005 4 0 8 ≠ 0 →
      completesTo (.securityMinimumWrite r false v) s (fun t =>
        t.getF 0x2005 1 0 32 = v.toNat ∧ t.getF 0x2005 4 0 8 + 1 = s.getF 0x2005 4 0 8 ∧
        sameWordsBut s t (fun k => k = objKey 0 0x2005 1 0 ∨ k = objKey 0 0x2005 4 0) ∧ t = { s with dict := t.dict }))) ∧
  (∀ key : BitVec 384, mayWrite s r 0x2004 1 → completesTo (.recoveryKeyWrite r key) s (fun t =>
    (∀ i, i < 6 → t.objW 0x2004 1 i = key.extractLsb' (64 * i) 64) ∧ t.obj 0x2004 2 = BitVec.ofNat 64 (keyCheck key) ∧
    t.bit 0x2000 1 14 = true ∧
    sameWordsBut s t (fun k => (∃ i, i < 6 ∧ k = objKey 0 0x2004 1 i) ∨ k = objKey 0 0x2004 2 0 ∨ k = objKey 0 0x2000 1 0) ∧
    t = { s with dict := t.dict })) ∧
  (∀ (k : Fin 8) (words : List U64), mayWrite s r 0x2003 (k.val + 1) → words.length = 13 → (3 < fld (words.getD 12 0) 0 8 →
      exec (.keySlotWrite r k words) s = .next (refused 0x2003 (k.val + 1) s)) ∧
    (fld (words.getD 12 0) 0 8 = 1 → completesTo (.keySlotWrite r k words) s (fun t =>
      if Config.onCurve ((words.take 12).flatMap (fun w => leBytes 8 w.toNat)) = true then
        (∀ i, i < 12 → t.objW 0x2003 (k.val + 1) i = words.getD i 0) ∧ t.objW 0x2003 (k.val + 1) 12 = words.getD 12 0 &&& 0x7FF ∧
        t.bit 0x2000 1 14 = true ∧ (∀ q x, q < 4 → t.session q = some x → x.slot.toNat ≠ k.val + 1)
      else t = refused 0x2003 (k.val + 1) s))) ∧
  (∀ token, mayWrite s r 0x2006 2 → completesTo (.debugUnlock r token) s (fun t =>
    if s.tokenOk token = true then t.bit 0x2000 1 7 = true ∧ t.out = s.out else t = refused 0x2006 2 s.newDebugNonce)) ∧
  (∀ v l, mayWrite s r 0x4100 1 →
    l = (List.range 85).flatMap (fun i => leBytes 8 ((s.setWaiting (objKey stagingBank 0x4100 1 84) (some v)).stagedWord i).toNat) →
    (ofLe (sliceBytes l 0x2A0 8) ≠ crcBytes 64 0x42F0E1EBA9EA3693 0 (l.take 0x2A0) →
      completesTo (.calibrationSetWrite r v) s (fun t => (∀ w, t.waitingValue (objKey stagingBank 0x4100 1 w) = none ∨ w ≥ 2048) ∧
        t.word (objKey (bankOf r) 0x1011 1 0) = statusEvent (s.word (objKey (bankOf r) 0x1011 1 0)) 0x4000 ∧
        sameWordsBut s t (fun k => k = objKey (bankOf r) 0x1011 1 0 ∨ k = objKey (bankOf r) 0x1011 2 0))) ∧
    (ofLe (l.take 8) = (s.obj 0x1020 1).toNat → ofLe (sliceBytes l 8 4) = 1 →
      ofLe (sliceBytes l 0x2A0 8) = crcBytes 64 0x42F0E1EBA9EA3693 0 (l.take 0x2A0) → calibrationOk l = true →
      exec (.calibrationSetWrite r v) s =
        .next (((s.setWaiting (objKey stagingBank 0x4100 1 84) (some v)).dropStaged).takeCalibration l)))

/-! ## The step discipline, jobs, fabric and images -/

/-- BoundaryStart (R38, R39, R45, R46, R49, R110, R503, R504). A die reports once it is drained. With every report, and all of it drained still, the boundary begins with the
flush: each persistent line written goes to the mirror slot that does not hold its newest committed copy, tagged with StepSeq, and no committed
copy is lost; a failed step ends its step and stops its ring instead. The commit names the finished StepSeq, which advances by one, and its
completion is due. -/
def Obligations.BoundaryStart : Prop := ∀ (s : State) (sd : StandId),
  let d := sd.val
  let x := s.stand d
  let others := fun (t : State) => ∀ e, e ≠ d → t.stand e = s.stand e
  (∀ k : DieId, x.phase = .stepping → (s.diesOf d).getLsbD k.val = true → SMap.get 0 s.stewards k.val = 0 → s.dieDrained d k.val = true →
    exec (.drainReport sd k) s = .next (s.setStand d { x with drainDies := x.drainDies ||| BitVec.ofNat 4 (2 ^ k.val) })) ∧
  (x.phase = .stepping → x.drainDies = s.diesOf d → s.errorPending d = false → s.standDrained d = true → x.failure = 0 →
    (s.inJob d = true → (s.job d).aborted = false) → (∀ c, x.commitRec = some c → c < s.stepSeq d) →
    completesTo (.drainPoint sd) s (fun t =>
      t.stand d = { x with phase := .drained, drained := true } ∧
      (∀ l, l ∈ s.flushLines d → ∃ k, k < 2 ∧ (t.mirrorSlot l k).tag = some (s.stepSeq d)) ∧
      (∀ l k, k < 2 → s.bestSlot x.commitRec l = some k → t.mirrorSlot l k = s.mirrorSlot l k) ∧
      (∀ l k, k < 2 → l ∉ s.flushLines d → t.mirrorSlot l k = s.mirrorSlot l k) ∧ others t)) ∧
  (∀ w, x.phase = .stepping → x.drainDies = s.diesOf d → s.errorPending d = false → s.standDrained d = true → x.failure ≠ 0 → s.inJob d = false →
    x.current = some w → s.ringOn w.func.val = true → (s.func w.func.val).gen = w.gen → completesTo (.drainPoint sd) s (fun t =>
      (t.stand d).phase = .applied ∧ (t.stand d).current = none ∧ (t.stand d).commitRec = x.commitRec ∧ t.stepSeq d = s.stepSeq d ∧
      (t.func w.func.val).done = (s.func w.func.val).done ++ [s.stepCompletion d w x.failure.toNat (s.stepSeq d).toNat] ∧
      t.ringStopped w.func.val = true ∧ others t)) ∧
  (x.phase = .stepping → x.drainDies = s.diesOf d → s.errorPending d = false → s.standDrained d = true → s.inJob d = true →
    (s.job d).aborted = true → completesTo (.drainPoint sd) s (fun t =>
      t.stand d = { x with phase := .drained, drained := true } ∧ others t ∧ t = { s with stands := t.stands })) ∧
  (s.standDrained d = false → exec (.drainPoint sd) s = .next s) ∧
  (x.phase = .drained → (s.job d).aborted = false → x.failure = 0 → s.errorPending d = false → completesTo (.commit sd) s (fun t =>
    t.stepSeq d = s.stepSeq d + 1 ∧
    t.stand d = { x with phase := .committed, commitRec := some (s.stepSeq d), done := true, fresh := [],
                         barrierDone := !s.inJob d, applyDone := false, due := s.dueWords d } ∧
    (∀ n i b, n ∈ s.grovesOf d → i < 4 → b < 64 → t.obj (0x3400 + n) (64 * i + b) = (SMap.get 0 (s.tile (4 * n + i)).hist b).setWidth 64) ∧
    (∀ n i, n ∈ s.grovesOf d → i < 4 → t.obj (0x6200 + n) (16 * (i + 1) + 6) = BitVec.ofNat 64 ((s.stepSeq d).toNat % 2 ^ 32)) ∧
    (∀ w, x.current = some w → s.inJob d = false → s.ringOn w.func.val = true → (s.func w.func.val).gen = w.gen →
      (t.func w.func.val).done = (s.func w.func.val).done ++ [s.stepCompletion d w 0 (s.stepSeq d).toNat]) ∧
    others t ∧ t = { s with dict := t.dict, stands := t.stands, funcs := t.funcs }))

/-- ApplyAndRelease (R24, R28, R29, R39, R40, R87, R132, R218). In the apply phase the accepted values take effect; an assignment that waits is
taken, refused with CONFIG_ERR or kept, as R28 judges it; the release starts the next step with every grove empty, or holds the Stand, or leaves
it in STATE 2, and nothing that blocks it is passed over; a Stand that waits in STATE 2, or for which HOLD has been written 0, takes its next
step at a release. Where the rules leave a point open it follows the model's readings in log entries 14 and 15. -/
def Obligations.ApplyAndRelease : Prop := ∀ (s : State) (sd : StandId),
  let d := sd.val
  let x := s.stand d
  let u := s.settleStand d
  let key := objKey 0 (standIx d) 2 0
  let others := fun (t : State) => ∀ e, e ≠ d → t.stand e = s.stand e
  (x.phase = .committed → (∀ n, SMap.get none u.groveNext n = none) → (∀ c, (u.clearing c).next = none) → u.rerouteDue = false →
    exec (.applyPhase sd) s = .next
      (if (u.stand d).phase = .disabled then u else u.setStand d { u.stand d with phase := .applied, applyDone := true })) ∧
  (∀ v, x.phase = .committed → s.accepted = [(objKey 0 (standIx d) 1 0, some v)] → x.due = s.accepted → bitOf v 0 = false → completesTo (.applyPhase sd) s (fun t =>
    (t.stand d).phase = .disabled ∧ t.obj (standIx d) 1 = v ∧ t.accepted = [] ∧ ∀ n, t.groveOwner n ≠ some d)) ∧
  (∀ v, s.waitingKeys (fun k _ => k == key) = [key] → s.waitingValue key = some v →
    let fits := rectValid v = true ∧ ∀ o, o < 8 → o ≠ d → s.enabled o = true → rectsMeet v (s.rect o) = false
    let cmd : Instr := .assignmentTakesEffect (.groveRect sd)
    (s.atBoundary d = false → exec cmd s = .next s) ∧
    (s.claimReady key = true →
      (fits → completesTo cmd s (fun t =>
        t.obj (standIx d) 2 = v ∧ t.waitingValue key = none ∧ (t.stand d).phase = x.phase ∧
        (∀ k w, k ∈ s.claimsWith key → s.waitingValue k = some w → t.word k = w ∧ t.waitingValue k = none) ∧
        ∀ e, e ≠ d → (∀ k, k ∈ s.claimsWith key → (claimOf k).map Claim.stand ≠ some e) → t.stand e = s.stand e)) ∧
      (¬fits → s.enabled d = true → key ∈ s.jointClaims → completesTo cmd s (fun t =>
        ∀ k, k ∈ s.jointClaims → (∀ w, s.waitingValue k = some w → t.word k = w) ∧ t.waitingValue k = none)) ∧
      (¬fits → s.enabled d = true → key ∉ s.jointClaims → s.fitsLater key = true → exec cmd s = .next s) ∧
      (rectValid v = false ∨ (¬fits ∧ s.waitingClaims = [key] ∧ ∀ o, o < 8 → s.leaving o = false) →
        exec cmd s = .next ((s.setWaiting key none).standConfigErr d)))) ∧
  (x.phase = .applied → x.done = true → (s.job d).unrun = false → (s.inJob d = true → (s.job d).aborted = false) →
    (s.releaseBlocked d = true → exec (.release sd) s = .next s) ∧
    (s.releaseBlocked d = false →
      (s.holds d = true ∨ x.unitFailed = true → completesTo (.release sd) s (fun t =>
        t.stand d = { x with phase := .held, current := none, done := false, failure := 0, failWho := 0, drainDies := 0 } ∧
        (x.drained = true → (t.obj (standIx d) 6).toNat < 2 ^ 32) ∧ (x.drained = false → t.dict = s.dict) ∧
        others t ∧ sameWordsBut s t (fun k => k = objKey 0 (standIx d) 6 0) ∧ t = { s with dict := t.dict, free := t.free, stands := t.stands })) ∧
      (s.holds d = false → x.unitFailed = false → s.nextStep d = none → completesTo (.release sd) s (fun t =>
        t.stand d = { x with phase := .applied, current := none, done := false, drainDies := 0 } ∧
        others t ∧ t = { s with stands := t.stands })) ∧
      (∀ w, s.holds d = false → x.unitFailed = false → s.mayStep = true → s.nextStep d = some w →
        (∀ n, n ∈ s.grovesOf d → s.groveFailed n = false) → completesTo (.release sd) s (fun t =>
          (t.stand d).phase = .stepping ∧ (t.stand d).current = some w ∧ w ∉ (t.stand d).steps ∧ (t.stand d).commitRec = x.commitRec ∧
          (∀ n i, n ∈ s.grovesOf d → i < 4 → t.tile (4 * n + i) = Tile.reset ∧ t.ctx (4 * n + i) = Context.reset) ∧
          (∀ n q, n ∈ s.grovesOf d → q < 8 → t.slot (8 * n + q) =
            { Slot.reset with tag := (s.slot (8 * n + q)).tag, st := if (s.slot (8 * n + q)).st = .error then .error else .idle }) ∧
          (∀ n c, n ∈ s.grovesOf d → c < 3 → t.rxQueue (groveNode n) c = []) ∧
          (x.drained = true → (t.obj (standIx d) 6).toNat < 2 ^ 32) ∧ sameWordsBut s t (fun k => k = objKey 0 (standIx d) 6 0) ∧
          (∀ n, n ∈ s.grovesOf d → (t.grove n).launches = w.records ∧ (t.grove n).queue = [] ∧ (t.grove n).tokens = []) ∧
          (∀ n, n < 224 → n ∉ s.grovesOf d → t.grove n = s.grove n) ∧ others t ∧ sameBytes s t)))) ∧
  (∀ v : U64, s.waitingValue (objKey 0 (standIx d) 1 0) = some v → bitOf v 1 = false → s.holds d = false) ∧
  (∀ w, x.phase = .applied → x.done = false → x.current = none → s.holds d = false → x.unitFailed = false → x.fills = [] →
    s.completionsWritten d = true → s.switchStaged = false → s.mayStep = true → s.nextStep d = some w →
    (∀ n, n ∈ s.grovesOf d → s.groveFailed n = false) → completesTo (.release sd) s (fun t =>
      (t.stand d).phase = .stepping ∧ (t.stand d).current = some w ∧ w ∉ (t.stand d).steps ∧ others t ∧ sameBytes s t))

/-- Jobs (R378 to R386, R392). A member's barrier goes to its parent once every child's has come; the root releases. A RELEASE of another step or
an earlier attempt is discarded. An ABORT goes out three times on every port that is up, and is forwarded once; a job token's count is added to
the counter of its entry. Where the rules leave a point open it follows the model's readings in log entries 28 and 68. -/
def Obligations.Jobs : Prop := ∀ (s : State) (sd : StandId),
  let d := sd.val
  let x := s.stand d
  let j := s.job d
  let ups := (List.range 12).filter (fun p => s.portUp p)
  let copies := fun (ps : List Nat) (b : U64) => ps.flatMap (fun p => List.replicate 3 (Output.block p b))
  let others := fun (t : State) => (∀ e, e ≠ d → t.stand e = s.stand e) ∧ ∀ e, e ≠ d → t.job e = s.job e
  (∀ own, s.ownStatus d = some own → j.sent = false → (∀ c, c ∈ s.jobChildren d → SMap.get 0 j.heard c ≠ 0) → s.jobRoot d = false →
    let m : BarrierMsg := { stepSeq := s.roundSeq d, attempt := j.attempt,
                            status := BitVec.ofNat 8 ((s.jobChildren d).foldl (fun a c => max a (SMap.get 0 j.heard c - 1)) own) }
    exec (.barrier sd) s = .next ((s.setJob d { j with sent := true }).jobSend d (s.jobParent d) (barrierData tokenBarrier m))) ∧
  (s.ownStatus d = some 0 → j.sent = false → s.jobChildren d = [] → s.jobRoot d = true → j.aborted = false →
    completesTo (.barrier sd) s (fun t => t.stand d = { x with barrierDone := true } ∧ t.job d = { j with heard := [], sent := false } ∧
      (∀ w, x.current = some w → s.ringOn w.func.val = true → (s.func w.func.val).gen = w.gen →
        (t.func w.func.val).done = (s.func w.func.val).done ++ [s.stepCompletion d w 0 (s.stepSeq d - 1).toNat]) ∧ others t)) ∧
  ((∃ c, c ∈ s.jobChildren d ∧ SMap.get 0 j.heard c = 0) → exec (.barrier sd) s = .next s) ∧
  (∀ m : BarrierMsg, m.stepSeq ≠ s.roundSeq d ∨ m.attempt < j.attempt → exec (.barrierRelease sd m) s = .next s) ∧
  (∀ m : BarrierMsg, s.enabled d = true → s.inJob d = true → m.stepSeq = s.roundSeq d → m.attempt = j.attempt → j.sent = true →
    j.aborted = false → m.status = 0 → s.jobChildren d = [] → x.current = none → completesTo (.barrierRelease sd m) s (fun t =>
      t.stand d = { x with barrierDone := true } ∧ t.job d = { j with heard := [], sent := false } ∧ others t ∧
      t = { s with stands := t.stands, jobs := t.jobs })) ∧
  ((s.ownStatus d).isSome = true → (∃ c, c ∈ s.jobChildren d ∧ SMap.get 0 j.heard c = 0) →
    exec (.barrierTimeout sd) s = .next (s.event (0x7400 + 16 * d) 4 0x8000)) ∧
  (s.stepEnded d = true → s.deviceValid = true → completesTo (.abortOriginate sd) s (fun t =>
    (t.job d).aborted = true ∧ t.bit (0x7400 + 16 * d) 4 14 = true ∧
    SMap.get none t.abortLog (s.jobOf d) = some (BitVec.ofNat 16 (s.stepSeq d).toNat) ∧
    linkOut t = linkOut s ++ copies ups (BitVec.ofNat 64 (typeAbort + 2 ^ 8 * s.deviceId + 2 ^ 18 * s.jobOf d + 2 ^ 30 * ((s.stepSeq d).toNat % 65536))) ∧
    others t)) ∧
  (∀ (p : PortId) b w u, hears s p.val b w u → fld w 0 8 = typeAbort → s.portUp p.val = true → (s.port p.val).last = some w →
    (s.port p.val).copies = 1 →
    let job := fld w 18 12
    let stepLo := fld w 30 16
    (s.abortSeen job = some (BitVec.ofNat 16 stepLo) → completesTo (.abort p b) s (fun t => bitOf s.drawn 0 = false → t.out = s.out)) ∧
    (s.abortSeen job ≠ some (BitVec.ofNat 16 stepLo) → completesTo (.abort p b) s (fun t =>
      linkOut t = linkOut s ++ copies (ups.filter (fun q => q != p.val))
        (BitVec.ofNat 64 (typeAbort + 2 ^ 8 * fld w 8 10 + 2 ^ 18 * job + 2 ^ 30 * stepLo)) ∧
      (∀ e, s.standInJob job = some e → t.bit (0x7400 + 16 * e) 4 13 = true) ∧
      (s.standInJob job = some d → x.phase = .stepping → x.done = false → j.aborted = false → (s.stepSeq d).toNat % 65536 = stepLo →
        (t.job d).aborted = true)))) ∧
  (∀ token count e n ctr, 0x8000 ≤ token.toNat → token.toNat ≤ 0x8FFF → s.enabled d = true → s.inJob d = true →
    e = s.jobEntry d (token.toNat - 0x8000) → n = e / 64 % 256 → ctr = e / 2 ^ 14 % 64 →
    (e / 2 ^ 31 % 2 = 1 → s.groveOwner n = some d → s.token n ctr + count.toNat ≤ 0xFFFFFFFF →
      completesTo (.jobTokenSignal sd token count) s (fun t =>
        t.token n ctr = s.token n ctr + count.toNat ∧ (∀ k, k ≠ ctr → t.token n k = s.token n k) ∧ (∀ m, m ≠ n → t.grove m = s.grove m) ∧
        t = { s with groves := t.groves })) ∧
    (e / 2 ^ 31 % 2 = 0 → exec (.jobTokenSignal sd token count) s = .next (s.event (0x7400 + 16 * d) 4 0x800)))

/-- FabricCommands (R396, R397, R400, R402 to R404, R407 to R409, R413, R425). User logic's requests and answers, the three stages of a release, a
reconfiguration, the user clocks' locks, and the ports of block RAM. Where the rules leave a point open it follows the model's readings in log
entries 35 and 62. -/
def Obligations.FabricCommands : Prop := ∀ (s : State) (c : ClearingId),
  let k := c.val
  let x := s.clearing k
  let node := clearingNode k
  let stage := s.getF (0x9100 + k) 2 3 2
  let otherClearings := fun (t : State) => ∀ e, e ≠ k → t.clearing e = s.clearing e
  (∀ q : UtxReq, s.clearingState k = 3 → (q.kind = 6 ∨ s.txnUsed node q.txn.toNat = false) → s.sendRoom node (kindChannel q.kind) 1 = true →
    ((q.kind ≠ 1 ∧ q.kind ≠ 3 ∧ q.kind ≠ 4 ∧ q.kind ≠ 6 ∧ q.kind ≠ 0xA) ∨ q.target = 3 →
      exec (.utxReq c q) s = .next ((s.ifaceEvent node codeFormat 0).send (.user k 8 q.txn.toNat (q.addr.setWidth 64) (BitVec.ofNat 1024 codeFormat)))) ∧
    (∀ d, (q.kind = 1 ∨ q.kind = 3 ∨ q.kind = 4) → s.clearingOwner k = some d → q.target = 1 → completesTo (.utxReq c q) s (fun t =>
      t = s.userSend k d pcieNode q q.addr ∧
      t.outstAt node q.txn.toNat = some ⟨.user k q.txn q.group, q.kind != 1, q.addr.toNat % 2 ^ 44, if q.kind = 1 then q.opx.toNat % 4 + 1 else 1⟩)) ∧
    ((q.kind = 1 ∨ q.kind = 3 ∨ q.kind = 4) → s.clearingOwner k = none → q.target ≠ 3 →
      exec (.utxReq c q) s = .next ((s.ifaceEvent node codeStand 0).send
        (.user k 8 q.txn.toNat (q.addr.setWidth 64) (BitVec.ofNat 1024 codeStand))))) ∧
  (∀ q : UtxReq, (q.kind ≠ 6 ∧ s.txnUsed node q.txn.toNat = true) ∨ s.sendRoom node (kindChannel q.kind) 1 = false →
    exec (.utxReq c q) s = .next s) ∧
  (∀ f rest i, s.rxQueue node 0 = f :: rest → (s.forUser node 1 || s.forUser node 3 || s.forUser node 4) = true → i < 64 →
    SMap.get none x.tags i = none → (∀ j, j < i → SMap.get none x.tags j ≠ none) → completesTo (.urxReq c) s (fun t =>
      t.rxQueue node 0 = rest ∧ SMap.get none (t.clearing k).tags i = some ⟨f, 0⟩ ∧ otherClearings t ∧
      (∃ a, t.out = s.out ++ [.user k f.kind.toNat i a f.data]) ∧ t = { s with rx := t.rx, clearings := t.clearings, out := t.out })) ∧
  (∀ (q : UtxRsp) u, SMap.get none x.tags q.tag.toNat = some u → s.clearingState k = 3 →
    let free := s.setClearing k { x with tags := SMap.set none x.tags q.tag.toNat none }
    (q.kind = 8 → exec (.utxRsp c q) s = .next (free.respondError node u.req (userCode q.code.toNat) 0)) ∧
    (u.req.kind = 1 → q.kind = 2 → (readBlocks u.req).length = u.given + 1 →
      exec (.utxRsp c q) s = .next (free.respond node u.req 2 ((readBlocks u.req).getD u.given 0) q.data)) ∧
    ((u.req.kind = 3 ∨ u.req.kind = 4) → q.kind = 5 →
      exec (.utxRsp c q) s = .next (free.respond node u.req 5 (u.req.addr.toNat % 2 ^ 44) 0))) ∧
  (∀ sensed, s.clearingState k = 2 → x.issued < 3 → stage = x.issued → completesTo (.stageIssue c sensed) s (fun t =>
    (t.clearing k).issued = x.issued + 1 ∧ (t.clearing k).acks = [] ∧
    t.getF (0x9100 + k) 2 3 2 = (if s.domainsOf k = 0 then x.issued + 1 else x.issued) ∧ otherClearings t)) ∧
  (∀ domain : Byte, s.clearingState k = 2 → x.issued ≠ 0 → x.issued ≤ 3 → x.acks.contains domain.toNat = false → stage ≠ x.issued →
    completesTo (.stageAck c domain) s (fun t =>
      if s.domainsOf k ≤ domain.toNat then t = s
      else (t.clearing k).acks = x.acks ++ [domain.toNat] ∧
        (x.acks.length + 1 = s.domainsOf k → t.getF (0x9100 + k) 2 3 2 = x.issued ∧ (x.issued = 3 → t.clearingState k = 3)) ∧
        (x.acks.length + 1 ≠ s.domainsOf k → t.dict = s.dict))) ∧
  (s.clearingState k = 2 → x.issued ≠ 0 → stage ≠ x.issued → x.tags = [] → completesTo (.releaseStall c) s (fun t =>
    t.clearingState k = 5 ∧ t.bit (0x9100 + k) 2 15 = true ∧ otherClearings t)) ∧
  (∀ r, x.next = some r → r.begun = false → s.mayReconfig k = true → x.tags = [] → completesTo (.reconfiguration c) s (fun t =>
    t.clearingState k = 2 ∧ (t.clearing k).image = r.image ∧ (t.clearing k).issued = 0 ∧
    (t.clearing k).next = some { r with begun := true, before := x.image } ∧
    t.cfg = copyRange s.cfg r.frames (clearingFrames k).1 (clearingFrames k).2 ∧ otherClearings t)) ∧
  (∀ (d : DieId) (pll : Fin 4),
    exec (.pllLockLoss d pll) s = .next ((s.setF (0x9000 + d.val) 2 pll.val 1 0).event (0x9000 + d.val) 2 (2 ^ (4 + pll.val))) ∧
    exec (.pllLock d pll) s = .next (s.setF (0x9000 + d.val) 2 pll.val 1 1)) ∧
  (∀ (d : DieId) (b : BitVec 13) (w w' : BitVec 9) lane v, b.toNat < 4608 → s.clearingState (24 * d.val + b.toNat / 192) = 3 → sramSound s →
    completesTo (.blockRamPortAccess d b (.write w 3 lane v) (.read w')) s (fun t =>
      t.out = (if s.boundBlock (bramAddr d.val b.toNat 0) = true then s.out
        else s.out ++ [.bram d.val b.toNat (BitVec.ofNat 64 (s.readNat (bramAddr d.val b.toNat (8 * w'.toNat)) 8)) false]) ∧
      t.readNat (bramAddr d.val b.toNat (8 * w.toNat)) 8 = v.toNat ∧ sameBytesBut s t (bramAddr d.val b.toNat (8 * w.toNat)) 8 ∧
      t = { s with mem := t.mem, sramDiff := t.sramDiff, writeBack := t.writeBack, written := t.written, out := t.out }))

/-- Images (R434 to R438, R440, R441, R443). The scrubber passes over sound frames, corrects a frame's words, and restores an uncorrectable frame
from the shadow; a parity error restarts it. A switch begins once every Stand is at a boundary, its writes applied and its tests run; the staged
copy becomes current with the last release, and the commit makes its slot the active one. At power-up the active slot is loaded, or Heartwood, or none. Where the rules leave a point open it follows the model's
readings in log entries 32, 63 and 64. -/
def Obligations.Images : Prop := ∀ (s : State),
  (∀ d : DieId, s.bit 0x5000 10 d.val = true →
    let p := SMap.get 0 s.scrubAt d.val % 20480
    let f := 20480 * d.val + p
    let moved : State := { s with scrubAt := SMap.set 0 s.scrubAt d.val ((p + 1) % 20480) }
    let frame := SMap.get 0 s.cfg f
    let l := frameFindings frame (fun i => SMap.get 0 s.cfgDiff (128 * f + i))
    (s.frameSkipped f = true ∨ (SMap.get 0 s.frameMap f).getLsbD 1 = true ∨ (∀ i, i < 128 → SMap.get 0 s.cfgDiff (128 * f + i) = 0) →
      exec (.scrubFrame d) s = .next moved) ∧
    (s.frameSkipped f = false → (SMap.get 0 s.frameMap f).getLsbD 1 = false → allGood l = false → hasBad l = false →
      completesTo (.scrubFrame d) s (fun t =>
        SMap.get 0 t.cfg f = correctFrame frame l ∧ (∀ g, g ≠ f → SMap.get 0 t.cfg g = SMap.get 0 s.cfg g) ∧
        (∀ i, i < 128 → SMap.get 0 t.cfgDiff (128 * f + i) = 0) ∧ t.bit 0x5000 10 12 = true ∧
        t.reports = s.reports ++ [s.scrubRecord f .cfgCe] ∧
        t = { moved with cfg := t.cfg, cfgDiff := t.cfgDiff, dict := t.dict, reports := t.reports })) ∧
    (s.frameSkipped f = false → (SMap.get 0 s.frameMap f).getLsbD 1 = false → hasBad l = true →
      (∀ i, i < 128 → SMap.get 0 s.shadowDiff (128 * f + i) = 0) → completesTo (.scrubFrame d) s (fun t =>
        SMap.get 0 t.cfg f = SMap.get 0 s.shadow f ∧ (∀ g, g ≠ f → SMap.get 0 t.cfg g = SMap.get 0 s.cfg g) ∧
        (∀ i, i < 128 → SMap.get 0 t.cfgDiff (128 * f + i) = 0) ∧ t.bit 0x5000 10 13 = true ∧
        t.reports = s.reports ++ [s.scrubRecord f .cfgUe] ∧
        t = { moved with cfg := t.cfg, cfgDiff := t.cfgDiff, dict := t.dict, reports := t.reports })) ∧
    (s.ranger = .up → completesTo (.cfgScrubParity d) s (fun t =>
      t.bit 0x5000 10 15 = true ∧ t.bit 0x5000 10 d.val = true ∧ SMap.get 0 t.scrubAt d.val = 0 ∧
      t.reports = s.reports ++ [mkReport .cfgScrubParity d.val none .none 0 0] ∧
      t = { s with dict := t.dict, reports := t.reports, scrubAt := t.scrubAt })) ∧
    (s.ranger = .down → completesTo (.cfgScrubParity d) s (fun t => t.bit 0x5000 10 15 = true ∧ t.bit 0x5000 10 d.val = false))) ∧
  (∀ w, s.switch = some w →
    ((List.range 8).all s.atBoundary = false → exec .switchApply s = .next s) ∧
    ((∃ d, d < 8 ∧ ((s.stand d).phase = .committed ∨ (s.enabled d = true ∧ s.testsPending d = true))) → exec .switchApply s = .next s) ∧
    (s.imageState = 3 → (List.range 8).all s.atBoundary = true →
      (∀ d, d < 8 → (s.stand d).phase ≠ .committed ∧ (s.enabled d = true → s.testsPending d = false)) →
      (∀ c, (s.clearing c).tags = []) → completesTo .switchApply s (fun t =>
      t.imageState = 4 ∧
      ∀ c, c < 96 → framesDiffer w.conf.frames s.shadow (clearingFrames c).1 (clearingFrames c).2 = true →
        t.clearingState c = 2 ∧ (t.clearing c).image = w.conf.image ∧ (t.clearing c).issued = 0 ∧ (t.clearing c).next = none)) ∧
    (∀ (c : ClearingId) (domain : Byte), let x := s.clearing c.val
      s.imageState = 4 → w.current = false → (∀ e, e ∈ w.changed → e.2 ≠ 0 → e.1 ≠ c.val → s.clearingState e.1 = 3) →
      s.clearingState c.val = 2 → x.issued = 3 → s.getF (0x9100 + c.val) 2 3 2 ≠ 3 → x.next = none → domain.toNat ∉ x.acks →
      domain.toNat < s.domainsOf c.val → x.acks.length + 1 = s.domainsOf c.val → completesTo (.stageAck c domain) s (fun t =>
        t.switch = some { w with current := true } ∧ t.shadow = w.conf.frames ∧ t.frameMap = w.conf.map ∧ t.shadowRelease = w.release ∧
        t.shadowDiff = [] ∧ t.clearingState c.val = 3)) ∧
    (w.current = false → exec .switchCommit s = .next s) ∧
    (s.imageState = 4 → w.current = true → s.bit 0x2005 3 0 = false →
      (∀ k, k < 2 → (s.bootCopy k).seq ≠ 0xFFFFFFFF) → completesTo .switchCommit s (fun t =>
        t.switch = none ∧ t.imageState = 1 ∧ t.bit 0x5000 1 0 = false ∧ t.activeB = w.slotB ∧ t.bit 0x5000 2 5 = w.slotB ∧
        t.shadow = s.shadow ∧ t.frameMap = s.frameMap ∧ t.clearings = s.clearings ∧ sameBytes s t))) ∧
  (s.booted = true → s.ranger = .up → s.imageState = 0 →
    let work : ImageSrc := s.nvImage (slotBase s.activeB)
    let heart : ImageSrc := s.nvImage heartwoodBase
    (s.minimaOk = false → completesTo .bootLoad s (fun t => t.imageState = 7 ∧ t.getF 0x5000 2 6 2 = 3 ∧ t.cfg = s.cfg)) ∧
    (s.minimaOk = true → s.getF 0x1002 1 0 2 = 0 → completesTo .bootLoad s (fun t =>
      if s.imageCause work slotSize true = 0 then
        s.fillsReady (decodeImage work none) = true →
          t.imageState = 1 ∧ t.getF 0x5000 2 6 2 = (if s.activeB then 1 else 0) ∧ t.shadow = (decodeImage work none).frames
      else if s.imageCause heart heartwoodSize true = 0 then
        s.fillsReady (decodeImage heart none) = true →
          t.imageState = 1 ∧ t.getF 0x5000 2 6 2 = 2 ∧ t.shadow = (decodeImage heart none).frames
      else t.imageState = 7 ∧ t.getF 0x5000 2 6 2 = 3 ∧ t.shadow = s.shadow)))

/-! ## Faults and recovery -/

/-- ErrorsAndFences (R30, R31, R536, R537, R540, R543 to R547, R553, R556, R557). A record makes one entry of the fault log and, where the
taxonomy names a recovery, fences its Stand from stage 3; while its steward is out it waits; while Ranger is down it is held, to 64 for a die. A fence stops the Stand's groves of a
die and no others. Once every die is fenced and settled, the first reset level follows. A steward that hangs is restarted twice, then marked
failed, and its Stands stay fenced. Where the rules leave a point open it follows the model's readings in log entries 47 and 70. -/
def Obligations.ErrorsAndFences : Prop := ∀ (s : State) (e : ErrorReport) (sd : StandId),
  let d := sd.val
  let x := s.stand d
  let n := s.logSerial
  let w := logWord n
  (s.recordMuted e = true → exec (.errorRecord e) s = .next { s with reports := s.reports.erase e }) ∧
  (s.recordMuted e = false → s.stewardOut e.die.val = true →
    (s.reports.contains e = true → exec (.errorRecord e) s = .next s) ∧
    (s.reports.contains e = false → e.err ≠ .vecRegParity → lostObject e = none →
      exec (.errorRecord e) s = .next { s with reports := s.reports ++ [e] }) ∧
    (s.reports.contains e = false → e.err = .vecRegParity → completesTo (.errorRecord e) s (fun t =>
      t.reports = s.reports ++ [e] ∧ (t.grove (e.unit.toNat % 224)).engineStopped = true))) ∧
  (s.stewardOut e.die.val = false → s.recordMuted e = false → s.reports.contains e = true →
    (s.ranger = .up → e.stands = [sd] → e.err ≠ .stkFail → e.err ≠ .netLink → completesTo (.errorRecord e) s (fun t =>
      t.logSerial = n + 1 ∧ t.reports = s.reports.erase e ∧
      fld (t.objW 0xA000 1 (w + 1)) 32 32 = n % 2 ^ 32 ∧ fld (t.objW 0xA000 1 (w + 1)) 16 16 = errCode e.err ∧
      fld (t.objW 0xA000 1 (w + 1)) 14 2 = e.die.val ∧ fld (t.objW 0xA000 1 (w + 1)) 10 4 = 2 * d ∧
      fld (t.objW 0xA000 1 (w + 1)) 4 4 = kindCode e.kind ∧ fld (t.objW 0xA000 1 (w + 2)) 48 16 = e.unit.toNat ∧
      t.objW 0xA000 1 (w + 3) = recordAddr e ∧ (∀ b, b ∉ s.errorStands e → t.stand b = s.stand b) ∧ sameBytes s t ∧
      (s.errorStands e = [d] → s.enabled d = true → x.stuck = false → x.phase ≠ .fenced → x.phase ≠ .recovering →
        (t.stand d).phase = .fenced ∧ (t.stand d).stage = 3 ∧ (t.stand d).level = recordLevel e ∧ (t.stand d).units = recordUnits e ∧
        (t.stand d).clearings = recordClearings e ∧ (t.stand d).fencedDies = 0 ∧ (t.stand d).logs = [n] ∧
        (t.stand d).current = x.current ∧ (t.stand d).commitRec = x.commitRec))) ∧
    (s.ranger = .down → ownUnit e = false → (s.heldRecords.filter (fun r => r.die == e.die)).length < 64 →
      exec (.errorRecord e) s = .next { s with reports := s.reports.erase e, heldRecords := s.heldRecords ++ [e] }) ∧
    (s.ranger = .down → ownUnit e = false → 64 ≤ (s.heldRecords.filter (fun r => r.die == e.die)).length →
      exec (.errorRecord e) s = .next ({ s with reports := s.reports.erase e }.event 0xA000 2 0x4000)) ∧
    (s.ranger = .down → e.err = .tileResidue → e.stands = [sd] → s.enabled d = true → x.stuck = false → x.phase ≠ .fenced →
      x.phase ≠ .recovering → completesTo (.errorRecord e) s (fun t => (t.stand d).phase = .fenced ∧ (t.stand d).stage = 3))) ∧
  (∀ k : DieId, x.phase = .fenced → x.stage = 3 → (s.recoveryDies d).getLsbD k.val = true → x.fencedDies.getLsbD k.val = false →
    s.wideMark (12 + k.val) = false → completesTo (.fence sd k) s (fun t =>
      t.stand d = { x with fencedDies := x.fencedDies ||| BitVec.ofNat 4 (2 ^ k.val) } ∧ SMap.get 0 t.stewards k.val = 0 ∧
      (∀ g, g ∈ s.grovesOf d → groveDie g = k.val → (t.grove g).queue = [] ∧ (t.grove g).waits = [] ∧ (t.grove g).launches = [] ∧
        (∀ q, q < 8 → (t.slot (8 * g + q)).st = .idle ∨ (t.slot (8 * g + q)).st = .error) ∧
        (∀ i, i < 4 → (t.tile (4 * g + i)).jobs = [] ∧ ((t.ctx (4 * g + i)).st = .idle ∨ (t.ctx (4 * g + i)).st = .exception))) ∧
      (∀ g, g < 224 → ¬(g ∈ s.grovesOf d ∧ groveDie g = k.val) → t.grove g = s.grove g ∧ (∀ q, q < 8 → t.slot (8 * g + q) = s.slot (8 * g + q)) ∧
        ∀ i, i < 4 → t.tile (4 * g + i) = s.tile (4 * g + i) ∧ t.ctx (4 * g + i) = s.ctx (4 * g + i)) ∧
      (∀ b, b ≠ d → t.stand b = s.stand b) ∧
      t = { s with stewards := t.stewards, groves := t.groves, tiles := t.tiles, ctxs := t.ctxs, slots := t.slots, rootStacks := t.rootStacks,
                   stands := t.stands })) ∧
  (∀ late : Bool, x.phase = .fenced → x.stage = 3 → x.fencedDies = s.recoveryDies d → (late = true ∨ (s.standNodes d).all s.settledNode = true) →
    x.stuck = false → completesTo (.fenceComplete sd late) s (fun t =>
      (s.ranger = .up → (3 ≤ x.level ∨ x.units ≠ [] ∨ x.clearings ≠ []) →
        t.stand d = { x with phase := .recovering, stage := 5, left := x.units, leftClearings := x.clearings }) ∧
      (s.ranger = .up → x.level < 3 → x.units = [] → x.clearings = [] → x.again = false →
        t.stand d = { x with phase := .recovering, stage := 6, left := [], leftClearings := [] }) ∧
      (s.ranger = .down → t.stand d = { x with stage := 4 }) ∧
      (late = true → ∀ node i, node ∈ s.standNodes d → i < 128 → t.outstAt node i = none) ∧ (∀ b, b ≠ d → t.stand b = s.stand b) ∧
      t = { s with stands := t.stands, outst := t.outst })) ∧
  (∀ k : DieId, s.wideMark (12 + k.val) = false → s.ranger = .up → SMap.get 0 s.stewards k.val = 0 → completesTo (.heartbeatTimeout k) s (fun t =>
    SMap.get 0 t.stewards k.val = 1 ∧ n < t.logSerial ∧
    ∀ b, b ∈ s.standsOn k.val → (s.stand b).stuck = false → (t.stand b).phase = .fenced ∨ (t.stand b).phase = .recovering)) ∧
  (∀ k : DieId, SMap.get 0 s.stewards k.val = 1 →
    exec (.stewardRestartTimeout k) s = .next { s with stewards := SMap.set 0 s.stewards k.val 2 }) ∧
  (∀ k : DieId, SMap.get 0 s.stewards k.val = 2 → completesTo (.stewardRestartTimeout k) s (fun t =>
    t.wideMark (12 + k.val) = true ∧ ∀ b, b ∈ s.standsOn k.val → (t.stand b).phase = .fenced ∧ (t.stand b).stuck = true))

/-- Resets (R34, R48, R414, R550, R551). A unit's reset empties that unit and keeps SRAM; a grove's makes its SRAM unpredictable too; a Clearing's
holds it in STATE 4. Stage 5 ends when nothing is left to reset; a level that does not finish in its time leads to the next. Where the rules leave
a point open it follows the model's readings in log entries 2, 8 and 71. -/
def Obligations.Resets : Prop := ∀ (s : State) (sd : StandId),
  let d := sd.val
  let x := s.stand d
  let unknown := fun (t : State) u => ∃ m, ∀ a, sramUnit a = some u → t.byte a = Config.freeByte m a
  let cleared := fun (t : State) n => (∀ i, i < 4 → t.tile (4 * n + i) = Tile.reset ∧ t.ctx (4 * n + i) = Context.reset ∧ unknown t (4 * n + i)) ∧
    (∀ q, q < 8 → t.slot (8 * n + q) = Slot.reset) ∧ t.grove n = Grove.reset ∧ unknown t (1000 + n)
  let others := fun (t : State) => ∀ b, b ≠ d → t.stand b = s.stand b
  let left := fun (l : List UnitRef) (c : List ClearingId) (t : State) => (t.stand d).left = l ∧ (t.stand d).leftClearings = c ∧
    (t.stand d).stage = if l = [] ∧ c = [] then 6 else 5
  (∀ u : UnitRef, x.stage = 5 →
    (s.resetting (fun l => l == 1 && s.coreOn (groveDie (unitGrove u)))).find? (fun b => (s.stand b).left.contains u) = some d →
    completesTo (.unitReset u) s (fun t =>
      (match u with
       | .tile r => t.tile r.num = Tile.reset ∧ (∀ k, k ≠ r.num → t.tile k = s.tile k) ∧ t.ctxs = s.ctxs ∧ t.slots = s.slots
       | .engine g => (∀ i, i < 4 → t.ctx (4 * g.val + i) = Context.reset) ∧ (t.grove g.val).icache = [] ∧
           (t.grove g.val).engineStopped = false ∧ t.tiles = s.tiles ∧ t.slots = s.slots
       | .stream g => (∀ q, q < 8 → t.slot (8 * g.val + q) = Slot.reset) ∧ t.tiles = s.tiles ∧ t.ctxs = s.ctxs
       | .iface g => (∀ i, i < 128 → t.outstAt (groveNode g.val) i = none) ∧ t.tiles = s.tiles ∧ t.ctxs = s.ctxs ∧ t.slots = s.slots) ∧
      left (x.left.filter (fun v => v != u)) x.leftClearings t ∧ others t ∧ sameBytes s t)) ∧
  (∀ g : GroveId, x.stage = 5 →
    (s.resetting (fun l => l == 2 && s.coreOn (groveDie g.val))).find? (fun b => (s.stand b).left.any (fun u => unitGrove u == g.val)) = some d →
    completesTo (.groveReset g) s (fun t =>
      cleared t g.val ∧ left (x.left.filter (fun v => unitGrove v != g.val)) x.leftClearings t ∧ others t ∧
      ∀ a, (∀ i, i < 4 → sramUnit a ≠ some (4 * g.val + i)) → sramUnit a ≠ some (1000 + g.val) → t.byte a = s.byte a)) ∧
  (∀ c : ClearingId, x.stage = 5 →
    (s.resetting (fun l => l == 1 || l == 2 || l == 6)).find? (fun b => (s.stand b).leftClearings.contains c) = some d →
    (s.clearing c.val).tags = [] → completesTo (.clearingReset c) s (fun t =>
      t.clearingState c.val = 4 ∧ (t.clearing c.val).issued = 0 ∧ left x.left (x.leftClearings.filter (fun v => v != c)) t ∧ others t ∧
      ∀ b, b < 192 → unknown t (3000 + 4608 * (c.val / 24) + 192 * (c.val % 24) + b))) ∧
  ((s.resetting (fun l => l == 3)).contains d = true → s.switch = none → (∀ c, (s.clearing c).tags = []) →
    completesTo (.standReset sd) s (fun t =>
      (∀ n, n ∈ s.grovesOf d → cleared t n) ∧ (∀ c, c ∈ s.clearingsOf d → t.clearingState c = 4) ∧ left [] [] t ∧ (t.stand d).resetDone = 3 ∧
      (∀ n i, n < 224 → n ∉ s.grovesOf d → i < 4 → t.tile (4 * n + i) = s.tile (4 * n + i)) ∧ others t)) ∧
  (s.computeDue 4 = true → s.switch = none → (∀ c, (s.clearing c).tags = []) → completesTo .computeReset s (fun t =>
    (∀ n, n < 224 → cleared t n) ∧ (∀ c, c < 96 → t.clearingState c = 4) ∧
    ∀ b, b < 8 → s.enabled b = true → (s.stand b).stuck = false → (t.stand b).stage = 6 ∧ (t.stand b).resetDone = 4)) ∧
  (s.computeDue 4 = false → exec .computeReset s = .next s) ∧
  (x.phase = .recovering → x.stage = 5 → s.ranger = .up → completesTo (.resetTimeout sd) s (fun t =>
    t.logSerial = s.logSerial + 1 ∧
    (x.level = 1 → x.left ≠ [] → t.stand d = { x with level := 2 } ∧ others t) ∧
    (x.level = 1 → x.left = [] → t.stand d = { x with level := 3 } ∧ others t) ∧
    (x.level = 2 ∨ x.level = 6 → t.stand d = { x with level := 3 } ∧ others t) ∧
    (x.level = 3 → s.enabled d = true → x.stuck = false → (t.stand d).level = 4 ∧ (t.stand d).stage = 5) ∧
    (x.level = 4 → s.bit 0xA001 1 16 = true → t.bit 0x3100 3 2 = true ∧ t.getF 0x3100 3 4 4 = 0) ∧
    (x.level = 4 → s.bit 0xA001 1 16 = false → ∀ b, b < 8 → s.enabled b = true → (t.stand b).phase = .fenced ∧ (t.stand b).stuck = true) ∧
    (x.level = 5 → t.wideMark 21 = true ∧ ∀ b, b < 8 → s.enabled b = true → (t.stand b).phase = .fenced ∧ (t.stand b).stuck = true)))

/-- RecoveryEnd (R37, R47, R437, R538, R539, R541, R547 to R549). The tests of stage 6 mark what fails; stage 7 restores frames and starts the
release of reset Clearings; stage 8 restores every persistent line from its newest committed copy and touches no other byte; the Stand then runs
its interrupted step again, one attempt later, or waits at its boundary, or is held for a lasting fault. Where the rules leave a point open it
follows the model's readings in log entries 45, 46 and 69. -/
def Obligations.RecoveryEnd : Prop := ∀ (s : State) (sd : StandId),
  let d := sd.val
  let x := s.stand d
  let others := fun (t : State) => ∀ b, b ≠ d → t.stand b = s.stand b
  (∀ failing, x.phase = .recovering → x.stage = 6 →
    s.tests.any (fun t => match t.unit with | .sramLine a => s.ownsByte d a | _ => false) = false →
    completesTo (.targetedSelfTest sd failing) s (fun t =>
      t.stand d = ({ x with unitFailed := x.unitFailed || (s.testedUnits d).any (fun u => failing.contains u) }).nextStage 7 ∧
      (∀ r, .tile r ∈ s.testedUnits d → failing.contains (.tile r) = true → t.tileFailed r.num = true) ∧
      (∀ g, .engine g ∈ s.testedUnits d → failing.contains (.engine g) = true → t.engineFailed g.val = true) ∧
      (∀ g, .stream g ∈ s.testedUnits d → failing.contains (.stream g) = true → t.groveFailed g.val = true) ∧
      (failing = [] → ∀ k, t.tileFailed k = s.tileFailed k) ∧ others t ∧ sameBytes s t)) ∧
  (x.phase = .recovering → x.stage = 7 → SMap.wf (fun _ => 0) s.shadow = true → SMap.wf (fun _ => 0) s.cfg = true →
    completesTo (.configRestore sd) s (fun t =>
      t.stand d = x.nextStage 8 ∧ t.shadow = s.shadow ∧
      (∀ n f, n ∈ s.resetGroves d ∨ (4 ≤ x.resetDone ∧ x.resetDone ≤ 5 ∧ n < 224 ∧ s.groveOwner n = none) →
        (groveFrames n).1 ≤ f → f < (groveFrames n).1 + 32 → SMap.get 0 t.cfg f = SMap.get 0 s.shadow f) ∧
      (∀ c, c ∈ s.resetClearings d → t.clearingState c = 2 ∧ (t.clearing c).issued = 0 ∧
        ∀ f, (clearingFrames c).1 ≤ f → f < (clearingFrames c).1 + 768 → SMap.get 0 t.cfg f = SMap.get 0 s.shadow f) ∧ others t)) ∧
  (x.phase = .recovering → x.stage = 8 →
    (s.resetClearings d).any (fun c => s.clearingState c == 2 || s.clearingState c == 4) = false → (s.inJob d = true → (s.job d).go = true) →
    completesTo (.mirrorRestore sd) s (fun t =>
      (∀ e k m, e ∈ s.persistEntries d → k < e.2.2 → s.bestSlot x.commitRec (e.2.1 + k) = some m →
        t.readNat (256 * (e.2.1 + k)) 256 = (s.mirrorSlot (e.2.1 + k) m).data.toNat) ∧
      (∀ a, s.persistLine d (a / 256) = false → t.byte a = s.byte a) ∧
      (x.unitFailed = false ∨ x.again = true → t.stand d = x.nextStage 9 ∧ others t) ∧
      (x.unitFailed = true → x.again = false → (s.func (d + 1)).flr = false → (t.stand d).phase = .held ∧ (t.stand d).fencedDies = 0))) ∧
  (x.phase = .recovering → x.stage = 9 → x.again = false → (s.func (d + 1)).flr = false → completesTo (.rejoin sd) s (fun t =>
    t.obj 0xA003 1 = s.obj 0xA003 1 + 1 ∧ (t.stand d).fencedDies = 0 ∧ (t.stand d).commitRec = x.commitRec ∧
    ((∀ n, n ∈ s.grovesOf d → s.groveFailed n = false) → others t) ∧
    (s.inJob d = true → (t.stand d).phase = .drained ∧ (t.job d).restored = true) ∧
    (s.inJob d = false → x.done = true → (t.stand d).phase = if x.applyDone then .applied else .committed) ∧
    (s.inJob d = false → x.done = false → x.current = none → (t.stand d).phase = .applied) ∧
    (∀ w, s.inJob d = false → x.done = false → x.current = some w →
      (t.stand d).current = some w ∧ (s.mayStep = true → (t.stand d).phase = .stepping ∧ (t.stand d).attempt = x.attempt + 1))))

/-- TestsAndMonitors (R42, R114, R163, R538, R539, R541, R561, R32, R33, R480, R542, R543, R552 to R554). A test runs where its owner waits; a
unit that fails is marked, and its Stand with UNIT_FAILED; one that passes an asked test is unmarked. The test's result ends the request and
nothing of memory is lost. A sample counts a unit without work as moving, and no other part of the state but the counts, the free values and the
records changes. A watchdog ends the sessions and empties the MAC's queue; a management reset brings Ranger back, counts itself and discards
nothing of the device. Where the rules leave a point open it follows the model's readings in log entries 4 and 69. -/
def Obligations.TestsAndMonitors : Prop :=
  (∀ (s : State) (pass : Bool),
    let failedNow := fun (t : State) (was : Bool) (o : Option Nat) => ∀ d, pass = false → was = false → o = some d →
      (t.stand d).unitFailed = true ∧ t.bit (0x6100 + 16 * d) 4 5 = true
    (∀ r : TileRef, let n := r.grove.val
      (s.asked 1 r.num = true ∨ s.bit (0x6200 + n) (16 * (r.tile.val + 1)) 0 = true) →
      s.testRuns n (s.tileFailed r.num) (s.asked 1 r.num) = true →
      completesTo (.tileSelfTest r pass) s (fun t =>
        t.tile r.num = Tile.reset ∧ t.bit (0x6200 + n) (16 * (r.tile.val + 1)) 0 = false ∧ (pass = false → t.tileFailed r.num = true) ∧
        (pass = true → s.asked 1 r.num = true → t.failedBit 0 r.num = false ∧ t.selfTest = none) ∧
        failedNow t (s.tileFailed r.num) (s.groveOwner n) ∧ sameBytes s t)) ∧
    (∀ g : GroveId, let n := g.val
      (s.asked 2 n = true ∨ s.bit (0x6200 + n) 0x50 0 = true) → s.testRuns n (s.engineFailed n) (s.asked 2 n) = true →
      completesTo (.engineSelfTest g pass) s (fun t =>
        (∀ i, i < 4 → t.ctx (4 * n + i) = Context.reset) ∧ t.bit (0x6200 + n) 0x50 0 = false ∧ (pass = false → t.engineFailed n = true) ∧
        (pass = true → s.asked 2 n = true → t.failedBit 14 n = false ∧ t.selfTest = none) ∧
        failedNow t (s.engineFailed n) (s.groveOwner n) ∧ sameBytes s t)) ∧
    (∀ g : GroveId, let n := g.val
      s.asked 3 n = true → s.testRuns n (s.groveFailed n) true = true → completesTo (.streamEngineTest g pass) s (fun t =>
        t.groveFailed n = !pass ∧ t.selfTest = none ∧ t.getF 0xA001 2 28 2 = (if pass then 1 else 2) ∧ t.bit 0xA001 2 31 = false ∧
        failedNow t (s.groveFailed n) (s.groveOwner n) ∧ sameBytes s t)) ∧
    (∀ addr : BitVec 44, let a := 256 * (addr.toNat / 256)
      let o := (List.range 8).find? (fun d => s.ownsByte d a)
      s.hasTest (.sramLine a) = true → s.mayTest o = true → sramSound s → sramUnit a ≠ none → completesTo (.sramLineTest addr pass) s (fun t =>
        t.hasTest (.sramLine a) = false ∧ (pass = false → t.wordFailed (addr.toNat / 8) = true) ∧ failedNow t false o ∧ sameBytes s t)) ∧
    (∀ addr : BitVec 44, let a := 256 * (addr.toNat / 256)
      let k := (stackMap a).stack
      s.hasTest (.dramLine a) = true → (s.stack k).poison.length < 256 → completesTo (.dramLineTest addr pass) s (fun t =>
        t.hasTest (.dramLine a) = false ∧ (pass = false → SMap.get 0 (t.stack k).poison (a / 256) = 2) ∧ (pass = true → t.rootStacks = s.rootStacks) ∧
        t.reports = s.reports)) ∧
    (∀ (k : StackId) (pc : PcId), s.hasTest (.dramLink k.val pc.val) = true → completesTo (.dramLinkTest k pc pass) s (fun t =>
      t.hasTest (.dramLink k.val pc.val) = false ∧ sameBytes s t ∧
      t.reports = if pass then s.reports else s.reports ++ [mkReport .stkFail (k.val / 2) none .none k.val 0])) ∧
    (∀ (r : RouterId) (o : OutPort), s.hasTest (.netLink r.val (portNum o)) = true ∨ s.asked 5 (6 * r.val + portNum o) = true →
      completesTo (.networkLinkTest r o pass) s (fun t =>
        t.hasTest (.netLink r.val (portNum o)) = false ∧ t.linkFailed r.val (portNum o) = !pass ∧ sameBytes s t)) ∧
    (∀ r : RouterId, s.hasTest (.router r.val) = true ∨ s.asked 4 r.val = true → completesTo (.routerTest r pass) s (fun t =>
      t.hasTest (.router r.val) = false ∧ (pass = false → t.failedBit 24 r.val = true) ∧
      (pass = true → s.asked 4 r.val = true → t.failedBit 24 r.val = false))) ∧
    (∀ (f : BitVec 32) k logs, s.tests = [⟨.frame f.toNat k, logs⟩] →
      (pass = true → k < 2 → exec (.frameReread f pass) s = .next { s with tests := [⟨.frame f.toNat (k + 1), logs⟩] }) ∧
      (pass = true → 2 ≤ k → completesTo (.frameReread f pass) s (fun t => t.tests = [] ∧ t.stands = s.stands)) ∧
      (pass = false → f.toNat / 2 ^ 23 % 128 < 24 → completesTo (.frameReread f pass) s (fun t => t.tests = [] ∧
        t.failedBit 22 (24 * (f.toNat / 2 ^ 30) + f.toNat / 2 ^ 23 % 128) = true)))) ∧
  (∀ (s : State),
    (∀ d : DieId, s.wideMark (12 + d.val) = false → completesTo (.hangSample d) s (fun t =>
      SMap.get 0 t.stewards d.val = 0 ∧
      (∀ g, g < 56 → (s.groveOwner (56 * d.val + g)).isSome = true →
        (s.engineBusy (56 * d.val + g) = false → SMap.get 0 t.stalls (1000 + (56 * d.val + g)) = 0) ∧
        (s.streamBusy (56 * d.val + g) = false → SMap.get 0 t.stalls (2000 + (56 * d.val + g)) = 0)) ∧
      (∀ k, SMap.get 0 t.stalls k ≤ SMap.get 0 s.stalls k + 1) ∧
      t = { s with stewards := t.stewards, stalls := t.stalls, free := t.free, reports := t.reports })) ∧
    (s.ranger = .up ∨ s.ranger = .handoff → completesTo .rangerWatchdog s (fun t =>
      (∀ k c, k < 4 → SMap.get [] t.rx (3 * managementNode k + c) = [] ∨ 3 ≤ c) ∧
      (∀ k i, k < 4 → i < 128 → t.outstAt (managementNode k) i = none) ∧ sameBytes s t ∧ t.stands = s.stands ∧
      t = { s with ranger := .down, sessions := [], halfOpen := [], rxFrames := [], watchdog := true, rx := t.rx, fifos := t.fifos,
                   outst := t.outst, treeSent := t.treeSent })) ∧
    (s.ranger = .down → s.heldRecords = [] → s.heldBar0 = [] → (∀ d, d < 8 → (s.stand d).phase ≠ .fenced) → completesTo .managementReset s (fun t =>
      t.ranger = (if s.imageState = 5 then .handoff else .up) ∧ t.watchdog = false ∧
      t.getF 0xA003 3 0 32 = (s.getF 0xA003 3 0 32 + 1) % 2 ^ 32 ∧ t.logSerial = s.logSerial + (if s.watchdog then 1 else 0) ∧
      sameBytes s t ∧ t.stands = s.stands)))

/-! ## Memory and the network -/

/-- CheckCodes (R262, R266, R336, R338, R339). The column codes and the check bits of SRAM and of the stacks, and what a read finds for every
syndrome: which bit is corrected, and which checked error is reported. What a lane's coding makes of blocks, bits and symbols, the receiving
side undoes. -/
def Obligations.CheckCodes : Prop := (sramColumns = (List.range 256).filter (fun x => popCount 8 x == 3) ++ [0x1F, 0x2F, 0x37, 0x3B, 0x3D, 0x3E, 0x4F, 0x57] ∧
    sramColumns.length = 64 ∧
    (∀ (w : U64) j, j < 8 → (sramEncode w).testBit j =
      decide (((List.range 64).filter (fun i => bitOf w i && (sramColumns.getD i 0).testBit j)).length % 2 = 1)) ∧
    (∀ (w : U64) (c : Nat), c < 256 →
      let syn := sramEncode w ^^^ c
      (syn = 0 → sramCheckWord w c = .ok) ∧
      (∀ i, i < 64 → syn = sramColumns.getD i 0 → sramCheckWord w c = .corrected (w ^^^ BitVec.ofNat 64 (2 ^ i))) ∧
      (∀ j, j < 8 → syn = 2 ^ j → sramCheckWord w c = .corrected w) ∧
      (syn ≠ 0 → (∀ i, i < 64 → syn ≠ sramColumns.getD i 0) → (∀ j, j < 8 → syn ≠ 2 ^ j) → sramCheckWord w c = .uncorrectable)) ∧
    (∀ (s : State) (w : Nat) (who : Option Nat) (e : Bool), s.wordFailed w = false → s.stewardOut (sramDie (8 * w)) = false →
      let t := s.touchSram w who e
      (s.sramFinding w = .ok → t = (s, false)) ∧
      (∀ v, s.sramFinding w = .corrected v → t.2 = false ∧ s.sramRead w = v ∧
        t.1.reports = s.reports ++ [mkReport .sramCe (sramDie (8 * w)) who .sramWord 0 (8 * w)]) ∧
      (s.sramFinding w = .uncorrectable → t.2 = true ∧
        t.1.reports = s.reports ++ [{ mkReport .sramUe (sramDie (8 * w)) who .sramWord 0 (8 * w) with byEngine := e }]))) ∧
  (stackPositions.length = 256 ∧ stackPositions.Pairwise (· < ·) ∧ (∀ p, p ∈ stackPositions ↔ 3 ≤ p ∧ p ≤ 265 ∧ ∀ k, k < 9 → p ≠ 2 ^ k) ∧
    (∀ (w : BitVec 256) (line : Nat), line < 2 ^ 36 →
      let c := stackEncode w line
      c < 2 ^ 16 ∧
      (∀ k, k < 9 → c.testBit k =
        decide (((List.range 256).filter (fun i => bitOf w i && (stackPositions.getD i 0).testBit k)).length % 2 = 1)) ∧
      c.testBit 9 = (parity 256 w.toNat != parity 9 c) ∧
      c / 1024 = line % 64 ^^^ line / 2 ^ 6 % 64 ^^^ line / 2 ^ 12 % 64 ^^^ line / 2 ^ 18 % 64 ^^^ line / 2 ^ 24 % 64 ^^^ line / 2 ^ 30 % 64) ∧
    (∀ (w : BitVec 256) (c line : Nat), c < 2 ^ 16 → line < 2 ^ 36 →
      let syn := (stackEncode w line ^^^ c) % 512
      let odd := parity 256 w.toNat != parity 10 c
      if c / 1024 ≠ stackEncode w line / 1024 then stackCheckWord w c line = .wrongAddress
      else
        (syn = 0 → odd = false → stackCheckWord w c line = .ok) ∧
        (syn = 0 → odd = true → stackCheckWord w c line = .corrected w) ∧
        (∀ i, i < 256 → syn = stackPositions.getD i 0 → odd = true →
          stackCheckWord w c line = .corrected (w ^^^ BitVec.ofNat 256 (2 ^ i))) ∧
        (∀ k, k < 9 → syn = 2 ^ k → odd = true → stackCheckWord w c line = .corrected w) ∧
        (syn ≠ 0 → odd = false → stackCheckWord w c line = .uncorrectable) ∧
        (265 < syn → stackCheckWord w c line = .uncorrectable)) ∧
    (∀ (s : State) (w : Nat) (who : Option Nat), s.poisoned (w / 8) = false → s.stewardOut ((stackMap (32 * w)).stack / 2) = false →
      let t := s.touchStack w who
      let rep := fun e => s.reports ++ [mkReport e ((stackMap (32 * w)).stack / 2) who .stackLine 0 (32 * w)]
      (s.stackFinding w = .ok → t = (s, false)) ∧
      (∀ v, s.stackFinding w = .corrected v → t.2 = false ∧ t.1.reports = rep .stkCe) ∧
      (s.stackFinding w = .uncorrectable → t.2 = true ∧ t.1.reports = rep .stkUe) ∧
      (s.stackFinding w = .wrongAddress → t.2 = true ∧ t.1.reports = rep .stkAddr))) ∧
  -- a link's coding pipeline: what is sent is what is received
  ((∀ (tail : BitVec 58) (control : Bool) (payload : U64), let r := blockLine tail control payload
      r.2.length = 66 ∧
      lineBlock tail (BitVec.ofNat 66 (ofBitsLsb r.2)) = (r.1, if control then .control else .data, payload)) ∧
    (∀ (b : BitVec 66) (tail : BitVec 58), b.toNat % 4 = 0 ∨ b.toNat % 4 = 3 → (lineBlock tail b).2.1 = .invalid) ∧
    (∀ (precode : Bool) (y : Nat) (l : List Bool), y < 4 → l.length % 2 = 0 → let r := levelCodes precode y l
      (∀ c, c ∈ r.1 → c < 4) ∧ levelBits precode y r.1 = (l, r.2)) ∧
    (∀ msg : List Nat, msg.length = 514 → (rsEncode msg).length = 544 ∧ (rsEncode msg).take 514 = msg) ∧
    (∀ l : List Nat, (∀ c, c ∈ l → c < 1024) → symbolsOf l.length (symbolBits l) = l))

/-- SramCodesService (R262, R266, R263, R264). An SRAM word reads as it was written; one wrong bit of its data or check bits is corrected, two
wrong data bits are uncorrectable. A stack word reads as it was written, a wrong data bit is corrected, and a word read under another address
field is refused. A corrected word is written back with sound check bits; the patrol reads the next place of its unit, reports what it finds, and
wraps at the end. Where the rules leave a point open it follows the model's readings in log entry 17. -/
def Obligations.SramCodesService : Prop :=
  ((∀ w : U64, sramCheckWord w (sramEncode w) = .ok ∧
      (∀ i, i < 64 → sramCheckWord (w ^^^ BitVec.ofNat 64 (2 ^ i)) (sramEncode w) = .corrected w) ∧
      (∀ i, i < 8 → sramCheckWord w (sramEncode w ^^^ 2 ^ i) = .corrected w) ∧
      (∀ i j, i < j → j < 64 → sramCheckWord (w ^^^ BitVec.ofNat 64 (2 ^ i) ^^^ BitVec.ofNat 64 (2 ^ j)) (sramEncode w) = .uncorrectable)) ∧
    (∀ (w : BitVec 256) (line : Nat), stackCheckWord w (stackEncode w line) line = .ok ∧
      (∀ i, i < 256 → stackCheckWord (w ^^^ BitVec.ofNat 256 (2 ^ i)) (stackEncode w line) line = .corrected w) ∧
      (∀ line', stackAddrField line' ≠ stackAddrField line → stackCheckWord w (stackEncode w line) line' = .wrongAddress))) ∧
  (∀ (s : State),
    (∀ (addr : BitVec 44) v, SMap.get false s.writeBack (addr.toNat / 8) = true → s.sramFinding (addr.toNat / 8) = .corrected v →
      completesTo (.sramWriteBack addr) s (fun t =>
        t.sramFinding (addr.toNat / 8) = .ok ∧ t.sramData (addr.toNat / 8) = v ∧ SMap.get false t.writeBack (addr.toNat / 8) = false ∧
        sameBytesBut s t (8 * (addr.toNat / 8)) 8 ∧ t.reports = s.reports ∧ t.dict = s.dict)) ∧
    (∀ u : PatrolUnit, (∀ d, u ≠ .shadow d) → let g := patrolGeometry u
      let pos := SMap.get 0 s.patrol g.1
      s.badSram (g.2.1 + pos * g.2.2.2) g.2.2.2 = [] →
        exec (.sramPatrol u) s = .next { s with patrol := SMap.set 0 s.patrol g.1 ((pos + 1) % (g.2.2.1 / g.2.2.2)) }) ∧
    (∀ (d : DieId) w v, let n := 30000 + d.val
      let pos := SMap.get 0 s.patrol n
      let f := 20480 * d.val + pos
      let next := SMap.set 0 s.patrol n ((pos + 1) % 20480)
      let l := frameFindings (SMap.get 0 s.shadow f) (fun i => SMap.get 0 s.shadowDiff (128 * f + i))
      (allGood l = true → exec (.sramPatrol (.shadow d)) s = .next { s with patrol := next }) ∧
      (w < 128 → l[w]? = some (.corrected v) → completesTo (.sramPatrol (.shadow d)) s (fun t =>
        fld (SMap.get 0 t.shadow f) (64 * w) 64 = v.toNat ∧ SMap.get 0 t.shadowDiff (128 * f + w) = 0 ∧
        (∀ g, g ≠ f → SMap.get 0 t.shadow g = SMap.get 0 s.shadow g) ∧
        t = { s with shadow := t.shadow, shadowDiff := t.shadowDiff, patrol := next }))) ∧
    (∀ (u : PatrolUnit) w v, (∀ d, u ≠ .shadow d) → s.stewardOut (sramDie (8 * w)) = false → let g := patrolGeometry u
      let pos := SMap.get 0 s.patrol g.1
      s.badSram (g.2.1 + pos * g.2.2.2) g.2.2.2 = [w] → s.wordFailed w = false → s.sramFinding w = .corrected v →
        completesTo (.sramPatrol u) s (fun t =>
          SMap.get false t.writeBack w = true ∧ t.reports = s.reports ++ [mkReport .sramCe (sramDie (8 * w)) none .sramWord 0 (8 * w)] ∧
          SMap.get 0 t.patrol g.1 = (pos + 1) % (g.2.2.1 / g.2.2.2) ∧ sameBytes s t)))

/-- StackControl (R268, R270 to R277, R279, R293). A request enters its bank's queue where that has room; the scheduler opens the row of a lone
request and serves it from an open row, counting one cycle; a refresh closes every row and takes the buffered objects; a reduction rounds once
into its element and leaves every other byte. Where the rules leave a point open it follows the model's readings in log entries 18 and 94. -/
def Obligations.StackControl : Prop := ∀ (s : State) (k : StackId) (pc : PcId),
  let kk := k.val
  let x := s.stack kk
  let p := x.pchan pc.val
  let put := fun (q : PChan) => s.setStack kk (x.setPchan pc.val q)
  (∀ r rest, x.port = r :: rest → ∀ code, (r.cls = 7 ∧ code = codeFormat) ∨
      (r.cls < 4 ∧ regionOf r.addr = .mirror ∧ code = codeReserved) →
    exec (.stackRequest k) s = .next ((s.setStack kk { x with port := rest }).respondError (reqNode r) (reqFlit r) code 0)) ∧
  (∀ r rest, x.port = r :: rest → r.cls < 7 → (regionOf r.addr = .mirror → 4 ≤ r.cls) →
    let loc := stackMap r.addr
    let q := SMap.get [] (x.pchan loc.pc).queues (bankIndex loc)
    (8 ≤ q.length → exec (.stackRequest k) s = .next s) ∧
    (q.length < 8 → completesTo (.stackRequest k) s (fun t =>
      (t.stack kk).port = rest ∧
      SMap.get [] ((t.stack kk).pchan loc.pc).queues (bankIndex loc) = q ++ [r] ∧
      (∀ j, j ≠ kk → t.stack j = s.stack j) ∧ t = { s with rootStacks := t.rootStacks }))) ∧
  (∀ bad, p.cycle + 1 < p.busyUntil ∨ p.queues = [] → exec (.dramSchedule k pc bad) s = .next (put { p with cycle := p.cycle + 1 })) ∧
  (∀ b r bad, p.busyUntil ≤ p.cycle + 1 → p.queues = [(b, [r])] → p.history = [] → r.write = false → p.batch = 0 →
    ownEngine kk r = false →
    let h : DramCmd → List DramIssue := fun c => [⟨p.cycle + 1, c, b⟩]
    (SMap.get 0 p.rows b = 0 → exec (.dramSchedule k pc bad) s = .next (put { p with
      cycle := p.cycle + 1, history := h .act, rows := SMap.set 0 p.rows b ((stackMap r.addr).row + 1), pointer := (pointerOf b + 1) % 48,
      runs := SMap.set 0 p.runs b 0 })) ∧
    (SMap.get 0 p.rows b = (stackMap r.addr).row + 1 → r.bursts ≤ 1 → bad = false → exec (.dramSchedule k pc bad) s = .next ((put { p with
      cycle := p.cycle + 1, history := h .rd, queues := [], runs := SMap.set 0 ([] : SMap Nat) b (SMap.get 0 p.runs b + 1) }).finishReq r))) ∧
  exec (.shareWindow k) s = .next (s.setStack kk { x with served := [] }) ∧
  (∀ lo hi, s.getF (0x8020 + kk) 2 0 2 ≠ 0 → s.refreshOff = false → p.queues = [] →
    (∀ j, SMap.get none s.accepted j = none) → (∀ i, i < 18 → SMap.get none x.learned (2 * (9 * pc.val + i / 2) + i % 2) = none) →
    fld (s.inWindow kk pc.val (0x8020 + kk) 1 0) 0 2 = 0 → exec (.refresh k pc lo hi) s = .next (put { p with
      busyUntil := max p.cycle p.busyUntil + (1 + p.postponed) * s.dramT kk pc.val 18, postponed := 0, rows := [], runs := [] })) ∧
  (∀ lo hi v, s.getF (0x8020 + kk) 2 0 2 ≠ 0 → s.refreshOff = false → p.queues = [] →
    let key := objKey 0 (0x8020 + kk) 1 0
    SMap.get none s.accepted key = some v → completesTo (.refresh k pc lo hi) s (fun t =>
      (bitOf v 26 = false → t.inWindow kk pc.val (0x8020 + kk) 1 0 = v) ∧ ((t.stack kk).pchan pc.val).rows = [] ∧
      (bitOf v 25 = true → fld v 16 9 / 9 = pc.val → bitOf (s.inWindow kk pc.val (0x8020 + kk) 1 0) 25 = false →
        2 * fld v 16 9 ∈ (t.stack kk).relearn ∧ 2 * fld v 16 9 + 1 ∈ (t.stack kk).relearn ∧ t.bit (0x8020 + kk) 2 3 = true) ∧
      (bitOf v 26 = true → (∀ c, c < 32 → c ≠ pc.val → SMap.get 0 s.windowTaken (256 * key + 32 * kk + c) = 1) →
        t.getF (0x8020 + kk) 2 0 2 = 1 ∧ t.obj (0x8020 + kk) 1 = setBit v 26 false ∧ t.waitingValue key = none))) ∧
  (∀ q : Reduction, let size := (opxFmt q.opx.toNat).width / 8
    let a := q.addr.toNat / size * size
    let y := reduceValue q.opx.toNat (s.readNat a size) (q.value.toNat % 256 ^ size)
    regionOf a = .stackUser → (stackMap a).stack = kk → (opxOp q.opx.toNat = 1 ∨ opxOp q.opx.toNat = 2) → s.accessCode none a size = 0 →
    s.stackDiffAt (a / 32) = 0 → s.poisoned (a / 256) = false → s.drainLines a size = s → completesTo (.stackReduction k q) s (fun t =>
      t.readNat a size = y.bits % 256 ^ size ∧ sameBytesBut s t a size ∧ t.dict = s.dict ∧ t.reports = s.reports)) ∧
  completesTo (.datapathSlice k) s (fun t =>
    (∃ turn slice, t.stack kk = { x with turn := turn, sliceGroup := slice }) ∧
    ((∃ q, q < 8 ∧ x.nmQueue q ≠ []) → x.nmQueue (t.stack kk).turn ≠ []) ∧ (∀ j, j ≠ kk → t.stack j = s.stack j) ∧ t = { s with rootStacks := t.rootStacks })

/-- StackTrainingAndCopies (R214, R246, R260, R280 to R284, R286, R289). Training that every lane passes leaves the stack in STATE 2 with every
byte 0, else in STATE 3; a relearned setting waits for the next refresh; a fill writes 0 over its range and nothing else; a command of a
near-memory engine leaves its queue with an answer; a staged copy reads its whole source into the staging buffer first. Where the rules leave a
point open it follows the model's readings in log entries 30 and 61. -/
def Obligations.StackTrainingAndCopies : Prop := ∀ (s : State) (k : StackId),
  let kk := k.val
  let x := s.stack kk
  (∀ res : List LaneSweep, s.booted = true → s.getF (0x8020 + kk) 2 0 2 < 2 →
    let ok := (List.range 288).all (fun l => match res.find? (fun y => y.lane.val == l) with
      | some y => (trainLane y.readPass).isSome && (trainLane y.writePass).isSome
      | none => false)
    completesTo (.stackTraining k res) s (fun t =>
      t.getF (0x8020 + kk) 2 0 2 = (if ok then 2 else 3) ∧ (ok = false → t.bit (0x8020 + kk) 2 11 = true ∧ sameBytes s t) ∧
      (ok = true → ∀ a, isStack a = true → (stackMap a).stack = kk → t.byte a = 0) ∧
      ∀ a, ¬(isStack a = true ∧ (stackMap a).stack = kk) → t.byte a = s.byte a)) ∧
  (∀ rows e rest, x.relearn = e :: rest → completesTo (.relearnComplete k rows) s (fun t =>
    (t.stack kk).relearn = rest ∧ t.bit (0x8020 + kk) 2 3 = (if rest = [] then false else s.bit (0x8020 + kk) 2 3) ∧
    (match trainLane rows with
     | some r => SMap.get none (t.stack kk).learned e = some r ∧ t.reports = s.reports
     | none => t.bit (0x8020 + kk) 2 11 = true ∧ t.reports = s.reports ++ [mkReport .stkTrain (kk / 2) none .none kk 0]) ∧ sameBytes s t)) ∧
  (∀ (base : BitVec 44) (len : BitVec 64), let a := base.toNat
    let n := len.toNat
    let inside := fun b => match regionOf b with | .stackUser => true | .understory _ => true | _ => false
    0 < n → inside a = true → inside (a + n - 1) = true → s.getF (0x8020 + kk) 2 0 2 = 2 →
    completesTo (.fill k base len) s (fun t =>
      (∀ c, a ≤ c → c < a + n → t.byte c = 0) ∧ sameBytesBut s t a n ∧ (∀ d, (s.stand d).fills = [(a, n)] → d < 8 → (t.stand d).fills = []) ∧
      t.dict = s.dict)) ∧
  (∀ (q : SlotIx) opc c rest ext, x.nmQueue q.val = c :: rest → nmOpc c.record = opc → (opc = 1 ∨ opc = 2) → x.served? = some q.val →
    let sd := nmStand c.record
    let f : Flit := { route := 0, kind := 7, src := c.node, stand := some (Fin.ofNat 8 sd), cls := 5, run := 0, opx := 0,
                      txn := BitVec.ofNat 7 c.txn, addr := BitVec.ofNat 57 (c.group * 2 ^ 44), data := 0 }
    let cmd : Instr := if opc = 1 then .reshape k q else .stagedCopy k q ext
    -- the command leaves its slot and the staging buffer, and is answered
    let answered := fun (u : State) (code : Nat) =>
      let y := u.stack kk
      let v := u.setStack kk { y with
        nm := SMap.set [] y.nm q.val ((y.nmQueue q.val).drop 1), staging := y.staging.filter (fun g => g.slot != q.val) }
      if code = 0 then v.respond (stackNode kk 0) f 5 0 0 else v.respondError (stackNode kk 0) f code 0
    (c.descs = none → ∀ code, code ≠ 0 → (s.readNow (some sd) (fld c.record 64 64) 192).2.2 = code →
      completesTo cmd s (fun t => (t.stack kk).nmQueue q.val = rest ∧ ∃ u, t = answered u code)) ∧
    (∀ u ds dd, s.nmDescs c = (u, ds, dd, 0) → dMulti ds = false → dMulti dd = false →
      let es := extentsAt ds (0, 0, 0)
      let copied := fun (given : Option (Nat → Byte)) =>
        let r := u.copyTensor ⟨stackNode kk 0, some sd, given⟩ (sd + 1) ds dd es (extentsAt dd (0, 0, 0)) (fld c.record 0 24)
          (fld c.record 44 2) (bitOf c.record 43) (fun i d => u.nmDraw kk q.val sd i d) []
        answered (r.1.raiseStreamFlags (nmGrove c.record) (nmSlot c.record) r.2.2.1) r.2.2.2
      (opc = 1 → exec cmd s = .next (copied none)) ∧
      (∀ g, opc = 2 → x.staging = some g →
        (g.slot = q.val → exec cmd s = .next (copied (some (fun a => ((g.cells.find? (fun e => e.1 == a)).map (fun e => e.2)).getD 0)))) ∧
        (g.slot ≠ q.val → exec cmd s = .next s)) ∧
      (opc = 2 → x.staging = none → dSpace ds = 1 → ext = .error →
        exec cmd s = .next (answered (u.ifaceEvent pcieNode codeHost 0) codeHost)) ∧
      (∀ a n v bytes, opc = 2 → x.staging = none → dSpace ds ≠ 1 → tensorPieces ds es = [(a, n)] →
        u.readNow (some sd) a n = (v, bytes, 0) → exec cmd s =
          .next (v.setStack kk { v.stack kk with staging := some ⟨q.val, (List.range n).map (fun i => (a + i, bytes.getD i 0))⟩ })))) ∧
  (∀ (q : SlotIx) c rest ext, x.nmQueue q.val = c :: rest → x.served? ≠ some q.val →
    exec (.reshape k q) s = .next s ∧ exec (.stagedCopy k q ext) s = .next s)

/-- RouterHops (R302, R306, R309, R310, R312, R322, R323). A flit leaves its input for the output that its route names, with that hop used up, where the next
buffer has room and its turn has come, and the turn passes on; else it stays. A flit with a parity mismatch is discarded and reported. A route that names
no output is discarded and reported. Three mismatches are replayed; the fourth fails the link that feeds the input. Where the rules leave a point open it follows the model's readings in log entries 18 and 36. -/
def Obligations.RouterHops : Prop := ∀ (s : State) (r : RouterId) (i : OutPort) (ch : Channel) (f : Flit) (rest : List Flit),
  let rr := r.val
  let c := chanNum ch
  let key := fifoKey rr (portNum i) c
  let took : State := { s.setFifo rr (portNum i) c rest with mismatches := SMap.set 0 s.mismatches key 0 }
  let turn := fun (o : OutPort) => s.turnOf rr (portNum o) = some (3 * portNum i + c)
  let passed := fun (o : OutPort) (t : State) => SMap.get 0 t.turns (6 * rr + portNum o) = (3 * portNum i + c + 1) % 18
  s.fifo rr (portNum i) c = f :: rest →
  (∀ o g m, f.kind ≠ 0xA → routeStep i f = some (o, g) → neighbour rr o = some m → s.linkFailed rr (portNum o) = false →
    (turn o → completesTo (.routerHop r i ⟨ch, false⟩) s (fun t => passed o t ∧
      t.fifo m (portNum (oppositePort o)) c = s.fifo m (portNum (oppositePort o)) c ++ [g] ∧ t.fifo rr (portNum i) c = rest ∧
      (∀ q, q ≠ key → q ≠ fifoKey m (portNum (oppositePort o)) c → SMap.get [] t.fifos q = SMap.get [] s.fifos q) ∧
      t = { s with fifos := t.fifos, mismatches := t.mismatches, turns := t.turns })) ∧
    ((∀ k, k < 18 → s.asksFor rr (portNum o) (k / 3) (k % 3) = true → k = 3 * portNum i + c) →
      (s.fifo m (portNum (oppositePort o)) c).length < 8 → turn o) ∧
    (¬turn o → exec (.routerHop r i ⟨ch, false⟩) s = .next s) ∧
    (8 + (if routerDie m = routerDie rr then 0 else bridgeDepth c) ≤ (s.fifo m (portNum (oppositePort o)) c).length → ¬turn o)) ∧
  (∀ o g node, f.kind ≠ 0xA → routeStep i f = some (o, g) → neighbour rr o = none → localNode rr o = some node →
    s.linkFailed rr (portNum o) = false → turn o → completesTo (.routerHop r i ⟨ch, false⟩) s (fun t => passed o t ∧
      t.rxQueue node c = s.rxQueue node c ++ [g] ∧ t.fifo rr (portNum i) c = rest ∧
      t = { s with fifos := t.fifos, rx := t.rx, mismatches := t.mismatches, turns := t.turns })) ∧
  (f.kind ≠ 0xA → (routeStep i f = none ∨ ∃ o g, routeStep i f = some (o, g) ∧ neighbour rr o = none ∧ localNode rr o = none) →
    exec (.routerHop r i ⟨ch, false⟩) s = .next (took.routerError rr .netRoute f)) ∧
  exec (.routerHop r i ⟨ch, true⟩) s = .next (took.routerError rr .netParity f) ∧
  (∀ o outs, f.kind = 0xA → s.branchOutputs rr f = o :: outs → turn o → completesTo (.routerHop r i ⟨ch, false⟩) s (fun t =>
    passed o t ∧ t = { (o :: outs).foldl (fun s o => s.putOut rr o c f) took with turns := t.turns })) ∧
  (f.kind = 0xA → s.branchOutputs rr f = [] → exec (.routerHop r i ⟨ch, false⟩) s = .next took) ∧
  (SMap.get 0 s.mismatches key < 3 → completesTo (.linkReplay r i ch) s (fun t =>
    SMap.get 0 t.mismatches key = SMap.get 0 s.mismatches key + 1 ∧ t.obj (0x6600 + rr) 2 = s.obj (0x6600 + rr) 2 + 1 ∧ t.fifos = s.fifos ∧
    t = { s with mismatches := t.mismatches, dict := t.dict })) ∧
  (3 ≤ SMap.get 0 s.mismatches key → completesTo (.linkReplay r i ch) s (fun t =>
    t.linkFailed (feederOf rr i).1 (feederOf rr i).2 = true ∧ (∀ j, j < 3 → t.fifo rr (portNum i) j = []) ∧
    t.reports = s.reports ++ [mkReport .netLink (routerDie rr) (f.stand.map (fun d => d.val)) .link (6 * (feederOf rr i).1 + (feederOf rr i).2) 0] ∧
    SMap.get 0 t.mismatches key = 0))

/-- Requests (R235, R240, R289, R304, R313, R314, R316, R319, R321). A request that its interface refuses is answered with the error's code and
changes no memory but the bytes that a REGION_BUSY leaves open; one whose answer has no buffer waits; a grove's read answers the bytes read, its write stores exactly the enabled bytes and is acknowledged; a SIGNAL adds to its
counter; a COMMAND joins its queue; a DETACH and a detached member's MC_WRITE are as R314 says. Where the rules leave a point open it follows the
model's readings in log entries 19 and 95. -/
def Obligations.Requests : Prop := ∀ (s : State) (n : NodeId) (f : Flit) (rest : List Flit),
  let node := n.val
  let u := s.setRx node 0 rest
  let a := f.addr.toNat % 2 ^ 44
  let c := u.refuses node f
  let direct := ∀ k, attachOf node = .clearing k → ∃ t, t < 64 ∧ SMap.get none (SMap.get Clearing.reset s.clearings k).tags t = none
  s.rxQueue node 0 = f :: rest → direct →
  (s.canReserve node f = false → exec (.readReq n) s = .next s ∧ exec (.write n) s = .next s ∧ exec (.writeMasked n) s = .next s ∧
    exec (.signal n) s = .next s ∧ exec (.command n) s = .next s ∧ exec (.detach n) s = .next s) ∧
  (c.1 = codeBusy → f.kind = 3 → s.canReserve node f = true → completesTo (.write n) s (fun t =>
    t.rxQueue node 0 = rest ∧ sameBytesBut s t (a / 128 * 128) 128)) ∧
  (s.canReserve node f = true → c.1 ≠ 0 → c.1 ≠ codeBusy →
    (f.kind = 1 → exec (.readReq n) s = .next (u.respondError node f c.1 c.2)) ∧
    (f.kind = 3 → exec (.write n) s = .next (u.respondError node f c.1 c.2)) ∧
    (f.kind = 4 → exec (.writeMasked n) s = .next (u.respondError node f c.1 c.2)) ∧
    (f.kind = 6 → exec (.signal n) s = .next (u.respondError node f c.1 c.2)) ∧
    (f.kind = 7 → exec (.command n) s = .next (u.respondError node f c.1 c.2)) ∧
    (f.kind = 9 → exec (.detach n) s = .next (u.respondError node f c.1 c.2))) ∧
  (∀ g, attachOf node = .grove g → s.canReserve node f = true → c.1 = 0 → sramSound s → isStack a = false →
    (f.kind = 1 → f.opx.toNat % 4 = 0 → u.accessCode (flitStand f) (a / 128 * 128) 128 = 0 →
      exec (.readReq n) s = .next (u.respond node f 2 (a / 128 * 128) (BitVec.ofNat 1024 (s.readNat (a / 128 * 128) 128)))) ∧
    (f.kind = 3 → f.part = 0 → opxOp f.opx.toNat = 0 → u.accessCode (flitStand f) (a / 128 * 128) 128 = 0 → completesTo (.write n) s (fun t =>
      t.readNat (a / 128 * 128) 128 = f.data.toNat ∧ sameBytesBut s t (a / 128 * 128) 128 ∧ t.rxQueue node 0 = rest ∧ t.stands = s.stands)) ∧
    (f.kind = 4 → opxOp f.opx.toNat = 0 → u.accessCode (flitStand f) (a / 64 * 64) 64 = 0 → completesTo (.writeMasked n) s (fun t =>
      (∀ i, i < 64 → t.byte (a / 64 * 64 + i) =
        if bitOf f.data (512 + i) then BitVec.ofNat 8 (fld f.data (8 * i) 8) else s.byte (a / 64 * 64 + i)) ∧
      sameBytesBut s t (a / 64 * 64) 64 ∧ t.rxQueue node 0 = rest ∧ t.stands = s.stands)) ∧
    (∀ ctr, f.kind = 6 → waitCounter g (fld f.data 0 16) = some ctr → s.token g ctr + fld f.data 16 32 ≤ 0xFFFFFFFF →
      completesTo (.signal n) s (fun t => t.token g ctr = s.token g ctr + fld f.data 16 32 ∧ (∀ k, k ≠ ctr → t.token g k = s.token g k) ∧
        (∀ m, m ≠ g → t.grove m = s.grove m) ∧ t = { s with rx := t.rx, groves := t.groves }))) ∧
  (∀ k h, attachOf node = .stack k h → s.canReserve node f = true → c.1 = 0 → f.kind = 7 →
    let rec' : BitVec 512 := BitVec.ofNat 512 (f.data.toNat % 2 ^ 512)
    ((nmOpc rec' = 1 ∨ nmOpc rec' = 2) → completesTo (.command n) s (fun t =>
      (t.stack k).nmQueue (nmSlot rec') = (s.stack k).nmQueue (nmSlot rec') ++ [⟨rec', f.src, f.txn.toNat, f.addr.toNat / 2 ^ 44, s.issuedDescs rec'⟩] ∧
      (∀ j, j ≠ k → t.stack j = s.stack j) ∧ t = { s with rx := t.rx, rootStacks := t.rootStacks })) ∧
    (nmOpc rec' ≠ 1 → nmOpc rec' ≠ 2 → exec (.command n) s = .next (u.respondError node f codeFormat 0))) ∧
  (c.1 = 0 → s.canReserve node f = true → f.kind = 9 → completesTo (.detach n) s (fun t =>
    (∀ m, (m, node) ∈ s.treeMembers (fld f.data 0 16 % 256) → SMap.get 0 t.treeOff (64 * (fld f.data 0 16 % 256) + m) = 2) ∧
    (∀ k, (∀ m, (m, node) ∈ s.treeMembers (fld f.data 0 16 % 256) → k ≠ 64 * (fld f.data 0 16 % 256) + m) →
      SMap.get 0 t.treeOff k = SMap.get 0 s.treeOff k) ∧ t = { s with rx := t.rx, treeOff := t.treeOff }))

/-- MembersAndResponses (R236, R313, R314, R253, R304, R316, R321, R376). A member writes a tree's flit and acknowledges it; a detached member
discards it and says so in its status. The root detaches a member that holds no credit for its limit: the member's credits and its awaited
acknowledgements are gone. A response completes the request that its TXN names: a read's data go to the buffer that awaits them, a write's
acknowledgement ends a wait, an ERROR or a time-out stops the stream with SE_REMOTE and the code. Where the rules leave a point open it follows
the model's readings in log entry 29. -/
def Obligations.MembersAndResponses : Prop :=
  (∀ (s : State),
    (∀ (n : NodeId) f rest g, let node := n.val
      let u := s.setRx node 2 rest
      let tree := fld f.route 0 8
      let off := (s.treeMembers tree).any (fun m => m.2 == node && SMap.get 0 s.treeOff (64 * tree + m.1) == 2)
      s.rxQueue node 2 = f :: rest → f.kind = 0xA → s.canReserve node f = true → (u.refuses node f).1 = 0 → attachOf node = .grove g →
      (off = true → exec (.mcWrite n) s = .next (u.event (0x6600 + node / 2) (ifaceSub node 0) 0x10)) ∧
      (off = false → opxOp f.opx.toNat = 0 → sramSound s →
        let o := f.addr.toNat % 2 ^ 44 - tileSramBase
        let b := tileAddr (4 * g + o / 0x100000 % 4) (o % 0x100000)
        u.accessCode (flitStand f) b 128 = 0 → isStack b = false → completesTo (.mcWrite n) s (fun t =>
          (∀ i, i < 128 → t.byte (b + i) =
            if f.part = 0 ∨ bitOf f.part i = true then BitVec.ofNat 8 (fld f.data (8 * i) 8) else s.byte (b + i)) ∧
          sameBytesBut s t b 128 ∧ t.rxQueue node 2 = rest))) ∧
    (∀ (t : TreeId) (m : Fin 64) node, let key := 64 * t.val + m.val
      let ix := 0x6800 + t.val
      (s.treeMembers t.val).find? (fun x => x.1 == m.val) = some (m.val, node) → s.bit ix 1 31 = true → s.bit ix 1 30 = true →
      s.treeDetached t.val m.val = false →
      (SMap.get 0 s.treeDebts key < 64 ∨ s.sendRoom (s.treeRoot t.val) 0 1 = false → exec (.treeDetachTimeout t m) s = .next s) ∧
      (64 ≤ SMap.get 0 s.treeDebts key → s.sendRoom (s.treeRoot t.val) 0 1 = true → completesTo (.treeDetachTimeout t m) s (fun v =>
        SMap.get 0 v.treeOff key = 1 ∧ SMap.get 0 v.treeDebts key = 0 ∧ v.bit ix 3 9 = true ∧
        (s.bit ix 3 9 = false → v.getF ix 3 10 6 = m.val) ∧ sameBytes s v)))) ∧
  (∀ (s : State) (n : NodeId) (g : Nat) (f : Flit) (rest : List Flit) (o : Outst) (k : Nat),
    let node := n.val
    let sl := s.slot k
    attachOf node = .grove g → s.groveFenced g = false → s.outstAt node f.txn.toNat = some o → o.origin = .slot k → k / 8 = g →
    let gone := fun (t : State) => t.outstAt node f.txn.toNat = (if o.left ≤ 1 then none else some { o with left := o.left - 1 }) ∧
      ∀ txn, txn < 128 → txn ≠ f.txn.toNat → t.outstAt node txn = s.outstAt node txn
    let failed := fun (code : Nat) (t : State) => t.outstAt node f.txn.toNat = none ∧
      (sl.st = .running → (t.slot k).st = .error ∧ t.getF (0x6300 + g) (slotSub (k % 8) 0) 8 4 = seRemote ∧
        t.getF (0x6300 + g) (slotSub (k % 8) 0) 12 4 = code)
    (s.rxQueue node 1 = f :: rest → f.kind = 2 → completesTo (.readRsp n) s (fun t =>
      gone t ∧ t.rxQueue node 1 = rest ∧ (t.slot k).st = sl.st ∧ (t.slot k).pc = sl.pc ∧
      (t.slot k).buffer = sl.buffer.map (fun b => if b.addr = o.addr ∧ b.txn = f.txn ∧ b.bytes = none then { b with bytes := some (leBytes 128 f.data.toNat) } else b) ∧
      (∀ j, j ≠ k → t.slot j = s.slot j) ∧ t = { s with rx := t.rx, outst := t.outst, slots := t.slots })) ∧
    (s.rxQueue node 1 = f :: rest → f.kind = 5 → s.strayAck node f = false → completesTo (.writeAck n) s (fun t =>
      gone t ∧ t.rxQueue node 1 = rest ∧
      t.slot k = (if o.addr = copyMark ∧ o.left ≤ 1 then { sl with hold := .none, pc := sl.pc + 16 } else sl) ∧
      (∀ j, j ≠ k → t.slot j = s.slot j) ∧
      (∀ m, s.ackingMember node f = some m → SMap.get 0 t.treeDebts m = SMap.get 0 s.treeDebts m - 1) ∧
      (s.ackingMember node f = none → t.treeSent = s.treeSent ∧ t.treeDebts = s.treeDebts) ∧
      t = { s with rx := t.rx, outst := t.outst, slots := t.slots, treeSent := t.treeSent, treeDebts := t.treeDebts })) ∧
    (s.rxQueue node 1 = f :: rest → f.kind = 8 → s.strayAck node f = false → fld f.data 0 8 < 16 → completesTo (.error n) s (fun t => failed (fld f.data 0 8) t ∧
      t.rxQueue node 1 = rest)) ∧
    completesTo (.netTimeout n f.txn) s (failed codeTimeout))

/-! ## The Xannus links -/

/-- PortTraining (R332, R335, R341, R343 to R345, R348 to R350, R359, R361). A lost reference takes its four ports down to STATE 1; a training
frame's marker fixes polarity after three in a row, and its words are then answered on their lane; a trained lane sends 16 more frames and 64 IDLE blocks; a lane that fails its third training in service is marked;
a port comes up with every lane in its map; a reset port starts over; the second of two identical LANEMAP copies is acted on; 16 agreeing DESKEW
blocks bring a lane back into the map. Where the rules leave a point open it follows the model's readings in log entries 34 and 54. -/
def Obligations.PortTraining : Prop := ∀ (s : State) (p : PortId) (l : LaneIx),
  let pp := p.val
  let n := laneNum pp l.val
  let x := s.port pp
  let y := s.lane n
  let cleared : U64 := s.portCtrl pp &&& ~~~(BitVec.ofNat 64 0x8800)
  let restarts := bitOf (s.portCtrl pp) 0 = true ∧ bitOf (s.portCtrl pp) 1 = true
  (∀ (g : Fin 3) good, completesTo (.xrefChange g good) s (fun t =>
    t.xrefs = setBit s.xrefs g.val good ∧
    (∀ q, q < 12 → q / 4 = g.val → good = false → bitOf (s.portCtrl q) 0 = true → s.portState q ≠ 0 →
      t.portState q = 1 ∧ t.laneMap q = 0 ∧ t.port q = { Port.reset with tags := (s.port q).tags }) ∧
    (∀ q k, q < 12 → k < 8 → q / 4 = g.val → good = true → bitOf s.xrefs g.val = false → bitOf (s.portCtrl q) 0 = true → s.portState q = 1 →
      (t.lane (laneNum q k)).taps = presetTaps (fld (s.portCtrl q) 3 3) ∧ t.laneState q k = 1) ∧
    (∀ q, q < 12 → q / 4 ≠ g.val → t.port q = s.port q ∧ t.portState q = s.portState q) ∧ sameBytes s t)) ∧
  (∀ (mk c st : BitVec 32), let cmd : Instr := .trainingFrame p l mk ⟨c, st⟩
    let inv := (markerOf mk).getD y.inverted
    let k := match markerOf mk with | none => 0 | some v => if y.inverted = v then min 3 (y.markers + 1) else 1
    let right := fun (w : BitVec 32) => trainWordOf (if inv then ~~~w else w)
    let training := ∃ m, m < 8 ∧ (s.laneTraining pp m = true ∨ s.laneTesting pp m = true)
    (¬training → exec cmd s = .next s) ∧
    (training → k < 3 → completesTo cmd s (fun t =>
      t.lane n = { y with signal := true, markers := k, inverted := inv } ∧ (∀ j, j ≠ n → t.lane j = s.lane j) ∧
      t.portState pp = (if s.portState pp = 1 ∧ (List.range 8).all (fun j => j == l.val || (s.lane (laneNum pp j)).signal) = true then 2 else s.portState pp) ∧
      t = { s with dict := t.dict, lanes := t.lanes })) ∧
    (∀ w m, k = 3 → right st = some w → m = fld w 11 3 → s.laneTraining pp m = true → completesTo cmd s (fun t =>
      let z := t.lane (laneNum pp m)
      z.heard = true ∧ z.locked = (s.lane (laneNum pp m)).locked ∧
      ((s.lane (laneNum pp m)).heard = false →
        t.getF (0x7200 + laneNum pp m) 1 5 3 = l.val ∧ t.bit (0x7200 + laneNum pp m) 1 4 = inv) ∧
      z.farReady = (match right c with
        | some w => if bitOf w 9 then min 3 ((s.lane (laneNum pp m)).farReady + 1) else 0
        | none => 0) ∧
      (∀ w, right c = some w →
        z.taps = (laneAnswer (s.lane (laneNum pp m)) (s.laneTesting pp m) w).taps ∧
        z.status = (laneAnswer (s.lane (laneNum pp m)) (s.laneTesting pp m) w).status) ∧
      t.out = s.out ++ [.training pp m (trainWord z.control) (trainWord z.status)] ∧ t.ports = s.ports ∧ sameBytes s t))) ∧
  (∀ line, s.laneTraining pp l.val = true → bitOf y.control 9 = true → 3 ≤ y.farReady →
    let sent := fun (t : State) => linkOut t = linkOut s ++
      List.replicate 16 (.training pp l.val (trainWord y.control) (trainWord y.status)) ++
      List.replicate 64 (.block pp (portBlockWith x typeIdle 0 3 []))
    (∀ d, s.lineLocks n line = some d → completesTo (.laneTrained p l line) s (fun t =>
      let z := t.lane n
      z = { y with locked := true, deskew := (0, 0), descrambled := d, headers := [], scrambled := z.scrambled, codeBits := z.codeBits,
                   level := z.level } ∧
      (s.portUp pp = true → z.codeBits.length = 64 * 66 ∧ ∀ k, k ≠ n → t.lane k = s.lane k) ∧ sent t ∧
      t = { s with lanes := t.lanes, out := t.out })) ∧
    (s.lineLocks n line = none → s.portState pp = 2 → (∃ k, k < 8 ∧ (s.lane (laneNum pp k)).signal = true) → x.fails < 2 →
      completesTo (.laneTrained p l line) s (fun t =>
        (t.port pp).fails = x.fails + 1 ∧ t.portState pp = 1 ∧ t.reports = s.reports ∧ sameBytes s t))) ∧
  (∀ line, bitOf y.control 9 = false ∨ y.farReady < 3 → exec (.laneTrained p l line) s = .next s) ∧
  (s.laneTraining pp l.val = true → s.portUp pp = true → x.outLane = some (l, .retrain) →
    (y.fails < 2 → completesTo (.xanTrain p l) s (fun t =>
      (t.lane n).fails = y.fails + 1 ∧ (t.lane n).farReady = 0 ∧ (t.lane n).taps = y.taps ∧ t.ports = s.ports ∧ t.reports = s.reports)) ∧
    (2 ≤ y.fails → completesTo (.xanTrain p l) s (fun t =>
      t.port pp = { x with outLane := none, next := none, failed := some l } ∧ t.laneState pp l.val = 5 ∧
      t.bit (0x7200 + n) 1 12 = true ∧ t.bit (0x7100 + pp) 2 14 = true ∧ t.portCtrl pp = cleared ∧ bitOf (t.objW 0xA002 1 (31 + n / 64)) (n % 64) = true ∧
      t.reports = s.reports ++ [{ mkReport .xanTrain (pp / 3) none .lane n 0 with stands := portStands x }] ∧ sameBytes s t))) ∧
  (s.laneTraining pp l.val = false → exec (.xanTrain p l) s = .next s) ∧
  (s.portState pp ≠ 2 → exec (.portUp p) s = .next s) ∧
  (s.portState pp = 2 → (∀ k, k < 8 → (s.lane (laneNum pp k)).locked = true ∧ 16 ≤ (s.lane (laneNum pp k)).deskew.2) →
    completesTo (.portUp p) s (fun t =>
      t.portState pp = 3 ∧ t.laneMap pp = 0xFF ∧ (∀ k, k < 8 → t.laneState pp k = 2) ∧ (t.port pp).rxSeq = 0xFFF ∧ (t.port pp).rxq = [] ∧
      (x.txq = [] → (t.port pp).txSeq = 0 ∧ (t.port pp).retry = [] ∧
        linkOut t = linkOut s ++ List.replicate 3 (.block pp (BitVec.ofNat 64 (typeLaneMap + 256 * 0xFF)))) ∧ sameBytes s t)) ∧
  completesTo (.portReset p) s (fun t =>
    t.port pp = { Port.reset with tags := x.tags } ∧ t.laneMap pp = 0 ∧ t.portCtrl pp = cleared ∧
    (restarts → t.portState pp = 1) ∧ (¬restarts → t.portState pp = 0) ∧ (∀ q, q ≠ pp → t.port q = s.port q) ∧ sameBytes s t) ∧
  (∀ b w u, hears s pp b w u → fld w 0 8 = typeLaneMap →
    let x := u.port pp
    (x.last ≠ some w → exec (.laneMap p b) s = .next (u.setPort pp { x with last := some w, copies := 1 })) ∧
    (x.last = some w → x.copies ≠ 1 → exec (.laneMap p b) s = .next (u.setPort pp { x with last := none, copies := 0 })) ∧
    (x.last = some w → x.copies = 1 → (s.portUp pp = false ∨ ∀ k, k < 8 → s.laneMap pp / 2 ^ k % 2 = 1 → fld w (8 + k) 1 = 1) →
      completesTo (.laneMap p b) s (fun t => t.port pp = { x with copies := 2, rxNext := some (BitVec.ofNat 8 (fld w 8 8), true) } ∧
        (∀ q, q ≠ pp → t.port q = s.port q) ∧ t = { u with ports := t.ports })) ∧
    (x.last = some w → x.copies = 1 → s.portUp pp = true → x.outLane = none → x.failed = none → s.laneMap pp / 2 ^ l.val % 2 = 1 →
      fld w (8 + l.val) 1 = 0 → (∀ k, k < 8 → k ≠ l.val → s.laneMap pp / 2 ^ k % 2 = 1 → fld w (8 + k) 1 = 1) →
      completesTo (.laneMap p b) s (fun t => t.laneMap pp = s.laneMap pp &&& (0xFF ^^^ 2 ^ l.val) ∧ t.portState pp = 4 ∧
        t.laneState pp l.val = 3 ∧ (t.port pp).outLane = some (l, .retrain) ∧ sameBytes s t))) ∧
  (∀ b w u, hears s pp b w u → fld w 0 8 ≠ typeLaneMap → exec (.laneMap p b) s = .next u) ∧
  (∀ b w u, s.hearOn n b = (u, .control, w) → let slot := fld w 16 32
    let count := if 0 < y.deskew.2 ∧ slot = (y.deskew.1 + (if s.portUp pp then 7 else 1)) % 2 ^ 32 then y.deskew.2 + 1 else 1
    fld w 0 8 = typeDeskew → y.locked = true → s.laneMap pp / 2 ^ l.val % 2 = 0 →
    (count < 16 ∨ s.portUp pp = false → exec (.deskew p l b) s = .next (u.setLane n { u.lane n with deskew := (slot, count) })) ∧
    (16 ≤ count → s.portUp pp = true → x.outLane = some (l, .retrain) → x.next = none → completesTo (.deskew p l b) s (fun t =>
      t.laneMap pp = s.laneMap pp ||| 2 ^ l.val ∧ t.laneState pp l.val = 2 ∧ t.port pp = { x with outLane := none, txBlocks := 0 } ∧
      t.portCtrl pp = cleared ∧ sameBytes s t)))

/-- PortFrames (R346, R347, R352 to R355). A good frame in sequence enters the receive buffer and is acknowledged by what the port sends; any
other is discarded with one RETRY; a RETRY has the frames from its SEQ sent again, or resets the port at its limit; a port that lost its peer is
reset. Where the rules leave a point open it follows the model's readings in log entries 55, 57 and 58. -/
def Obligations.PortFrames : Prop := ∀ (s : State) (p : PortId),
  let pp := p.val
  let x := s.port pp
  let other := fun (u : State) => { u.port pp with last := none, copies := 0 }
  let acked := fun (b : BitVec 64) (l : List (BitVec 12 × BitVec 4 × BitVec 1216)) =>
    match l.findIdx? (fun e => e.1 == BitVec.ofNat 12 (fld b 20 12)) with | none => l | some i => l.drop (i + 1)
  let credit := creditField x.freed
  let restarts := bitOf (s.portCtrl pp) 0 = true ∧ bitOf (s.portCtrl pp) 1 = true
  let wasReset := fun (e : ErrorReport) (bit : Nat) (t : State) =>
    t.reports = s.reports ++ [e] ∧ t.bit (0x7100 + pp) 2 bit = true ∧ t.port pp = { Port.reset with tags := x.tags } ∧
    (restarts → t.portState pp = 1) ∧ (¬restarts → t.portState pp = 0) ∧ sameBytes s t
  let sends := fun (b : U64) (t : State) =>
    linkOut t = linkOut s ++ [.block pp b] ∧ (∀ q, q ≠ pp → t.port q = s.port q) ∧
    t = { s with ports := t.ports, lanes := t.lanes, out := t.out } ∧
    let lanes := mapLanes (s.laneMap pp)
    let i := lanes.getD (x.txBlocks % lanes.length) 0
    let a := s.lane (laneNum pp i)
    let line := blockLine a.scrambled true b
    let bits := a.codeBits ++ line.2
    let code := levelCodes (bitOf a.status 10) a.level (symbolBits (rsEncode (symbolsOf 514 bits)))
    x.txBlocks % lanes.length ≠ 0 →
      (bits.length < 5140 → t.out = s.out ++ [.block pp b] ∧ t.lane (laneNum pp i) = { a with scrambled := line.1, codeBits := bits }) ∧
      (5140 ≤ bits.length → t.out = s.out ++ [.block pp b, .line pp i (BitVec.ofNat 5440 (packLevels code.1))] ∧
        t.lane (laneNum pp i) = { a with scrambled := line.1, codeBits := bits.drop 5140, level := code.2 })
  (∀ b w u, hears s pp b w u → b.toNat % 4 = 1 ∧ u = { s with ports := u.ports, lanes := u.lanes } ∧ (∀ q, q ≠ pp → u.port q = s.port q) ∧
    u.port pp = (match x.rxNext with
      | some (m, false) => { x with rxMap := m, rxBlocks := 1, rxNext := none }
      | some (m, true) => { x with rxBlocks := x.rxBlocks + 1, rxNext := some (m, false) }
      | none => { x with rxBlocks := x.rxBlocks + 1 })) ∧
  (s.portUp pp = false → ∀ h b, exec (.frame p h b) s = .next s ∧ exec (.idle p h) s = .next s ∧ exec (.retry p h) s = .next s ∧
    exec (.retryResendTimer p) s = .next s ∧ exec (.controlBlockTimer p) s = .next s ∧ exec (.xanDown p) s = .next s) ∧
  (s.portUp pp = true →
    (∀ (first : BitVec 66) (rest : Vector (BitVec 66) 19) u whole (h : BitVec 64) (body : BitVec 1216), let ch := flitChannel (flitOf body)
      s.hearFrame pp (first :: rest.toList) = (u, whole, h, body) → (∀ k, k < 8 → lockLost (u.lane (laneNum pp k)).headers = false) →
      let good := whole = true ∧ blockGood typeFrame h (bitsLsb 1216 body.toNat) = true ∧ BitVec.ofNat 12 (fld h 8 12) = x.rxSeq + 1
      let x' := other u
      (good → completesTo (.frame p first rest) s (fun t =>
        (t.port pp).rxSeq = x.rxSeq + 1 ∧ SMap.get [] (t.port pp).rxq ch = SMap.get [] x.rxq ch ++ [body] ∧
        (∀ c, c ≠ ch → SMap.get [] (t.port pp).rxq c = SMap.get [] x.rxq c) ∧ (t.port pp).asked = none ∧
        (x.txq = [] → (t.port pp).retry = acked h x.retry ∧ t.out = s.out) ∧ (∀ q, q ≠ pp → t.port q = s.port q) ∧ sameBytes s t)) ∧
      (¬good → x.asked = some (x.rxSeq + 1) → exec (.frame p first rest) s = .next (u.setPort pp x')) ∧
      (¬good → x.asked ≠ some (x.rxSeq + 1) → completesTo (.frame p first rest) s (fun t =>
        t.port pp = { x' with asked := some (x.rxSeq + 1), freed := credit.2, txBlocks := x.txBlocks + 1 } ∧
        linkOut t = linkOut s ++ [.block pp (portBlockWith x typeRetry (x.rxSeq + 1).toNat credit.1 [])] ∧
        (∀ q, q ≠ pp → t.port q = s.port q) ∧ t = { s with ports := t.ports, lanes := t.lanes, out := t.out }))) ∧
    (∀ h b u, hears s pp h b u → (blockGood typeIdle b [] = false → exec (.idle p h) s = .next (u.setPort pp (other u))) ∧
      (blockGood typeIdle b [] = true → x.txq = [] → completesTo (.idle p h) s (fun t =>
        (t.port pp).retry = acked b x.retry ∧ (t.port pp).rxSeq = x.rxSeq ∧ (t.port pp).rxq = x.rxq ∧
        SMap.get 0 (t.port pp).taken (fld b 32 4 % 4) =
          (if fld b 32 4 % 4 = 3 then SMap.get 0 x.taken 3 else SMap.get 0 x.taken (fld b 32 4 % 4) - (fld b 32 4 / 4 + 1)) ∧
        (∀ q, q ≠ pp → t.port q = s.port q) ∧ t = { u with ports := t.ports }))) ∧
    (∀ h b u i, hears s pp h b u → blockGood typeRetry b [] = true → x.txq = [] → acked b x.retry = x.retry →
      x.retry.findIdx? (fun e => e.1 == BitVec.ofNat 12 (fld b 8 12)) = some i →
      (s.getF 0x7000 3 0 8 ≤ x.retried → completesTo (.retry p h) s
        (wasReset { mkReport .xanRetry (pp / 3) none .lane (laneNum pp 0) 0 with stands := portStands x } 13)) ∧
      (x.retried < s.getF 0x7000 3 0 8 → completesTo (.retry p h) s (fun t =>
        linkOut t = linkOut s ++ (x.retry.drop i).map (fun e =>
          .frame pp (portBlockWith x typeFrame e.1.toNat e.2.1.toNat (bitsLsb 1216 e.2.2.toNat)) e.2.2) ∧
        (t.port pp).retried = x.retried + 1 ∧ (t.port pp).retry = x.retry ∧ t.obj (0x7100 + pp) 3 = s.obj (0x7100 + pp) 3 + 1 ∧ sameBytes s t))) ∧
    (∀ seq, x.asked = some seq → completesTo (.retryResendTimer p) s (fun t =>
      sends (portBlockWith x typeRetry seq.toNat credit.1 []) t ∧ (t.port pp).asked = some seq)) ∧
    (x.asked = none → exec (.retryResendTimer p) s = .next s) ∧
    completesTo (.controlBlockTimer p) s (fun t => t.port pp = { x with freed := credit.2, txBlocks := x.txBlocks + 1 } ∧
      sends (portBlockWith x typeIdle 0 credit.1 []) t) ∧
    completesTo (.xanDown p) s (wasReset { mkReport .xanDown (pp / 3) none .lane (laneNum pp 0) 0 with stands := portStands x } 12))

/-- PortLanes (R340, R345, R357 to R361, R364, R367). At most one lane is out of the map: a lane with an error is tested, a second one takes the
port down; a test counts its errors and the lane trains again, or is marked failed; a low margin is counted; a write of PortCtrl enables,
disables, tests or retrains, and a request it cannot take sets CONFIG_ERR. Where the rules leave a point open it follows the model's readings in
log entry 33. -/
def Obligations.PortLanes : Prop := ∀ (s : State) (p : PortId) (l : LaneIx),
  let pp := p.val
  let n := laneNum pp l.val
  let x := s.port pp
  let y := s.lane n
  let old := s.portCtrl pp
  let leaves := fun (k : LaneIx) (op : LaneOp) (st : Nat) (t : State) =>
    (t.port pp).outLane = some (k, op) ∧ t.laneMap pp = s.laneMap pp &&& (0xFF ^^^ 2 ^ k.val) ∧ t.laneState pp k.val = st ∧
    (∀ q, q ≠ pp → t.port q = s.port q) ∧ sameBytes s t
  (s.portUp pp = false ∨ s.laneMap pp / 2 ^ l.val % 2 = 0 → exec (.xanLane p l) s = .next s) ∧
  (s.portUp pp = true → s.laneMap pp / 2 ^ l.val % 2 = 1 →
    (x.outLane = none → x.failed = none → completesTo (.xanLane p l) s (fun t =>
      leaves l (.test (BitVec.ofNat 2 (fld old 16 2))) 4 t ∧ t.bit (0x7200 + n) 1 14 = true ∧
      t.reports = s.reports ++ [{ mkReport .xanLane (pp / 3) none .lane n 0 with stands := portStands x }])) ∧
    (x.outLane.isSome = true ∨ x.failed.isSome = true → completesTo (.xanLane p l) s (fun t =>
      t.port pp = { Port.reset with tags := x.tags } ∧ t.bit (0x7100 + pp) 2 12 = true ∧ t.laneMap pp = 0 ∧ sameBytes s t))) ∧
  (∀ e, s.laneTesting pp l.val = false → exec (.laneTest p l e) s = .next s) ∧
  (∀ e : BitVec 32, s.laneTesting pp l.val = true →
    let after := s.tests.any (fun t => t.unit == TestUnit.lane n)
    (e.toNat ≤ 2125 ∨ after = false → completesTo (.laneTest p l e) s (fun t =>
      (t.port pp).outLane = some (l, .retrain) ∧ (t.lane n).farReady = 0 ∧ (t.lane n).taps = y.taps ∧
      t.bit (0x7200 + n) 1 13 = (decide (2125 < e.toNat) || s.bit (0x7200 + n) 1 13) ∧ sameBytes s t)) ∧
    (2125 < e.toNat → after = true → completesTo (.laneTest p l e) s (fun t =>
      t.port pp = { x with outLane := none, next := none, failed := some l } ∧ t.laneState pp l.val = 5 ∧ t.bit (0x7200 + n) 1 13 = true ∧
      t.bit (0x7200 + n) 1 12 = true ∧ bitOf (t.objW 0xA002 1 (31 + n / 64)) (n % 64) = true ∧ sameBytes s t))) ∧
  (∀ a b : BitVec 8, (s.laneState pp l.val ≠ 2 → exec (.laneEyeUpdate p l a b) s = .next s) ∧
    (s.laneState pp l.val = 2 →
      let low := ¬(s.getF 0x7000 4 0 8 ≤ a.toNat ∧ s.getF 0x7000 4 8 8 ≤ b.toNat)
      completesTo (.laneEyeUpdate p l a b) s (fun t =>
        t.obj (0x7200 + n) 3 = BitVec.ofNat 64 (a.toNat + 256 * b.toNat) ∧ sameBytes s t ∧
        (¬low → (t.lane n).low = 0 ∧ t.ports = s.ports) ∧
        (low → (t.bit (0x7200 + n) 1 15 = true ∨ y.low ≠ 0) ∧
          (2 ≤ y.low → bitOf old 2 = true → x.outLane = none → x.failed = none → leaves l .retrain 3 t) ∧
          (y.low < 2 → (t.lane n).low = y.low + 1 ∧ t.ports = s.ports))))) ∧
  (∀ (r : Requester) (v : BitVec 32), mayWrite s r (0x7100 + pp) 1 →
    let was := s.acceptedWord (objKey 0 (0x7100 + pp) 1 0)
    let en := maskedWord was (v.setWidth 64) 0x3FF7F
    let te := maskedWord was (withBit v 15 true) 0x3FF7F
    let re := maskedWord was (withBit v 11 true) 0x3FF7F
    let busy := fun (k : LaneIx) => x.failed.isSome = true ∨ ∃ o op, x.outLane = some (o, op) ∧ o ≠ k
    (4 ≤ fld en 3 3 → exec (.portEnable r p v) s = .next (s.event (0x7100 + pp) 2 0x8000)) ∧
    (fld en 3 3 < 4 → (bitOf en 15 = false ∨ bitOf old 15 = true) → bitOf en 0 = true → (bitOf old 0 = false ∨ s.portState pp = 0) →
      completesTo (.portEnable r p v) s (fun t => t.portState pp = 1 ∧ t.laneMap pp = 0 ∧ t.ports = s.ports ∧ bitOf (t.portCtrl pp) 0 = true ∧
        (bitOf s.xrefs (pp / 4) = true → ∀ k, k < 8 → (t.lane (laneNum pp k)).taps = presetTaps (fld en 3 3) ∧ t.laneState pp k = 1) ∧
        sameBytes s t)) ∧
    (fld en 3 3 < 4 → (bitOf en 15 = false ∨ bitOf old 15 = true) → bitOf en 0 = false → bitOf old 0 = true →
      completesTo (.portEnable r p v) s (fun t => t.portState pp = 0 ∧ t.laneMap pp = 0 ∧ t.port pp = { Port.reset with tags := x.tags } ∧
        bitOf (t.portCtrl pp) 0 = false ∧ sameBytes s t)) ∧
    (s.portUp pp = true → bitOf old 0 = true → bitOf re 0 = true → fld re 3 3 < 4 → bitOf re 15 = false → bitOf old 11 = false →
      let k : LaneIx := Fin.ofNat 8 (fld re 8 3)
      (x.outLane = none → x.failed = none → completesTo (.retrainReq r p v) s (fun t =>
        leaves k .retrain 3 t ∧ t.bit (0x7100 + pp) 1 11 = true)) ∧
      (busy k → completesTo (.retrainReq r p v) s (fun t => t.bit (0x7100 + pp) 2 15 = true ∧ t.ports = s.ports ∧ t.laneMap pp = s.laneMap pp ∧
        sameBytes s t))) ∧
    (s.portUp pp = true → bitOf old 0 = true → bitOf te 0 = true → fld te 3 3 < 4 → fld te 16 2 ≠ 3 → bitOf te 11 = false → bitOf old 15 = false →
      let k : LaneIx := Fin.ofNat 8 (fld te 12 3)
      (x.outLane = none → x.failed = none → completesTo (.testReq r p v) s (fun t =>
        leaves k (.test (BitVec.ofNat 2 (fld te 16 2))) 4 t ∧ t.bit (0x7100 + pp) 1 15 = true)) ∧
      (busy k → completesTo (.testReq r p v) s (fun t => t.bit (0x7100 + pp) 2 15 = true ∧ t.ports = s.ports ∧ t.laneMap pp = s.laneMap pp ∧
        sameBytes s t))))

/-- PeerFlits (R368, R371, R373 to R377, R379). A flit for another device goes on by its next hop with one hop more, or is refused with the detail
of its cause; a request for this device whose Stand runs a job takes the lowest free tag and enters the network, a job signal is applied; a
response frees its tag and returns to the device that asked. Where the rules leave a point open it follows the model's readings in log entries 59,
60 and 68. -/
def Obligations.PeerFlits : Prop := ∀ (s : State) (p : PortId),
  let pp := p.val
  let node := xannusNode pp
  -- every egress queue has room for one flit more (R32)
  (∀ q c, q < 12 → s.txCount q c < 64) →
  (∀ ch b rest f, ch < 3 → s.portRx pp ch = b :: rest → f = flitOf b → s.forMe f = false →
    (∀ c b', c < ch → (s.portRx pp c).head? = some b' → s.forMe (flitOf b') = true) →
    let u := s.takePortRx pp ch
    let route := s.devRoute (peerDest f)
    (s.deviceValid = false → exec (.transit p) s = .next (u.refusePeer pp f 4)) ∧
    (s.deviceValid = true → 31 ≤ peerHops f → exec (.transit p) s = .next (u.refusePeer pp f 5)) ∧
    (s.deviceValid = true → peerHops f < 31 → route = none → exec (.transit p) s = .next (u.refusePeer pp f 1)) ∧
    (∀ c, s.deviceValid = true → peerHops f < 31 → route = some c → let q := s.firstHop c (peerOrig f) (peerDest f) f.src
      exec (.transit p) s = .next (if s.portUp q = true then
        u.portSend q { f with route := peerHeader (peerDest f) (peerOrig f) (peerHops f + 1) } else u.refusePeer pp f 2))) ∧
  ((∀ c b, c < 3 → (s.portRx pp c).head? = some b → s.forMe (flitOf b) = true) → exec (.transit p) s = .next s) ∧
  (s.portRx pp 0 = [] → exec (.peerRequest p) s = .next s) ∧
  (∀ b rest f, s.portRx pp 0 = b :: rest → f = flitOf b →
    let u := s.takePortRx pp 0
    (s.deviceValid = false → exec (.peerRequest p) s = .next (u.refusePeer pp f 4)) ∧
    (s.deviceValid = true → peerDest f ≠ s.deviceId → exec (.peerRequest p) s = .next s) ∧
    (s.forMe f = true →
      ((∀ d, f.stand = some d → s.enabled d.val = false ∨ s.inJob d.val = false) → exec (.peerRequest p) s = .next (u.refusePeer pp f 3)) ∧
      (∀ d : StandId, f.stand = some d → s.enabled d.val = true → s.inJob d.val = true →
        (∀ token, token = fld f.data 0 16 → f.kind = 6 → 0x8000 ≤ token → token ≤ 0x8FFF → token ≠ tokenBarrier → token ≠ tokenRelease →
          s.jobEntry d.val (token - 0x8000) / 2 ^ 30 % 2 = 0 → exec (.peerRequest p) s = .next (u.applyJobToken d.val token (fld f.data 16 32))) ∧
        (∀ dest, f.kind ≠ 6 → nodeOfAddr (f.addr.toNat % 2 ^ 44) = some dest →
          (s.freePeerTag pp = none ∨ s.sendRoom node 0 1 = false → exec (.peerRequest p) s = .next s) ∧
          (∀ tag, s.freePeerTag pp = some tag → s.sendRoom node 0 1 = true → completesTo (.peerRequest p) s (fun t =>
            (t.port pp).tags = SMap.set none (s.port pp).tags tag
              (some ⟨BitVec.ofNat 10 (peerOrig f), f.src, f.txn, if f.kind = 1 then f.opx.toNat % 4 + 1 else 1⟩) ∧
            t.portRx pp 0 = rest ∧ (∀ q, q ≠ pp → t.port q = s.port q) ∧
            (∃ g, t.fifo (node / 2) (4 + node % 2) (kindChannel f.kind) = s.fifo (node / 2) (4 + node % 2) (kindChannel f.kind) ++ [g] ∧
              g.kind = f.kind ∧ g.src = node ∧ g.cls = 3 ∧ g.txn = BitVec.ofNat 7 tag ∧ g.data = f.data ∧ g.stand = f.stand ∧
              g.addr = BitVec.ofNat 57 (f.addr.toNat % 2 ^ 44 + 2 ^ 52 * (tag / 128))) ∧
            t = { s with ports := t.ports, fifos := t.fifos, dict := t.dict })))))) ∧
  (∀ f rest, s.rxQueue node 1 = f :: rest →
    (SMap.get none (s.port pp).tags (peerTagOf f) = none → exec (.peerResponse p) s = .next (s.setRx node 1 rest)) ∧
    (∀ tag, SMap.get none (s.port pp).tags (peerTagOf f) = some tag → completesTo (.peerResponse p) s (fun t =>
      SMap.get none (t.port pp).tags (peerTagOf f) =
        (if tag.left ≤ 1 ∨ f.kind = 8 then none else some { tag with left := tag.left - 1 }) ∧
      (∀ k, k ≠ peerTagOf f → SMap.get none (t.port pp).tags k = SMap.get none (s.port pp).tags k) ∧ t.rxQueue node 1 = rest ∧
      (s.portUp pp = false → let g : Flit := { f with route := peerHeader tag.dev.toNat s.deviceId 0, src := tag.src, txn := tag.txn,
                                                      addr := BitVec.ofNat 57 (f.addr.toNat % 2 ^ 44) }
        SMap.get [] (t.port pp).txq (flitChannel g) = SMap.get [] (s.port pp).txq (flitChannel g) ++ [flitBits g]) ∧ sameBytes s t))) ∧
  (∀ b rest, s.rxQueue node 1 = [] → s.portRx pp 1 = b :: rest →
    (s.forMe (flitOf b) = true → s.sendRoom node 1 1 = true →
      exec (.peerResponse p) s = .next ((s.takePortRx pp 1).sendFlit node (flitOf b).src { flitOf b with route := 0 })) ∧
    (s.forMe (flitOf b) = false ∨ s.sendRoom node 1 1 = false → exec (.peerResponse p) s = .next s))

/-! ## The field network -/

/-- FieldFrames (R463, R470 to R474, R482, R485 to R488, R532, R552). A frame with a bad check is counted, one that is not for this device is
ignored, others enter the queue, where it has room and Ranger serves; CHALLENGE_REQ and RECOVERY are answered by hardware, at most 16 a second; an
authentic recovery frame uses its challenge up and starts its action. Where the rules leave a point open it follows the model's readings in log
entries 4, 83 and 84. -/
def Obligations.FieldFrames : Prop := ∀ (s : State) (f : FieldFrame),
  let u := s.haripCount 1
  let v := u.advance
  let a := ((hBody f).getD 0 0).toNat
  let size := 46 ≤ f.body.length ∧ f.body.length ≤ 1504
  (s.booted = false ∨ ¬size → exec (.macFrameReceive f) s = .next s) ∧
  (s.booted = true → size → f.fcsOk = false → exec (.macFrameReceive f) s = .next (s.haripCount 2)) ∧
  (s.booted = true → f.fcsOk = true → s.frameForUs f = false →
    (size → exec (.macFrameReceive f) s = .next s) ∧ exec (.challengeReq f) s = .next s ∧ exec (.recovery f) s = .next s) ∧
  (s.booted = true → f.fcsOk = true → s.frameForUs f = true →
    (size → hType f ≠ 0x30 ∨ hNum f ≠ 0 → hType f ≠ 0x32 ∨ hNum f ≠ 0 →
      (s.ranger ≠ .up → s.ranger ≠ .handoff → exec (.macFrameReceive f) s = .next u) ∧
      (s.ranger = .up ∨ s.ranger = .handoff →
        (4 ≤ s.rxFrames.length → exec (.macFrameReceive f) s = .next (u.haripCount 3)) ∧
        (s.rxFrames.length < 4 → exec (.macFrameReceive f) s = .next { u with rxFrames := s.rxFrames ++ [f] }))) ∧
    (hType f = 0x30 → hNum f = 0 → (size → exec (.macFrameReceive f) s = exec (.challengeReq f) s) ∧
      completesTo (.challengeReq f) s (fun t =>
        if bitOf s.drawn 0 then t = v
        else
          t.challenge.isSome = true ∧ (∀ c, s.challenge = some c → t.challenge = some c) ∧
          (∃ life, life ≤ 10100 ∧
            t.out = s.out ++ [.field f.src (haripHeader 0x31 hOk 0 18 (hSeq f) ++ (leBytes 16 (t.challenge.getD 0).toNat ++ leBytes 2 life))]) ∧
          t = { u with challenge := t.challenge, free := t.free, out := t.out })) ∧
    (hType f = 0x32 → hNum f = 0 → (size → exec (.macFrameReceive f) s = exec (.recovery f) s) ∧
      completesTo (.recovery f) s (fun t =>
        let ok := v.recoveryAuth f
        let status := if ok = false then hAuth else if a = 0 ∨ 3 < a then hFormat else if s.actionRuns a then hBusy else hOk
        let n := if status = hOk then 9 else 10
        if bitOf s.drawn 0 then t = v
        else
          t.out = s.out ++ [.field f.src (haripHeader 0x33 status 0 1 (hSeq f) ++ [BitVec.ofNat 8 a])] ∧
          t.actions = (if status = hOk then s.actions ++ [a] else s.actions) ∧ t.challenge = (if ok then none else s.challenge) ∧
          t.getF 0x1030 n 0 32 = min (2 ^ 32 - 1) (s.getF 0x1030 n 0 32 + 1) ∧
          t = { s with dict := t.dict, free := t.free, out := t.out, actions := t.actions, challenge := t.challenge }))) ∧
  exec .challengeExpiry s = .next { s with challenge := none } ∧
  (∀ done, s.actions.contains 1 = false → exec .resetManagementAction s = .next s ∧
    (s.actions.contains 2 = false → exec (.faultLogSnapshot done) s = .next s) ∧
    (s.actions.contains 3 = false → exec .powerCycleAction s = .next s)) ∧
  (s.actions.contains 1 = true → completesTo .resetManagementAction s (fun t =>
    t.actions = s.actions.filter (fun x => x != 1) ∧
    (s.ranger = .up ∨ s.ranger = .handoff → t.ranger = .down ∧ t.sessions = [] ∧ t.halfOpen = [] ∧ t.rxFrames = []) ∧
    t = { s with actions := t.actions, ranger := t.ranger, sessions := t.sessions, halfOpen := t.halfOpen, rxFrames := t.rxFrames,
                 rx := t.rx, fifos := t.fifos, outst := t.outst, treeSent := t.treeSent })) ∧
  (s.actions.contains 2 = true →
    let area := if s.snapNewest = 1 then 1 else 0
    completesTo (.faultLogSnapshot true) s (fun t =>
      t.actions = s.actions.filter (fun x => x != 2) ∧ t.snapNewest = area + 1 ∧
      (∀ w, w < 2048 → (SMap.get [] t.snapAreas area).getD w 0 = s.objW 0xA000 1 w) ∧
      (∀ k, k ≠ area → SMap.get [] t.snapAreas k = SMap.get [] s.snapAreas k) ∧
      t = { s with actions := t.actions, snapAreas := t.snapAreas, snapNewest := t.snapNewest }) ∧
    exec (.faultLogSnapshot false) s = .next { s with actions := s.actions.filter (fun x => x != 2) }) ∧
  (s.actions.contains 3 = true → completesTo .powerCycleAction s (fun t =>
    t.actions = s.actions.filter (fun x => x != 3) ∧
    (s.tripped = true → t = { s with actions := t.actions }) ∧
    (s.tripped = false → t.bit 0x3100 3 2 = true ∧ t.getF 0x3100 3 4 4 = 0 ∧
      (s.deviceWide = false → ∀ d, d < 8 → s.enabled d = true → (t.stand d).phase = .recovering ∧ (t.stand d).stage = 5)))) ∧
  (s.plcaUsed = true → s.getF 0x1020 2 8 8 = 0 → s.plcaDown = false → completesTo .beaconConflict s (fun t =>
    t.plcaDown = true ∧ t.bit 0x1020 5 14 = true ∧ sameWordsBut s t (fun k => k = objKey 0 0x1020 5 0) ∧
    t = { s with plcaDown := t.plcaDown, dict := t.dict })) ∧
  (s.plcaUsed = false ∨ s.getF 0x1020 2 8 8 ≠ 0 → exec .beaconConflict s = .next s) ∧
  (∀ good, exec (.plcaStatusChange good) s = .next { s with plcaOk := good }) ∧
  (s.revert = none → exec .fieldRevertTimeout s = .next s) ∧
  (∀ plca ether, s.revert = some (plca, ether) → completesTo .fieldRevertTimeout s (fun t =>
    t.revert = none ∧ t.obj 0x1020 2 = plca ∧ t.obj 0x1020 3 = ether ∧ t.bit 0x1020 5 15 = true ∧ t.plcaDown = false ∧
    sameWordsBut s t (fun k => k = objKey 0 0x1020 2 0 ∨ k = objKey 0 0x1020 3 0 ∨ k = objKey 0 0x1020 5 0) ∧
    t = { s with revert := t.revert, dict := t.dict, plcaDown := t.plcaDown }))

/-- HaripRequests (R454, R462, R476 to R481, R484, R576, R577). Ranger serves frames in order: SESSION 0 reads what is public and writes nothing;
a number of no session is answered ERR_SESSION; within a session a frame whose tag fails is dropped, a repeated one answered again, an old one
dropped, a fresh one executed once. Where the rules leave a point open it follows the model's readings in log entries 80 and 83. -/
def Obligations.HaripRequests : Prop := ∀ (s : State),
  let serving : List (Nat × Instr) := [(0x01, .haripRead), (0x03, .haripWrite), (0x10, .discover), (0x20, .hello), (0x22, .finish), (0x24, .close),
    (0x40, .attestReq), (0x42, .attestGet)]
  (s.serves = false ∨ s.rxFrames = [] → ∀ ty c, (ty, c) ∈ serving → exec c s = .next s) ∧
  (∀ f rest, s.serves = true → s.rxFrames = f :: rest →
    let u : State := { s with rxFrames := rest }
    let body := hBody f
    let n := (body.getD 0 0).toNat
    (∀ ty c, (ty, c) ∈ serving → hType f ≠ ty → knownType (hType f) = true → exec c s = .next s) ∧
    (∀ ty c, (ty, c) ∈ serving → hType f = ty → hNum f ≠ 0 → s.sessionPlace (hNum f) = none →
      (ty = 0x22 → ∀ h, h ∈ s.halfOpen → h.num.toNat ≠ hNum f) →
      exec c s = .next (u.sendPublic f (ty + 1) hSession (hNum f) [])) ∧
    (hNum f = 0 → lengthOk f false = true →
      (hType f = 0x01 → 1 ≤ n → n ≤ 32 → body.length = 4 + 4 * n → completesTo .haripRead s (fun t =>
        let r := u.readEntries .stranger body n
        t = r.1.sendPublic f 2 hOk 0 ([BitVec.ofNat 8 n, 0, 0, 0] ++ r.2) ∧ r.1 = u)) ∧
      (hType f = 0x01 → (n = 0 ∨ 32 < n ∨ body.length ≠ 4 + 4 * n) → exec .haripRead s = .next (u.sendPublic f 2 hFormat 0 [])) ∧
      (hType f = 0x03 → 1 ≤ n → n ≤ 16 → body.length = 4 + 24 * n → exec .haripWrite s = .next ((u.haripCount 4).sendPublic f 4 hOk 0
        ([BitVec.ofNat 8 n, 0, 0, 0] ++ (List.range n).flatMap (fun i => sliceBytes body (4 + 24 * i) 3 ++ [BitVec.ofNat 8 hAuth])))) ∧
      (hType f = 0x10 → hLength f = 0 → exec .discover s = .next (u.sendPublic f 0x11 hOk 0
        (leBytes 8 (s.objW 0x1001 1 0).toNat ++ leBytes 8 (s.objW 0x1001 1 1).toNat ++ leBytes 1 (s.obj 0x1001 2).toNat ++
          leBytes 1 (s.getF 0x1020 2 8 8) ++ [0, 0] ++ leBytes 4 (s.obj 0x7001 1).toNat))) ∧
      (hType f = 0x40 → body.length ≠ 32 → exec .attestReq s = .next (u.sendPublic f 0x41 hFormat 0 [])) ∧
      (hType f = 0x40 → body.length = 32 → let r := u.signReport (BitVec.ofNat 256 (ofLe body))
        exec .attestReq s = .next (match r.2 with
          | none => r.1.sendPublic f 0x41 hBusy 0 []
          | some l => ({ r.1 with nextReport := s.nextReport + 1 }.keepReport ⟨s.nextReport, 0, l⟩).sendPublic f 0x41 hOk 0
              (leBytes 2 s.nextReport.toNat ++ leBytes 2 0 ++ leBytes 4 4744))) ∧
      (∀ id m off k, hType f = 0x42 → body.length = 8 → id = ofLe (sliceBytes body 0 2) → m = ofLe (sliceBytes body 2 2) →
        off = ofLe (sliceBytes body 4 4) → 1 ≤ m → m ≤ 1440 → off + m ≤ 4744 →
        (s.kept.find? (fun x => x.id.toNat == id) = none → exec .attestGet s = .next (u.sendPublic f 0x43 hFormat 0 [])) ∧
        (s.kept.find? (fun x => x.id.toNat == id) = some k → exec .attestGet s = .next (if bitOf s.drawn 0 then
            { u with kept := s.kept.erase k }.advance.sendPublic f 0x43 hFormat 0 []
          else u.advance.sendPublic f 0x43 hOk 0 (leBytes 2 id ++ leBytes 2 m ++ leBytes 4 off ++ sliceBytes k.bytes off m))))) ∧
    (∀ k x, hNum f ≠ 0 → s.sessionPlace (hNum f) = some k → s.session k.val = some x → lengthOk f true = true →
      let seq := hSeq f
      let fresh := x.high.toNat < seq ∨ (x.high.toNat - seq < 64 ∧ bitOf x.ran (x.high.toNat - seq) = false)
      let y := { markSeq x seq with count := x.count + 1, used := s.sessionUse + 1 }
      let w : State := ({ u with revert := none, sessionUse := s.sessionUse + 1 } : State).setSession k.val (some y)
      (∀ ty c, (ty, c) ∈ serving → hType f = ty → (ty = 0x22 → ∀ h, h ∈ s.halfOpen → h.num.toNat ≠ hNum f) →
        (openFrame f x = none → exec c s = .next (u.haripCount 5)) ∧
        (∀ p, openFrame f x = some p →
          (∀ e, x.cache.find? (fun e => e.1.toNat == seq) = some e → exec c s = .next (u.send (.field f.src e.2))) ∧
          (x.cache.find? (fun e => e.1.toNat == seq) = none → ¬fresh → exec c s = .next (u.haripCount 6)))) ∧
      (hType f = 0x01 → completesTo .haripRead s (fun t => match openFrame f x with
        | none => t = u.haripCount 5
        | some p => x.cache.find? (fun e => e.1.toNat == seq) = none → fresh → 1 ≤ (p.getD 0 0).toNat → (p.getD 0 0).toNat ≤ 32 →
            p.length = 4 + 4 * (p.getD 0 0).toNat →
            let r := w.readEntries (.session k) p (p.getD 0 0).toNat
            let rsp := r.1.sealFrame f x.rspKey (hNum f) 2 hOk ([BitVec.ofNat 8 (p.getD 0 0).toNat, 0, 0, 0] ++ r.2)
            t.out = s.out ++ [.field f.src rsp] ∧
            t.session k.val = (if 2 ^ 32 ≤ x.count + 1 then none else some { y with cache := ((BitVec.ofNat 64 seq, rsp) :: x.cache).take 8 }) ∧
            (∀ j, j ≠ k.val → t.session j = s.session j) ∧ t.rxFrames = rest ∧ sameBytes s t)) ∧
    (hType f = 0x03 → match openFrame f x with
      | none => exec .haripWrite s = .next (u.haripCount 5)
      | some p => x.cache.find? (fun e => e.1.toNat == seq) = none → fresh → p.length = 28 → p.getD 0 0 = 1 → bitOf (p.getD 7 0) 0 = false →
          ∀ ix sb i, ix = ofLe (sliceBytes p 4 2) → sb = (p.getD 6 0).toNat → isImplemented ix sb = true → isVendor ix = false →
          isMailboxCtrl ix sb = false → w.canWrite (.session k) ix sb = true → objInfo ix sb = some i → i.mailboxOnly = false →
          i.acc ≠ .co → i.acc ≠ .ro → i.acc ≠ .rg →
          let r := w.dictWrite (.session k) ix sb (BitVec.ofNat 64 (ofLe (sliceBytes p 12 8))) true
          let rsp := r.1.sealFrame f x.rspKey (hNum f) 4 hOk ([1, 0, 0, 0] ++
            (leBytes 2 ix ++ [BitVec.ofNat 8 sb, BitVec.ofNat 8 (if r.2 then hOk else hRefused)]))
          completesTo .haripWrite s (fun t => t.dict = r.1.dict ∧ t.accepted = r.1.accepted ∧ t.out = r.1.out ++ [.field f.src rsp] ∧
            t.stands = r.1.stands ∧ sameBytes r.1 t)) ∧
    (hType f = 0x24 → completesTo .close s (fun t => match openFrame f x with
        | none => t = u.haripCount 5
        | some p => x.cache.find? (fun e => e.1.toNat == seq) = none → fresh → p = [] →
            t.session k.val = none ∧ (∀ j, j ≠ k.val → t.session j = s.session j) ∧
            t.out = s.out ++ [.field f.src (s.sealFrame f x.rspKey (hNum f) 0x25 hOk [])] ∧ t.rxFrames = rest ∧ t.dict = s.dict))))

/-- HaripSessions (R478 to R480, R584). HELLO opens a half-open exchange with the next free number, of at most four; FINISH with a good signature
of a valid slot puts the session into a free place, with banked objects of its own; an exchange or session that runs out is gone. Where the rules
leave a point open it follows the model's readings in log entries 2 and 83. -/
def Obligations.HaripSessions : Prop := ∀ (s : State) (f : FieldFrame) (rest : List FieldFrame),
  let u : State := { s with rxFrames := rest }
  (s.serves = true → s.rxFrames = f :: rest →
    (hType f = 0x20 → hNum f = 0 →
      (hLength f ≠ 132 → exec .hello s = .next (u.sendPublic f 0x21 hFormat 0 [])) ∧
      (hLength f = 132 → lengthOk f false = true → s.debugOpen = true → exec .hello s = .next (u.sendPublic f 0x21 hBusy 0 [])) ∧
      (hLength f = 132 → lengthOk f false = true → s.debugOpen = false → completesTo .hello s (fun t =>
        if bitOf s.drawn 0 then t = u.advance.haripCount 7
        else
          (∃ h, t.halfOpen = (if 4 ≤ s.halfOpen.length then s.halfOpen.tail else s.halfOpen) ++ [h] ∧ h.num.toNat = s.freeSession % 2 ^ 16 ∧
            h.slot = (hBody f).getD 0 0 ∧ (hBody f).isPrefixOf h.transcript = true) ∧
          t.lastSession.toNat = s.freeSession % 2 ^ 16 ∧ t.sessions = s.sessions ∧ t.rxFrames = rest ∧ sameBytes s t))) ∧
    (∀ h, hType f = 0x22 → s.halfOpen.find? (fun h => h.num.toNat == hNum f) = some h →
      (u.finishOk h f = false → exec .finish s = .next
        ({ u with halfOpen := s.halfOpen.filter (fun x => x.num != h.num) }.sendPlain f 0x23 hAuth (hNum f) [])) ∧
      (∀ k, ([0, 1, 2, 3] : List (Fin 4)).find? (fun k => (s.session k.val).isNone) = some k → completesTo .finish s (fun t =>
        t.halfOpen = s.halfOpen.filter (fun x => x.num != h.num) ∧ (∀ j, j ≠ k.val → t.session j = s.session j) ∧ t.rxFrames = rest ∧
        (if u.finishOk h f = true then
          (∃ x, t.session k.val = some x ∧ x.num = h.num ∧ x.slot = h.slot ∧ x.reqKey = h.reqKey ∧ x.rspKey = h.rspKey ∧ x.high = 0 ∧ x.ran = 0 ∧
            x.cache = [] ∧ x.count = 0) ∧
          (∀ key, keyBank key = 10 + k.val → t.word key = dictDefault key) ∧
          t.getF 0x1030 8 0 32 = min (2 ^ 32 - 1) (s.getF 0x1030 8 0 32 + 1)
        else t.session k.val = s.session k.val ∧ t.dict = s.dict))))) ∧
  exec .halfOpenExpiry s = .next { s with halfOpen := s.halfOpen.tail } ∧
  (∀ k, completesTo (.sessionIdleTimeout k) s (fun t =>
    t.session k.val = none ∧ (∀ j, j ≠ k.val → t.session j = s.session j) ∧ t = { s with sessions := t.sessions }))

/-! ## The host interface -/

/-- HostRings (R494, R498 to R505). A doorbell inside its ring makes entries pending, another sets BAD_DOORBELL; a fetched STEP joins its Stand's
queue, a refused entry completes and stops the ring, a MARK completes after the STEPs before it; the oldest completion is written to a free entry,
with PHASE, and its vector sent; a masked vector waits in the PBA; the status vector follows a SEQ that has advanced. Where the rules leave a
point open it follows the model's readings in log entries 86 and 87. -/
def Obligations.HostRings : Prop := ∀ (s : State) (f : FuncId),
  let n := f.val
  let x := s.func n
  let size := s.cmdSize n
  let others := fun (t : State) => ∀ g, g ≠ n → t.func g = s.func g
  (∀ v u, s.endpointReady = false → exec (.cmdTail f v) s = .next s ∧ exec (.resume f v) s = .next s ∧ exec (.cplHead f v) s = .next s ∧
    exec (.msixVectorUnmask f u) s = .next s) ∧
  (s.endpointReady = true →
    (∀ v, s.tailOk n v = false → exec (.cmdTail f v) s = .next (s.event (0x6400 + n) 4 0x4000)) ∧
    (∀ v, s.tailOk n v = true → completesTo (.cmdTail f v) s (fun t =>
      t.func n = { x with tail := v.toNat % 65536, bells := x.bells ++ List.replicate (ringDistance size x.tail (v.toNat % 65536)) s.bells } ∧
      t.bells = s.bells + 1 ∧ others t ∧ t.ringStopped n = (s.ringStopped n && !bitOf v 31) ∧
      sameWordsBut s t (fun k => k = objKey 0 (0x6400 + n) 4 0 ∧ bitOf v 31 = true) ∧ t = { s with funcs := t.funcs, bells := t.bells, dict := t.dict })) ∧
    (∀ v, s.tailOk n (v ||| 0x80000000) = true → completesTo (.resume f v) s (fun t =>
      t.ringStopped n = false ∧ (t.func n).tail = v.toNat % 65536 ∧ (t.func n).fetch = x.fetch ∧ others t ∧
      sameWordsBut s t (fun k => k = objKey 0 (0x6400 + n) 4 0) ∧ t = { s with funcs := t.funcs, bells := t.bells, dict := t.dict })) ∧
    (∀ v : BitVec 32, let h := v.toNat % 65536
      let ok := s.ringOn n = true ∧ h < s.cplSize n ∧
        ringDistance (s.cplSize n) x.cplHead h ≤ ringDistance (s.cplSize n) x.cplHead x.cplWrite
      (ok → exec (.cplHead f v) s = .next (s.setFunc n { x with cplHead := h })) ∧
      (¬ok → exec (.cplHead f v) s = .next (s.event (0x6400 + n) 4 0x4000))) ∧
    (∀ u : BitVec 11, (vectorCount n ≤ u.toNat → exec (.msixVectorUnmask f u) s = .next (s.send (.busError n))) ∧
      (u.toNat < vectorCount n → completesTo (.msixVectorUnmask f u) s (fun t =>
        SMap.get false (t.func n).unmasked u.toNat = true ∧ SMap.get false (t.func n).pba u.toNat = false ∧ others t ∧
        t.out = (if SMap.get false x.pba u.toNat then s.out ++ [.msix n u.toNat] else s.out) ∧ t = { s with funcs := t.funcs, out := t.out })))) ∧
  (∀ e, s.mayFetch n = false → exec (.step f e) s = .next s ∧ exec (.mark f e) s = .next s) ∧
  (∀ e : HostEntry, s.mayFetch n = true →
    let d := entryStand n e.w0
    let id := x.fetched
    let fetched := fun (y : Func) => y.fetch = (x.fetch + 1) % size ∧ y.fetched = id + 1 ∧ y.bells = x.bells.drop 1 ∧ y.tail = x.tail
    let refused := fun (status : Nat) (t : State) =>
      fetched (t.func n) ∧ t.ringStopped n = true ∧ others t ∧ t.stands = s.stands ∧
      ∃ c : Completion, (t.func n).done = x.done ++ [c] ∧ fld c.w0 16 8 = status ∧ fld c.w0 0 16 = fld e.w0 16 16 ∧ fld c.w0 28 3 = d ∧
        c.irq = bitOf e.w0 32 ∧ c.id = id
    let bad := (fld e.w0 0 8 ≠ 1 ∧ fld e.w0 0 8 ≠ 2) ∨ (fld e.w0 0 8 = 1 ∧ (e.w1.toNat % 16 ≠ 0 ∨ (n = 0 ∧ s.enabled d = false)))
    (∀ l, fld e.w0 0 8 = 1 → ¬bad → e.records = some l → completesTo (.step f e) s (fun t =>
      fetched (t.func n) ∧ (t.func n).openSteps = x.openSteps ++ [id] ∧ (t.func n).done = x.done ∧ others t ∧
      (∃ w : StepWork, (t.stand d).steps = (s.stand d).steps ++ [w] ∧ w.w0 = e.w0 ∧ w.func = f ∧ w.id = id ∧ w.bell = x.bells.headD 0 ∧
        w.records.length = fld e.w0 40 8 + 1 ∧ ∀ i, i < fld e.w0 40 8 + 1 → w.records.getD i 0 = l.getD i 0) ∧
      (∀ k, k ≠ d → t.stand k = s.stand k) ∧ t = { s with funcs := t.funcs, stands := t.stands })) ∧
    (bad → completesTo (.step f e) s (refused 4) ∧ completesTo (.mark f e) s (refused 4)) ∧
    (fld e.w0 0 8 = 1 → ¬bad → e.records = none → completesTo (.step f e) s (refused 3)) ∧
    (fld e.w0 0 8 = 2 → x.marks = [] → completesTo (.mark f e) s (fun t =>
      fetched (t.func n) ∧ (t.func n).openSteps = x.openSteps ∧ others t ∧ t = { s with funcs := t.funcs } ∧
      ((∀ i, i ∈ x.openSteps → id < i) → (t.func n).marks = [] ∧
        ∃ c : Completion, (t.func n).done = x.done ++ [c] ∧ fld c.w0 0 16 = fld e.w0 16 16 ∧ fld c.w0 16 8 = 0 ∧ c.irq = bitOf e.w0 32) ∧
      ((∃ i, i ∈ x.openSteps ∧ i ≤ id) → (t.func n).done = x.done ∧ ∃ w, (t.func n).marks = [(id, w)])))) ∧
  (x.done = [] ∨ s.ringOn n = false ∨ s.cplFree n = 0 → exec (.completion f) s = .next s) ∧
  (∀ c rest, x.done = c :: rest → s.ringOn n = true → s.cplFree n ≠ 0 → x.marks = [] → completesTo (.completion f) s (fun t =>
    let v := s.getF (0x6400 + n) 1 3 11
    let written := Output.hostWrite n (s.obj (0x6400 + n) 3 + BitVec.ofNat 64 (16 * x.cplWrite))
      (leBytes 8 (setBit c.w0 31 x.phase).toNat ++ leBytes 8 c.w1.toNat)
    let next := (x.cplWrite + 1) % s.cplSize n
    (t.func n).done = rest ∧ (t.func n).cplWrite = next ∧ (t.func n).phase = (if next = 0 then !x.phase else x.phase) ∧ others t ∧
    t.out = s.out ++ [written] ++ (if c.irq ∧ SMap.get false x.unmasked v = true then [.msix n v] else []) ∧
    (c.irq = true → SMap.get false x.unmasked v = false → SMap.get false (t.func n).pba v = true) ∧ t = { s with funcs := t.funcs, out := t.out })) ∧
  (let l := s.statusSeqs n
    let new := ∃ e, e ∈ l ∧ (SMap.get 0 s.statusSent e.1).toNat ≠ e.2
    (¬new → exec (.statusVector f) s = .next s) ∧
    (new → completesTo (.statusVector f) s (fun t =>
      (∀ e, e ∈ l → (SMap.get 0 t.statusSent e.1).toNat = e.2) ∧ others t ∧
      (if SMap.get false x.unmasked 0 = true then t.out = s.out ++ [.msix n 0] else SMap.get false (t.func n).pba 0 = true ∧ t.out = s.out) ∧
      t = { s with funcs := t.funcs, out := t.out, statusSent := t.statusSent })))

/-- HostAccess (R497, R506, R507, R509, R510). A BAR2 request reads or writes the device map, or is answered with Completer Abort where its Stand
is closed or it leaves the BAR; a configuration request is answered with retry until the endpoint is ready; an invalidation drops the translations
of its pages; a request that times out receives HOST_ERR. Where the rules leave a point open it follows the model's readings in log entries 41, 85
and 88. -/
def Obligations.HostAccess : Prop := ∀ (s : State),
  (∀ q : Bar2Req, let f := q.func.val
    let n := if q.write then q.data.length else q.len.toNat
    let a := (s.obj (0x6400 + f) 5).toNat + q.offset.toNat
    let who : Option Nat := if f = 0 then none else some (f - 1)
    let closed := f ≠ 0 ∧ ((s.stand (f - 1)).phase = .disabled ∨ (s.stand (f - 1)).phase = .fenced ∨ (s.stand (f - 1)).phase = .recovering)
    (s.endpointReady = false ∨ (q.write = true ∧ q.poisoned = true) → exec (.bar2Access q) s = .next s) ∧
    (s.endpointReady = true →
      (q.write = true → q.poisoned = false → closed → exec (.bar2Access q) s = .next (s.send (.busError f))) ∧
      (q.write = false → closed → exec (.bar2Access q) s = .next (s.send (.completion f q.tag.toNat 4 []))) ∧
      (¬closed → 0 < n → sramSound s → isStack a = false → s.accessCode who a n = 0 →
        (q.write = true → q.poisoned = false → completesTo (.bar2Access q) s (fun t =>
          if bar2Bytes f < q.offset.toNat + n then t = s.send (.busError f)
          else t.bytes a n = q.data ∧ sameBytesBut s t a n ∧ t.dict = (s.countHostFlits a n).dict ∧ t.out = s.out)) ∧
        (q.write = false → exec (.bar2Access q) s = .next (if bar2Bytes f < q.offset.toNat + n then s.send (.completion f q.tag.toNat 4 [])
          else (s.countHostFlits a n).send (.completion f q.tag.toNat 0 (s.bytes a n))))) ∧
      (∀ c, ¬closed → s.accessCode who a n = c → c ≠ 0 → c ≠ codeBusy →
        let u := if bar2Bytes f < q.offset.toNat + n then s else s.countHostFlits a n
        (q.write = true → q.poisoned = false → exec (.bar2Access q) s = .next (u.send (.busError f))) ∧
        (q.write = false → exec (.bar2Access q) s = .next (u.send (.completion f q.tag.toNat 4 [])))))) ∧
  (∀ (f : FuncId) (tag : BitVec 10),
    (s.booted = false ∨ s.perstN = false → exec (.configRequest f tag) s = .next s) ∧
    (s.booted = true → s.perstN = true → s.endpointReady = true →
      exec (.configRequest f tag) s = .next (s.send (.completion f.val tag.toNat 0 []))) ∧
    (s.booted = true → s.perstN = true → s.endpointReady = false → exec (.configRequest f tag) s = .next (if bitOf s.drawn 0 then
      { s.advance with endpointReady := true }.send (.completion f.val tag.toNat 0 []) else s.advance.send (.completion f.val tag.toNat 2 [])))) ∧
  (∀ (f : FuncId) (page : BitVec 52) (pages : BitVec 20), s.endpointReady = true → completesTo (.invalidateRequest f page pages) s (fun t =>
    (∀ k, SMap.find? t.ats k =
      if k / 2 ^ 53 = f.val ∧ page.toNat ≤ k / 2 % 2 ^ 52 ∧ k / 2 % 2 ^ 52 < page.toNat + pages.toNat then none else SMap.find? s.ats k) ∧
    t.out = s.out ++ [.invalidated f.val page.toNat] ∧ t = { s with ats := t.ats, out := t.out })) ∧
  (∀ (f : FuncId) (tag : BitVec 10),
    (∀ k m, (s.hostWaiters f.val)[tag.toNat]? = some k → (s.slot k).miss = some m → completesTo (.completionTimeout f tag) s (fun t =>
      (m.here (s.slot k) = true → (t.slot k).st = .error ∧ t.getF (0x6300 + k / 8) (slotSub (k % 8) 0) 8 4 = seRemote ∧
        t.getF (0x6300 + k / 8) (slotSub (k % 8) 0) 12 4 = codeHost) ∧
      (m.here (s.slot k) = false → t = s.setSlot k { s.slot k with miss := none }) ∧ sameBytes s t)) ∧
    (s.hostWaiters f.val = [] → s.pcieReads f.val = [] → exec (.completionTimeout f tag) s = .next s))

/-- FunctionResets (R508, R551, R601). A Function Level Reset returns a function's objects, banked objects and vectors to their defaults and
disables its rings, and waits for a recovery of its Stand; a hot reset does the same for every function, and neither D3hot nor it lets a function
reach the host. Where the rules leave a point open it follows the model's readings in log entries 42 and 72. -/
def Obligations.FunctionResets : Prop := ∀ (s : State),
  let fresh := fun (t : State) (n : Nat) =>
    t.ringOn n = false ∧ (t.func n).unmasked = [] ∧ (t.func n).pba = [] ∧ (∀ key, keyBank key = 1 + n → t.word key = dictDefault key) ∧
    (∀ k, (k = 2 ∨ k = 3 ∨ k = 5 ∨ k = 6) → t.obj (0x6400 + n) k = dictDefault (objKey 0 (0x6400 + n) k 0)) ∧
    (∀ k, k / 2 ^ 53 = n → SMap.find? t.ats k = none) ∧ SMap.get none t.latches n = none
  completesTo (.functionLevelReset 0) s (fun t => fresh t 0 ∧ (∀ g, g ≠ 0 → t.func g = s.func g) ∧ sameBytes s t ∧ t.stands = s.stands) ∧
  (∀ f : FuncId, f.val ≠ 0 →
    let n := f.val
    let x := s.stand (n - 1)
    let dropped := fun (t : State) => ∀ d w, d < 8 → w ∈ (t.stand d).steps → w.func ≠ f
    ((s.func n).flr = true → exec (.functionLevelReset f) s = .next s) ∧
    ((s.func n).flr = false →
      (x.phase = .disabled ∨ x.stuck = true → completesTo (.functionLevelReset f) s (fun t => fresh t n ∧ dropped t ∧ sameBytes s t)) ∧
      (x.stuck = false → x.phase = .fenced ∨ x.phase = .recovering → completesTo (.functionLevelReset f) s (fun t =>
        (t.func n).flr = true ∧ dropped t ∧ t.dict = s.dict ∧ (∀ g, g ≠ n → t.func g = s.func g) ∧ t = { s with funcs := t.funcs, stands := t.stands })) ∧
      (x.stuck = false → x.phase ≠ .disabled → x.phase ≠ .fenced → x.phase ≠ .recovering →
        exec (.functionLevelReset f) s = .next (((s.dropSteps n).resetFunc n).resetByFunction (n - 1))))) ∧
  completesTo .hotReset s (fun t => (∀ n, n < 9 → fresh t n) ∧ t.hostOff = 0x1FF ∧ sameBytes s t) ∧
  (∀ f : FuncId, completesTo (.d3hot f) s (fun t =>
    t.ringOn f.val = false ∧ bitOf t.hostOff f.val = true ∧ (∀ g, g ≠ f.val → t.func g = s.func g) ∧ sameBytes s t))

/-! ## Sensors and power -/

/-- SensorSamples (R277, R515 to R518, R526, R529, R533). A sample is published with its calibration; a reading outside its range, or one that never
changes, is a faulted sensor, which raises SENSOR_FAULT once; a die's maximum follows its diodes, and at CRITICAL_C the die goes to P7; a rail's
power follows its senses, and the last current of a set closes the set's sum; a hot stack refreshes at the halved interval. Where the rules leave a point open it follows the model's readings
in log entries 40 and 75. -/
def Obligations.SensorSamples : Prop := ∀ (s : State) (raw : BitVec 32) (inRange : Bool),
  let sampled := fun (x : Sensor) (t : State) =>
    let old := s.sensor (sensorNum x)
    let now := t.sensor (sensorNum x)
    now.raw = raw ∧ now.same = (if old.same ≠ 0 ∧ old.raw = raw then old.same + 1 else 1) ∧
    (old.faulted = false → now.faulted = true → t.bit 0x3100 3 13 = true) ∧ (∀ n, n ≠ sensorNum x → t.sensor n = s.sensor n) ∧ sameBytes s t
  let heat := fun (off : U64) => BitVec.ofNat 64 (toBits 16 (calibTemp raw off))
  (∀ r : RailId, completesTo (.sensorSample (.voltage r) raw inRange) s (fun t =>
    let v := calibVolt raw (s.obj 0x4011 (r.val + 1)) % 2 ^ 32
    sampled (.voltage r) t ∧ (t.sensor (sensorNum (.voltage r))).faulted = !inRange ∧ t.obj 0x3020 (r.val + 1) = BitVec.ofNat 64 v ∧
    t.obj 0x3022 (r.val + 1) = BitVec.ofNat 64 (railPower v (s.obj 0x3021 (r.val + 1)).toNat % 2 ^ 32) ∧
    sameWordsBut s t (fun k => k = objKey 0 0x3020 (r.val + 1) 0 ∨ k = objKey 0 0x3022 (r.val + 1) 0 ∨ k = objKey 0 0x3100 3 0) ∧
    t = { s with dict := t.dict, sensors := t.sensors })) ∧
  (∀ r : RailId, completesTo (.sensorSample (.current r) raw inRange) s (fun t =>
    let i := calibCurrent raw (s.obj 0x4010 (r.val + 1)) % 2 ^ 32
    sampled (.current r) t ∧ t.obj 0x3021 (r.val + 1) = BitVec.ofNat 64 i ∧
    t.obj 0x3022 (r.val + 1) = BitVec.ofNat 64 (railPower (s.obj 0x3020 (r.val + 1)).toNat i % 2 ^ 32) ∧
    (r.val ≠ 19 → t.packageSamples = s.packageSamples ∧ t.obj 0x3000 1 = s.obj 0x3000 1) ∧
    (r.val = 19 → t.telemetrySamples = s.telemetrySamples + 1 ∧ t.obj 0x3000 1 = BitVec.ofNat 64
      ((((List.range 20).filter t.railGood).foldl (fun a r => a + (t.obj 0x3022 (r + 1)).toNat) 0) % 2 ^ 32)))) ∧
  (∀ (d : DieId) (i : Fin 64), let x : Sensor := .diode d i
    completesTo (.sensorSample x raw inRange) s (fun t =>
      let now := t.sensor (sensorNum x)
      sampled x t ∧ t.obj (0x3010 + d.val) (i.val + 1) = heat (s.obj (0x4000 + d.val) (i.val + 1)) ∧
      (now.faulted = true ↔ t.s16 (0x3010 + d.val) (i.val + 1) < -640 ∨ 2400 < t.s16 (0x3010 + d.val) (i.val + 1) ∨ 100 ≤ now.same) ∧
      (∀ m, t.hottest (64 * d.val) (0x3010 + d.val) 64 = some m → t.s16 0x3001 (d.val + 1) = m) ∧
      (4 ≤ t.faultedDiodes d.val → (t.die d.val).slow = true) ∧
      (s.criticalC ≤ t.s16 0x3001 (d.val + 1) → (s.die d.val).crit = false →
        t.point d.val = 7 ∧ (t.die d.val).crit = true ∧ t.bit 0x3100 3 15 = true ∧ t.bit 0x3100 3 1 = true) ∧
      (t.s16 0x3001 (d.val + 1) < s.criticalC → t.point d.val = s.point d.val ∧
        (t.s16 0x3001 (d.val + 1) < s.throttleC - 80 → (t.die d.val).crit = false)) ∧
      (∀ e, e ≠ d.val → t.die e = s.die e))) ∧
  (∀ i : Fin 4, completesTo (.sensorSample (.mgmtDiode i) raw inRange) s (fun t =>
    sampled (.mgmtDiode i) t ∧ t.obj 0x3014 (i.val + 1) = heat (s.obj 0x4004 (i.val + 1)) ∧
    (∀ m, t.hottest 256 0x3014 4 = some m → t.s16 0x3001 5 = m))) ∧
  (∀ k : StackId, completesTo (.sensorSample (.stack k) raw inRange) s (fun t =>
    let c := t.s16 0x3001 (6 + k.val)
    sampled (.stack k) t ∧ t.obj 0x3001 (6 + k.val) = heat (s.obj 0x4005 (k.val + 1)) ∧ (t.sensor (sensorNum (.stack k))).faulted = false ∧
    SMap.get false t.stackHot k.val = (if s.stackC ≤ c then true else if c < s.stackC - 80 then false else SMap.get false s.stackHot k.val) ∧
    t.getF (0x8020 + k.val) 2 4 2 = (if 1360 ≤ c then 1 else if c < 1280 then 0 else s.getF (0x8020 + k.val) 2 4 2)))

/-- OperatingPoints (R522 to R532, R551, R604). A decision takes the values that wait, and gives each die one point slower where the cap is
exceeded, else one point faster as far as its limits and the projection allow; a raise settles at its voltage; the current limit goes to P7; a
trip drops CORE_EN and fences every Stand; a droop is counted; ageing raises the guardband alone; a power cycle ends with every die at P7. Where
the rules leave a point open it follows the model's readings in log entries 74, 76 and 77. -/
def Obligations.OperatingPoints : Prop := ∀ (s : State),
  (let floor := fun d => max (s.usable d) (s.thermalPoint d)
    let n := s.packageSamples.length
    let sum := s.packageSamples.foldl (· + ·) 0
    let loop := s.bit 0x3100 1 31
    let excess := n ≠ 0 ∧ s.getF 0x3100 1 0 12 * 1000 * n < sum
    let up := (List.range 4).filter (fun d => decide (floor d < s.point d))
    (∀ sb, s.waitingValue (objKey stagingBank 0x3100 sb 0) = none) →
    (∀ d, d < 4 → (s.die d).fastest < 8) → completesTo .powerDecision s (fun t => t.packageSamples = [] ∧ sameBytes s t ∧ ∀ d, d < 4 →
      (loop = true → excess → t.point d = max (min 7 (s.point d + 1)) (floor d) ∧ (t.die d).raising = none) ∧
      (loop = true → ¬excess → (n = 0 ∨ s.projectionFits sum n up = false) → t.point d = max (s.point d) (floor d) ∧ (t.die d).raising = none) ∧
      ((loop = false ∨ (n ≠ 0 ∧ ¬excess ∧ s.projectionFits sum n up = true)) →
        (floor d < s.point d → t.point d = s.point d ∧ (t.die d).raising = some (max (s.point d - 1) (floor d))) ∧
        (s.point d ≤ floor d → t.point d = floor d ∧ (t.die d).raising = none)) ∧
      t.obj 0x3101 (d + 1) = BitVec.ofNat 64 (s.setpoint d (((t.die d).raising).getD (t.point d))))) ∧
  (∀ sb, (sb = 1 ∨ sb = 2) →
    (∀ v, (s.writePower sb v).obj 0x3100 sb = v ∧ (s.writePower sb v).powerWord sb = s.powerWord sb) ∧
    completesTo .powerDecision s (fun t => t.obj 0x3100 sb = s.obj 0x3100 sb ∧ t.powerWord sb = s.obj 0x3100 sb)) ∧
  (∀ (d : DieId) (mv : BitVec 32),
    ((s.die d.val).raising = none → exec (.pointRaiseSettled d mv) s = .next s) ∧
    (∀ p, (s.die d.val).raising = some p → p < 8 →
      let v := 10 * s.setpoint d.val p
      let near := 99 * v ≤ 100 * mv.toNat ∧ 100 * mv.toNat ≤ 101 * v
      (¬near → exec (.pointRaiseSettled d mv) s = .next s) ∧
      (near → completesTo (.pointRaiseSettled d mv) s (fun t => t.point d.val = p ∧ (t.die d.val).raising = none ∧
        (∀ e, e < 4 → e ≠ d.val → t.point e = s.point e ∧ t.die e = s.die e) ∧ t = { s with dict := t.dict, diePower := t.diePower })))) ∧
  (∀ d : DieId, let ok := (s.sensor (288 + d.val)).faulted = true ∨ (s.obj 0x3021 (d.val + 1)).toNat ≤ 600000
    (ok → exec (.currentLimit d) s = .next s) ∧
    (¬ok → completesTo (.currentLimit d) s (fun t => t.point d.val = 7 ∧ t.bit 0x3100 3 14 = true ∧
      (∀ e, e < 4 → e ≠ d.val → t.point e = s.point e) ∧ sameBytes s t))) ∧
  (∀ x : Sensor, (tripThreshold x = none → exec (.thermtrip x) s = .next s) ∧
    (∀ c, tripThreshold x = some c →
      let hot := (s.sensor (sensorNum x)).faulted = false ∧ c ≤ s.s16 (sensorObjects x).1.1 (sensorObjects x).1.2 ∧ s.tripped = false
      (¬hot → exec (.thermtrip x) s = .next s) ∧
      (hot → completesTo (.thermtrip x) s (fun t => t.tripped = true ∧ t.getF 0x3100 3 4 4 = 0 ∧ t.bit 0x3100 3 2 = false ∧
        (∀ d, d < 8 → s.enabled d = true → (t.stand d).phase = .fenced ∧ (t.stand d).stuck = true) ∧ sameBytes s t)))) ∧
  (∀ r : RailId, completesTo (.railFault r) s (fun t => t.bit 0x3100 3 12 = true ∧ t.stands = s.stands ∧ t.diePower = s.diePower ∧
    t.obj 0x3100 4 = s.obj 0x3100 4 ∧ sameBytes s t)) ∧
  (∀ d : DieId, completesTo (.droop d) s (fun t => t.obj (0x3030 + d.val) 1 = s.obj (0x3030 + d.val) 1 + 1 ∧ (t.die d.val).droop = true ∧
      sameWordsBut s t (fun k => k = objKey 0 (0x3030 + d.val) 1 0) ∧ t = { s with dict := t.dict, diePower := t.diePower }) ∧
    completesTo (.droopEnd d) s (fun t => t.die d.val = { s.die d.val with droop := false } ∧ (∀ e, e ≠ d.val → t.die e = s.die e) ∧
      t = { s with diePower := t.diePower })) ∧
  (∀ (d : DieId) (ppm : List (BitVec 32)), let m := ppm.foldl (fun a x => max a x.toNat) 0
    (s.ranger ≠ .up → s.ranger ≠ .handoff → exec (.ageingUpdate d ppm) s = .next s) ∧
    (s.ranger = .up ∨ s.ranger = .handoff → completesTo (.ageingUpdate d ppm) s (fun t =>
      let x := t.die d.val
      t.obj (0x3030 + d.val) 2 = BitVec.ofNat 64 m ∧ x.guard = max (s.die d.val).guard (min 50 ((m + 999) / 1000)) ∧
      x.fastest < 8 ∧ (pointBase x.fastest + x.guard ≤ 850 ∨ x.fastest = 7) ∧ (∀ p, p < x.fastest → 850 < pointBase p + x.guard) ∧
      ((s.die d.val).fastest < x.fastest → t.bit 0x3100 3 11 = true) ∧ t.point d.val = s.point d.val ∧
      t = { s with dict := t.dict, diePower := t.diePower }))) ∧
  (s.bit 0x3100 3 2 = false → exec (.powerCycle []) s = .next s) ∧
  (s.bit 0x3100 3 2 = true →
    let idle := ∀ d, d < 8 → s.enabled d = true → (s.stand d).stuck = true
    (∀ slow, ¬idle → s.computeDue 5 = false → exec (.powerCycle slow) s = .next s) ∧
    (∀ slow, idle ∨ s.computeDue 5 = true → completesTo (.powerCycle slow) s (fun t =>
      t.bit 0x3100 3 2 = false ∧ t.getF 0x3100 3 4 4 = 15 ∧ (∀ d, d < 4 → t.point d = 7) ∧
      ((∃ r, r ∈ slow ∧ r.val < 4) → t.bit 0x3100 3 12 = true))))

/-! ## Power-up -/

/-- PowerUp (R427, R540, R564, R596, R599, R601 to R603). A device reset leaves every object at its default but for what the NV store and the
fuses keep; the device boots once both resets are high, the clock has locked and no test strap is set, and its stacks begin to train; Ranger
starts once, with the compute rails up at P7; the loss of a supply resets the device, fails the stacks, or is an event. Where the rules leave a
point open it follows the model's readings in log entries 43, 90 and 91. -/
def Obligations.PowerUp : Prop := ∀ (s : State),
  let reset := fun (t : State) =>
    t.booted = false ∧ t.mem = [] ∧ t.stands = [] ∧ t.slots = [] ∧ t.funcs = [] ∧ t.ranger = State.reset.ranger ∧ t.computeReady = false ∧
    t.nv = s.nv ∧ t.xrefs = s.xrefs ∧ t.arefLost = s.arefLost ∧ t.snapAreas = s.snapAreas ∧ t.hssMarks = s.hssMarks ∧ t.pending = s.pending ∧
    ∀ k, t.word k = if keptWord k then s.word k else dictDefault k
  let boots := fun (t : State) => s.booted = false ∧ t.devRstN = true ∧ t.perstN = true ∧ t.mclkLocked = true ∧ t.bit 0x1002 1 2 = false
  let trains := fun (t : State) => t.booted = true ∧ (∀ k, k < 8 → t.getF (0x8020 + k) 2 0 2 = if t.wideMark k then 3 else 1) ∧
    (∀ k, t.wideMark k = true → s.wideMark k = true) ∧ ∀ p, p < 12 → bitOf (s.portCtrl p) 0 = true → t.portState p ≠ 0
  (∀ boot test, s.unstored = [] → completesTo (.devRstN false boot test) s (fun t => reset t ∧ t.perstN = s.perstN)) ∧
  (∀ boot test, s.devRstN = true → exec (.devRstN true boot test) s = .next s) ∧
  (∀ boot test, s.devRstN = false → completesTo (.devRstN true boot test) s (fun t =>
    t.devRstN = true ∧ t.getF 0x1002 1 0 2 = boot.toNat ∧ t.bit 0x1002 1 2 = test ∧ (boots t → trains t) ∧ (¬boots t → t.booted = s.booted) ∧
    sameBytes s t)) ∧
  completesTo (.perstN true) s (fun t => t.perstN = true ∧ (boots t → trains t) ∧ (¬boots t → t = { s with perstN := true }) ∧ sameBytes s t) ∧
  completesTo (.perstN false) s (fun t => t.perstN = false ∧ (s.booted = false → t = { s with perstN := false }) ∧
    (s.booted = true → t.endpointReady = false ∧ ∀ n, n < 9 → t.ringOn n = false) ∧ sameBytes s t) ∧
  completesTo .mclkPllLock s (fun t => t.mclkLocked = true ∧ (boots t → trains t) ∧ (¬boots t → t = { s with mclkLocked := true }) ∧ sameBytes s t) ∧
  (∀ d : DieId, completesTo (.arefLoss d) s (fun t => bitOf t.arefLost d.val = true ∧ t.bit 0x1002 1 (8 + d.val) = false ∧
    sameWordsBut s t (fun k => k = objKey 0 0x1002 1 0) ∧ t = { s with arefLost := t.arefLost, dict := t.dict })) ∧
  (s.booted = false ∨ s.ranger ≠ .off → exec .rangerStart s = .next s) ∧
  (s.booted = true → s.ranger = .off → s.heldBar0 = [] → completesTo .rangerStart s (fun t => t.ranger = .up ∧ sameBytes s t ∧
    (s.tripped = false → t.getF 0x3100 3 4 4 = 15 ∧ t.getF 0x1002 1 8 4 = 15 - s.arefLost.toNat ∧ ∀ d, d < 4 → t.point d = 7) ∧
    (s.tripped = true → t.dict = s.dict))) ∧
  (∀ r : RailId,
    (r.val = 10 → s.unstored = [] → completesTo (.railDrop r) s (fun t => reset t ∧ t.perstN = false)) ∧
    (5 ≤ r.val → r.val ≤ 7 → completesTo (.railDrop r) s (fun t => t.refreshOff = true ∧ (∀ k, k < 8 → t.getF (0x8020 + k) 2 0 2 = 3) ∧
      (∀ d, d < 8 → s.enabled d = true → (t.stand d).phase = .fenced ∧ (t.stand d).stuck = true) ∧ sameBytes s t)) ∧
    (r.val ≠ 10 → ¬(5 ≤ r.val ∧ r.val ≤ 7) → completesTo (.railDrop r) s (fun t => t.bit 0x3100 3 12 = true ∧ t.stands = s.stands ∧ sameBytes s t)))

/-! ## Security -/

/-- SecurityRequests (R494, R568 to R570, R572, R574, R575, R584). A report is signed with the next index, never again used, and its mark is moved
on before it is reached; nothing is signed while debug access is open or the indices are used up; a measurement, a certificate and a key exchange
are answered from the device's own; IDE keys are taken within a secured session; the test port moves no state but for internal access, which the
spec gives no effect. Where the rules leave a point open it follows the model's readings in log entries 50, 78 and 79. -/
def Obligations.SecurityRequests : Prop := ∀ (s : State),
  let answers := fun (t : State) (o : Output) => t.out = s.out ++ [o]
  let refused := fun (t : State) => t.out = s.out ++ [.spdm 0 []] ∧ t.obj 0x2001 5 = s.obj 0x2001 5 ∧ t.hssMarks = s.hssMarks
  let signs := fun (nonce : BitVec 256) (t : State) =>
    if s.debugOpen = true then refused t ∧ t.dict = s.dict
    else if 2 ^ 40 ≤ s.hssIndex then refused t ∧ t.bit 0x2000 1 15 = true
    else if bitOf s.drawn 0 then refused t ∧ t.bit 0x2000 1 15 = true
    else
      t.hssIndex = s.hssIndex + 1 ∧ (∃ time, answers t (.spdm 4 (s.reportBytes nonce s.hssIndex time))) ∧
      (s.mark ≤ s.hssIndex → ∃ k, k < 2 ∧ (t.hssMark k).mark = (s.hssMark s.bestMark).mark + 1024 ∧
        (t.hssMark (1 - k)) = s.hssMark (1 - k) ∧ k = 1 - s.bestMark) ∧
      (s.hssIndex < s.mark → t.hssMarks = s.hssMarks)
  (∀ q n i sl off len tr a b, s.booted = false → exec (.signRequest q) s = .next s ∧ exec (.vendorDefinedRequest a b n) s = .next s ∧
    exec (.keyExchange tr) s = .next s ∧ exec (.getMeasurements i) s = .next s ∧ exec (.getCertificate sl off len) s = .next s) ∧
  (s.booted = true →
    (∀ nonce, completesTo (.signRequest (.report nonce)) s (fun t => signs nonce t ∧ sameBytes s t ∧ t.stands = s.stands)) ∧
    (∀ dg, completesTo (.signRequest (.transcript dg)) s (fun t =>
      (s.debugOpen = true → answers t (.spdm 0 [])) ∧ (s.debugOpen = false → answers t (.spdm 3 (sliceBytes (Config.ecdsaSign dg) 0 96))) ∧
      t = { s with out := t.out })) ∧
    (∀ a b nonce, completesTo (.vendorDefinedRequest a b nonce) s (fun t =>
      if (a, b) = Config.spdmVendor then signs nonce t ∧ sameBytes s t else t = s.send (.spdm 0 []))) ∧
    (∀ tr, completesTo (.keyExchange tr) s (fun t =>
      (s.debugOpen = true → t = s.send (.spdm 0 [])) ∧
      (s.debugOpen = false → t = { s with spdmSecured := true }.send (.spdm 3 (sliceBytes (Config.ecdsaSign (Config.sha384 tr)) 0 96))))) ∧
    (∀ i : BitVec 8, exec (.getMeasurements i) s = .next (s.send (if i = 0 then .spdm 2 [15]
      else if i = 0xFF then .spdm 2 ((List.range 15).flatMap (fun k => leBytes 48 (s.measure (k + 1)).2.toNat))
      else if i.toNat ≤ 15 then .spdm 2 (leBytes 48 (s.measure i.toNat).2.toNat) else .spdm 0 []))) ∧
    (∀ (sl : BitVec 8) (off len : BitVec 16), exec (.getCertificate sl off len) s = .next (s.send
      (if sl = 0 ∧ off.toNat < 16384 then .spdm 1 (((s.recordBytes 0x2001 3 2048).drop off.toNat).take len.toNat) else .spdm 0 [])))) ∧
  (∀ (i : Fin 5) key, completesTo (.ideKm i key true) s (fun t =>
      (s.spdmSecured = true → SMap.get 0 t.ideKeys i.val = key ∧ (∀ j, j ≠ i.val → SMap.get 0 t.ideKeys j = SMap.get 0 s.ideKeys j) ∧
        answers t (.spdm 5 []) ∧ t = { s with ideKeys := t.ideKeys, out := t.out }) ∧
      (s.spdmSecured = false → t = s.send (.spdm 0 []))) ∧
    exec (.ideKm i key false) s = .next (s.send (.spdm 0 []))) ∧
  (∀ x, exec (.testPortAccess (.boundaryScan x)) s = .next s) ∧
  (∀ x, exec (.testPortAccess (.internal x)) s = if s.debugOpen = true then .refused .testPortInternal else .next s)

/-! ## The block as a whole -/

/-- StepRunsFrontCommand (the row's model form; log entry 6). A step runs the command at the front of the queue on the state with the rest of the
queue. Where nothing waits only user logic moves, and nothing does while no Clearing is released (log entry 124). -/
def Obligations.StepRunsFrontCommand : Prop := ∀ (s : State),
  (∀ c rest, step { s with pending := c :: rest } = exec c { s with pending := rest }) ∧
  (s.pending = [] → step s = .next s.tick ∧
    s.tick = { s with free := s.tick.free, flops := s.tick.flops, wires := s.tick.wires, pins := s.tick.pins, pairs := s.tick.pairs,
                      cfg := s.tick.cfg, cfgDiff := s.tick.cfgDiff } ∧
    ((∀ c, (s.clearing c).issued < 2) → s.tick = s))

/-- ResetState (R21, R168, R255, R366, R392, R425, R507, R540, R603). After a device reset no Stand is enabled, every slot and context is idle, no
Clearing is released, no port is up, no unit is marked failed, nothing waits, and the stores are in canonical form. The factory values of the
dictionary and the empty memory are the model's (log entries 5, 7 and 8). -/
def Obligations.ResetState : Prop := State.reset.canonical = true ∧ State.reset.pending = [] ∧ State.reset.mem = [] ∧ (∀ k, State.reset.word k = dictDefault k) ∧
  (∀ d, State.reset.enabled d = false ∧ State.reset.groveOwner d = none) ∧ (∀ k, (State.reset.slot k).st = .idle) ∧
  (∀ c, (State.reset.ctx c).st = .idle ∧ (State.reset.ctx c).v = []) ∧ (∀ c, c < 96 → State.reset.clearingState c ≠ 3) ∧
  (∀ p, p < 12 → State.reset.portUp p = false) ∧ (∀ t, t < 896 → State.reset.tileFailed t = false) ∧ State.reset.endpointReady = false ∧
  State.reset.computeReady = false ∧ State.reset.ranger = .off

/-- StepKeepsCanonical (the model's own form of its stores; log entries 5 and 8). Every step that answers a next state keeps the byte store and
the dictionary store in canonical form, from every state in which they are, so that equal contents are equal data; and it takes exactly the front
command from the queue. -/
def Obligations.StepKeepsCanonical : Prop := ∀ s t : State,
  step s = .next t → (s.canonical = true → t.canonical = true) ∧ t.pending = s.pending.tail
end

