-- ==== Sys2Proof/Laws/Bits.lean ====
section
/-! SUPPORT. Laws of bit fields: a field that was set is read back, and a disjoint field is left. -/

namespace Sys2Proof.Machine

/-- A bit of a field. -/
theorem testBit_fld {w : Nat} (v : BitVec w) (lo n i : Nat) :
    (fld v lo n).testBit i = (decide (i < n) && v.getLsbD (lo + i)) := by
  simp [fld, Nat.testBit_mod_two_pow, Nat.testBit_shiftRight, BitVec.getLsbD]

/-- A field is below 2^n. -/
theorem fld_lt {w : Nat} (v : BitVec w) (lo n : Nat) : fld v lo n < 2 ^ n := Nat.mod_lt _ (Nat.two_pow_pos n)

/-- A bit of a value after one of its fields is set. -/
theorem getLsbD_setFld {w : Nat} (v : BitVec w) (lo n x i : Nat) :
    (setFld v lo n x).getLsbD i =
      (decide (i < w) && if lo ≤ i ∧ i < lo + n then x.testBit (i - lo) else v.getLsbD i) := by
  have hm : ((2 ^ n - 1) <<< lo).testBit i = decide (lo ≤ i ∧ i < lo + n) := by
    rw [Nat.testBit_shiftLeft, Nat.testBit_two_pow_sub_one]
    by_cases h1 : lo ≤ i
    · have h2 : (i - lo < n) ↔ (i < lo + n) := by omega
      simp [h1, h2]
    · simp [h1]
  have hx : ((x % 2 ^ n) <<< lo).testBit i = (decide (lo ≤ i ∧ i < lo + n) && x.testBit (i - lo)) := by
    rw [Nat.testBit_shiftLeft, Nat.testBit_mod_two_pow]
    by_cases h1 : lo ≤ i
    · have h2 : (i - lo < n) ↔ (i < lo + n) := by omega
      simp [h1, h2]
    · simp [h1]
  unfold setFld
  by_cases hw : i < w
  · rw [BitVec.getLsbD_or, BitVec.getLsbD_and, BitVec.getLsbD_not, BitVec.getLsbD_ofNat, BitVec.getLsbD_ofNat, hm, hx]
    by_cases hin : lo ≤ i ∧ i < lo + n <;> simp [hw, hin]
  · rw [BitVec.getLsbD_of_ge _ _ (Nat.le_of_not_lt hw)]
    simp [hw]

/-- The field that was set reads as what was written. -/
theorem fld_setFld_self {w : Nat} (v : BitVec w) (lo n x : Nat) (h : lo + n ≤ w) : fld (setFld v lo n x) lo n = x % 2 ^ n := by
  apply Nat.eq_of_testBit_eq
  intro i
  rw [testBit_fld, getLsbD_setFld, Nat.testBit_mod_two_pow]
  by_cases hi : i < n
  · have h1 : lo + i < w := by omega
    simp [hi, h1]
  · simp [hi]

/-- A disjoint field is left. -/
theorem fld_setFld_ne {w : Nat} (v : BitVec w) (lo n x lo' n' : Nat) (h : lo' + n' ≤ lo ∨ lo + n ≤ lo') :
    fld (setFld v lo n x) lo' n' = fld v lo' n' := by
  apply Nat.eq_of_testBit_eq
  intro i
  rw [testBit_fld, testBit_fld, getLsbD_setFld]
  by_cases hi : i < n'
  · by_cases hw : lo' + i < w
    · have h1 : ¬ (lo ≤ lo' + i ∧ lo' + i < lo + n) := by omega
      simp [hi, hw, h1]
    · simp [hw, BitVec.getLsbD_of_ge _ _ (Nat.le_of_not_lt hw)]
  · simp [hi]

/-- A bit outside a field that was set is left. -/
theorem bitOf_setFld_ne {w : Nat} (v : BitVec w) (lo n x i : Nat) (h : i < lo ∨ lo + n ≤ i) :
    bitOf (setFld v lo n x) i = bitOf v i := by
  unfold bitOf
  rw [getLsbD_setFld]
  have h1 : ¬ (lo ≤ i ∧ i < lo + n) := by omega
  by_cases hw : i < w
  · simp [hw, h1]
  · simp [hw, BitVec.getLsbD_of_ge _ _ (Nat.le_of_not_lt hw)]

/-- A bit that was set. -/
theorem bitOf_setBit_self {w : Nat} (v : BitVec w) (i : Nat) (b : Bool) (h : i < w) : bitOf (setBit v i b) i = b := by
  unfold bitOf setBit
  rw [getLsbD_setFld]
  cases b <;> simp [h]

/-- Another bit is left. -/
theorem bitOf_setBit_ne {w : Nat} (v : BitVec w) {i j : Nat} (b : Bool) (h : j ≠ i) : bitOf (setBit v i b) j = bitOf v j :=
  bitOf_setFld_ne v i 1 _ j (by omega)

/-- Bytes of a number, and their number. -/
@[simp] theorem length_leBytes (n v : Nat) : (leBytes n v).length = n := by
  induction n generalizing v with
  | zero => rfl
  | succ n ih => simp [leBytes, ih]

/-- Bytes spell back the number they were taken from. -/
theorem ofLe_leBytes (n v : Nat) : ofLe (leBytes n v) = v % 256 ^ n := by
  induction n generalizing v with
  | zero => simp [leBytes, ofLe, Nat.mod_one]
  | succ n ih =>
    simp only [leBytes, ofLe, ih, BitVec.toNat_ofNat]
    have h8 : (2 : Nat) ^ 8 = 256 := rfl
    rw [h8, Nat.pow_succ, Nat.mul_comm (256 ^ n) 256, Nat.mod_mul]

@[simp] theorem length_sliceBytes (l : List Byte) (off n : Nat) : (sliceBytes l off n).length = n := by simp [sliceBytes]

end Sys2Proof.Machine
end

