-- ==== Sys2Proof/Laws/LineCode.lean ====
section
/-! SUPPORT. What a Xannus lane's coding answers for sound codewords (R338 to R340). -/

namespace Sys2Proof.Machine

theorem bitsLsb_length (n x : Nat) : (bitsLsb n x).length = n := by
  induction n generalizing x with
  | zero => rfl
  | succ n ih => simp [bitsLsb, ih]

theorem symbolBits_drop (l : List Nat) (i : Nat) : (symbolBits l).drop (10 * i) = symbolBits (l.drop i) := by
  induction i generalizing l with
  | zero => rfl
  | succ i ih =>
    cases l with
    | nil => simp [symbolBits]
    | cons c l =>
      have h : symbolBits (c :: l) = bitsLsb 10 c ++ symbolBits l := rfl
      rw [h, Nat.mul_succ, Nat.add_comm, ← List.drop_drop, List.drop_left' (bitsLsb_length 10 c), ih, List.drop_succ_cons]

theorem ofBitsLsb_bitsLsb (n x : Nat) (h : x < 2 ^ n) : ofBitsLsb (bitsLsb n x) = x := by
  induction n generalizing x with
  | zero => simp only [Nat.pow_zero, Nat.lt_one_iff] at h; subst h; rfl
  | succ n ih =>
    simp only [bitsLsb, ofBitsLsb, ih (x / 2) (by omega), b2n]
    rcases Nat.mod_two_eq_zero_or_one x with e | e <;> simp [e] <;> omega

/-- The symbols of a codeword's bits. -/
theorem symbolsOf_symbolBits (l : List Nat) (h : ∀ c, c ∈ l → c < 1024) : symbolsOf l.length (symbolBits l) = l := by
  apply List.ext_getElem
  · simp [symbolsOf]
  · intro i h1 h2
    have e : symbolBits (l.drop i) = bitsLsb 10 l[i] ++ symbolBits (l.drop (i + 1)) := by rw [List.drop_eq_getElem_cons h2]; rfl
    simp only [symbolsOf, List.getElem_map, List.getElem_range, symbolBits_drop, e]
    rw [List.take_left' (bitsLsb_length 10 _), ofBitsLsb_bitsLsb _ _ (h _ (List.getElem_mem h2))]

/-- A word whose syndromes are 0 is its own codeword (R338). -/
theorem rsDecode_sound {w : List Nat} (h : (rsSyndromes w).all (· == 0) = true) : rsDecode w = some (w, 0) := by
  unfold rsDecode
  simp only [h, if_true]

/-- One codeword more, of those decoded with its levels' last code. -/
theorem decodeLine_cons {inv pre : Bool} {y : Nat} {w : BitVec 5440} {l : List (BitVec 5440)} {r : List Nat × Nat} {t : List Bool}
    (h : rsWord (levelBits pre y (unpackLevels inv w)).1 = some r)
    (ht : decodeLine inv pre (levelBits pre y (unpackLevels inv w)).2 l = some t) :
    decodeLine inv pre y (w :: l) = some (symbolBits (r.1.take 514) ++ t) := by
  have e : decodeLine inv pre y (w :: l) = (rsWord (levelBits pre y (unpackLevels inv w)).1).bind
    (fun r => (decodeLine inv pre (levelBits pre y (unpackLevels inv w)).2 l).map (fun t => symbolBits (r.1.take 514) ++ t)) := rfl
  rw [e, h, ht]; rfl

/-- Without precoding no level depends on the one before it (R339). -/
theorem levelBits_plain (y : Nat) (l : List Nat) : (levelBits false y l).1 = (levelBits false 0 l).1 := by cases l <;> rfl

end Sys2Proof.Machine
end

