-- ==== Sys2Proof/Laws/Ports.lean ====
section
/-! SUPPORT. The checks of the Xannus blocks: what a port sends passes the check its peer makes (R347). -/

namespace Sys2Proof.Machine

/-- A check of `w` bits fits its width. -/
theorem crcBits_lt (w poly init : Nat) (l : List Bool) (h : init < 2 ^ w) (hp : poly < 2 ^ w) : crcBits w poly init l < 2 ^ w := by
  unfold crcBits
  induction l generalizing init with
  | nil => exact h
  | cons b t ih =>
    refine ih _ ?_
    unfold crcStep
    dsimp only
    split
    · exact Nat.xor_lt_two_pow (Nat.mod_lt _ (Nat.two_pow_pos w)) hp
    · exact Nat.mod_lt _ (Nat.two_pow_pos w)

/-- Every block that a port builds passes the check of its type. -/
theorem blockGood_portBlockWith (x : Port) (type seq credit : Nat) (body : List Bool) (h : type < 256) :
    blockGood type (portBlockWith x type seq credit body) body = true := by
  have hc : crc24 (blockBits (type + 256 * (seq % 4096) + 2 ^ 20 * x.rxSeq.toNat + 2 ^ 32 * (credit % 16)) body) < 2 ^ 24 :=
    crcBits_lt 24 0x864CFB 0 _ (by decide) (by decide)
  have hr := x.rxSeq.isLt
  have hb : type + 256 * (seq % 4096) + 2 ^ 20 * x.rxSeq.toNat + 2 ^ 32 * (credit % 16) < 2 ^ 40 := by omega
  have ht : (type + 256 * (seq % 4096) + 2 ^ 20 * x.rxSeq.toNat + 2 ^ 32 * (credit % 16)) % 256 = type := by omega
  unfold blockGood portBlockWith
  generalize type + 256 * (seq % 4096) + 2 ^ 20 * x.rxSeq.toNat + 2 ^ 32 * (credit % 16) = b at hc hb ht ⊢
  have h0 : fld (BitVec.ofNat 64 (b + 2 ^ 40 * crc24 (blockBits b body))) 0 40 = b := by
    simp only [fld, BitVec.toNat_ofNat, Nat.shiftRight_eq_div_pow]
    omega
  have h1 : fld (BitVec.ofNat 64 (b + 2 ^ 40 * crc24 (blockBits b body))) 0 8 = type := by
    simp only [fld, BitVec.toNat_ofNat, Nat.shiftRight_eq_div_pow]
    omega
  have h2 : fld (BitVec.ofNat 64 (b + 2 ^ 40 * crc24 (blockBits b body))) 40 24 = crc24 (blockBits b body) := by
    simp only [fld, BitVec.toNat_ofNat, Nat.shiftRight_eq_div_pow]
    omega
  simp only [h0, h1, h2, beq_self_eq_true, Bool.and_self]

end Sys2Proof.Machine
end

