-- ==== Sys2Proof/Laws/SMap.lean ====
section
/-! SUPPORT. Laws of the sparse maps: a read after a write, and the canonical form that every write keeps. -/

namespace Sys2Proof.Machine.SMap

variable {α : Type}

@[simp] theorem find?_nil (k : Nat) : find? ([] : SMap α) k = none := rfl

theorem find?_cons (i : Nat) (v : α) (t : SMap α) (k : Nat) :
    find? ((i, v) :: t) k = if i = k then some v else find? t k := rfl

@[simp] theorem find?_insert_self (m : SMap α) (k : Nat) (v : α) : find? (insert m k v) k = some v := by
  induction m with
  | nil => simp [insert, find?]
  | cons e t ih =>
    obtain ⟨i, u⟩ := e
    simp only [insert]
    split
    · simp [find?]
    · split
      · simp [find?]
      · simp_all [find?]

theorem find?_insert_ne (m : SMap α) {k j : Nat} (v : α) (h : j ≠ k) : find? (insert m k v) j = find? m j := by
  induction m with
  | nil => simp [insert, find?, h.symm]
  | cons e t ih =>
    obtain ⟨i, u⟩ := e
    simp only [insert]
    split
    · next hi => subst hi; simp [find?, h.symm]
    · split
      · simp [find?, h.symm]
      · simp [find?, ih]

theorem find?_eraseAll (m : SMap α) (p : Nat → Bool) (k : Nat) :
    find? (eraseAll m p) k = if p k then none else find? m k := by
  induction m with
  | nil => simp [eraseAll, find?]
  | cons e t ih =>
    obtain ⟨i, u⟩ := e
    simp only [eraseAll] at ih
    by_cases hp : p i
    · simp only [eraseAll, List.filter_cons, hp, Bool.not_true, Bool.false_eq_true, if_false, ih, find?]
      by_cases hk : i = k
      · subst hk; simp [hp]
      · simp [hk]
    · simp only [eraseAll, List.filter_cons, hp, Bool.not_false, if_true, find?, ih]
      by_cases hk : i = k
      · subst hk; simp [hp]
      · simp [hk]

/-- What was written is read. -/
@[simp] theorem get_set_self [DecidableEq α] (d : α) (m : SMap α) (k : Nat) (v : α) : get d (set d m k v) k = v := by
  unfold get set
  split
  · next h => simp [erase, find?_eraseAll, h]
  · simp

/-- A write leaves every other key. -/
theorem get_set_ne [DecidableEq α] (d e : α) (m : SMap α) {k j : Nat} (v : α) (h : j ≠ k) : get e (set d m k v) j = get e m j := by
  unfold get set
  split
  · simp [erase, find?_eraseAll, h]
  · simp [find?_insert_ne m v h]

theorem find?_set_ne [DecidableEq α] (d : α) (m : SMap α) {k j : Nat} (v : α) (h : j ≠ k) : find? (set d m k v) j = find? m j := by
  unfold set
  split
  · simp [erase, find?_eraseAll, h]
  · simp [find?_insert_ne m v h]

/-- A write of `v` makes the key read as `v`, whatever an unlisted key reads as. -/
theorem find?_set_self [DecidableEq α] (d : α) (m : SMap α) (k : Nat) (v : α) : (find? (set d m k v) k).getD d = v := by
  have := get_set_self d m k v
  simpa [get] using this

/-! ## The canonical form -/

theorem wfFrom_mono [DecidableEq α] (d : Nat → α) {lo lo' : Nat} (m : SMap α) (hle : lo' ≤ lo) (h : wfFrom d lo m = true) :
    wfFrom d lo' m = true := by
  cases m with
  | nil => rfl
  | cons e t =>
    obtain ⟨k, v⟩ := e
    simp only [wfFrom, Bool.and_eq_true, decide_eq_true_eq] at h ⊢
    exact ⟨⟨by omega, h.1.2⟩, h.2⟩

theorem wfFrom_insert [DecidableEq α] (d : Nat → α) (m : SMap α) :
    ∀ {lo : Nat} (k : Nat) (v : α), lo ≤ k → v ≠ d k → wfFrom d lo m = true → wfFrom d lo (insert m k v) = true := by
  induction m with
  | nil => intro lo k v hk hv _; simp [insert, wfFrom, hk, hv]
  | cons e t ih =>
    intro lo k v hk hv h
    obtain ⟨i, u⟩ := e
    simp only [wfFrom, Bool.and_eq_true, decide_eq_true_eq] at h
    simp only [insert]
    split
    · next hi => subst hi; simp [wfFrom, hk, hv, h.2]
    · split
      · next hlt => simp [wfFrom, hk, hv, h.1.2, h.2]; omega
      · next h1 h2 =>
        simp only [wfFrom, Bool.and_eq_true, decide_eq_true_eq]
        exact ⟨h.1, ih k v (by omega) hv h.2⟩

theorem wfFrom_eraseAll [DecidableEq α] (d : Nat → α) (p : Nat → Bool) (m : SMap α) :
    ∀ {lo : Nat}, wfFrom d lo m = true → wfFrom d lo (eraseAll m p) = true := by
  induction m with
  | nil => intro lo h; exact h
  | cons e t ih =>
    intro lo h
    obtain ⟨k, v⟩ := e
    simp only [wfFrom, Bool.and_eq_true, decide_eq_true_eq] at h
    have ht := ih h.2
    simp only [eraseAll] at ht ⊢
    by_cases hp : p k
    · simp only [List.filter_cons, hp, Bool.not_true, Bool.false_eq_true, if_false]
      exact wfFrom_mono d _ (by omega) ht
    · simp only [List.filter_cons, hp, Bool.not_false, if_true, wfFrom, Bool.and_eq_true, decide_eq_true_eq]
      exact ⟨h.1, ht⟩

/-- A write keeps the canonical form. -/
theorem wf_set [DecidableEq α] (d : Nat → α) (m : SMap α) (k : Nat) (v : α) (h : wf d m = true) : wf d (set (d k) m k v) = true := by
  unfold set
  split
  · exact wfFrom_eraseAll d _ m h
  · next hv => exact wfFrom_insert d m k v (Nat.zero_le _) hv h

/-- Dropping entries keeps the canonical form. -/
theorem wf_eraseAll [DecidableEq α] (d : Nat → α) (m : SMap α) (p : Nat → Bool) (h : wf d m = true) : wf d (eraseAll m p) = true :=
  wfFrom_eraseAll d p m h

@[simp] theorem wf_nil [DecidableEq α] (d : Nat → α) : wf d ([] : SMap α) = true := rfl

/-- In canonical form no listed value is what an unlisted key reads as. -/
theorem wf_listed [DecidableEq α] (d : Nat → α) {m : SMap α} (h : wf d m = true) {k : Nat} {v : α} (hf : find? m k = some v) : v ≠ d k := by
  have key : ∀ (l : SMap α) {lo : Nat}, wfFrom d lo l = true → find? l k = some v → v ≠ d k := by
    intro l
    induction l with
    | nil => intro _ _ hl; simp [find?] at hl
    | cons e t ih =>
      obtain ⟨i, u⟩ := e
      intro lo hw hl
      simp only [wfFrom, Bool.and_eq_true, decide_eq_true_eq] at hw
      simp only [find?] at hl
      split at hl
      · next hi => subst hi; simp only [Option.some.injEq] at hl; exact hl ▸ hw.1.2
      · exact ih hw.2 hl
  exact key m h hf

end Sys2Proof.Machine.SMap
end

