-- ==== Sys2Proof/Laws/State.lean ====
section
/-! SUPPORT. What each update of the state leaves: one lemma for each field and each update, so that no proof unfolds an update. -/

namespace Sys2Proof.Machine

variable (s : State)

/-! ## setSession -/

@[simp] theorem State.setSession_pending (k : Nat) (x : Option Session) : (s.setSession k x).pending = s.pending := rfl
@[simp] theorem State.setSession_free (k : Nat) (x : Option Session) : (s.setSession k x).free = s.free := rfl
@[simp] theorem State.setSession_out (k : Nat) (x : Option Session) : (s.setSession k x).out = s.out := rfl
@[simp] theorem State.setSession_dict (k : Nat) (x : Option Session) : (s.setSession k x).dict = s.dict := rfl
@[simp] theorem State.setSession_accepted (k : Nat) (x : Option Session) : (s.setSession k x).accepted = s.accepted := rfl
@[simp] theorem State.setSession_mem (k : Nat) (x : Option Session) : (s.setSession k x).mem = s.mem := rfl
@[simp] theorem State.setSession_scram (k : Nat) (x : Option Session) : (s.setSession k x).scram = s.scram := rfl
@[simp] theorem State.setSession_writeBack (k : Nat) (x : Option Session) : (s.setSession k x).writeBack = s.writeBack := rfl
@[simp] theorem State.setSession_reports (k : Nat) (x : Option Session) : (s.setSession k x).reports = s.reports := rfl
@[simp] theorem State.setSession_sramDiff (k : Nat) (x : Option Session) : (s.setSession k x).sramDiff = s.sramDiff := rfl
@[simp] theorem State.setSession_stackDiff (k : Nat) (x : Option Session) : (s.setSession k x).stackDiff = s.stackDiff := rfl
@[simp] theorem State.setSession_written (k : Nat) (x : Option Session) : (s.setSession k x).written = s.written := rfl
@[simp] theorem State.setSession_mirror (k : Nat) (x : Option Session) : (s.setSession k x).mirror = s.mirror := rfl
@[simp] theorem State.setSession_stands (k : Nat) (x : Option Session) : (s.setSession k x).stands = s.stands := rfl
@[simp] theorem State.setSession_groves (k : Nat) (x : Option Session) : (s.setSession k x).groves = s.groves := rfl
@[simp] theorem State.setSession_tiles (k : Nat) (x : Option Session) : (s.setSession k x).tiles = s.tiles := rfl
@[simp] theorem State.setSession_ctxs (k : Nat) (x : Option Session) : (s.setSession k x).ctxs = s.ctxs := rfl
@[simp] theorem State.setSession_slots (k : Nat) (x : Option Session) : (s.setSession k x).slots = s.slots := rfl
@[simp] theorem State.setSession_freed (k : Nat) (x : Option Session) : (s.setSession k x).freed = s.freed := rfl
@[simp] theorem State.setSession_rootStacks (k : Nat) (x : Option Session) : (s.setSession k x).rootStacks = s.rootStacks := rfl
@[simp] theorem State.setSession_windowTaken (k : Nat) (x : Option Session) : (s.setSession k x).windowTaken = s.windowTaken := rfl
@[simp] theorem State.setSession_patrol (k : Nat) (x : Option Session) : (s.setSession k x).patrol = s.patrol := rfl
@[simp] theorem State.setSession_fifos (k : Nat) (x : Option Session) : (s.setSession k x).fifos = s.fifos := rfl
@[simp] theorem State.setSession_rx (k : Nat) (x : Option Session) : (s.setSession k x).rx = s.rx := rfl
@[simp] theorem State.setSession_outst (k : Nat) (x : Option Session) : (s.setSession k x).outst = s.outst := rfl
@[simp] theorem State.setSession_mismatches (k : Nat) (x : Option Session) : (s.setSession k x).mismatches = s.mismatches := rfl
@[simp] theorem State.setSession_turns (k : Nat) (x : Option Session) : (s.setSession k x).turns = s.turns := rfl
@[simp] theorem State.setSession_treeDebts (k : Nat) (x : Option Session) : (s.setSession k x).treeDebts = s.treeDebts := rfl
@[simp] theorem State.setSession_treeOff (k : Nat) (x : Option Session) : (s.setSession k x).treeOff = s.treeOff := rfl
@[simp] theorem State.setSession_treeSent (k : Nat) (x : Option Session) : (s.setSession k x).treeSent = s.treeSent := rfl
@[simp] theorem State.setSession_treeMasks (k : Nat) (x : Option Session) : (s.setSession k x).treeMasks = s.treeMasks := rfl
@[simp] theorem State.setSession_ports (k : Nat) (x : Option Session) : (s.setSession k x).ports = s.ports := rfl
@[simp] theorem State.setSession_lanes (k : Nat) (x : Option Session) : (s.setSession k x).lanes = s.lanes := rfl
@[simp] theorem State.setSession_xrefs (k : Nat) (x : Option Session) : (s.setSession k x).xrefs = s.xrefs := rfl
@[simp] theorem State.setSession_jobs (k : Nat) (x : Option Session) : (s.setSession k x).jobs = s.jobs := rfl
@[simp] theorem State.setSession_abortLog (k : Nat) (x : Option Session) : (s.setSession k x).abortLog = s.abortLog := rfl
@[simp] theorem State.setSession_clearings (k : Nat) (x : Option Session) : (s.setSession k x).clearings = s.clearings := rfl
@[simp] theorem State.setSession_flops (k : Nat) (x : Option Session) : (s.setSession k x).flops = s.flops := rfl
@[simp] theorem State.setSession_wires (k : Nat) (x : Option Session) : (s.setSession k x).wires = s.wires := rfl
@[simp] theorem State.setSession_pins (k : Nat) (x : Option Session) : (s.setSession k x).pins = s.pins := rfl
@[simp] theorem State.setSession_pairs (k : Nat) (x : Option Session) : (s.setSession k x).pairs = s.pairs := rfl
@[simp] theorem State.setSession_nv (k : Nat) (x : Option Session) : (s.setSession k x).nv = s.nv := rfl
@[simp] theorem State.setSession_bootCopies (k : Nat) (x : Option Session) : (s.setSession k x).bootCopies = s.bootCopies := rfl
@[simp] theorem State.setSession_cfg (k : Nat) (x : Option Session) : (s.setSession k x).cfg = s.cfg := rfl
@[simp] theorem State.setSession_cfgDiff (k : Nat) (x : Option Session) : (s.setSession k x).cfgDiff = s.cfgDiff := rfl
@[simp] theorem State.setSession_shadow (k : Nat) (x : Option Session) : (s.setSession k x).shadow = s.shadow := rfl
@[simp] theorem State.setSession_shadowDiff (k : Nat) (x : Option Session) : (s.setSession k x).shadowDiff = s.shadowDiff := rfl
@[simp] theorem State.setSession_decoded (k : Nat) (x : Option Session) : (s.setSession k x).decoded = s.decoded := rfl
@[simp] theorem State.setSession_frameMap (k : Nat) (x : Option Session) : (s.setSession k x).frameMap = s.frameMap := rfl
@[simp] theorem State.setSession_shadowRelease (k : Nat) (x : Option Session) : (s.setSession k x).shadowRelease = s.shadowRelease := rfl
@[simp] theorem State.setSession_switch (k : Nat) (x : Option Session) : (s.setSession k x).switch = s.switch := rfl
@[simp] theorem State.setSession_groveNext (k : Nat) (x : Option Session) : (s.setSession k x).groveNext = s.groveNext := rfl
@[simp] theorem State.setSession_scrubAt (k : Nat) (x : Option Session) : (s.setSession k x).scrubAt = s.scrubAt := rfl
@[simp] theorem State.setSession_captures (k : Nat) (x : Option Session) : (s.setSession k x).captures = s.captures := rfl
@[simp] theorem State.setSession_rxFrames (k : Nat) (x : Option Session) : (s.setSession k x).rxFrames = s.rxFrames := rfl
@[simp] theorem State.setSession_plcaOk (k : Nat) (x : Option Session) : (s.setSession k x).plcaOk = s.plcaOk := rfl
@[simp] theorem State.setSession_plcaDown (k : Nat) (x : Option Session) : (s.setSession k x).plcaDown = s.plcaDown := rfl
@[simp] theorem State.setSession_revert (k : Nat) (x : Option Session) : (s.setSession k x).revert = s.revert := rfl
@[simp] theorem State.setSession_sessions (k : Nat) (x : Option Session) : (s.setSession k x).sessions = SMap.set none s.sessions k x := rfl
@[simp] theorem State.setSession_halfOpen (k : Nat) (x : Option Session) : (s.setSession k x).halfOpen = s.halfOpen := rfl
@[simp] theorem State.setSession_lastSession (k : Nat) (x : Option Session) : (s.setSession k x).lastSession = s.lastSession := rfl
@[simp] theorem State.setSession_sessionUse (k : Nat) (x : Option Session) : (s.setSession k x).sessionUse = s.sessionUse := rfl
@[simp] theorem State.setSession_challenge (k : Nat) (x : Option Session) : (s.setSession k x).challenge = s.challenge := rfl
@[simp] theorem State.setSession_actions (k : Nat) (x : Option Session) : (s.setSession k x).actions = s.actions := rfl
@[simp] theorem State.setSession_snapAreas (k : Nat) (x : Option Session) : (s.setSession k x).snapAreas = s.snapAreas := rfl
@[simp] theorem State.setSession_snapNewest (k : Nat) (x : Option Session) : (s.setSession k x).snapNewest = s.snapNewest := rfl
@[simp] theorem State.setSession_kept (k : Nat) (x : Option Session) : (s.setSession k x).kept = s.kept := rfl
@[simp] theorem State.setSession_nextReport (k : Nat) (x : Option Session) : (s.setSession k x).nextReport = s.nextReport := rfl
@[simp] theorem State.setSession_ats (k : Nat) (x : Option Session) : (s.setSession k x).ats = s.ats := rfl
@[simp] theorem State.setSession_hostOff (k : Nat) (x : Option Session) : (s.setSession k x).hostOff = s.hostOff := rfl
@[simp] theorem State.setSession_funcs (k : Nat) (x : Option Session) : (s.setSession k x).funcs = s.funcs := rfl
@[simp] theorem State.setSession_bells (k : Nat) (x : Option Session) : (s.setSession k x).bells = s.bells := rfl
@[simp] theorem State.setSession_heldBar0 (k : Nat) (x : Option Session) : (s.setSession k x).heldBar0 = s.heldBar0 := rfl
@[simp] theorem State.setSession_latches (k : Nat) (x : Option Session) : (s.setSession k x).latches = s.latches := rfl
@[simp] theorem State.setSession_endpointReady (k : Nat) (x : Option Session) : (s.setSession k x).endpointReady = s.endpointReady := rfl
@[simp] theorem State.setSession_statusSent (k : Nat) (x : Option Session) : (s.setSession k x).statusSent = s.statusSent := rfl
@[simp] theorem State.setSession_sensors (k : Nat) (x : Option Session) : (s.setSession k x).sensors = s.sensors := rfl
@[simp] theorem State.setSession_packageSamples (k : Nat) (x : Option Session) : (s.setSession k x).packageSamples = s.packageSamples := rfl
@[simp] theorem State.setSession_energyRest (k : Nat) (x : Option Session) : (s.setSession k x).energyRest = s.energyRest := rfl
@[simp] theorem State.setSession_telemetrySamples (k : Nat) (x : Option Session) : (s.setSession k x).telemetrySamples = s.telemetrySamples := rfl
@[simp] theorem State.setSession_diePower (k : Nat) (x : Option Session) : (s.setSession k x).diePower = s.diePower := rfl
@[simp] theorem State.setSession_stackHot (k : Nat) (x : Option Session) : (s.setSession k x).stackHot = s.stackHot := rfl
@[simp] theorem State.setSession_ranger (k : Nat) (x : Option Session) : (s.setSession k x).ranger = s.ranger := rfl
@[simp] theorem State.setSession_watchdog (k : Nat) (x : Option Session) : (s.setSession k x).watchdog = s.watchdog := rfl
@[simp] theorem State.setSession_rerouteDue (k : Nat) (x : Option Session) : (s.setSession k x).rerouteDue = s.rerouteDue := rfl
@[simp] theorem State.setSession_heldRecords (k : Nat) (x : Option Session) : (s.setSession k x).heldRecords = s.heldRecords := rfl
@[simp] theorem State.setSession_stewards (k : Nat) (x : Option Session) : (s.setSession k x).stewards = s.stewards := rfl
@[simp] theorem State.setSession_stalls (k : Nat) (x : Option Session) : (s.setSession k x).stalls = s.stalls := rfl
@[simp] theorem State.setSession_logSerial (k : Nat) (x : Option Session) : (s.setSession k x).logSerial = s.logSerial := rfl
@[simp] theorem State.setSession_logUnread (k : Nat) (x : Option Session) : (s.setSession k x).logUnread = s.logUnread := rfl
@[simp] theorem State.setSession_tests (k : Nat) (x : Option Session) : (s.setSession k x).tests = s.tests := rfl
@[simp] theorem State.setSession_selfTest (k : Nat) (x : Option Session) : (s.setSession k x).selfTest = s.selfTest := rfl
@[simp] theorem State.setSession_hssMarks (k : Nat) (x : Option Session) : (s.setSession k x).hssMarks = s.hssMarks := rfl
@[simp] theorem State.setSession_minimaOk (k : Nat) (x : Option Session) : (s.setSession k x).minimaOk = s.minimaOk := rfl
@[simp] theorem State.setSession_spdmSecured (k : Nat) (x : Option Session) : (s.setSession k x).spdmSecured = s.spdmSecured := rfl
@[simp] theorem State.setSession_ideKeys (k : Nat) (x : Option Session) : (s.setSession k x).ideKeys = s.ideKeys := rfl
@[simp] theorem State.setSession_devRstN (k : Nat) (x : Option Session) : (s.setSession k x).devRstN = s.devRstN := rfl
@[simp] theorem State.setSession_perstN (k : Nat) (x : Option Session) : (s.setSession k x).perstN = s.perstN := rfl
@[simp] theorem State.setSession_mclkLocked (k : Nat) (x : Option Session) : (s.setSession k x).mclkLocked = s.mclkLocked := rfl
@[simp] theorem State.setSession_booted (k : Nat) (x : Option Session) : (s.setSession k x).booted = s.booted := rfl
@[simp] theorem State.setSession_arefLost (k : Nat) (x : Option Session) : (s.setSession k x).arefLost = s.arefLost := rfl
@[simp] theorem State.setSession_computeReady (k : Nat) (x : Option Session) : (s.setSession k x).computeReady = s.computeReady := rfl
@[simp] theorem State.setSession_coreRetry (k : Nat) (x : Option Session) : (s.setSession k x).coreRetry = s.coreRetry := rfl
@[simp] theorem State.setSession_refreshOff (k : Nat) (x : Option Session) : (s.setSession k x).refreshOff = s.refreshOff := rfl

/-! ## setOutst -/

@[simp] theorem State.setOutst_pending (node txn : Nat) (o : Option Outst) : (s.setOutst node txn o).pending = s.pending := rfl
@[simp] theorem State.setOutst_free (node txn : Nat) (o : Option Outst) : (s.setOutst node txn o).free = s.free := rfl
@[simp] theorem State.setOutst_out (node txn : Nat) (o : Option Outst) : (s.setOutst node txn o).out = s.out := rfl
@[simp] theorem State.setOutst_dict (node txn : Nat) (o : Option Outst) : (s.setOutst node txn o).dict = s.dict := rfl
@[simp] theorem State.setOutst_accepted (node txn : Nat) (o : Option Outst) : (s.setOutst node txn o).accepted = s.accepted := rfl
@[simp] theorem State.setOutst_mem (node txn : Nat) (o : Option Outst) : (s.setOutst node txn o).mem = s.mem := rfl
@[simp] theorem State.setOutst_scram (node txn : Nat) (o : Option Outst) : (s.setOutst node txn o).scram = s.scram := rfl
@[simp] theorem State.setOutst_writeBack (node txn : Nat) (o : Option Outst) : (s.setOutst node txn o).writeBack = s.writeBack := rfl
@[simp] theorem State.setOutst_reports (node txn : Nat) (o : Option Outst) : (s.setOutst node txn o).reports = s.reports := rfl
@[simp] theorem State.setOutst_sramDiff (node txn : Nat) (o : Option Outst) : (s.setOutst node txn o).sramDiff = s.sramDiff := rfl
@[simp] theorem State.setOutst_stackDiff (node txn : Nat) (o : Option Outst) : (s.setOutst node txn o).stackDiff = s.stackDiff := rfl
@[simp] theorem State.setOutst_written (node txn : Nat) (o : Option Outst) : (s.setOutst node txn o).written = s.written := rfl
@[simp] theorem State.setOutst_mirror (node txn : Nat) (o : Option Outst) : (s.setOutst node txn o).mirror = s.mirror := rfl
@[simp] theorem State.setOutst_stands (node txn : Nat) (o : Option Outst) : (s.setOutst node txn o).stands = s.stands := rfl
@[simp] theorem State.setOutst_groves (node txn : Nat) (o : Option Outst) : (s.setOutst node txn o).groves = s.groves := rfl
@[simp] theorem State.setOutst_tiles (node txn : Nat) (o : Option Outst) : (s.setOutst node txn o).tiles = s.tiles := rfl
@[simp] theorem State.setOutst_ctxs (node txn : Nat) (o : Option Outst) : (s.setOutst node txn o).ctxs = s.ctxs := rfl
@[simp] theorem State.setOutst_slots (node txn : Nat) (o : Option Outst) : (s.setOutst node txn o).slots = s.slots := rfl
@[simp] theorem State.setOutst_freed (node txn : Nat) (o : Option Outst) : (s.setOutst node txn o).freed = s.freed := rfl
@[simp] theorem State.setOutst_rootStacks (node txn : Nat) (o : Option Outst) : (s.setOutst node txn o).rootStacks = s.rootStacks := rfl
@[simp] theorem State.setOutst_windowTaken (node txn : Nat) (o : Option Outst) : (s.setOutst node txn o).windowTaken = s.windowTaken := rfl
@[simp] theorem State.setOutst_patrol (node txn : Nat) (o : Option Outst) : (s.setOutst node txn o).patrol = s.patrol := rfl
@[simp] theorem State.setOutst_fifos (node txn : Nat) (o : Option Outst) : (s.setOutst node txn o).fifos = s.fifos := rfl
@[simp] theorem State.setOutst_rx (node txn : Nat) (o : Option Outst) : (s.setOutst node txn o).rx = s.rx := rfl
@[simp] theorem State.setOutst_outst (node txn : Nat) (o : Option Outst) : (s.setOutst node txn o).outst = SMap.set none s.outst (128 * node + txn) o := rfl
@[simp] theorem State.setOutst_mismatches (node txn : Nat) (o : Option Outst) : (s.setOutst node txn o).mismatches = s.mismatches := rfl
@[simp] theorem State.setOutst_turns (node txn : Nat) (o : Option Outst) : (s.setOutst node txn o).turns = s.turns := rfl
@[simp] theorem State.setOutst_treeDebts (node txn : Nat) (o : Option Outst) : (s.setOutst node txn o).treeDebts = s.treeDebts := rfl
@[simp] theorem State.setOutst_treeOff (node txn : Nat) (o : Option Outst) : (s.setOutst node txn o).treeOff = s.treeOff := rfl
@[simp] theorem State.setOutst_treeSent (node txn : Nat) (o : Option Outst) : (s.setOutst node txn o).treeSent = s.treeSent := rfl
@[simp] theorem State.setOutst_treeMasks (node txn : Nat) (o : Option Outst) : (s.setOutst node txn o).treeMasks = s.treeMasks := rfl
@[simp] theorem State.setOutst_ports (node txn : Nat) (o : Option Outst) : (s.setOutst node txn o).ports = s.ports := rfl
@[simp] theorem State.setOutst_lanes (node txn : Nat) (o : Option Outst) : (s.setOutst node txn o).lanes = s.lanes := rfl
@[simp] theorem State.setOutst_xrefs (node txn : Nat) (o : Option Outst) : (s.setOutst node txn o).xrefs = s.xrefs := rfl
@[simp] theorem State.setOutst_jobs (node txn : Nat) (o : Option Outst) : (s.setOutst node txn o).jobs = s.jobs := rfl
@[simp] theorem State.setOutst_abortLog (node txn : Nat) (o : Option Outst) : (s.setOutst node txn o).abortLog = s.abortLog := rfl
@[simp] theorem State.setOutst_clearings (node txn : Nat) (o : Option Outst) : (s.setOutst node txn o).clearings = s.clearings := rfl
@[simp] theorem State.setOutst_flops (node txn : Nat) (o : Option Outst) : (s.setOutst node txn o).flops = s.flops := rfl
@[simp] theorem State.setOutst_wires (node txn : Nat) (o : Option Outst) : (s.setOutst node txn o).wires = s.wires := rfl
@[simp] theorem State.setOutst_pins (node txn : Nat) (o : Option Outst) : (s.setOutst node txn o).pins = s.pins := rfl
@[simp] theorem State.setOutst_pairs (node txn : Nat) (o : Option Outst) : (s.setOutst node txn o).pairs = s.pairs := rfl
@[simp] theorem State.setOutst_nv (node txn : Nat) (o : Option Outst) : (s.setOutst node txn o).nv = s.nv := rfl
@[simp] theorem State.setOutst_bootCopies (node txn : Nat) (o : Option Outst) : (s.setOutst node txn o).bootCopies = s.bootCopies := rfl
@[simp] theorem State.setOutst_cfg (node txn : Nat) (o : Option Outst) : (s.setOutst node txn o).cfg = s.cfg := rfl
@[simp] theorem State.setOutst_cfgDiff (node txn : Nat) (o : Option Outst) : (s.setOutst node txn o).cfgDiff = s.cfgDiff := rfl
@[simp] theorem State.setOutst_shadow (node txn : Nat) (o : Option Outst) : (s.setOutst node txn o).shadow = s.shadow := rfl
@[simp] theorem State.setOutst_shadowDiff (node txn : Nat) (o : Option Outst) : (s.setOutst node txn o).shadowDiff = s.shadowDiff := rfl
@[simp] theorem State.setOutst_decoded (node txn : Nat) (o : Option Outst) : (s.setOutst node txn o).decoded = s.decoded := rfl
@[simp] theorem State.setOutst_frameMap (node txn : Nat) (o : Option Outst) : (s.setOutst node txn o).frameMap = s.frameMap := rfl
@[simp] theorem State.setOutst_shadowRelease (node txn : Nat) (o : Option Outst) : (s.setOutst node txn o).shadowRelease = s.shadowRelease := rfl
@[simp] theorem State.setOutst_switch (node txn : Nat) (o : Option Outst) : (s.setOutst node txn o).switch = s.switch := rfl
@[simp] theorem State.setOutst_groveNext (node txn : Nat) (o : Option Outst) : (s.setOutst node txn o).groveNext = s.groveNext := rfl
@[simp] theorem State.setOutst_scrubAt (node txn : Nat) (o : Option Outst) : (s.setOutst node txn o).scrubAt = s.scrubAt := rfl
@[simp] theorem State.setOutst_captures (node txn : Nat) (o : Option Outst) : (s.setOutst node txn o).captures = s.captures := rfl
@[simp] theorem State.setOutst_rxFrames (node txn : Nat) (o : Option Outst) : (s.setOutst node txn o).rxFrames = s.rxFrames := rfl
@[simp] theorem State.setOutst_plcaOk (node txn : Nat) (o : Option Outst) : (s.setOutst node txn o).plcaOk = s.plcaOk := rfl
@[simp] theorem State.setOutst_plcaDown (node txn : Nat) (o : Option Outst) : (s.setOutst node txn o).plcaDown = s.plcaDown := rfl
@[simp] theorem State.setOutst_revert (node txn : Nat) (o : Option Outst) : (s.setOutst node txn o).revert = s.revert := rfl
@[simp] theorem State.setOutst_sessions (node txn : Nat) (o : Option Outst) : (s.setOutst node txn o).sessions = s.sessions := rfl
@[simp] theorem State.setOutst_halfOpen (node txn : Nat) (o : Option Outst) : (s.setOutst node txn o).halfOpen = s.halfOpen := rfl
@[simp] theorem State.setOutst_lastSession (node txn : Nat) (o : Option Outst) : (s.setOutst node txn o).lastSession = s.lastSession := rfl
@[simp] theorem State.setOutst_sessionUse (node txn : Nat) (o : Option Outst) : (s.setOutst node txn o).sessionUse = s.sessionUse := rfl
@[simp] theorem State.setOutst_challenge (node txn : Nat) (o : Option Outst) : (s.setOutst node txn o).challenge = s.challenge := rfl
@[simp] theorem State.setOutst_actions (node txn : Nat) (o : Option Outst) : (s.setOutst node txn o).actions = s.actions := rfl
@[simp] theorem State.setOutst_snapAreas (node txn : Nat) (o : Option Outst) : (s.setOutst node txn o).snapAreas = s.snapAreas := rfl
@[simp] theorem State.setOutst_snapNewest (node txn : Nat) (o : Option Outst) : (s.setOutst node txn o).snapNewest = s.snapNewest := rfl
@[simp] theorem State.setOutst_kept (node txn : Nat) (o : Option Outst) : (s.setOutst node txn o).kept = s.kept := rfl
@[simp] theorem State.setOutst_nextReport (node txn : Nat) (o : Option Outst) : (s.setOutst node txn o).nextReport = s.nextReport := rfl
@[simp] theorem State.setOutst_ats (node txn : Nat) (o : Option Outst) : (s.setOutst node txn o).ats = s.ats := rfl
@[simp] theorem State.setOutst_hostOff (node txn : Nat) (o : Option Outst) : (s.setOutst node txn o).hostOff = s.hostOff := rfl
@[simp] theorem State.setOutst_funcs (node txn : Nat) (o : Option Outst) : (s.setOutst node txn o).funcs = s.funcs := rfl
@[simp] theorem State.setOutst_bells (node txn : Nat) (o : Option Outst) : (s.setOutst node txn o).bells = s.bells := rfl
@[simp] theorem State.setOutst_heldBar0 (node txn : Nat) (o : Option Outst) : (s.setOutst node txn o).heldBar0 = s.heldBar0 := rfl
@[simp] theorem State.setOutst_latches (node txn : Nat) (o : Option Outst) : (s.setOutst node txn o).latches = s.latches := rfl
@[simp] theorem State.setOutst_endpointReady (node txn : Nat) (o : Option Outst) : (s.setOutst node txn o).endpointReady = s.endpointReady := rfl
@[simp] theorem State.setOutst_statusSent (node txn : Nat) (o : Option Outst) : (s.setOutst node txn o).statusSent = s.statusSent := rfl
@[simp] theorem State.setOutst_sensors (node txn : Nat) (o : Option Outst) : (s.setOutst node txn o).sensors = s.sensors := rfl
@[simp] theorem State.setOutst_packageSamples (node txn : Nat) (o : Option Outst) : (s.setOutst node txn o).packageSamples = s.packageSamples := rfl
@[simp] theorem State.setOutst_energyRest (node txn : Nat) (o : Option Outst) : (s.setOutst node txn o).energyRest = s.energyRest := rfl
@[simp] theorem State.setOutst_telemetrySamples (node txn : Nat) (o : Option Outst) : (s.setOutst node txn o).telemetrySamples = s.telemetrySamples := rfl
@[simp] theorem State.setOutst_diePower (node txn : Nat) (o : Option Outst) : (s.setOutst node txn o).diePower = s.diePower := rfl
@[simp] theorem State.setOutst_stackHot (node txn : Nat) (o : Option Outst) : (s.setOutst node txn o).stackHot = s.stackHot := rfl
@[simp] theorem State.setOutst_ranger (node txn : Nat) (o : Option Outst) : (s.setOutst node txn o).ranger = s.ranger := rfl
@[simp] theorem State.setOutst_watchdog (node txn : Nat) (o : Option Outst) : (s.setOutst node txn o).watchdog = s.watchdog := rfl
@[simp] theorem State.setOutst_rerouteDue (node txn : Nat) (o : Option Outst) : (s.setOutst node txn o).rerouteDue = s.rerouteDue := rfl
@[simp] theorem State.setOutst_heldRecords (node txn : Nat) (o : Option Outst) : (s.setOutst node txn o).heldRecords = s.heldRecords := rfl
@[simp] theorem State.setOutst_stewards (node txn : Nat) (o : Option Outst) : (s.setOutst node txn o).stewards = s.stewards := rfl
@[simp] theorem State.setOutst_stalls (node txn : Nat) (o : Option Outst) : (s.setOutst node txn o).stalls = s.stalls := rfl
@[simp] theorem State.setOutst_logSerial (node txn : Nat) (o : Option Outst) : (s.setOutst node txn o).logSerial = s.logSerial := rfl
@[simp] theorem State.setOutst_logUnread (node txn : Nat) (o : Option Outst) : (s.setOutst node txn o).logUnread = s.logUnread := rfl
@[simp] theorem State.setOutst_tests (node txn : Nat) (o : Option Outst) : (s.setOutst node txn o).tests = s.tests := rfl
@[simp] theorem State.setOutst_selfTest (node txn : Nat) (o : Option Outst) : (s.setOutst node txn o).selfTest = s.selfTest := rfl
@[simp] theorem State.setOutst_hssMarks (node txn : Nat) (o : Option Outst) : (s.setOutst node txn o).hssMarks = s.hssMarks := rfl
@[simp] theorem State.setOutst_minimaOk (node txn : Nat) (o : Option Outst) : (s.setOutst node txn o).minimaOk = s.minimaOk := rfl
@[simp] theorem State.setOutst_spdmSecured (node txn : Nat) (o : Option Outst) : (s.setOutst node txn o).spdmSecured = s.spdmSecured := rfl
@[simp] theorem State.setOutst_ideKeys (node txn : Nat) (o : Option Outst) : (s.setOutst node txn o).ideKeys = s.ideKeys := rfl
@[simp] theorem State.setOutst_devRstN (node txn : Nat) (o : Option Outst) : (s.setOutst node txn o).devRstN = s.devRstN := rfl
@[simp] theorem State.setOutst_perstN (node txn : Nat) (o : Option Outst) : (s.setOutst node txn o).perstN = s.perstN := rfl
@[simp] theorem State.setOutst_mclkLocked (node txn : Nat) (o : Option Outst) : (s.setOutst node txn o).mclkLocked = s.mclkLocked := rfl
@[simp] theorem State.setOutst_booted (node txn : Nat) (o : Option Outst) : (s.setOutst node txn o).booted = s.booted := rfl
@[simp] theorem State.setOutst_arefLost (node txn : Nat) (o : Option Outst) : (s.setOutst node txn o).arefLost = s.arefLost := rfl
@[simp] theorem State.setOutst_computeReady (node txn : Nat) (o : Option Outst) : (s.setOutst node txn o).computeReady = s.computeReady := rfl
@[simp] theorem State.setOutst_coreRetry (node txn : Nat) (o : Option Outst) : (s.setOutst node txn o).coreRetry = s.coreRetry := rfl
@[simp] theorem State.setOutst_refreshOff (node txn : Nat) (o : Option Outst) : (s.setOutst node txn o).refreshOff = s.refreshOff := rfl

/-! ## setClearing -/

@[simp] theorem State.setClearing_pending (c : Nat) (x : Clearing) : (s.setClearing c x).pending = s.pending := rfl
@[simp] theorem State.setClearing_free (c : Nat) (x : Clearing) : (s.setClearing c x).free = s.free := rfl
@[simp] theorem State.setClearing_out (c : Nat) (x : Clearing) : (s.setClearing c x).out = s.out := rfl
@[simp] theorem State.setClearing_dict (c : Nat) (x : Clearing) : (s.setClearing c x).dict = s.dict := rfl
@[simp] theorem State.setClearing_accepted (c : Nat) (x : Clearing) : (s.setClearing c x).accepted = s.accepted := rfl
@[simp] theorem State.setClearing_mem (c : Nat) (x : Clearing) : (s.setClearing c x).mem = s.mem := rfl
@[simp] theorem State.setClearing_scram (c : Nat) (x : Clearing) : (s.setClearing c x).scram = s.scram := rfl
@[simp] theorem State.setClearing_writeBack (c : Nat) (x : Clearing) : (s.setClearing c x).writeBack = s.writeBack := rfl
@[simp] theorem State.setClearing_reports (c : Nat) (x : Clearing) : (s.setClearing c x).reports = s.reports := rfl
@[simp] theorem State.setClearing_sramDiff (c : Nat) (x : Clearing) : (s.setClearing c x).sramDiff = s.sramDiff := rfl
@[simp] theorem State.setClearing_stackDiff (c : Nat) (x : Clearing) : (s.setClearing c x).stackDiff = s.stackDiff := rfl
@[simp] theorem State.setClearing_written (c : Nat) (x : Clearing) : (s.setClearing c x).written = s.written := rfl
@[simp] theorem State.setClearing_mirror (c : Nat) (x : Clearing) : (s.setClearing c x).mirror = s.mirror := rfl
@[simp] theorem State.setClearing_stands (c : Nat) (x : Clearing) : (s.setClearing c x).stands = s.stands := rfl
@[simp] theorem State.setClearing_groves (c : Nat) (x : Clearing) : (s.setClearing c x).groves = s.groves := rfl
@[simp] theorem State.setClearing_tiles (c : Nat) (x : Clearing) : (s.setClearing c x).tiles = s.tiles := rfl
@[simp] theorem State.setClearing_ctxs (c : Nat) (x : Clearing) : (s.setClearing c x).ctxs = s.ctxs := rfl
@[simp] theorem State.setClearing_slots (c : Nat) (x : Clearing) : (s.setClearing c x).slots = s.slots := rfl
@[simp] theorem State.setClearing_freed (c : Nat) (x : Clearing) : (s.setClearing c x).freed = s.freed := rfl
@[simp] theorem State.setClearing_rootStacks (c : Nat) (x : Clearing) : (s.setClearing c x).rootStacks = s.rootStacks := rfl
@[simp] theorem State.setClearing_windowTaken (c : Nat) (x : Clearing) : (s.setClearing c x).windowTaken = s.windowTaken := rfl
@[simp] theorem State.setClearing_patrol (c : Nat) (x : Clearing) : (s.setClearing c x).patrol = s.patrol := rfl
@[simp] theorem State.setClearing_fifos (c : Nat) (x : Clearing) : (s.setClearing c x).fifos = s.fifos := rfl
@[simp] theorem State.setClearing_rx (c : Nat) (x : Clearing) : (s.setClearing c x).rx = s.rx := rfl
@[simp] theorem State.setClearing_outst (c : Nat) (x : Clearing) : (s.setClearing c x).outst = s.outst := rfl
@[simp] theorem State.setClearing_mismatches (c : Nat) (x : Clearing) : (s.setClearing c x).mismatches = s.mismatches := rfl
@[simp] theorem State.setClearing_turns (c : Nat) (x : Clearing) : (s.setClearing c x).turns = s.turns := rfl
@[simp] theorem State.setClearing_treeDebts (c : Nat) (x : Clearing) : (s.setClearing c x).treeDebts = s.treeDebts := rfl
@[simp] theorem State.setClearing_treeOff (c : Nat) (x : Clearing) : (s.setClearing c x).treeOff = s.treeOff := rfl
@[simp] theorem State.setClearing_treeSent (c : Nat) (x : Clearing) : (s.setClearing c x).treeSent = s.treeSent := rfl
@[simp] theorem State.setClearing_treeMasks (c : Nat) (x : Clearing) : (s.setClearing c x).treeMasks = s.treeMasks := rfl
@[simp] theorem State.setClearing_ports (c : Nat) (x : Clearing) : (s.setClearing c x).ports = s.ports := rfl
@[simp] theorem State.setClearing_lanes (c : Nat) (x : Clearing) : (s.setClearing c x).lanes = s.lanes := rfl
@[simp] theorem State.setClearing_xrefs (c : Nat) (x : Clearing) : (s.setClearing c x).xrefs = s.xrefs := rfl
@[simp] theorem State.setClearing_jobs (c : Nat) (x : Clearing) : (s.setClearing c x).jobs = s.jobs := rfl
@[simp] theorem State.setClearing_abortLog (c : Nat) (x : Clearing) : (s.setClearing c x).abortLog = s.abortLog := rfl
@[simp] theorem State.setClearing_clearings (c : Nat) (x : Clearing) : (s.setClearing c x).clearings = SMap.set Clearing.reset s.clearings c x := rfl
@[simp] theorem State.setClearing_flops (c : Nat) (x : Clearing) : (s.setClearing c x).flops = s.flops := rfl
@[simp] theorem State.setClearing_wires (c : Nat) (x : Clearing) : (s.setClearing c x).wires = s.wires := rfl
@[simp] theorem State.setClearing_pins (c : Nat) (x : Clearing) : (s.setClearing c x).pins = s.pins := rfl
@[simp] theorem State.setClearing_pairs (c : Nat) (x : Clearing) : (s.setClearing c x).pairs = s.pairs := rfl
@[simp] theorem State.setClearing_nv (c : Nat) (x : Clearing) : (s.setClearing c x).nv = s.nv := rfl
@[simp] theorem State.setClearing_bootCopies (c : Nat) (x : Clearing) : (s.setClearing c x).bootCopies = s.bootCopies := rfl
@[simp] theorem State.setClearing_cfg (c : Nat) (x : Clearing) : (s.setClearing c x).cfg = s.cfg := rfl
@[simp] theorem State.setClearing_cfgDiff (c : Nat) (x : Clearing) : (s.setClearing c x).cfgDiff = s.cfgDiff := rfl
@[simp] theorem State.setClearing_shadow (c : Nat) (x : Clearing) : (s.setClearing c x).shadow = s.shadow := rfl
@[simp] theorem State.setClearing_shadowDiff (c : Nat) (x : Clearing) : (s.setClearing c x).shadowDiff = s.shadowDiff := rfl
@[simp] theorem State.setClearing_decoded (c : Nat) (x : Clearing) : (s.setClearing c x).decoded = s.decoded := rfl
@[simp] theorem State.setClearing_frameMap (c : Nat) (x : Clearing) : (s.setClearing c x).frameMap = s.frameMap := rfl
@[simp] theorem State.setClearing_shadowRelease (c : Nat) (x : Clearing) : (s.setClearing c x).shadowRelease = s.shadowRelease := rfl
@[simp] theorem State.setClearing_switch (c : Nat) (x : Clearing) : (s.setClearing c x).switch = s.switch := rfl
@[simp] theorem State.setClearing_groveNext (c : Nat) (x : Clearing) : (s.setClearing c x).groveNext = s.groveNext := rfl
@[simp] theorem State.setClearing_scrubAt (c : Nat) (x : Clearing) : (s.setClearing c x).scrubAt = s.scrubAt := rfl
@[simp] theorem State.setClearing_captures (c : Nat) (x : Clearing) : (s.setClearing c x).captures = s.captures := rfl
@[simp] theorem State.setClearing_rxFrames (c : Nat) (x : Clearing) : (s.setClearing c x).rxFrames = s.rxFrames := rfl
@[simp] theorem State.setClearing_plcaOk (c : Nat) (x : Clearing) : (s.setClearing c x).plcaOk = s.plcaOk := rfl
@[simp] theorem State.setClearing_plcaDown (c : Nat) (x : Clearing) : (s.setClearing c x).plcaDown = s.plcaDown := rfl
@[simp] theorem State.setClearing_revert (c : Nat) (x : Clearing) : (s.setClearing c x).revert = s.revert := rfl
@[simp] theorem State.setClearing_sessions (c : Nat) (x : Clearing) : (s.setClearing c x).sessions = s.sessions := rfl
@[simp] theorem State.setClearing_halfOpen (c : Nat) (x : Clearing) : (s.setClearing c x).halfOpen = s.halfOpen := rfl
@[simp] theorem State.setClearing_lastSession (c : Nat) (x : Clearing) : (s.setClearing c x).lastSession = s.lastSession := rfl
@[simp] theorem State.setClearing_sessionUse (c : Nat) (x : Clearing) : (s.setClearing c x).sessionUse = s.sessionUse := rfl
@[simp] theorem State.setClearing_challenge (c : Nat) (x : Clearing) : (s.setClearing c x).challenge = s.challenge := rfl
@[simp] theorem State.setClearing_actions (c : Nat) (x : Clearing) : (s.setClearing c x).actions = s.actions := rfl
@[simp] theorem State.setClearing_snapAreas (c : Nat) (x : Clearing) : (s.setClearing c x).snapAreas = s.snapAreas := rfl
@[simp] theorem State.setClearing_snapNewest (c : Nat) (x : Clearing) : (s.setClearing c x).snapNewest = s.snapNewest := rfl
@[simp] theorem State.setClearing_kept (c : Nat) (x : Clearing) : (s.setClearing c x).kept = s.kept := rfl
@[simp] theorem State.setClearing_nextReport (c : Nat) (x : Clearing) : (s.setClearing c x).nextReport = s.nextReport := rfl
@[simp] theorem State.setClearing_ats (c : Nat) (x : Clearing) : (s.setClearing c x).ats = s.ats := rfl
@[simp] theorem State.setClearing_hostOff (c : Nat) (x : Clearing) : (s.setClearing c x).hostOff = s.hostOff := rfl
@[simp] theorem State.setClearing_funcs (c : Nat) (x : Clearing) : (s.setClearing c x).funcs = s.funcs := rfl
@[simp] theorem State.setClearing_bells (c : Nat) (x : Clearing) : (s.setClearing c x).bells = s.bells := rfl
@[simp] theorem State.setClearing_heldBar0 (c : Nat) (x : Clearing) : (s.setClearing c x).heldBar0 = s.heldBar0 := rfl
@[simp] theorem State.setClearing_latches (c : Nat) (x : Clearing) : (s.setClearing c x).latches = s.latches := rfl
@[simp] theorem State.setClearing_endpointReady (c : Nat) (x : Clearing) : (s.setClearing c x).endpointReady = s.endpointReady := rfl
@[simp] theorem State.setClearing_statusSent (c : Nat) (x : Clearing) : (s.setClearing c x).statusSent = s.statusSent := rfl
@[simp] theorem State.setClearing_sensors (c : Nat) (x : Clearing) : (s.setClearing c x).sensors = s.sensors := rfl
@[simp] theorem State.setClearing_packageSamples (c : Nat) (x : Clearing) : (s.setClearing c x).packageSamples = s.packageSamples := rfl
@[simp] theorem State.setClearing_energyRest (c : Nat) (x : Clearing) : (s.setClearing c x).energyRest = s.energyRest := rfl
@[simp] theorem State.setClearing_telemetrySamples (c : Nat) (x : Clearing) : (s.setClearing c x).telemetrySamples = s.telemetrySamples := rfl
@[simp] theorem State.setClearing_diePower (c : Nat) (x : Clearing) : (s.setClearing c x).diePower = s.diePower := rfl
@[simp] theorem State.setClearing_stackHot (c : Nat) (x : Clearing) : (s.setClearing c x).stackHot = s.stackHot := rfl
@[simp] theorem State.setClearing_ranger (c : Nat) (x : Clearing) : (s.setClearing c x).ranger = s.ranger := rfl
@[simp] theorem State.setClearing_watchdog (c : Nat) (x : Clearing) : (s.setClearing c x).watchdog = s.watchdog := rfl
@[simp] theorem State.setClearing_rerouteDue (c : Nat) (x : Clearing) : (s.setClearing c x).rerouteDue = s.rerouteDue := rfl
@[simp] theorem State.setClearing_heldRecords (c : Nat) (x : Clearing) : (s.setClearing c x).heldRecords = s.heldRecords := rfl
@[simp] theorem State.setClearing_stewards (c : Nat) (x : Clearing) : (s.setClearing c x).stewards = s.stewards := rfl
@[simp] theorem State.setClearing_stalls (c : Nat) (x : Clearing) : (s.setClearing c x).stalls = s.stalls := rfl
@[simp] theorem State.setClearing_logSerial (c : Nat) (x : Clearing) : (s.setClearing c x).logSerial = s.logSerial := rfl
@[simp] theorem State.setClearing_logUnread (c : Nat) (x : Clearing) : (s.setClearing c x).logUnread = s.logUnread := rfl
@[simp] theorem State.setClearing_tests (c : Nat) (x : Clearing) : (s.setClearing c x).tests = s.tests := rfl
@[simp] theorem State.setClearing_selfTest (c : Nat) (x : Clearing) : (s.setClearing c x).selfTest = s.selfTest := rfl
@[simp] theorem State.setClearing_hssMarks (c : Nat) (x : Clearing) : (s.setClearing c x).hssMarks = s.hssMarks := rfl
@[simp] theorem State.setClearing_minimaOk (c : Nat) (x : Clearing) : (s.setClearing c x).minimaOk = s.minimaOk := rfl
@[simp] theorem State.setClearing_spdmSecured (c : Nat) (x : Clearing) : (s.setClearing c x).spdmSecured = s.spdmSecured := rfl
@[simp] theorem State.setClearing_ideKeys (c : Nat) (x : Clearing) : (s.setClearing c x).ideKeys = s.ideKeys := rfl
@[simp] theorem State.setClearing_devRstN (c : Nat) (x : Clearing) : (s.setClearing c x).devRstN = s.devRstN := rfl
@[simp] theorem State.setClearing_perstN (c : Nat) (x : Clearing) : (s.setClearing c x).perstN = s.perstN := rfl
@[simp] theorem State.setClearing_mclkLocked (c : Nat) (x : Clearing) : (s.setClearing c x).mclkLocked = s.mclkLocked := rfl
@[simp] theorem State.setClearing_booted (c : Nat) (x : Clearing) : (s.setClearing c x).booted = s.booted := rfl
@[simp] theorem State.setClearing_arefLost (c : Nat) (x : Clearing) : (s.setClearing c x).arefLost = s.arefLost := rfl
@[simp] theorem State.setClearing_computeReady (c : Nat) (x : Clearing) : (s.setClearing c x).computeReady = s.computeReady := rfl
@[simp] theorem State.setClearing_coreRetry (c : Nat) (x : Clearing) : (s.setClearing c x).coreRetry = s.coreRetry := rfl
@[simp] theorem State.setClearing_refreshOff (c : Nat) (x : Clearing) : (s.setClearing c x).refreshOff = s.refreshOff := rfl

/-! ## setJob -/

@[simp] theorem State.setJob_pending (d : Nat) (x : JobState) : (s.setJob d x).pending = s.pending := rfl
@[simp] theorem State.setJob_free (d : Nat) (x : JobState) : (s.setJob d x).free = s.free := rfl
@[simp] theorem State.setJob_out (d : Nat) (x : JobState) : (s.setJob d x).out = s.out := rfl
@[simp] theorem State.setJob_dict (d : Nat) (x : JobState) : (s.setJob d x).dict = s.dict := rfl
@[simp] theorem State.setJob_accepted (d : Nat) (x : JobState) : (s.setJob d x).accepted = s.accepted := rfl
@[simp] theorem State.setJob_mem (d : Nat) (x : JobState) : (s.setJob d x).mem = s.mem := rfl
@[simp] theorem State.setJob_scram (d : Nat) (x : JobState) : (s.setJob d x).scram = s.scram := rfl
@[simp] theorem State.setJob_writeBack (d : Nat) (x : JobState) : (s.setJob d x).writeBack = s.writeBack := rfl
@[simp] theorem State.setJob_reports (d : Nat) (x : JobState) : (s.setJob d x).reports = s.reports := rfl
@[simp] theorem State.setJob_sramDiff (d : Nat) (x : JobState) : (s.setJob d x).sramDiff = s.sramDiff := rfl
@[simp] theorem State.setJob_stackDiff (d : Nat) (x : JobState) : (s.setJob d x).stackDiff = s.stackDiff := rfl
@[simp] theorem State.setJob_written (d : Nat) (x : JobState) : (s.setJob d x).written = s.written := rfl
@[simp] theorem State.setJob_mirror (d : Nat) (x : JobState) : (s.setJob d x).mirror = s.mirror := rfl
@[simp] theorem State.setJob_stands (d : Nat) (x : JobState) : (s.setJob d x).stands = s.stands := rfl
@[simp] theorem State.setJob_groves (d : Nat) (x : JobState) : (s.setJob d x).groves = s.groves := rfl
@[simp] theorem State.setJob_tiles (d : Nat) (x : JobState) : (s.setJob d x).tiles = s.tiles := rfl
@[simp] theorem State.setJob_ctxs (d : Nat) (x : JobState) : (s.setJob d x).ctxs = s.ctxs := rfl
@[simp] theorem State.setJob_slots (d : Nat) (x : JobState) : (s.setJob d x).slots = s.slots := rfl
@[simp] theorem State.setJob_freed (d : Nat) (x : JobState) : (s.setJob d x).freed = s.freed := rfl
@[simp] theorem State.setJob_rootStacks (d : Nat) (x : JobState) : (s.setJob d x).rootStacks = s.rootStacks := rfl
@[simp] theorem State.setJob_windowTaken (d : Nat) (x : JobState) : (s.setJob d x).windowTaken = s.windowTaken := rfl
@[simp] theorem State.setJob_patrol (d : Nat) (x : JobState) : (s.setJob d x).patrol = s.patrol := rfl
@[simp] theorem State.setJob_fifos (d : Nat) (x : JobState) : (s.setJob d x).fifos = s.fifos := rfl
@[simp] theorem State.setJob_rx (d : Nat) (x : JobState) : (s.setJob d x).rx = s.rx := rfl
@[simp] theorem State.setJob_outst (d : Nat) (x : JobState) : (s.setJob d x).outst = s.outst := rfl
@[simp] theorem State.setJob_mismatches (d : Nat) (x : JobState) : (s.setJob d x).mismatches = s.mismatches := rfl
@[simp] theorem State.setJob_turns (d : Nat) (x : JobState) : (s.setJob d x).turns = s.turns := rfl
@[simp] theorem State.setJob_treeDebts (d : Nat) (x : JobState) : (s.setJob d x).treeDebts = s.treeDebts := rfl
@[simp] theorem State.setJob_treeOff (d : Nat) (x : JobState) : (s.setJob d x).treeOff = s.treeOff := rfl
@[simp] theorem State.setJob_treeSent (d : Nat) (x : JobState) : (s.setJob d x).treeSent = s.treeSent := rfl
@[simp] theorem State.setJob_treeMasks (d : Nat) (x : JobState) : (s.setJob d x).treeMasks = s.treeMasks := rfl
@[simp] theorem State.setJob_ports (d : Nat) (x : JobState) : (s.setJob d x).ports = s.ports := rfl
@[simp] theorem State.setJob_lanes (d : Nat) (x : JobState) : (s.setJob d x).lanes = s.lanes := rfl
@[simp] theorem State.setJob_xrefs (d : Nat) (x : JobState) : (s.setJob d x).xrefs = s.xrefs := rfl
@[simp] theorem State.setJob_jobs (d : Nat) (x : JobState) : (s.setJob d x).jobs = SMap.set JobState.reset s.jobs d x := rfl
@[simp] theorem State.setJob_abortLog (d : Nat) (x : JobState) : (s.setJob d x).abortLog = s.abortLog := rfl
@[simp] theorem State.setJob_clearings (d : Nat) (x : JobState) : (s.setJob d x).clearings = s.clearings := rfl
@[simp] theorem State.setJob_flops (d : Nat) (x : JobState) : (s.setJob d x).flops = s.flops := rfl
@[simp] theorem State.setJob_wires (d : Nat) (x : JobState) : (s.setJob d x).wires = s.wires := rfl
@[simp] theorem State.setJob_pins (d : Nat) (x : JobState) : (s.setJob d x).pins = s.pins := rfl
@[simp] theorem State.setJob_pairs (d : Nat) (x : JobState) : (s.setJob d x).pairs = s.pairs := rfl
@[simp] theorem State.setJob_nv (d : Nat) (x : JobState) : (s.setJob d x).nv = s.nv := rfl
@[simp] theorem State.setJob_bootCopies (d : Nat) (x : JobState) : (s.setJob d x).bootCopies = s.bootCopies := rfl
@[simp] theorem State.setJob_cfg (d : Nat) (x : JobState) : (s.setJob d x).cfg = s.cfg := rfl
@[simp] theorem State.setJob_cfgDiff (d : Nat) (x : JobState) : (s.setJob d x).cfgDiff = s.cfgDiff := rfl
@[simp] theorem State.setJob_shadow (d : Nat) (x : JobState) : (s.setJob d x).shadow = s.shadow := rfl
@[simp] theorem State.setJob_shadowDiff (d : Nat) (x : JobState) : (s.setJob d x).shadowDiff = s.shadowDiff := rfl
@[simp] theorem State.setJob_decoded (d : Nat) (x : JobState) : (s.setJob d x).decoded = s.decoded := rfl
@[simp] theorem State.setJob_frameMap (d : Nat) (x : JobState) : (s.setJob d x).frameMap = s.frameMap := rfl
@[simp] theorem State.setJob_shadowRelease (d : Nat) (x : JobState) : (s.setJob d x).shadowRelease = s.shadowRelease := rfl
@[simp] theorem State.setJob_switch (d : Nat) (x : JobState) : (s.setJob d x).switch = s.switch := rfl
@[simp] theorem State.setJob_groveNext (d : Nat) (x : JobState) : (s.setJob d x).groveNext = s.groveNext := rfl
@[simp] theorem State.setJob_scrubAt (d : Nat) (x : JobState) : (s.setJob d x).scrubAt = s.scrubAt := rfl
@[simp] theorem State.setJob_captures (d : Nat) (x : JobState) : (s.setJob d x).captures = s.captures := rfl
@[simp] theorem State.setJob_rxFrames (d : Nat) (x : JobState) : (s.setJob d x).rxFrames = s.rxFrames := rfl
@[simp] theorem State.setJob_plcaOk (d : Nat) (x : JobState) : (s.setJob d x).plcaOk = s.plcaOk := rfl
@[simp] theorem State.setJob_plcaDown (d : Nat) (x : JobState) : (s.setJob d x).plcaDown = s.plcaDown := rfl
@[simp] theorem State.setJob_revert (d : Nat) (x : JobState) : (s.setJob d x).revert = s.revert := rfl
@[simp] theorem State.setJob_sessions (d : Nat) (x : JobState) : (s.setJob d x).sessions = s.sessions := rfl
@[simp] theorem State.setJob_halfOpen (d : Nat) (x : JobState) : (s.setJob d x).halfOpen = s.halfOpen := rfl
@[simp] theorem State.setJob_lastSession (d : Nat) (x : JobState) : (s.setJob d x).lastSession = s.lastSession := rfl
@[simp] theorem State.setJob_sessionUse (d : Nat) (x : JobState) : (s.setJob d x).sessionUse = s.sessionUse := rfl
@[simp] theorem State.setJob_challenge (d : Nat) (x : JobState) : (s.setJob d x).challenge = s.challenge := rfl
@[simp] theorem State.setJob_actions (d : Nat) (x : JobState) : (s.setJob d x).actions = s.actions := rfl
@[simp] theorem State.setJob_snapAreas (d : Nat) (x : JobState) : (s.setJob d x).snapAreas = s.snapAreas := rfl
@[simp] theorem State.setJob_snapNewest (d : Nat) (x : JobState) : (s.setJob d x).snapNewest = s.snapNewest := rfl
@[simp] theorem State.setJob_kept (d : Nat) (x : JobState) : (s.setJob d x).kept = s.kept := rfl
@[simp] theorem State.setJob_nextReport (d : Nat) (x : JobState) : (s.setJob d x).nextReport = s.nextReport := rfl
@[simp] theorem State.setJob_ats (d : Nat) (x : JobState) : (s.setJob d x).ats = s.ats := rfl
@[simp] theorem State.setJob_hostOff (d : Nat) (x : JobState) : (s.setJob d x).hostOff = s.hostOff := rfl
@[simp] theorem State.setJob_funcs (d : Nat) (x : JobState) : (s.setJob d x).funcs = s.funcs := rfl
@[simp] theorem State.setJob_bells (d : Nat) (x : JobState) : (s.setJob d x).bells = s.bells := rfl
@[simp] theorem State.setJob_heldBar0 (d : Nat) (x : JobState) : (s.setJob d x).heldBar0 = s.heldBar0 := rfl
@[simp] theorem State.setJob_latches (d : Nat) (x : JobState) : (s.setJob d x).latches = s.latches := rfl
@[simp] theorem State.setJob_endpointReady (d : Nat) (x : JobState) : (s.setJob d x).endpointReady = s.endpointReady := rfl
@[simp] theorem State.setJob_statusSent (d : Nat) (x : JobState) : (s.setJob d x).statusSent = s.statusSent := rfl
@[simp] theorem State.setJob_sensors (d : Nat) (x : JobState) : (s.setJob d x).sensors = s.sensors := rfl
@[simp] theorem State.setJob_packageSamples (d : Nat) (x : JobState) : (s.setJob d x).packageSamples = s.packageSamples := rfl
@[simp] theorem State.setJob_energyRest (d : Nat) (x : JobState) : (s.setJob d x).energyRest = s.energyRest := rfl
@[simp] theorem State.setJob_telemetrySamples (d : Nat) (x : JobState) : (s.setJob d x).telemetrySamples = s.telemetrySamples := rfl
@[simp] theorem State.setJob_diePower (d : Nat) (x : JobState) : (s.setJob d x).diePower = s.diePower := rfl
@[simp] theorem State.setJob_stackHot (d : Nat) (x : JobState) : (s.setJob d x).stackHot = s.stackHot := rfl
@[simp] theorem State.setJob_ranger (d : Nat) (x : JobState) : (s.setJob d x).ranger = s.ranger := rfl
@[simp] theorem State.setJob_watchdog (d : Nat) (x : JobState) : (s.setJob d x).watchdog = s.watchdog := rfl
@[simp] theorem State.setJob_rerouteDue (d : Nat) (x : JobState) : (s.setJob d x).rerouteDue = s.rerouteDue := rfl
@[simp] theorem State.setJob_heldRecords (d : Nat) (x : JobState) : (s.setJob d x).heldRecords = s.heldRecords := rfl
@[simp] theorem State.setJob_stewards (d : Nat) (x : JobState) : (s.setJob d x).stewards = s.stewards := rfl
@[simp] theorem State.setJob_stalls (d : Nat) (x : JobState) : (s.setJob d x).stalls = s.stalls := rfl
@[simp] theorem State.setJob_logSerial (d : Nat) (x : JobState) : (s.setJob d x).logSerial = s.logSerial := rfl
@[simp] theorem State.setJob_logUnread (d : Nat) (x : JobState) : (s.setJob d x).logUnread = s.logUnread := rfl
@[simp] theorem State.setJob_tests (d : Nat) (x : JobState) : (s.setJob d x).tests = s.tests := rfl
@[simp] theorem State.setJob_selfTest (d : Nat) (x : JobState) : (s.setJob d x).selfTest = s.selfTest := rfl
@[simp] theorem State.setJob_hssMarks (d : Nat) (x : JobState) : (s.setJob d x).hssMarks = s.hssMarks := rfl
@[simp] theorem State.setJob_minimaOk (d : Nat) (x : JobState) : (s.setJob d x).minimaOk = s.minimaOk := rfl
@[simp] theorem State.setJob_spdmSecured (d : Nat) (x : JobState) : (s.setJob d x).spdmSecured = s.spdmSecured := rfl
@[simp] theorem State.setJob_ideKeys (d : Nat) (x : JobState) : (s.setJob d x).ideKeys = s.ideKeys := rfl
@[simp] theorem State.setJob_devRstN (d : Nat) (x : JobState) : (s.setJob d x).devRstN = s.devRstN := rfl
@[simp] theorem State.setJob_perstN (d : Nat) (x : JobState) : (s.setJob d x).perstN = s.perstN := rfl
@[simp] theorem State.setJob_mclkLocked (d : Nat) (x : JobState) : (s.setJob d x).mclkLocked = s.mclkLocked := rfl
@[simp] theorem State.setJob_booted (d : Nat) (x : JobState) : (s.setJob d x).booted = s.booted := rfl
@[simp] theorem State.setJob_arefLost (d : Nat) (x : JobState) : (s.setJob d x).arefLost = s.arefLost := rfl
@[simp] theorem State.setJob_computeReady (d : Nat) (x : JobState) : (s.setJob d x).computeReady = s.computeReady := rfl
@[simp] theorem State.setJob_coreRetry (d : Nat) (x : JobState) : (s.setJob d x).coreRetry = s.coreRetry := rfl
@[simp] theorem State.setJob_refreshOff (d : Nat) (x : JobState) : (s.setJob d x).refreshOff = s.refreshOff := rfl

/-! ## setStack -/

@[simp] theorem State.setStack_pending (k : Nat) (x : Stack) : (s.setStack k x).pending = s.pending := rfl
@[simp] theorem State.setStack_free (k : Nat) (x : Stack) : (s.setStack k x).free = s.free := rfl
@[simp] theorem State.setStack_out (k : Nat) (x : Stack) : (s.setStack k x).out = s.out := rfl
@[simp] theorem State.setStack_dict (k : Nat) (x : Stack) : (s.setStack k x).dict = s.dict := rfl
@[simp] theorem State.setStack_accepted (k : Nat) (x : Stack) : (s.setStack k x).accepted = s.accepted := rfl
@[simp] theorem State.setStack_mem (k : Nat) (x : Stack) : (s.setStack k x).mem = s.mem := rfl
@[simp] theorem State.setStack_scram (k : Nat) (x : Stack) : (s.setStack k x).scram = s.scram := rfl
@[simp] theorem State.setStack_writeBack (k : Nat) (x : Stack) : (s.setStack k x).writeBack = s.writeBack := rfl
@[simp] theorem State.setStack_reports (k : Nat) (x : Stack) : (s.setStack k x).reports = s.reports := rfl
@[simp] theorem State.setStack_sramDiff (k : Nat) (x : Stack) : (s.setStack k x).sramDiff = s.sramDiff := rfl
@[simp] theorem State.setStack_stackDiff (k : Nat) (x : Stack) : (s.setStack k x).stackDiff = s.stackDiff := rfl
@[simp] theorem State.setStack_written (k : Nat) (x : Stack) : (s.setStack k x).written = s.written := rfl
@[simp] theorem State.setStack_mirror (k : Nat) (x : Stack) : (s.setStack k x).mirror = s.mirror := rfl
@[simp] theorem State.setStack_stands (k : Nat) (x : Stack) : (s.setStack k x).stands = s.stands := rfl
@[simp] theorem State.setStack_groves (k : Nat) (x : Stack) : (s.setStack k x).groves = s.groves := rfl
@[simp] theorem State.setStack_tiles (k : Nat) (x : Stack) : (s.setStack k x).tiles = s.tiles := rfl
@[simp] theorem State.setStack_ctxs (k : Nat) (x : Stack) : (s.setStack k x).ctxs = s.ctxs := rfl
@[simp] theorem State.setStack_slots (k : Nat) (x : Stack) : (s.setStack k x).slots = s.slots := rfl
@[simp] theorem State.setStack_freed (k : Nat) (x : Stack) : (s.setStack k x).freed = s.freed := rfl
@[simp] theorem State.setStack_rootStacks (k : Nat) (x : Stack) : (s.setStack k x).rootStacks = SMap.set Stack.reset s.rootStacks k x := rfl
@[simp] theorem State.setStack_windowTaken (k : Nat) (x : Stack) : (s.setStack k x).windowTaken = s.windowTaken := rfl
@[simp] theorem State.setStack_patrol (k : Nat) (x : Stack) : (s.setStack k x).patrol = s.patrol := rfl
@[simp] theorem State.setStack_fifos (k : Nat) (x : Stack) : (s.setStack k x).fifos = s.fifos := rfl
@[simp] theorem State.setStack_rx (k : Nat) (x : Stack) : (s.setStack k x).rx = s.rx := rfl
@[simp] theorem State.setStack_outst (k : Nat) (x : Stack) : (s.setStack k x).outst = s.outst := rfl
@[simp] theorem State.setStack_mismatches (k : Nat) (x : Stack) : (s.setStack k x).mismatches = s.mismatches := rfl
@[simp] theorem State.setStack_turns (k : Nat) (x : Stack) : (s.setStack k x).turns = s.turns := rfl
@[simp] theorem State.setStack_treeDebts (k : Nat) (x : Stack) : (s.setStack k x).treeDebts = s.treeDebts := rfl
@[simp] theorem State.setStack_treeOff (k : Nat) (x : Stack) : (s.setStack k x).treeOff = s.treeOff := rfl
@[simp] theorem State.setStack_treeSent (k : Nat) (x : Stack) : (s.setStack k x).treeSent = s.treeSent := rfl
@[simp] theorem State.setStack_treeMasks (k : Nat) (x : Stack) : (s.setStack k x).treeMasks = s.treeMasks := rfl
@[simp] theorem State.setStack_ports (k : Nat) (x : Stack) : (s.setStack k x).ports = s.ports := rfl
@[simp] theorem State.setStack_lanes (k : Nat) (x : Stack) : (s.setStack k x).lanes = s.lanes := rfl
@[simp] theorem State.setStack_xrefs (k : Nat) (x : Stack) : (s.setStack k x).xrefs = s.xrefs := rfl
@[simp] theorem State.setStack_jobs (k : Nat) (x : Stack) : (s.setStack k x).jobs = s.jobs := rfl
@[simp] theorem State.setStack_abortLog (k : Nat) (x : Stack) : (s.setStack k x).abortLog = s.abortLog := rfl
@[simp] theorem State.setStack_clearings (k : Nat) (x : Stack) : (s.setStack k x).clearings = s.clearings := rfl
@[simp] theorem State.setStack_flops (k : Nat) (x : Stack) : (s.setStack k x).flops = s.flops := rfl
@[simp] theorem State.setStack_wires (k : Nat) (x : Stack) : (s.setStack k x).wires = s.wires := rfl
@[simp] theorem State.setStack_pins (k : Nat) (x : Stack) : (s.setStack k x).pins = s.pins := rfl
@[simp] theorem State.setStack_pairs (k : Nat) (x : Stack) : (s.setStack k x).pairs = s.pairs := rfl
@[simp] theorem State.setStack_nv (k : Nat) (x : Stack) : (s.setStack k x).nv = s.nv := rfl
@[simp] theorem State.setStack_bootCopies (k : Nat) (x : Stack) : (s.setStack k x).bootCopies = s.bootCopies := rfl
@[simp] theorem State.setStack_cfg (k : Nat) (x : Stack) : (s.setStack k x).cfg = s.cfg := rfl
@[simp] theorem State.setStack_cfgDiff (k : Nat) (x : Stack) : (s.setStack k x).cfgDiff = s.cfgDiff := rfl
@[simp] theorem State.setStack_shadow (k : Nat) (x : Stack) : (s.setStack k x).shadow = s.shadow := rfl
@[simp] theorem State.setStack_shadowDiff (k : Nat) (x : Stack) : (s.setStack k x).shadowDiff = s.shadowDiff := rfl
@[simp] theorem State.setStack_decoded (k : Nat) (x : Stack) : (s.setStack k x).decoded = s.decoded := rfl
@[simp] theorem State.setStack_frameMap (k : Nat) (x : Stack) : (s.setStack k x).frameMap = s.frameMap := rfl
@[simp] theorem State.setStack_shadowRelease (k : Nat) (x : Stack) : (s.setStack k x).shadowRelease = s.shadowRelease := rfl
@[simp] theorem State.setStack_switch (k : Nat) (x : Stack) : (s.setStack k x).switch = s.switch := rfl
@[simp] theorem State.setStack_groveNext (k : Nat) (x : Stack) : (s.setStack k x).groveNext = s.groveNext := rfl
@[simp] theorem State.setStack_scrubAt (k : Nat) (x : Stack) : (s.setStack k x).scrubAt = s.scrubAt := rfl
@[simp] theorem State.setStack_captures (k : Nat) (x : Stack) : (s.setStack k x).captures = s.captures := rfl
@[simp] theorem State.setStack_rxFrames (k : Nat) (x : Stack) : (s.setStack k x).rxFrames = s.rxFrames := rfl
@[simp] theorem State.setStack_plcaOk (k : Nat) (x : Stack) : (s.setStack k x).plcaOk = s.plcaOk := rfl
@[simp] theorem State.setStack_plcaDown (k : Nat) (x : Stack) : (s.setStack k x).plcaDown = s.plcaDown := rfl
@[simp] theorem State.setStack_revert (k : Nat) (x : Stack) : (s.setStack k x).revert = s.revert := rfl
@[simp] theorem State.setStack_sessions (k : Nat) (x : Stack) : (s.setStack k x).sessions = s.sessions := rfl
@[simp] theorem State.setStack_halfOpen (k : Nat) (x : Stack) : (s.setStack k x).halfOpen = s.halfOpen := rfl
@[simp] theorem State.setStack_lastSession (k : Nat) (x : Stack) : (s.setStack k x).lastSession = s.lastSession := rfl
@[simp] theorem State.setStack_sessionUse (k : Nat) (x : Stack) : (s.setStack k x).sessionUse = s.sessionUse := rfl
@[simp] theorem State.setStack_challenge (k : Nat) (x : Stack) : (s.setStack k x).challenge = s.challenge := rfl
@[simp] theorem State.setStack_actions (k : Nat) (x : Stack) : (s.setStack k x).actions = s.actions := rfl
@[simp] theorem State.setStack_snapAreas (k : Nat) (x : Stack) : (s.setStack k x).snapAreas = s.snapAreas := rfl
@[simp] theorem State.setStack_snapNewest (k : Nat) (x : Stack) : (s.setStack k x).snapNewest = s.snapNewest := rfl
@[simp] theorem State.setStack_kept (k : Nat) (x : Stack) : (s.setStack k x).kept = s.kept := rfl
@[simp] theorem State.setStack_nextReport (k : Nat) (x : Stack) : (s.setStack k x).nextReport = s.nextReport := rfl
@[simp] theorem State.setStack_ats (k : Nat) (x : Stack) : (s.setStack k x).ats = s.ats := rfl
@[simp] theorem State.setStack_hostOff (k : Nat) (x : Stack) : (s.setStack k x).hostOff = s.hostOff := rfl
@[simp] theorem State.setStack_funcs (k : Nat) (x : Stack) : (s.setStack k x).funcs = s.funcs := rfl
@[simp] theorem State.setStack_bells (k : Nat) (x : Stack) : (s.setStack k x).bells = s.bells := rfl
@[simp] theorem State.setStack_heldBar0 (k : Nat) (x : Stack) : (s.setStack k x).heldBar0 = s.heldBar0 := rfl
@[simp] theorem State.setStack_latches (k : Nat) (x : Stack) : (s.setStack k x).latches = s.latches := rfl
@[simp] theorem State.setStack_endpointReady (k : Nat) (x : Stack) : (s.setStack k x).endpointReady = s.endpointReady := rfl
@[simp] theorem State.setStack_statusSent (k : Nat) (x : Stack) : (s.setStack k x).statusSent = s.statusSent := rfl
@[simp] theorem State.setStack_sensors (k : Nat) (x : Stack) : (s.setStack k x).sensors = s.sensors := rfl
@[simp] theorem State.setStack_packageSamples (k : Nat) (x : Stack) : (s.setStack k x).packageSamples = s.packageSamples := rfl
@[simp] theorem State.setStack_energyRest (k : Nat) (x : Stack) : (s.setStack k x).energyRest = s.energyRest := rfl
@[simp] theorem State.setStack_telemetrySamples (k : Nat) (x : Stack) : (s.setStack k x).telemetrySamples = s.telemetrySamples := rfl
@[simp] theorem State.setStack_diePower (k : Nat) (x : Stack) : (s.setStack k x).diePower = s.diePower := rfl
@[simp] theorem State.setStack_stackHot (k : Nat) (x : Stack) : (s.setStack k x).stackHot = s.stackHot := rfl
@[simp] theorem State.setStack_ranger (k : Nat) (x : Stack) : (s.setStack k x).ranger = s.ranger := rfl
@[simp] theorem State.setStack_watchdog (k : Nat) (x : Stack) : (s.setStack k x).watchdog = s.watchdog := rfl
@[simp] theorem State.setStack_rerouteDue (k : Nat) (x : Stack) : (s.setStack k x).rerouteDue = s.rerouteDue := rfl
@[simp] theorem State.setStack_heldRecords (k : Nat) (x : Stack) : (s.setStack k x).heldRecords = s.heldRecords := rfl
@[simp] theorem State.setStack_stewards (k : Nat) (x : Stack) : (s.setStack k x).stewards = s.stewards := rfl
@[simp] theorem State.setStack_stalls (k : Nat) (x : Stack) : (s.setStack k x).stalls = s.stalls := rfl
@[simp] theorem State.setStack_logSerial (k : Nat) (x : Stack) : (s.setStack k x).logSerial = s.logSerial := rfl
@[simp] theorem State.setStack_logUnread (k : Nat) (x : Stack) : (s.setStack k x).logUnread = s.logUnread := rfl
@[simp] theorem State.setStack_tests (k : Nat) (x : Stack) : (s.setStack k x).tests = s.tests := rfl
@[simp] theorem State.setStack_selfTest (k : Nat) (x : Stack) : (s.setStack k x).selfTest = s.selfTest := rfl
@[simp] theorem State.setStack_hssMarks (k : Nat) (x : Stack) : (s.setStack k x).hssMarks = s.hssMarks := rfl
@[simp] theorem State.setStack_minimaOk (k : Nat) (x : Stack) : (s.setStack k x).minimaOk = s.minimaOk := rfl
@[simp] theorem State.setStack_spdmSecured (k : Nat) (x : Stack) : (s.setStack k x).spdmSecured = s.spdmSecured := rfl
@[simp] theorem State.setStack_ideKeys (k : Nat) (x : Stack) : (s.setStack k x).ideKeys = s.ideKeys := rfl
@[simp] theorem State.setStack_devRstN (k : Nat) (x : Stack) : (s.setStack k x).devRstN = s.devRstN := rfl
@[simp] theorem State.setStack_perstN (k : Nat) (x : Stack) : (s.setStack k x).perstN = s.perstN := rfl
@[simp] theorem State.setStack_mclkLocked (k : Nat) (x : Stack) : (s.setStack k x).mclkLocked = s.mclkLocked := rfl
@[simp] theorem State.setStack_booted (k : Nat) (x : Stack) : (s.setStack k x).booted = s.booted := rfl
@[simp] theorem State.setStack_arefLost (k : Nat) (x : Stack) : (s.setStack k x).arefLost = s.arefLost := rfl
@[simp] theorem State.setStack_computeReady (k : Nat) (x : Stack) : (s.setStack k x).computeReady = s.computeReady := rfl
@[simp] theorem State.setStack_coreRetry (k : Nat) (x : Stack) : (s.setStack k x).coreRetry = s.coreRetry := rfl
@[simp] theorem State.setStack_refreshOff (k : Nat) (x : Stack) : (s.setStack k x).refreshOff = s.refreshOff := rfl

/-! ## setSramDiff -/

@[simp] theorem State.setSramDiff_pending (w : Nat) (d : Byte) : (s.setSramDiff w d).pending = s.pending := rfl
@[simp] theorem State.setSramDiff_free (w : Nat) (d : Byte) : (s.setSramDiff w d).free = s.free := rfl
@[simp] theorem State.setSramDiff_out (w : Nat) (d : Byte) : (s.setSramDiff w d).out = s.out := rfl
@[simp] theorem State.setSramDiff_dict (w : Nat) (d : Byte) : (s.setSramDiff w d).dict = s.dict := rfl
@[simp] theorem State.setSramDiff_accepted (w : Nat) (d : Byte) : (s.setSramDiff w d).accepted = s.accepted := rfl
@[simp] theorem State.setSramDiff_mem (w : Nat) (d : Byte) : (s.setSramDiff w d).mem = s.mem := rfl
@[simp] theorem State.setSramDiff_scram (w : Nat) (d : Byte) : (s.setSramDiff w d).scram = s.scram := rfl
@[simp] theorem State.setSramDiff_writeBack (w : Nat) (d : Byte) : (s.setSramDiff w d).writeBack = s.writeBack := rfl
@[simp] theorem State.setSramDiff_reports (w : Nat) (d : Byte) : (s.setSramDiff w d).reports = s.reports := rfl
@[simp] theorem State.setSramDiff_sramDiff (w : Nat) (d : Byte) : (s.setSramDiff w d).sramDiff = SMap.set 0 s.sramDiff w d := rfl
@[simp] theorem State.setSramDiff_stackDiff (w : Nat) (d : Byte) : (s.setSramDiff w d).stackDiff = s.stackDiff := rfl
@[simp] theorem State.setSramDiff_written (w : Nat) (d : Byte) : (s.setSramDiff w d).written = s.written := rfl
@[simp] theorem State.setSramDiff_mirror (w : Nat) (d : Byte) : (s.setSramDiff w d).mirror = s.mirror := rfl
@[simp] theorem State.setSramDiff_stands (w : Nat) (d : Byte) : (s.setSramDiff w d).stands = s.stands := rfl
@[simp] theorem State.setSramDiff_groves (w : Nat) (d : Byte) : (s.setSramDiff w d).groves = s.groves := rfl
@[simp] theorem State.setSramDiff_tiles (w : Nat) (d : Byte) : (s.setSramDiff w d).tiles = s.tiles := rfl
@[simp] theorem State.setSramDiff_ctxs (w : Nat) (d : Byte) : (s.setSramDiff w d).ctxs = s.ctxs := rfl
@[simp] theorem State.setSramDiff_slots (w : Nat) (d : Byte) : (s.setSramDiff w d).slots = s.slots := rfl
@[simp] theorem State.setSramDiff_freed (w : Nat) (d : Byte) : (s.setSramDiff w d).freed = s.freed := rfl
@[simp] theorem State.setSramDiff_rootStacks (w : Nat) (d : Byte) : (s.setSramDiff w d).rootStacks = s.rootStacks := rfl
@[simp] theorem State.setSramDiff_windowTaken (w : Nat) (d : Byte) : (s.setSramDiff w d).windowTaken = s.windowTaken := rfl
@[simp] theorem State.setSramDiff_patrol (w : Nat) (d : Byte) : (s.setSramDiff w d).patrol = s.patrol := rfl
@[simp] theorem State.setSramDiff_fifos (w : Nat) (d : Byte) : (s.setSramDiff w d).fifos = s.fifos := rfl
@[simp] theorem State.setSramDiff_rx (w : Nat) (d : Byte) : (s.setSramDiff w d).rx = s.rx := rfl
@[simp] theorem State.setSramDiff_outst (w : Nat) (d : Byte) : (s.setSramDiff w d).outst = s.outst := rfl
@[simp] theorem State.setSramDiff_mismatches (w : Nat) (d : Byte) : (s.setSramDiff w d).mismatches = s.mismatches := rfl
@[simp] theorem State.setSramDiff_turns (w : Nat) (d : Byte) : (s.setSramDiff w d).turns = s.turns := rfl
@[simp] theorem State.setSramDiff_treeDebts (w : Nat) (d : Byte) : (s.setSramDiff w d).treeDebts = s.treeDebts := rfl
@[simp] theorem State.setSramDiff_treeOff (w : Nat) (d : Byte) : (s.setSramDiff w d).treeOff = s.treeOff := rfl
@[simp] theorem State.setSramDiff_treeSent (w : Nat) (d : Byte) : (s.setSramDiff w d).treeSent = s.treeSent := rfl
@[simp] theorem State.setSramDiff_treeMasks (w : Nat) (d : Byte) : (s.setSramDiff w d).treeMasks = s.treeMasks := rfl
@[simp] theorem State.setSramDiff_ports (w : Nat) (d : Byte) : (s.setSramDiff w d).ports = s.ports := rfl
@[simp] theorem State.setSramDiff_lanes (w : Nat) (d : Byte) : (s.setSramDiff w d).lanes = s.lanes := rfl
@[simp] theorem State.setSramDiff_xrefs (w : Nat) (d : Byte) : (s.setSramDiff w d).xrefs = s.xrefs := rfl
@[simp] theorem State.setSramDiff_jobs (w : Nat) (d : Byte) : (s.setSramDiff w d).jobs = s.jobs := rfl
@[simp] theorem State.setSramDiff_abortLog (w : Nat) (d : Byte) : (s.setSramDiff w d).abortLog = s.abortLog := rfl
@[simp] theorem State.setSramDiff_clearings (w : Nat) (d : Byte) : (s.setSramDiff w d).clearings = s.clearings := rfl
@[simp] theorem State.setSramDiff_flops (w : Nat) (d : Byte) : (s.setSramDiff w d).flops = s.flops := rfl
@[simp] theorem State.setSramDiff_wires (w : Nat) (d : Byte) : (s.setSramDiff w d).wires = s.wires := rfl
@[simp] theorem State.setSramDiff_pins (w : Nat) (d : Byte) : (s.setSramDiff w d).pins = s.pins := rfl
@[simp] theorem State.setSramDiff_pairs (w : Nat) (d : Byte) : (s.setSramDiff w d).pairs = s.pairs := rfl
@[simp] theorem State.setSramDiff_nv (w : Nat) (d : Byte) : (s.setSramDiff w d).nv = s.nv := rfl
@[simp] theorem State.setSramDiff_bootCopies (w : Nat) (d : Byte) : (s.setSramDiff w d).bootCopies = s.bootCopies := rfl
@[simp] theorem State.setSramDiff_cfg (w : Nat) (d : Byte) : (s.setSramDiff w d).cfg = s.cfg := rfl
@[simp] theorem State.setSramDiff_cfgDiff (w : Nat) (d : Byte) : (s.setSramDiff w d).cfgDiff = s.cfgDiff := rfl
@[simp] theorem State.setSramDiff_shadow (w : Nat) (d : Byte) : (s.setSramDiff w d).shadow = s.shadow := rfl
@[simp] theorem State.setSramDiff_shadowDiff (w : Nat) (d : Byte) : (s.setSramDiff w d).shadowDiff = s.shadowDiff := rfl
@[simp] theorem State.setSramDiff_decoded (w : Nat) (d : Byte) : (s.setSramDiff w d).decoded = s.decoded := rfl
@[simp] theorem State.setSramDiff_frameMap (w : Nat) (d : Byte) : (s.setSramDiff w d).frameMap = s.frameMap := rfl
@[simp] theorem State.setSramDiff_shadowRelease (w : Nat) (d : Byte) : (s.setSramDiff w d).shadowRelease = s.shadowRelease := rfl
@[simp] theorem State.setSramDiff_switch (w : Nat) (d : Byte) : (s.setSramDiff w d).switch = s.switch := rfl
@[simp] theorem State.setSramDiff_groveNext (w : Nat) (d : Byte) : (s.setSramDiff w d).groveNext = s.groveNext := rfl
@[simp] theorem State.setSramDiff_scrubAt (w : Nat) (d : Byte) : (s.setSramDiff w d).scrubAt = s.scrubAt := rfl
@[simp] theorem State.setSramDiff_captures (w : Nat) (d : Byte) : (s.setSramDiff w d).captures = s.captures := rfl
@[simp] theorem State.setSramDiff_rxFrames (w : Nat) (d : Byte) : (s.setSramDiff w d).rxFrames = s.rxFrames := rfl
@[simp] theorem State.setSramDiff_plcaOk (w : Nat) (d : Byte) : (s.setSramDiff w d).plcaOk = s.plcaOk := rfl
@[simp] theorem State.setSramDiff_plcaDown (w : Nat) (d : Byte) : (s.setSramDiff w d).plcaDown = s.plcaDown := rfl
@[simp] theorem State.setSramDiff_revert (w : Nat) (d : Byte) : (s.setSramDiff w d).revert = s.revert := rfl
@[simp] theorem State.setSramDiff_sessions (w : Nat) (d : Byte) : (s.setSramDiff w d).sessions = s.sessions := rfl
@[simp] theorem State.setSramDiff_halfOpen (w : Nat) (d : Byte) : (s.setSramDiff w d).halfOpen = s.halfOpen := rfl
@[simp] theorem State.setSramDiff_lastSession (w : Nat) (d : Byte) : (s.setSramDiff w d).lastSession = s.lastSession := rfl
@[simp] theorem State.setSramDiff_sessionUse (w : Nat) (d : Byte) : (s.setSramDiff w d).sessionUse = s.sessionUse := rfl
@[simp] theorem State.setSramDiff_challenge (w : Nat) (d : Byte) : (s.setSramDiff w d).challenge = s.challenge := rfl
@[simp] theorem State.setSramDiff_actions (w : Nat) (d : Byte) : (s.setSramDiff w d).actions = s.actions := rfl
@[simp] theorem State.setSramDiff_snapAreas (w : Nat) (d : Byte) : (s.setSramDiff w d).snapAreas = s.snapAreas := rfl
@[simp] theorem State.setSramDiff_snapNewest (w : Nat) (d : Byte) : (s.setSramDiff w d).snapNewest = s.snapNewest := rfl
@[simp] theorem State.setSramDiff_kept (w : Nat) (d : Byte) : (s.setSramDiff w d).kept = s.kept := rfl
@[simp] theorem State.setSramDiff_nextReport (w : Nat) (d : Byte) : (s.setSramDiff w d).nextReport = s.nextReport := rfl
@[simp] theorem State.setSramDiff_ats (w : Nat) (d : Byte) : (s.setSramDiff w d).ats = s.ats := rfl
@[simp] theorem State.setSramDiff_hostOff (w : Nat) (d : Byte) : (s.setSramDiff w d).hostOff = s.hostOff := rfl
@[simp] theorem State.setSramDiff_funcs (w : Nat) (d : Byte) : (s.setSramDiff w d).funcs = s.funcs := rfl
@[simp] theorem State.setSramDiff_bells (w : Nat) (d : Byte) : (s.setSramDiff w d).bells = s.bells := rfl
@[simp] theorem State.setSramDiff_heldBar0 (w : Nat) (d : Byte) : (s.setSramDiff w d).heldBar0 = s.heldBar0 := rfl
@[simp] theorem State.setSramDiff_latches (w : Nat) (d : Byte) : (s.setSramDiff w d).latches = s.latches := rfl
@[simp] theorem State.setSramDiff_endpointReady (w : Nat) (d : Byte) : (s.setSramDiff w d).endpointReady = s.endpointReady := rfl
@[simp] theorem State.setSramDiff_statusSent (w : Nat) (d : Byte) : (s.setSramDiff w d).statusSent = s.statusSent := rfl
@[simp] theorem State.setSramDiff_sensors (w : Nat) (d : Byte) : (s.setSramDiff w d).sensors = s.sensors := rfl
@[simp] theorem State.setSramDiff_packageSamples (w : Nat) (d : Byte) : (s.setSramDiff w d).packageSamples = s.packageSamples := rfl
@[simp] theorem State.setSramDiff_energyRest (w : Nat) (d : Byte) : (s.setSramDiff w d).energyRest = s.energyRest := rfl
@[simp] theorem State.setSramDiff_telemetrySamples (w : Nat) (d : Byte) : (s.setSramDiff w d).telemetrySamples = s.telemetrySamples := rfl
@[simp] theorem State.setSramDiff_diePower (w : Nat) (d : Byte) : (s.setSramDiff w d).diePower = s.diePower := rfl
@[simp] theorem State.setSramDiff_stackHot (w : Nat) (d : Byte) : (s.setSramDiff w d).stackHot = s.stackHot := rfl
@[simp] theorem State.setSramDiff_ranger (w : Nat) (d : Byte) : (s.setSramDiff w d).ranger = s.ranger := rfl
@[simp] theorem State.setSramDiff_watchdog (w : Nat) (d : Byte) : (s.setSramDiff w d).watchdog = s.watchdog := rfl
@[simp] theorem State.setSramDiff_rerouteDue (w : Nat) (d : Byte) : (s.setSramDiff w d).rerouteDue = s.rerouteDue := rfl
@[simp] theorem State.setSramDiff_heldRecords (w : Nat) (d : Byte) : (s.setSramDiff w d).heldRecords = s.heldRecords := rfl
@[simp] theorem State.setSramDiff_stewards (w : Nat) (d : Byte) : (s.setSramDiff w d).stewards = s.stewards := rfl
@[simp] theorem State.setSramDiff_stalls (w : Nat) (d : Byte) : (s.setSramDiff w d).stalls = s.stalls := rfl
@[simp] theorem State.setSramDiff_logSerial (w : Nat) (d : Byte) : (s.setSramDiff w d).logSerial = s.logSerial := rfl
@[simp] theorem State.setSramDiff_logUnread (w : Nat) (d : Byte) : (s.setSramDiff w d).logUnread = s.logUnread := rfl
@[simp] theorem State.setSramDiff_tests (w : Nat) (d : Byte) : (s.setSramDiff w d).tests = s.tests := rfl
@[simp] theorem State.setSramDiff_selfTest (w : Nat) (d : Byte) : (s.setSramDiff w d).selfTest = s.selfTest := rfl
@[simp] theorem State.setSramDiff_hssMarks (w : Nat) (d : Byte) : (s.setSramDiff w d).hssMarks = s.hssMarks := rfl
@[simp] theorem State.setSramDiff_minimaOk (w : Nat) (d : Byte) : (s.setSramDiff w d).minimaOk = s.minimaOk := rfl
@[simp] theorem State.setSramDiff_spdmSecured (w : Nat) (d : Byte) : (s.setSramDiff w d).spdmSecured = s.spdmSecured := rfl
@[simp] theorem State.setSramDiff_ideKeys (w : Nat) (d : Byte) : (s.setSramDiff w d).ideKeys = s.ideKeys := rfl
@[simp] theorem State.setSramDiff_devRstN (w : Nat) (d : Byte) : (s.setSramDiff w d).devRstN = s.devRstN := rfl
@[simp] theorem State.setSramDiff_perstN (w : Nat) (d : Byte) : (s.setSramDiff w d).perstN = s.perstN := rfl
@[simp] theorem State.setSramDiff_mclkLocked (w : Nat) (d : Byte) : (s.setSramDiff w d).mclkLocked = s.mclkLocked := rfl
@[simp] theorem State.setSramDiff_booted (w : Nat) (d : Byte) : (s.setSramDiff w d).booted = s.booted := rfl
@[simp] theorem State.setSramDiff_arefLost (w : Nat) (d : Byte) : (s.setSramDiff w d).arefLost = s.arefLost := rfl
@[simp] theorem State.setSramDiff_computeReady (w : Nat) (d : Byte) : (s.setSramDiff w d).computeReady = s.computeReady := rfl
@[simp] theorem State.setSramDiff_coreRetry (w : Nat) (d : Byte) : (s.setSramDiff w d).coreRetry = s.coreRetry := rfl
@[simp] theorem State.setSramDiff_refreshOff (w : Nat) (d : Byte) : (s.setSramDiff w d).refreshOff = s.refreshOff := rfl

/-! ## setStackDiff -/

@[simp] theorem State.setStackDiff_pending (w : Nat) (d : U16) : (s.setStackDiff w d).pending = s.pending := rfl
@[simp] theorem State.setStackDiff_free (w : Nat) (d : U16) : (s.setStackDiff w d).free = s.free := rfl
@[simp] theorem State.setStackDiff_out (w : Nat) (d : U16) : (s.setStackDiff w d).out = s.out := rfl
@[simp] theorem State.setStackDiff_dict (w : Nat) (d : U16) : (s.setStackDiff w d).dict = s.dict := rfl
@[simp] theorem State.setStackDiff_accepted (w : Nat) (d : U16) : (s.setStackDiff w d).accepted = s.accepted := rfl
@[simp] theorem State.setStackDiff_mem (w : Nat) (d : U16) : (s.setStackDiff w d).mem = s.mem := rfl
@[simp] theorem State.setStackDiff_scram (w : Nat) (d : U16) : (s.setStackDiff w d).scram = s.scram := rfl
@[simp] theorem State.setStackDiff_writeBack (w : Nat) (d : U16) : (s.setStackDiff w d).writeBack = s.writeBack := rfl
@[simp] theorem State.setStackDiff_reports (w : Nat) (d : U16) : (s.setStackDiff w d).reports = s.reports := rfl
@[simp] theorem State.setStackDiff_sramDiff (w : Nat) (d : U16) : (s.setStackDiff w d).sramDiff = s.sramDiff := rfl
@[simp] theorem State.setStackDiff_stackDiff (w : Nat) (d : U16) : (s.setStackDiff w d).stackDiff = SMap.set 0 s.stackDiff w d := rfl
@[simp] theorem State.setStackDiff_written (w : Nat) (d : U16) : (s.setStackDiff w d).written = s.written := rfl
@[simp] theorem State.setStackDiff_mirror (w : Nat) (d : U16) : (s.setStackDiff w d).mirror = s.mirror := rfl
@[simp] theorem State.setStackDiff_stands (w : Nat) (d : U16) : (s.setStackDiff w d).stands = s.stands := rfl
@[simp] theorem State.setStackDiff_groves (w : Nat) (d : U16) : (s.setStackDiff w d).groves = s.groves := rfl
@[simp] theorem State.setStackDiff_tiles (w : Nat) (d : U16) : (s.setStackDiff w d).tiles = s.tiles := rfl
@[simp] theorem State.setStackDiff_ctxs (w : Nat) (d : U16) : (s.setStackDiff w d).ctxs = s.ctxs := rfl
@[simp] theorem State.setStackDiff_slots (w : Nat) (d : U16) : (s.setStackDiff w d).slots = s.slots := rfl
@[simp] theorem State.setStackDiff_freed (w : Nat) (d : U16) : (s.setStackDiff w d).freed = s.freed := rfl
@[simp] theorem State.setStackDiff_rootStacks (w : Nat) (d : U16) : (s.setStackDiff w d).rootStacks = s.rootStacks := rfl
@[simp] theorem State.setStackDiff_windowTaken (w : Nat) (d : U16) : (s.setStackDiff w d).windowTaken = s.windowTaken := rfl
@[simp] theorem State.setStackDiff_patrol (w : Nat) (d : U16) : (s.setStackDiff w d).patrol = s.patrol := rfl
@[simp] theorem State.setStackDiff_fifos (w : Nat) (d : U16) : (s.setStackDiff w d).fifos = s.fifos := rfl
@[simp] theorem State.setStackDiff_rx (w : Nat) (d : U16) : (s.setStackDiff w d).rx = s.rx := rfl
@[simp] theorem State.setStackDiff_outst (w : Nat) (d : U16) : (s.setStackDiff w d).outst = s.outst := rfl
@[simp] theorem State.setStackDiff_mismatches (w : Nat) (d : U16) : (s.setStackDiff w d).mismatches = s.mismatches := rfl
@[simp] theorem State.setStackDiff_turns (w : Nat) (d : U16) : (s.setStackDiff w d).turns = s.turns := rfl
@[simp] theorem State.setStackDiff_treeDebts (w : Nat) (d : U16) : (s.setStackDiff w d).treeDebts = s.treeDebts := rfl
@[simp] theorem State.setStackDiff_treeOff (w : Nat) (d : U16) : (s.setStackDiff w d).treeOff = s.treeOff := rfl
@[simp] theorem State.setStackDiff_treeSent (w : Nat) (d : U16) : (s.setStackDiff w d).treeSent = s.treeSent := rfl
@[simp] theorem State.setStackDiff_treeMasks (w : Nat) (d : U16) : (s.setStackDiff w d).treeMasks = s.treeMasks := rfl
@[simp] theorem State.setStackDiff_ports (w : Nat) (d : U16) : (s.setStackDiff w d).ports = s.ports := rfl
@[simp] theorem State.setStackDiff_lanes (w : Nat) (d : U16) : (s.setStackDiff w d).lanes = s.lanes := rfl
@[simp] theorem State.setStackDiff_xrefs (w : Nat) (d : U16) : (s.setStackDiff w d).xrefs = s.xrefs := rfl
@[simp] theorem State.setStackDiff_jobs (w : Nat) (d : U16) : (s.setStackDiff w d).jobs = s.jobs := rfl
@[simp] theorem State.setStackDiff_abortLog (w : Nat) (d : U16) : (s.setStackDiff w d).abortLog = s.abortLog := rfl
@[simp] theorem State.setStackDiff_clearings (w : Nat) (d : U16) : (s.setStackDiff w d).clearings = s.clearings := rfl
@[simp] theorem State.setStackDiff_flops (w : Nat) (d : U16) : (s.setStackDiff w d).flops = s.flops := rfl
@[simp] theorem State.setStackDiff_wires (w : Nat) (d : U16) : (s.setStackDiff w d).wires = s.wires := rfl
@[simp] theorem State.setStackDiff_pins (w : Nat) (d : U16) : (s.setStackDiff w d).pins = s.pins := rfl
@[simp] theorem State.setStackDiff_pairs (w : Nat) (d : U16) : (s.setStackDiff w d).pairs = s.pairs := rfl
@[simp] theorem State.setStackDiff_nv (w : Nat) (d : U16) : (s.setStackDiff w d).nv = s.nv := rfl
@[simp] theorem State.setStackDiff_bootCopies (w : Nat) (d : U16) : (s.setStackDiff w d).bootCopies = s.bootCopies := rfl
@[simp] theorem State.setStackDiff_cfg (w : Nat) (d : U16) : (s.setStackDiff w d).cfg = s.cfg := rfl
@[simp] theorem State.setStackDiff_cfgDiff (w : Nat) (d : U16) : (s.setStackDiff w d).cfgDiff = s.cfgDiff := rfl
@[simp] theorem State.setStackDiff_shadow (w : Nat) (d : U16) : (s.setStackDiff w d).shadow = s.shadow := rfl
@[simp] theorem State.setStackDiff_shadowDiff (w : Nat) (d : U16) : (s.setStackDiff w d).shadowDiff = s.shadowDiff := rfl
@[simp] theorem State.setStackDiff_decoded (w : Nat) (d : U16) : (s.setStackDiff w d).decoded = s.decoded := rfl
@[simp] theorem State.setStackDiff_frameMap (w : Nat) (d : U16) : (s.setStackDiff w d).frameMap = s.frameMap := rfl
@[simp] theorem State.setStackDiff_shadowRelease (w : Nat) (d : U16) : (s.setStackDiff w d).shadowRelease = s.shadowRelease := rfl
@[simp] theorem State.setStackDiff_switch (w : Nat) (d : U16) : (s.setStackDiff w d).switch = s.switch := rfl
@[simp] theorem State.setStackDiff_groveNext (w : Nat) (d : U16) : (s.setStackDiff w d).groveNext = s.groveNext := rfl
@[simp] theorem State.setStackDiff_scrubAt (w : Nat) (d : U16) : (s.setStackDiff w d).scrubAt = s.scrubAt := rfl
@[simp] theorem State.setStackDiff_captures (w : Nat) (d : U16) : (s.setStackDiff w d).captures = s.captures := rfl
@[simp] theorem State.setStackDiff_rxFrames (w : Nat) (d : U16) : (s.setStackDiff w d).rxFrames = s.rxFrames := rfl
@[simp] theorem State.setStackDiff_plcaOk (w : Nat) (d : U16) : (s.setStackDiff w d).plcaOk = s.plcaOk := rfl
@[simp] theorem State.setStackDiff_plcaDown (w : Nat) (d : U16) : (s.setStackDiff w d).plcaDown = s.plcaDown := rfl
@[simp] theorem State.setStackDiff_revert (w : Nat) (d : U16) : (s.setStackDiff w d).revert = s.revert := rfl
@[simp] theorem State.setStackDiff_sessions (w : Nat) (d : U16) : (s.setStackDiff w d).sessions = s.sessions := rfl
@[simp] theorem State.setStackDiff_halfOpen (w : Nat) (d : U16) : (s.setStackDiff w d).halfOpen = s.halfOpen := rfl
@[simp] theorem State.setStackDiff_lastSession (w : Nat) (d : U16) : (s.setStackDiff w d).lastSession = s.lastSession := rfl
@[simp] theorem State.setStackDiff_sessionUse (w : Nat) (d : U16) : (s.setStackDiff w d).sessionUse = s.sessionUse := rfl
@[simp] theorem State.setStackDiff_challenge (w : Nat) (d : U16) : (s.setStackDiff w d).challenge = s.challenge := rfl
@[simp] theorem State.setStackDiff_actions (w : Nat) (d : U16) : (s.setStackDiff w d).actions = s.actions := rfl
@[simp] theorem State.setStackDiff_snapAreas (w : Nat) (d : U16) : (s.setStackDiff w d).snapAreas = s.snapAreas := rfl
@[simp] theorem State.setStackDiff_snapNewest (w : Nat) (d : U16) : (s.setStackDiff w d).snapNewest = s.snapNewest := rfl
@[simp] theorem State.setStackDiff_kept (w : Nat) (d : U16) : (s.setStackDiff w d).kept = s.kept := rfl
@[simp] theorem State.setStackDiff_nextReport (w : Nat) (d : U16) : (s.setStackDiff w d).nextReport = s.nextReport := rfl
@[simp] theorem State.setStackDiff_ats (w : Nat) (d : U16) : (s.setStackDiff w d).ats = s.ats := rfl
@[simp] theorem State.setStackDiff_hostOff (w : Nat) (d : U16) : (s.setStackDiff w d).hostOff = s.hostOff := rfl
@[simp] theorem State.setStackDiff_funcs (w : Nat) (d : U16) : (s.setStackDiff w d).funcs = s.funcs := rfl
@[simp] theorem State.setStackDiff_bells (w : Nat) (d : U16) : (s.setStackDiff w d).bells = s.bells := rfl
@[simp] theorem State.setStackDiff_heldBar0 (w : Nat) (d : U16) : (s.setStackDiff w d).heldBar0 = s.heldBar0 := rfl
@[simp] theorem State.setStackDiff_latches (w : Nat) (d : U16) : (s.setStackDiff w d).latches = s.latches := rfl
@[simp] theorem State.setStackDiff_endpointReady (w : Nat) (d : U16) : (s.setStackDiff w d).endpointReady = s.endpointReady := rfl
@[simp] theorem State.setStackDiff_statusSent (w : Nat) (d : U16) : (s.setStackDiff w d).statusSent = s.statusSent := rfl
@[simp] theorem State.setStackDiff_sensors (w : Nat) (d : U16) : (s.setStackDiff w d).sensors = s.sensors := rfl
@[simp] theorem State.setStackDiff_packageSamples (w : Nat) (d : U16) : (s.setStackDiff w d).packageSamples = s.packageSamples := rfl
@[simp] theorem State.setStackDiff_energyRest (w : Nat) (d : U16) : (s.setStackDiff w d).energyRest = s.energyRest := rfl
@[simp] theorem State.setStackDiff_telemetrySamples (w : Nat) (d : U16) : (s.setStackDiff w d).telemetrySamples = s.telemetrySamples := rfl
@[simp] theorem State.setStackDiff_diePower (w : Nat) (d : U16) : (s.setStackDiff w d).diePower = s.diePower := rfl
@[simp] theorem State.setStackDiff_stackHot (w : Nat) (d : U16) : (s.setStackDiff w d).stackHot = s.stackHot := rfl
@[simp] theorem State.setStackDiff_ranger (w : Nat) (d : U16) : (s.setStackDiff w d).ranger = s.ranger := rfl
@[simp] theorem State.setStackDiff_watchdog (w : Nat) (d : U16) : (s.setStackDiff w d).watchdog = s.watchdog := rfl
@[simp] theorem State.setStackDiff_rerouteDue (w : Nat) (d : U16) : (s.setStackDiff w d).rerouteDue = s.rerouteDue := rfl
@[simp] theorem State.setStackDiff_heldRecords (w : Nat) (d : U16) : (s.setStackDiff w d).heldRecords = s.heldRecords := rfl
@[simp] theorem State.setStackDiff_stewards (w : Nat) (d : U16) : (s.setStackDiff w d).stewards = s.stewards := rfl
@[simp] theorem State.setStackDiff_stalls (w : Nat) (d : U16) : (s.setStackDiff w d).stalls = s.stalls := rfl
@[simp] theorem State.setStackDiff_logSerial (w : Nat) (d : U16) : (s.setStackDiff w d).logSerial = s.logSerial := rfl
@[simp] theorem State.setStackDiff_logUnread (w : Nat) (d : U16) : (s.setStackDiff w d).logUnread = s.logUnread := rfl
@[simp] theorem State.setStackDiff_tests (w : Nat) (d : U16) : (s.setStackDiff w d).tests = s.tests := rfl
@[simp] theorem State.setStackDiff_selfTest (w : Nat) (d : U16) : (s.setStackDiff w d).selfTest = s.selfTest := rfl
@[simp] theorem State.setStackDiff_hssMarks (w : Nat) (d : U16) : (s.setStackDiff w d).hssMarks = s.hssMarks := rfl
@[simp] theorem State.setStackDiff_minimaOk (w : Nat) (d : U16) : (s.setStackDiff w d).minimaOk = s.minimaOk := rfl
@[simp] theorem State.setStackDiff_spdmSecured (w : Nat) (d : U16) : (s.setStackDiff w d).spdmSecured = s.spdmSecured := rfl
@[simp] theorem State.setStackDiff_ideKeys (w : Nat) (d : U16) : (s.setStackDiff w d).ideKeys = s.ideKeys := rfl
@[simp] theorem State.setStackDiff_devRstN (w : Nat) (d : U16) : (s.setStackDiff w d).devRstN = s.devRstN := rfl
@[simp] theorem State.setStackDiff_perstN (w : Nat) (d : U16) : (s.setStackDiff w d).perstN = s.perstN := rfl
@[simp] theorem State.setStackDiff_mclkLocked (w : Nat) (d : U16) : (s.setStackDiff w d).mclkLocked = s.mclkLocked := rfl
@[simp] theorem State.setStackDiff_booted (w : Nat) (d : U16) : (s.setStackDiff w d).booted = s.booted := rfl
@[simp] theorem State.setStackDiff_arefLost (w : Nat) (d : U16) : (s.setStackDiff w d).arefLost = s.arefLost := rfl
@[simp] theorem State.setStackDiff_computeReady (w : Nat) (d : U16) : (s.setStackDiff w d).computeReady = s.computeReady := rfl
@[simp] theorem State.setStackDiff_coreRetry (w : Nat) (d : U16) : (s.setStackDiff w d).coreRetry = s.coreRetry := rfl
@[simp] theorem State.setStackDiff_refreshOff (w : Nat) (d : U16) : (s.setStackDiff w d).refreshOff = s.refreshOff := rfl

/-! ## setRx -/

@[simp] theorem State.setRx_pending (node ch : Nat) (l : List Flit) : (s.setRx node ch l).pending = s.pending := rfl
@[simp] theorem State.setRx_free (node ch : Nat) (l : List Flit) : (s.setRx node ch l).free = s.free := rfl
@[simp] theorem State.setRx_out (node ch : Nat) (l : List Flit) : (s.setRx node ch l).out = s.out := rfl
@[simp] theorem State.setRx_dict (node ch : Nat) (l : List Flit) : (s.setRx node ch l).dict = s.dict := rfl
@[simp] theorem State.setRx_accepted (node ch : Nat) (l : List Flit) : (s.setRx node ch l).accepted = s.accepted := rfl
@[simp] theorem State.setRx_mem (node ch : Nat) (l : List Flit) : (s.setRx node ch l).mem = s.mem := rfl
@[simp] theorem State.setRx_scram (node ch : Nat) (l : List Flit) : (s.setRx node ch l).scram = s.scram := rfl
@[simp] theorem State.setRx_writeBack (node ch : Nat) (l : List Flit) : (s.setRx node ch l).writeBack = s.writeBack := rfl
@[simp] theorem State.setRx_reports (node ch : Nat) (l : List Flit) : (s.setRx node ch l).reports = s.reports := rfl
@[simp] theorem State.setRx_sramDiff (node ch : Nat) (l : List Flit) : (s.setRx node ch l).sramDiff = s.sramDiff := rfl
@[simp] theorem State.setRx_stackDiff (node ch : Nat) (l : List Flit) : (s.setRx node ch l).stackDiff = s.stackDiff := rfl
@[simp] theorem State.setRx_written (node ch : Nat) (l : List Flit) : (s.setRx node ch l).written = s.written := rfl
@[simp] theorem State.setRx_mirror (node ch : Nat) (l : List Flit) : (s.setRx node ch l).mirror = s.mirror := rfl
@[simp] theorem State.setRx_stands (node ch : Nat) (l : List Flit) : (s.setRx node ch l).stands = s.stands := rfl
@[simp] theorem State.setRx_groves (node ch : Nat) (l : List Flit) : (s.setRx node ch l).groves = s.groves := rfl
@[simp] theorem State.setRx_tiles (node ch : Nat) (l : List Flit) : (s.setRx node ch l).tiles = s.tiles := rfl
@[simp] theorem State.setRx_ctxs (node ch : Nat) (l : List Flit) : (s.setRx node ch l).ctxs = s.ctxs := rfl
@[simp] theorem State.setRx_slots (node ch : Nat) (l : List Flit) : (s.setRx node ch l).slots = s.slots := rfl
@[simp] theorem State.setRx_freed (node ch : Nat) (l : List Flit) : (s.setRx node ch l).freed = s.freed := rfl
@[simp] theorem State.setRx_rootStacks (node ch : Nat) (l : List Flit) : (s.setRx node ch l).rootStacks = s.rootStacks := rfl
@[simp] theorem State.setRx_windowTaken (node ch : Nat) (l : List Flit) : (s.setRx node ch l).windowTaken = s.windowTaken := rfl
@[simp] theorem State.setRx_patrol (node ch : Nat) (l : List Flit) : (s.setRx node ch l).patrol = s.patrol := rfl
@[simp] theorem State.setRx_fifos (node ch : Nat) (l : List Flit) : (s.setRx node ch l).fifos = s.fifos := rfl
@[simp] theorem State.setRx_rx (node ch : Nat) (l : List Flit) : (s.setRx node ch l).rx = SMap.set [] s.rx (3 * node + ch) l := rfl
@[simp] theorem State.setRx_outst (node ch : Nat) (l : List Flit) : (s.setRx node ch l).outst = s.outst := rfl
@[simp] theorem State.setRx_mismatches (node ch : Nat) (l : List Flit) : (s.setRx node ch l).mismatches = s.mismatches := rfl
@[simp] theorem State.setRx_turns (node ch : Nat) (l : List Flit) : (s.setRx node ch l).turns = s.turns := rfl
@[simp] theorem State.setRx_treeDebts (node ch : Nat) (l : List Flit) : (s.setRx node ch l).treeDebts = s.treeDebts := rfl
@[simp] theorem State.setRx_treeOff (node ch : Nat) (l : List Flit) : (s.setRx node ch l).treeOff = s.treeOff := rfl
@[simp] theorem State.setRx_treeSent (node ch : Nat) (l : List Flit) : (s.setRx node ch l).treeSent = s.treeSent := rfl
@[simp] theorem State.setRx_treeMasks (node ch : Nat) (l : List Flit) : (s.setRx node ch l).treeMasks = s.treeMasks := rfl
@[simp] theorem State.setRx_ports (node ch : Nat) (l : List Flit) : (s.setRx node ch l).ports = s.ports := rfl
@[simp] theorem State.setRx_lanes (node ch : Nat) (l : List Flit) : (s.setRx node ch l).lanes = s.lanes := rfl
@[simp] theorem State.setRx_xrefs (node ch : Nat) (l : List Flit) : (s.setRx node ch l).xrefs = s.xrefs := rfl
@[simp] theorem State.setRx_jobs (node ch : Nat) (l : List Flit) : (s.setRx node ch l).jobs = s.jobs := rfl
@[simp] theorem State.setRx_abortLog (node ch : Nat) (l : List Flit) : (s.setRx node ch l).abortLog = s.abortLog := rfl
@[simp] theorem State.setRx_clearings (node ch : Nat) (l : List Flit) : (s.setRx node ch l).clearings = s.clearings := rfl
@[simp] theorem State.setRx_flops (node ch : Nat) (l : List Flit) : (s.setRx node ch l).flops = s.flops := rfl
@[simp] theorem State.setRx_wires (node ch : Nat) (l : List Flit) : (s.setRx node ch l).wires = s.wires := rfl
@[simp] theorem State.setRx_pins (node ch : Nat) (l : List Flit) : (s.setRx node ch l).pins = s.pins := rfl
@[simp] theorem State.setRx_pairs (node ch : Nat) (l : List Flit) : (s.setRx node ch l).pairs = s.pairs := rfl
@[simp] theorem State.setRx_nv (node ch : Nat) (l : List Flit) : (s.setRx node ch l).nv = s.nv := rfl
@[simp] theorem State.setRx_bootCopies (node ch : Nat) (l : List Flit) : (s.setRx node ch l).bootCopies = s.bootCopies := rfl
@[simp] theorem State.setRx_cfg (node ch : Nat) (l : List Flit) : (s.setRx node ch l).cfg = s.cfg := rfl
@[simp] theorem State.setRx_cfgDiff (node ch : Nat) (l : List Flit) : (s.setRx node ch l).cfgDiff = s.cfgDiff := rfl
@[simp] theorem State.setRx_shadow (node ch : Nat) (l : List Flit) : (s.setRx node ch l).shadow = s.shadow := rfl
@[simp] theorem State.setRx_shadowDiff (node ch : Nat) (l : List Flit) : (s.setRx node ch l).shadowDiff = s.shadowDiff := rfl
@[simp] theorem State.setRx_decoded (node ch : Nat) (l : List Flit) : (s.setRx node ch l).decoded = s.decoded := rfl
@[simp] theorem State.setRx_frameMap (node ch : Nat) (l : List Flit) : (s.setRx node ch l).frameMap = s.frameMap := rfl
@[simp] theorem State.setRx_shadowRelease (node ch : Nat) (l : List Flit) : (s.setRx node ch l).shadowRelease = s.shadowRelease := rfl
@[simp] theorem State.setRx_switch (node ch : Nat) (l : List Flit) : (s.setRx node ch l).switch = s.switch := rfl
@[simp] theorem State.setRx_groveNext (node ch : Nat) (l : List Flit) : (s.setRx node ch l).groveNext = s.groveNext := rfl
@[simp] theorem State.setRx_scrubAt (node ch : Nat) (l : List Flit) : (s.setRx node ch l).scrubAt = s.scrubAt := rfl
@[simp] theorem State.setRx_captures (node ch : Nat) (l : List Flit) : (s.setRx node ch l).captures = s.captures := rfl
@[simp] theorem State.setRx_rxFrames (node ch : Nat) (l : List Flit) : (s.setRx node ch l).rxFrames = s.rxFrames := rfl
@[simp] theorem State.setRx_plcaOk (node ch : Nat) (l : List Flit) : (s.setRx node ch l).plcaOk = s.plcaOk := rfl
@[simp] theorem State.setRx_plcaDown (node ch : Nat) (l : List Flit) : (s.setRx node ch l).plcaDown = s.plcaDown := rfl
@[simp] theorem State.setRx_revert (node ch : Nat) (l : List Flit) : (s.setRx node ch l).revert = s.revert := rfl
@[simp] theorem State.setRx_sessions (node ch : Nat) (l : List Flit) : (s.setRx node ch l).sessions = s.sessions := rfl
@[simp] theorem State.setRx_halfOpen (node ch : Nat) (l : List Flit) : (s.setRx node ch l).halfOpen = s.halfOpen := rfl
@[simp] theorem State.setRx_lastSession (node ch : Nat) (l : List Flit) : (s.setRx node ch l).lastSession = s.lastSession := rfl
@[simp] theorem State.setRx_sessionUse (node ch : Nat) (l : List Flit) : (s.setRx node ch l).sessionUse = s.sessionUse := rfl
@[simp] theorem State.setRx_challenge (node ch : Nat) (l : List Flit) : (s.setRx node ch l).challenge = s.challenge := rfl
@[simp] theorem State.setRx_actions (node ch : Nat) (l : List Flit) : (s.setRx node ch l).actions = s.actions := rfl
@[simp] theorem State.setRx_snapAreas (node ch : Nat) (l : List Flit) : (s.setRx node ch l).snapAreas = s.snapAreas := rfl
@[simp] theorem State.setRx_snapNewest (node ch : Nat) (l : List Flit) : (s.setRx node ch l).snapNewest = s.snapNewest := rfl
@[simp] theorem State.setRx_kept (node ch : Nat) (l : List Flit) : (s.setRx node ch l).kept = s.kept := rfl
@[simp] theorem State.setRx_nextReport (node ch : Nat) (l : List Flit) : (s.setRx node ch l).nextReport = s.nextReport := rfl
@[simp] theorem State.setRx_ats (node ch : Nat) (l : List Flit) : (s.setRx node ch l).ats = s.ats := rfl
@[simp] theorem State.setRx_hostOff (node ch : Nat) (l : List Flit) : (s.setRx node ch l).hostOff = s.hostOff := rfl
@[simp] theorem State.setRx_funcs (node ch : Nat) (l : List Flit) : (s.setRx node ch l).funcs = s.funcs := rfl
@[simp] theorem State.setRx_bells (node ch : Nat) (l : List Flit) : (s.setRx node ch l).bells = s.bells := rfl
@[simp] theorem State.setRx_heldBar0 (node ch : Nat) (l : List Flit) : (s.setRx node ch l).heldBar0 = s.heldBar0 := rfl
@[simp] theorem State.setRx_latches (node ch : Nat) (l : List Flit) : (s.setRx node ch l).latches = s.latches := rfl
@[simp] theorem State.setRx_endpointReady (node ch : Nat) (l : List Flit) : (s.setRx node ch l).endpointReady = s.endpointReady := rfl
@[simp] theorem State.setRx_statusSent (node ch : Nat) (l : List Flit) : (s.setRx node ch l).statusSent = s.statusSent := rfl
@[simp] theorem State.setRx_sensors (node ch : Nat) (l : List Flit) : (s.setRx node ch l).sensors = s.sensors := rfl
@[simp] theorem State.setRx_packageSamples (node ch : Nat) (l : List Flit) : (s.setRx node ch l).packageSamples = s.packageSamples := rfl
@[simp] theorem State.setRx_energyRest (node ch : Nat) (l : List Flit) : (s.setRx node ch l).energyRest = s.energyRest := rfl
@[simp] theorem State.setRx_telemetrySamples (node ch : Nat) (l : List Flit) : (s.setRx node ch l).telemetrySamples = s.telemetrySamples := rfl
@[simp] theorem State.setRx_diePower (node ch : Nat) (l : List Flit) : (s.setRx node ch l).diePower = s.diePower := rfl
@[simp] theorem State.setRx_stackHot (node ch : Nat) (l : List Flit) : (s.setRx node ch l).stackHot = s.stackHot := rfl
@[simp] theorem State.setRx_ranger (node ch : Nat) (l : List Flit) : (s.setRx node ch l).ranger = s.ranger := rfl
@[simp] theorem State.setRx_watchdog (node ch : Nat) (l : List Flit) : (s.setRx node ch l).watchdog = s.watchdog := rfl
@[simp] theorem State.setRx_rerouteDue (node ch : Nat) (l : List Flit) : (s.setRx node ch l).rerouteDue = s.rerouteDue := rfl
@[simp] theorem State.setRx_heldRecords (node ch : Nat) (l : List Flit) : (s.setRx node ch l).heldRecords = s.heldRecords := rfl
@[simp] theorem State.setRx_stewards (node ch : Nat) (l : List Flit) : (s.setRx node ch l).stewards = s.stewards := rfl
@[simp] theorem State.setRx_stalls (node ch : Nat) (l : List Flit) : (s.setRx node ch l).stalls = s.stalls := rfl
@[simp] theorem State.setRx_logSerial (node ch : Nat) (l : List Flit) : (s.setRx node ch l).logSerial = s.logSerial := rfl
@[simp] theorem State.setRx_logUnread (node ch : Nat) (l : List Flit) : (s.setRx node ch l).logUnread = s.logUnread := rfl
@[simp] theorem State.setRx_tests (node ch : Nat) (l : List Flit) : (s.setRx node ch l).tests = s.tests := rfl
@[simp] theorem State.setRx_selfTest (node ch : Nat) (l : List Flit) : (s.setRx node ch l).selfTest = s.selfTest := rfl
@[simp] theorem State.setRx_hssMarks (node ch : Nat) (l : List Flit) : (s.setRx node ch l).hssMarks = s.hssMarks := rfl
@[simp] theorem State.setRx_minimaOk (node ch : Nat) (l : List Flit) : (s.setRx node ch l).minimaOk = s.minimaOk := rfl
@[simp] theorem State.setRx_spdmSecured (node ch : Nat) (l : List Flit) : (s.setRx node ch l).spdmSecured = s.spdmSecured := rfl
@[simp] theorem State.setRx_ideKeys (node ch : Nat) (l : List Flit) : (s.setRx node ch l).ideKeys = s.ideKeys := rfl
@[simp] theorem State.setRx_devRstN (node ch : Nat) (l : List Flit) : (s.setRx node ch l).devRstN = s.devRstN := rfl
@[simp] theorem State.setRx_perstN (node ch : Nat) (l : List Flit) : (s.setRx node ch l).perstN = s.perstN := rfl
@[simp] theorem State.setRx_mclkLocked (node ch : Nat) (l : List Flit) : (s.setRx node ch l).mclkLocked = s.mclkLocked := rfl
@[simp] theorem State.setRx_booted (node ch : Nat) (l : List Flit) : (s.setRx node ch l).booted = s.booted := rfl
@[simp] theorem State.setRx_arefLost (node ch : Nat) (l : List Flit) : (s.setRx node ch l).arefLost = s.arefLost := rfl
@[simp] theorem State.setRx_computeReady (node ch : Nat) (l : List Flit) : (s.setRx node ch l).computeReady = s.computeReady := rfl
@[simp] theorem State.setRx_coreRetry (node ch : Nat) (l : List Flit) : (s.setRx node ch l).coreRetry = s.coreRetry := rfl
@[simp] theorem State.setRx_refreshOff (node ch : Nat) (l : List Flit) : (s.setRx node ch l).refreshOff = s.refreshOff := rfl

/-! ## setFifo -/

@[simp] theorem State.setFifo_pending (r i ch : Nat) (l : List Flit) : (s.setFifo r i ch l).pending = s.pending := rfl
@[simp] theorem State.setFifo_free (r i ch : Nat) (l : List Flit) : (s.setFifo r i ch l).free = s.free := rfl
@[simp] theorem State.setFifo_out (r i ch : Nat) (l : List Flit) : (s.setFifo r i ch l).out = s.out := rfl
@[simp] theorem State.setFifo_dict (r i ch : Nat) (l : List Flit) : (s.setFifo r i ch l).dict = s.dict := rfl
@[simp] theorem State.setFifo_accepted (r i ch : Nat) (l : List Flit) : (s.setFifo r i ch l).accepted = s.accepted := rfl
@[simp] theorem State.setFifo_mem (r i ch : Nat) (l : List Flit) : (s.setFifo r i ch l).mem = s.mem := rfl
@[simp] theorem State.setFifo_scram (r i ch : Nat) (l : List Flit) : (s.setFifo r i ch l).scram = s.scram := rfl
@[simp] theorem State.setFifo_writeBack (r i ch : Nat) (l : List Flit) : (s.setFifo r i ch l).writeBack = s.writeBack := rfl
@[simp] theorem State.setFifo_reports (r i ch : Nat) (l : List Flit) : (s.setFifo r i ch l).reports = s.reports := rfl
@[simp] theorem State.setFifo_sramDiff (r i ch : Nat) (l : List Flit) : (s.setFifo r i ch l).sramDiff = s.sramDiff := rfl
@[simp] theorem State.setFifo_stackDiff (r i ch : Nat) (l : List Flit) : (s.setFifo r i ch l).stackDiff = s.stackDiff := rfl
@[simp] theorem State.setFifo_written (r i ch : Nat) (l : List Flit) : (s.setFifo r i ch l).written = s.written := rfl
@[simp] theorem State.setFifo_mirror (r i ch : Nat) (l : List Flit) : (s.setFifo r i ch l).mirror = s.mirror := rfl
@[simp] theorem State.setFifo_stands (r i ch : Nat) (l : List Flit) : (s.setFifo r i ch l).stands = s.stands := rfl
@[simp] theorem State.setFifo_groves (r i ch : Nat) (l : List Flit) : (s.setFifo r i ch l).groves = s.groves := rfl
@[simp] theorem State.setFifo_tiles (r i ch : Nat) (l : List Flit) : (s.setFifo r i ch l).tiles = s.tiles := rfl
@[simp] theorem State.setFifo_ctxs (r i ch : Nat) (l : List Flit) : (s.setFifo r i ch l).ctxs = s.ctxs := rfl
@[simp] theorem State.setFifo_slots (r i ch : Nat) (l : List Flit) : (s.setFifo r i ch l).slots = s.slots := rfl
@[simp] theorem State.setFifo_freed (r i ch : Nat) (l : List Flit) : (s.setFifo r i ch l).freed = s.freed := rfl
@[simp] theorem State.setFifo_rootStacks (r i ch : Nat) (l : List Flit) : (s.setFifo r i ch l).rootStacks = s.rootStacks := rfl
@[simp] theorem State.setFifo_windowTaken (r i ch : Nat) (l : List Flit) : (s.setFifo r i ch l).windowTaken = s.windowTaken := rfl
@[simp] theorem State.setFifo_patrol (r i ch : Nat) (l : List Flit) : (s.setFifo r i ch l).patrol = s.patrol := rfl
@[simp] theorem State.setFifo_fifos (r i ch : Nat) (l : List Flit) : (s.setFifo r i ch l).fifos = SMap.set [] s.fifos (fifoKey r i ch) l := rfl
@[simp] theorem State.setFifo_rx (r i ch : Nat) (l : List Flit) : (s.setFifo r i ch l).rx = s.rx := rfl
@[simp] theorem State.setFifo_outst (r i ch : Nat) (l : List Flit) : (s.setFifo r i ch l).outst = s.outst := rfl
@[simp] theorem State.setFifo_mismatches (r i ch : Nat) (l : List Flit) : (s.setFifo r i ch l).mismatches = s.mismatches := rfl
@[simp] theorem State.setFifo_turns (r i ch : Nat) (l : List Flit) : (s.setFifo r i ch l).turns = s.turns := rfl
@[simp] theorem State.setFifo_treeDebts (r i ch : Nat) (l : List Flit) : (s.setFifo r i ch l).treeDebts = s.treeDebts := rfl
@[simp] theorem State.setFifo_treeOff (r i ch : Nat) (l : List Flit) : (s.setFifo r i ch l).treeOff = s.treeOff := rfl
@[simp] theorem State.setFifo_treeSent (r i ch : Nat) (l : List Flit) : (s.setFifo r i ch l).treeSent = s.treeSent := rfl
@[simp] theorem State.setFifo_treeMasks (r i ch : Nat) (l : List Flit) : (s.setFifo r i ch l).treeMasks = s.treeMasks := rfl
@[simp] theorem State.setFifo_ports (r i ch : Nat) (l : List Flit) : (s.setFifo r i ch l).ports = s.ports := rfl
@[simp] theorem State.setFifo_lanes (r i ch : Nat) (l : List Flit) : (s.setFifo r i ch l).lanes = s.lanes := rfl
@[simp] theorem State.setFifo_xrefs (r i ch : Nat) (l : List Flit) : (s.setFifo r i ch l).xrefs = s.xrefs := rfl
@[simp] theorem State.setFifo_jobs (r i ch : Nat) (l : List Flit) : (s.setFifo r i ch l).jobs = s.jobs := rfl
@[simp] theorem State.setFifo_abortLog (r i ch : Nat) (l : List Flit) : (s.setFifo r i ch l).abortLog = s.abortLog := rfl
@[simp] theorem State.setFifo_clearings (r i ch : Nat) (l : List Flit) : (s.setFifo r i ch l).clearings = s.clearings := rfl
@[simp] theorem State.setFifo_flops (r i ch : Nat) (l : List Flit) : (s.setFifo r i ch l).flops = s.flops := rfl
@[simp] theorem State.setFifo_wires (r i ch : Nat) (l : List Flit) : (s.setFifo r i ch l).wires = s.wires := rfl
@[simp] theorem State.setFifo_pins (r i ch : Nat) (l : List Flit) : (s.setFifo r i ch l).pins = s.pins := rfl
@[simp] theorem State.setFifo_pairs (r i ch : Nat) (l : List Flit) : (s.setFifo r i ch l).pairs = s.pairs := rfl
@[simp] theorem State.setFifo_nv (r i ch : Nat) (l : List Flit) : (s.setFifo r i ch l).nv = s.nv := rfl
@[simp] theorem State.setFifo_bootCopies (r i ch : Nat) (l : List Flit) : (s.setFifo r i ch l).bootCopies = s.bootCopies := rfl
@[simp] theorem State.setFifo_cfg (r i ch : Nat) (l : List Flit) : (s.setFifo r i ch l).cfg = s.cfg := rfl
@[simp] theorem State.setFifo_cfgDiff (r i ch : Nat) (l : List Flit) : (s.setFifo r i ch l).cfgDiff = s.cfgDiff := rfl
@[simp] theorem State.setFifo_shadow (r i ch : Nat) (l : List Flit) : (s.setFifo r i ch l).shadow = s.shadow := rfl
@[simp] theorem State.setFifo_shadowDiff (r i ch : Nat) (l : List Flit) : (s.setFifo r i ch l).shadowDiff = s.shadowDiff := rfl
@[simp] theorem State.setFifo_decoded (r i ch : Nat) (l : List Flit) : (s.setFifo r i ch l).decoded = s.decoded := rfl
@[simp] theorem State.setFifo_frameMap (r i ch : Nat) (l : List Flit) : (s.setFifo r i ch l).frameMap = s.frameMap := rfl
@[simp] theorem State.setFifo_shadowRelease (r i ch : Nat) (l : List Flit) : (s.setFifo r i ch l).shadowRelease = s.shadowRelease := rfl
@[simp] theorem State.setFifo_switch (r i ch : Nat) (l : List Flit) : (s.setFifo r i ch l).switch = s.switch := rfl
@[simp] theorem State.setFifo_groveNext (r i ch : Nat) (l : List Flit) : (s.setFifo r i ch l).groveNext = s.groveNext := rfl
@[simp] theorem State.setFifo_scrubAt (r i ch : Nat) (l : List Flit) : (s.setFifo r i ch l).scrubAt = s.scrubAt := rfl
@[simp] theorem State.setFifo_captures (r i ch : Nat) (l : List Flit) : (s.setFifo r i ch l).captures = s.captures := rfl
@[simp] theorem State.setFifo_rxFrames (r i ch : Nat) (l : List Flit) : (s.setFifo r i ch l).rxFrames = s.rxFrames := rfl
@[simp] theorem State.setFifo_plcaOk (r i ch : Nat) (l : List Flit) : (s.setFifo r i ch l).plcaOk = s.plcaOk := rfl
@[simp] theorem State.setFifo_plcaDown (r i ch : Nat) (l : List Flit) : (s.setFifo r i ch l).plcaDown = s.plcaDown := rfl
@[simp] theorem State.setFifo_revert (r i ch : Nat) (l : List Flit) : (s.setFifo r i ch l).revert = s.revert := rfl
@[simp] theorem State.setFifo_sessions (r i ch : Nat) (l : List Flit) : (s.setFifo r i ch l).sessions = s.sessions := rfl
@[simp] theorem State.setFifo_halfOpen (r i ch : Nat) (l : List Flit) : (s.setFifo r i ch l).halfOpen = s.halfOpen := rfl
@[simp] theorem State.setFifo_lastSession (r i ch : Nat) (l : List Flit) : (s.setFifo r i ch l).lastSession = s.lastSession := rfl
@[simp] theorem State.setFifo_sessionUse (r i ch : Nat) (l : List Flit) : (s.setFifo r i ch l).sessionUse = s.sessionUse := rfl
@[simp] theorem State.setFifo_challenge (r i ch : Nat) (l : List Flit) : (s.setFifo r i ch l).challenge = s.challenge := rfl
@[simp] theorem State.setFifo_actions (r i ch : Nat) (l : List Flit) : (s.setFifo r i ch l).actions = s.actions := rfl
@[simp] theorem State.setFifo_snapAreas (r i ch : Nat) (l : List Flit) : (s.setFifo r i ch l).snapAreas = s.snapAreas := rfl
@[simp] theorem State.setFifo_snapNewest (r i ch : Nat) (l : List Flit) : (s.setFifo r i ch l).snapNewest = s.snapNewest := rfl
@[simp] theorem State.setFifo_kept (r i ch : Nat) (l : List Flit) : (s.setFifo r i ch l).kept = s.kept := rfl
@[simp] theorem State.setFifo_nextReport (r i ch : Nat) (l : List Flit) : (s.setFifo r i ch l).nextReport = s.nextReport := rfl
@[simp] theorem State.setFifo_ats (r i ch : Nat) (l : List Flit) : (s.setFifo r i ch l).ats = s.ats := rfl
@[simp] theorem State.setFifo_hostOff (r i ch : Nat) (l : List Flit) : (s.setFifo r i ch l).hostOff = s.hostOff := rfl
@[simp] theorem State.setFifo_funcs (r i ch : Nat) (l : List Flit) : (s.setFifo r i ch l).funcs = s.funcs := rfl
@[simp] theorem State.setFifo_bells (r i ch : Nat) (l : List Flit) : (s.setFifo r i ch l).bells = s.bells := rfl
@[simp] theorem State.setFifo_heldBar0 (r i ch : Nat) (l : List Flit) : (s.setFifo r i ch l).heldBar0 = s.heldBar0 := rfl
@[simp] theorem State.setFifo_latches (r i ch : Nat) (l : List Flit) : (s.setFifo r i ch l).latches = s.latches := rfl
@[simp] theorem State.setFifo_endpointReady (r i ch : Nat) (l : List Flit) : (s.setFifo r i ch l).endpointReady = s.endpointReady := rfl
@[simp] theorem State.setFifo_statusSent (r i ch : Nat) (l : List Flit) : (s.setFifo r i ch l).statusSent = s.statusSent := rfl
@[simp] theorem State.setFifo_sensors (r i ch : Nat) (l : List Flit) : (s.setFifo r i ch l).sensors = s.sensors := rfl
@[simp] theorem State.setFifo_packageSamples (r i ch : Nat) (l : List Flit) : (s.setFifo r i ch l).packageSamples = s.packageSamples := rfl
@[simp] theorem State.setFifo_energyRest (r i ch : Nat) (l : List Flit) : (s.setFifo r i ch l).energyRest = s.energyRest := rfl
@[simp] theorem State.setFifo_telemetrySamples (r i ch : Nat) (l : List Flit) : (s.setFifo r i ch l).telemetrySamples = s.telemetrySamples := rfl
@[simp] theorem State.setFifo_diePower (r i ch : Nat) (l : List Flit) : (s.setFifo r i ch l).diePower = s.diePower := rfl
@[simp] theorem State.setFifo_stackHot (r i ch : Nat) (l : List Flit) : (s.setFifo r i ch l).stackHot = s.stackHot := rfl
@[simp] theorem State.setFifo_ranger (r i ch : Nat) (l : List Flit) : (s.setFifo r i ch l).ranger = s.ranger := rfl
@[simp] theorem State.setFifo_watchdog (r i ch : Nat) (l : List Flit) : (s.setFifo r i ch l).watchdog = s.watchdog := rfl
@[simp] theorem State.setFifo_rerouteDue (r i ch : Nat) (l : List Flit) : (s.setFifo r i ch l).rerouteDue = s.rerouteDue := rfl
@[simp] theorem State.setFifo_heldRecords (r i ch : Nat) (l : List Flit) : (s.setFifo r i ch l).heldRecords = s.heldRecords := rfl
@[simp] theorem State.setFifo_stewards (r i ch : Nat) (l : List Flit) : (s.setFifo r i ch l).stewards = s.stewards := rfl
@[simp] theorem State.setFifo_stalls (r i ch : Nat) (l : List Flit) : (s.setFifo r i ch l).stalls = s.stalls := rfl
@[simp] theorem State.setFifo_logSerial (r i ch : Nat) (l : List Flit) : (s.setFifo r i ch l).logSerial = s.logSerial := rfl
@[simp] theorem State.setFifo_logUnread (r i ch : Nat) (l : List Flit) : (s.setFifo r i ch l).logUnread = s.logUnread := rfl
@[simp] theorem State.setFifo_tests (r i ch : Nat) (l : List Flit) : (s.setFifo r i ch l).tests = s.tests := rfl
@[simp] theorem State.setFifo_selfTest (r i ch : Nat) (l : List Flit) : (s.setFifo r i ch l).selfTest = s.selfTest := rfl
@[simp] theorem State.setFifo_hssMarks (r i ch : Nat) (l : List Flit) : (s.setFifo r i ch l).hssMarks = s.hssMarks := rfl
@[simp] theorem State.setFifo_minimaOk (r i ch : Nat) (l : List Flit) : (s.setFifo r i ch l).minimaOk = s.minimaOk := rfl
@[simp] theorem State.setFifo_spdmSecured (r i ch : Nat) (l : List Flit) : (s.setFifo r i ch l).spdmSecured = s.spdmSecured := rfl
@[simp] theorem State.setFifo_ideKeys (r i ch : Nat) (l : List Flit) : (s.setFifo r i ch l).ideKeys = s.ideKeys := rfl
@[simp] theorem State.setFifo_devRstN (r i ch : Nat) (l : List Flit) : (s.setFifo r i ch l).devRstN = s.devRstN := rfl
@[simp] theorem State.setFifo_perstN (r i ch : Nat) (l : List Flit) : (s.setFifo r i ch l).perstN = s.perstN := rfl
@[simp] theorem State.setFifo_mclkLocked (r i ch : Nat) (l : List Flit) : (s.setFifo r i ch l).mclkLocked = s.mclkLocked := rfl
@[simp] theorem State.setFifo_booted (r i ch : Nat) (l : List Flit) : (s.setFifo r i ch l).booted = s.booted := rfl
@[simp] theorem State.setFifo_arefLost (r i ch : Nat) (l : List Flit) : (s.setFifo r i ch l).arefLost = s.arefLost := rfl
@[simp] theorem State.setFifo_computeReady (r i ch : Nat) (l : List Flit) : (s.setFifo r i ch l).computeReady = s.computeReady := rfl
@[simp] theorem State.setFifo_coreRetry (r i ch : Nat) (l : List Flit) : (s.setFifo r i ch l).coreRetry = s.coreRetry := rfl
@[simp] theorem State.setFifo_refreshOff (r i ch : Nat) (l : List Flit) : (s.setFifo r i ch l).refreshOff = s.refreshOff := rfl

/-! ## setWord -/

@[simp] theorem State.setWord_pending (key : Nat) (v : U64) : (s.setWord key v).pending = s.pending := rfl
@[simp] theorem State.setWord_free (key : Nat) (v : U64) : (s.setWord key v).free = s.free := rfl
@[simp] theorem State.setWord_out (key : Nat) (v : U64) : (s.setWord key v).out = s.out := rfl
@[simp] theorem State.setWord_dict (key : Nat) (v : U64) : (s.setWord key v).dict = SMap.set (dictDefault key) s.dict key v := rfl
@[simp] theorem State.setWord_accepted (key : Nat) (v : U64) : (s.setWord key v).accepted = s.accepted := rfl
@[simp] theorem State.setWord_mem (key : Nat) (v : U64) : (s.setWord key v).mem = s.mem := rfl
@[simp] theorem State.setWord_scram (key : Nat) (v : U64) : (s.setWord key v).scram = s.scram := rfl
@[simp] theorem State.setWord_writeBack (key : Nat) (v : U64) : (s.setWord key v).writeBack = s.writeBack := rfl
@[simp] theorem State.setWord_reports (key : Nat) (v : U64) : (s.setWord key v).reports = s.reports := rfl
@[simp] theorem State.setWord_sramDiff (key : Nat) (v : U64) : (s.setWord key v).sramDiff = s.sramDiff := rfl
@[simp] theorem State.setWord_stackDiff (key : Nat) (v : U64) : (s.setWord key v).stackDiff = s.stackDiff := rfl
@[simp] theorem State.setWord_written (key : Nat) (v : U64) : (s.setWord key v).written = s.written := rfl
@[simp] theorem State.setWord_mirror (key : Nat) (v : U64) : (s.setWord key v).mirror = s.mirror := rfl
@[simp] theorem State.setWord_stands (key : Nat) (v : U64) : (s.setWord key v).stands = s.stands := rfl
@[simp] theorem State.setWord_groves (key : Nat) (v : U64) : (s.setWord key v).groves = s.groves := rfl
@[simp] theorem State.setWord_tiles (key : Nat) (v : U64) : (s.setWord key v).tiles = s.tiles := rfl
@[simp] theorem State.setWord_ctxs (key : Nat) (v : U64) : (s.setWord key v).ctxs = s.ctxs := rfl
@[simp] theorem State.setWord_slots (key : Nat) (v : U64) : (s.setWord key v).slots = s.slots := rfl
@[simp] theorem State.setWord_freed (key : Nat) (v : U64) : (s.setWord key v).freed = s.freed := rfl
@[simp] theorem State.setWord_rootStacks (key : Nat) (v : U64) : (s.setWord key v).rootStacks = s.rootStacks := rfl
@[simp] theorem State.setWord_windowTaken (key : Nat) (v : U64) : (s.setWord key v).windowTaken = s.windowTaken := rfl
@[simp] theorem State.setWord_patrol (key : Nat) (v : U64) : (s.setWord key v).patrol = s.patrol := rfl
@[simp] theorem State.setWord_fifos (key : Nat) (v : U64) : (s.setWord key v).fifos = s.fifos := rfl
@[simp] theorem State.setWord_rx (key : Nat) (v : U64) : (s.setWord key v).rx = s.rx := rfl
@[simp] theorem State.setWord_outst (key : Nat) (v : U64) : (s.setWord key v).outst = s.outst := rfl
@[simp] theorem State.setWord_mismatches (key : Nat) (v : U64) : (s.setWord key v).mismatches = s.mismatches := rfl
@[simp] theorem State.setWord_turns (key : Nat) (v : U64) : (s.setWord key v).turns = s.turns := rfl
@[simp] theorem State.setWord_treeDebts (key : Nat) (v : U64) : (s.setWord key v).treeDebts = s.treeDebts := rfl
@[simp] theorem State.setWord_treeOff (key : Nat) (v : U64) : (s.setWord key v).treeOff = s.treeOff := rfl
@[simp] theorem State.setWord_treeSent (key : Nat) (v : U64) : (s.setWord key v).treeSent = s.treeSent := rfl
@[simp] theorem State.setWord_treeMasks (key : Nat) (v : U64) : (s.setWord key v).treeMasks = s.treeMasks := rfl
@[simp] theorem State.setWord_ports (key : Nat) (v : U64) : (s.setWord key v).ports = s.ports := rfl
@[simp] theorem State.setWord_lanes (key : Nat) (v : U64) : (s.setWord key v).lanes = s.lanes := rfl
@[simp] theorem State.setWord_xrefs (key : Nat) (v : U64) : (s.setWord key v).xrefs = s.xrefs := rfl
@[simp] theorem State.setWord_jobs (key : Nat) (v : U64) : (s.setWord key v).jobs = s.jobs := rfl
@[simp] theorem State.setWord_abortLog (key : Nat) (v : U64) : (s.setWord key v).abortLog = s.abortLog := rfl
@[simp] theorem State.setWord_clearings (key : Nat) (v : U64) : (s.setWord key v).clearings = s.clearings := rfl
@[simp] theorem State.setWord_flops (key : Nat) (v : U64) : (s.setWord key v).flops = s.flops := rfl
@[simp] theorem State.setWord_wires (key : Nat) (v : U64) : (s.setWord key v).wires = s.wires := rfl
@[simp] theorem State.setWord_pins (key : Nat) (v : U64) : (s.setWord key v).pins = s.pins := rfl
@[simp] theorem State.setWord_pairs (key : Nat) (v : U64) : (s.setWord key v).pairs = s.pairs := rfl
@[simp] theorem State.setWord_nv (key : Nat) (v : U64) : (s.setWord key v).nv = s.nv := rfl
@[simp] theorem State.setWord_bootCopies (key : Nat) (v : U64) : (s.setWord key v).bootCopies = s.bootCopies := rfl
@[simp] theorem State.setWord_cfg (key : Nat) (v : U64) : (s.setWord key v).cfg = s.cfg := rfl
@[simp] theorem State.setWord_cfgDiff (key : Nat) (v : U64) : (s.setWord key v).cfgDiff = s.cfgDiff := rfl
@[simp] theorem State.setWord_shadow (key : Nat) (v : U64) : (s.setWord key v).shadow = s.shadow := rfl
@[simp] theorem State.setWord_shadowDiff (key : Nat) (v : U64) : (s.setWord key v).shadowDiff = s.shadowDiff := rfl
@[simp] theorem State.setWord_decoded (key : Nat) (v : U64) : (s.setWord key v).decoded = s.decoded := rfl
@[simp] theorem State.setWord_frameMap (key : Nat) (v : U64) : (s.setWord key v).frameMap = s.frameMap := rfl
@[simp] theorem State.setWord_shadowRelease (key : Nat) (v : U64) : (s.setWord key v).shadowRelease = s.shadowRelease := rfl
@[simp] theorem State.setWord_switch (key : Nat) (v : U64) : (s.setWord key v).switch = s.switch := rfl
@[simp] theorem State.setWord_groveNext (key : Nat) (v : U64) : (s.setWord key v).groveNext = s.groveNext := rfl
@[simp] theorem State.setWord_scrubAt (key : Nat) (v : U64) : (s.setWord key v).scrubAt = s.scrubAt := rfl
@[simp] theorem State.setWord_captures (key : Nat) (v : U64) : (s.setWord key v).captures = s.captures := rfl
@[simp] theorem State.setWord_rxFrames (key : Nat) (v : U64) : (s.setWord key v).rxFrames = s.rxFrames := rfl
@[simp] theorem State.setWord_plcaOk (key : Nat) (v : U64) : (s.setWord key v).plcaOk = s.plcaOk := rfl
@[simp] theorem State.setWord_plcaDown (key : Nat) (v : U64) : (s.setWord key v).plcaDown = s.plcaDown := rfl
@[simp] theorem State.setWord_revert (key : Nat) (v : U64) : (s.setWord key v).revert = s.revert := rfl
@[simp] theorem State.setWord_sessions (key : Nat) (v : U64) : (s.setWord key v).sessions = s.sessions := rfl
@[simp] theorem State.setWord_halfOpen (key : Nat) (v : U64) : (s.setWord key v).halfOpen = s.halfOpen := rfl
@[simp] theorem State.setWord_lastSession (key : Nat) (v : U64) : (s.setWord key v).lastSession = s.lastSession := rfl
@[simp] theorem State.setWord_sessionUse (key : Nat) (v : U64) : (s.setWord key v).sessionUse = s.sessionUse := rfl
@[simp] theorem State.setWord_challenge (key : Nat) (v : U64) : (s.setWord key v).challenge = s.challenge := rfl
@[simp] theorem State.setWord_actions (key : Nat) (v : U64) : (s.setWord key v).actions = s.actions := rfl
@[simp] theorem State.setWord_snapAreas (key : Nat) (v : U64) : (s.setWord key v).snapAreas = s.snapAreas := rfl
@[simp] theorem State.setWord_snapNewest (key : Nat) (v : U64) : (s.setWord key v).snapNewest = s.snapNewest := rfl
@[simp] theorem State.setWord_kept (key : Nat) (v : U64) : (s.setWord key v).kept = s.kept := rfl
@[simp] theorem State.setWord_nextReport (key : Nat) (v : U64) : (s.setWord key v).nextReport = s.nextReport := rfl
@[simp] theorem State.setWord_ats (key : Nat) (v : U64) : (s.setWord key v).ats = s.ats := rfl
@[simp] theorem State.setWord_hostOff (key : Nat) (v : U64) : (s.setWord key v).hostOff = s.hostOff := rfl
@[simp] theorem State.setWord_funcs (key : Nat) (v : U64) : (s.setWord key v).funcs = s.funcs := rfl
@[simp] theorem State.setWord_bells (key : Nat) (v : U64) : (s.setWord key v).bells = s.bells := rfl
@[simp] theorem State.setWord_heldBar0 (key : Nat) (v : U64) : (s.setWord key v).heldBar0 = s.heldBar0 := rfl
@[simp] theorem State.setWord_latches (key : Nat) (v : U64) : (s.setWord key v).latches = s.latches := rfl
@[simp] theorem State.setWord_endpointReady (key : Nat) (v : U64) : (s.setWord key v).endpointReady = s.endpointReady := rfl
@[simp] theorem State.setWord_statusSent (key : Nat) (v : U64) : (s.setWord key v).statusSent = s.statusSent := rfl
@[simp] theorem State.setWord_sensors (key : Nat) (v : U64) : (s.setWord key v).sensors = s.sensors := rfl
@[simp] theorem State.setWord_packageSamples (key : Nat) (v : U64) : (s.setWord key v).packageSamples = s.packageSamples := rfl
@[simp] theorem State.setWord_energyRest (key : Nat) (v : U64) : (s.setWord key v).energyRest = s.energyRest := rfl
@[simp] theorem State.setWord_telemetrySamples (key : Nat) (v : U64) : (s.setWord key v).telemetrySamples = s.telemetrySamples := rfl
@[simp] theorem State.setWord_diePower (key : Nat) (v : U64) : (s.setWord key v).diePower = s.diePower := rfl
@[simp] theorem State.setWord_stackHot (key : Nat) (v : U64) : (s.setWord key v).stackHot = s.stackHot := rfl
@[simp] theorem State.setWord_ranger (key : Nat) (v : U64) : (s.setWord key v).ranger = s.ranger := rfl
@[simp] theorem State.setWord_watchdog (key : Nat) (v : U64) : (s.setWord key v).watchdog = s.watchdog := rfl
@[simp] theorem State.setWord_rerouteDue (key : Nat) (v : U64) : (s.setWord key v).rerouteDue = s.rerouteDue := rfl
@[simp] theorem State.setWord_heldRecords (key : Nat) (v : U64) : (s.setWord key v).heldRecords = s.heldRecords := rfl
@[simp] theorem State.setWord_stewards (key : Nat) (v : U64) : (s.setWord key v).stewards = s.stewards := rfl
@[simp] theorem State.setWord_stalls (key : Nat) (v : U64) : (s.setWord key v).stalls = s.stalls := rfl
@[simp] theorem State.setWord_logSerial (key : Nat) (v : U64) : (s.setWord key v).logSerial = s.logSerial := rfl
@[simp] theorem State.setWord_logUnread (key : Nat) (v : U64) : (s.setWord key v).logUnread = s.logUnread := rfl
@[simp] theorem State.setWord_tests (key : Nat) (v : U64) : (s.setWord key v).tests = s.tests := rfl
@[simp] theorem State.setWord_selfTest (key : Nat) (v : U64) : (s.setWord key v).selfTest = s.selfTest := rfl
@[simp] theorem State.setWord_hssMarks (key : Nat) (v : U64) : (s.setWord key v).hssMarks = s.hssMarks := rfl
@[simp] theorem State.setWord_minimaOk (key : Nat) (v : U64) : (s.setWord key v).minimaOk = s.minimaOk := rfl
@[simp] theorem State.setWord_spdmSecured (key : Nat) (v : U64) : (s.setWord key v).spdmSecured = s.spdmSecured := rfl
@[simp] theorem State.setWord_ideKeys (key : Nat) (v : U64) : (s.setWord key v).ideKeys = s.ideKeys := rfl
@[simp] theorem State.setWord_devRstN (key : Nat) (v : U64) : (s.setWord key v).devRstN = s.devRstN := rfl
@[simp] theorem State.setWord_perstN (key : Nat) (v : U64) : (s.setWord key v).perstN = s.perstN := rfl
@[simp] theorem State.setWord_mclkLocked (key : Nat) (v : U64) : (s.setWord key v).mclkLocked = s.mclkLocked := rfl
@[simp] theorem State.setWord_booted (key : Nat) (v : U64) : (s.setWord key v).booted = s.booted := rfl
@[simp] theorem State.setWord_arefLost (key : Nat) (v : U64) : (s.setWord key v).arefLost = s.arefLost := rfl
@[simp] theorem State.setWord_computeReady (key : Nat) (v : U64) : (s.setWord key v).computeReady = s.computeReady := rfl
@[simp] theorem State.setWord_coreRetry (key : Nat) (v : U64) : (s.setWord key v).coreRetry = s.coreRetry := rfl
@[simp] theorem State.setWord_refreshOff (key : Nat) (v : U64) : (s.setWord key v).refreshOff = s.refreshOff := rfl

/-! ## advance -/

@[simp] theorem State.advance_pending : (s.advance).pending = s.pending := rfl
@[simp] theorem State.advance_free : (s.advance).free = s.free + 1 := rfl
@[simp] theorem State.advance_out : (s.advance).out = s.out := rfl
@[simp] theorem State.advance_dict : (s.advance).dict = s.dict := rfl
@[simp] theorem State.advance_accepted : (s.advance).accepted = s.accepted := rfl
@[simp] theorem State.advance_mem : (s.advance).mem = s.mem := rfl
@[simp] theorem State.advance_scram : (s.advance).scram = s.scram := rfl
@[simp] theorem State.advance_writeBack : (s.advance).writeBack = s.writeBack := rfl
@[simp] theorem State.advance_reports : (s.advance).reports = s.reports := rfl
@[simp] theorem State.advance_sramDiff : (s.advance).sramDiff = s.sramDiff := rfl
@[simp] theorem State.advance_stackDiff : (s.advance).stackDiff = s.stackDiff := rfl
@[simp] theorem State.advance_written : (s.advance).written = s.written := rfl
@[simp] theorem State.advance_mirror : (s.advance).mirror = s.mirror := rfl
@[simp] theorem State.advance_stands : (s.advance).stands = s.stands := rfl
@[simp] theorem State.advance_groves : (s.advance).groves = s.groves := rfl
@[simp] theorem State.advance_tiles : (s.advance).tiles = s.tiles := rfl
@[simp] theorem State.advance_ctxs : (s.advance).ctxs = s.ctxs := rfl
@[simp] theorem State.advance_slots : (s.advance).slots = s.slots := rfl
@[simp] theorem State.advance_freed : (s.advance).freed = s.freed := rfl
@[simp] theorem State.advance_rootStacks : (s.advance).rootStacks = s.rootStacks := rfl
@[simp] theorem State.advance_windowTaken : (s.advance).windowTaken = s.windowTaken := rfl
@[simp] theorem State.advance_patrol : (s.advance).patrol = s.patrol := rfl
@[simp] theorem State.advance_fifos : (s.advance).fifos = s.fifos := rfl
@[simp] theorem State.advance_rx : (s.advance).rx = s.rx := rfl
@[simp] theorem State.advance_outst : (s.advance).outst = s.outst := rfl
@[simp] theorem State.advance_mismatches : (s.advance).mismatches = s.mismatches := rfl
@[simp] theorem State.advance_turns : (s.advance).turns = s.turns := rfl
@[simp] theorem State.advance_treeDebts : (s.advance).treeDebts = s.treeDebts := rfl
@[simp] theorem State.advance_treeOff : (s.advance).treeOff = s.treeOff := rfl
@[simp] theorem State.advance_treeSent : (s.advance).treeSent = s.treeSent := rfl
@[simp] theorem State.advance_treeMasks : (s.advance).treeMasks = s.treeMasks := rfl
@[simp] theorem State.advance_ports : (s.advance).ports = s.ports := rfl
@[simp] theorem State.advance_lanes : (s.advance).lanes = s.lanes := rfl
@[simp] theorem State.advance_xrefs : (s.advance).xrefs = s.xrefs := rfl
@[simp] theorem State.advance_jobs : (s.advance).jobs = s.jobs := rfl
@[simp] theorem State.advance_abortLog : (s.advance).abortLog = s.abortLog := rfl
@[simp] theorem State.advance_clearings : (s.advance).clearings = s.clearings := rfl
@[simp] theorem State.advance_flops : (s.advance).flops = s.flops := rfl
@[simp] theorem State.advance_wires : (s.advance).wires = s.wires := rfl
@[simp] theorem State.advance_pins : (s.advance).pins = s.pins := rfl
@[simp] theorem State.advance_pairs : (s.advance).pairs = s.pairs := rfl
@[simp] theorem State.advance_nv : (s.advance).nv = s.nv := rfl
@[simp] theorem State.advance_bootCopies : (s.advance).bootCopies = s.bootCopies := rfl
@[simp] theorem State.advance_cfg : (s.advance).cfg = s.cfg := rfl
@[simp] theorem State.advance_cfgDiff : (s.advance).cfgDiff = s.cfgDiff := rfl
@[simp] theorem State.advance_shadow : (s.advance).shadow = s.shadow := rfl
@[simp] theorem State.advance_shadowDiff : (s.advance).shadowDiff = s.shadowDiff := rfl
@[simp] theorem State.advance_decoded : (s.advance).decoded = s.decoded := rfl
@[simp] theorem State.advance_frameMap : (s.advance).frameMap = s.frameMap := rfl
@[simp] theorem State.advance_shadowRelease : (s.advance).shadowRelease = s.shadowRelease := rfl
@[simp] theorem State.advance_switch : (s.advance).switch = s.switch := rfl
@[simp] theorem State.advance_groveNext : (s.advance).groveNext = s.groveNext := rfl
@[simp] theorem State.advance_scrubAt : (s.advance).scrubAt = s.scrubAt := rfl
@[simp] theorem State.advance_captures : (s.advance).captures = s.captures := rfl
@[simp] theorem State.advance_rxFrames : (s.advance).rxFrames = s.rxFrames := rfl
@[simp] theorem State.advance_plcaOk : (s.advance).plcaOk = s.plcaOk := rfl
@[simp] theorem State.advance_plcaDown : (s.advance).plcaDown = s.plcaDown := rfl
@[simp] theorem State.advance_revert : (s.advance).revert = s.revert := rfl
@[simp] theorem State.advance_sessions : (s.advance).sessions = s.sessions := rfl
@[simp] theorem State.advance_halfOpen : (s.advance).halfOpen = s.halfOpen := rfl
@[simp] theorem State.advance_lastSession : (s.advance).lastSession = s.lastSession := rfl
@[simp] theorem State.advance_sessionUse : (s.advance).sessionUse = s.sessionUse := rfl
@[simp] theorem State.advance_challenge : (s.advance).challenge = s.challenge := rfl
@[simp] theorem State.advance_actions : (s.advance).actions = s.actions := rfl
@[simp] theorem State.advance_snapAreas : (s.advance).snapAreas = s.snapAreas := rfl
@[simp] theorem State.advance_snapNewest : (s.advance).snapNewest = s.snapNewest := rfl
@[simp] theorem State.advance_kept : (s.advance).kept = s.kept := rfl
@[simp] theorem State.advance_nextReport : (s.advance).nextReport = s.nextReport := rfl
@[simp] theorem State.advance_ats : (s.advance).ats = s.ats := rfl
@[simp] theorem State.advance_hostOff : (s.advance).hostOff = s.hostOff := rfl
@[simp] theorem State.advance_funcs : (s.advance).funcs = s.funcs := rfl
@[simp] theorem State.advance_bells : (s.advance).bells = s.bells := rfl
@[simp] theorem State.advance_heldBar0 : (s.advance).heldBar0 = s.heldBar0 := rfl
@[simp] theorem State.advance_latches : (s.advance).latches = s.latches := rfl
@[simp] theorem State.advance_endpointReady : (s.advance).endpointReady = s.endpointReady := rfl
@[simp] theorem State.advance_statusSent : (s.advance).statusSent = s.statusSent := rfl
@[simp] theorem State.advance_sensors : (s.advance).sensors = s.sensors := rfl
@[simp] theorem State.advance_packageSamples : (s.advance).packageSamples = s.packageSamples := rfl
@[simp] theorem State.advance_energyRest : (s.advance).energyRest = s.energyRest := rfl
@[simp] theorem State.advance_telemetrySamples : (s.advance).telemetrySamples = s.telemetrySamples := rfl
@[simp] theorem State.advance_diePower : (s.advance).diePower = s.diePower := rfl
@[simp] theorem State.advance_stackHot : (s.advance).stackHot = s.stackHot := rfl
@[simp] theorem State.advance_ranger : (s.advance).ranger = s.ranger := rfl
@[simp] theorem State.advance_watchdog : (s.advance).watchdog = s.watchdog := rfl
@[simp] theorem State.advance_rerouteDue : (s.advance).rerouteDue = s.rerouteDue := rfl
@[simp] theorem State.advance_heldRecords : (s.advance).heldRecords = s.heldRecords := rfl
@[simp] theorem State.advance_stewards : (s.advance).stewards = s.stewards := rfl
@[simp] theorem State.advance_stalls : (s.advance).stalls = s.stalls := rfl
@[simp] theorem State.advance_logSerial : (s.advance).logSerial = s.logSerial := rfl
@[simp] theorem State.advance_logUnread : (s.advance).logUnread = s.logUnread := rfl
@[simp] theorem State.advance_tests : (s.advance).tests = s.tests := rfl
@[simp] theorem State.advance_selfTest : (s.advance).selfTest = s.selfTest := rfl
@[simp] theorem State.advance_hssMarks : (s.advance).hssMarks = s.hssMarks := rfl
@[simp] theorem State.advance_minimaOk : (s.advance).minimaOk = s.minimaOk := rfl
@[simp] theorem State.advance_spdmSecured : (s.advance).spdmSecured = s.spdmSecured := rfl
@[simp] theorem State.advance_ideKeys : (s.advance).ideKeys = s.ideKeys := rfl
@[simp] theorem State.advance_devRstN : (s.advance).devRstN = s.devRstN := rfl
@[simp] theorem State.advance_perstN : (s.advance).perstN = s.perstN := rfl
@[simp] theorem State.advance_mclkLocked : (s.advance).mclkLocked = s.mclkLocked := rfl
@[simp] theorem State.advance_booted : (s.advance).booted = s.booted := rfl
@[simp] theorem State.advance_arefLost : (s.advance).arefLost = s.arefLost := rfl
@[simp] theorem State.advance_computeReady : (s.advance).computeReady = s.computeReady := rfl
@[simp] theorem State.advance_coreRetry : (s.advance).coreRetry = s.coreRetry := rfl
@[simp] theorem State.advance_refreshOff : (s.advance).refreshOff = s.refreshOff := rfl

/-! ## send -/

@[simp] theorem State.send_pending (o : Output) : (s.send o).pending = s.pending := rfl
@[simp] theorem State.send_free (o : Output) : (s.send o).free = s.free := rfl
@[simp] theorem State.send_out (o : Output) : (s.send o).out = s.out ++ [o] := rfl
@[simp] theorem State.send_dict (o : Output) : (s.send o).dict = s.dict := rfl
@[simp] theorem State.send_accepted (o : Output) : (s.send o).accepted = s.accepted := rfl
@[simp] theorem State.send_mem (o : Output) : (s.send o).mem = s.mem := rfl
@[simp] theorem State.send_scram (o : Output) : (s.send o).scram = s.scram := rfl
@[simp] theorem State.send_writeBack (o : Output) : (s.send o).writeBack = s.writeBack := rfl
@[simp] theorem State.send_reports (o : Output) : (s.send o).reports = s.reports := rfl
@[simp] theorem State.send_sramDiff (o : Output) : (s.send o).sramDiff = s.sramDiff := rfl
@[simp] theorem State.send_stackDiff (o : Output) : (s.send o).stackDiff = s.stackDiff := rfl
@[simp] theorem State.send_written (o : Output) : (s.send o).written = s.written := rfl
@[simp] theorem State.send_mirror (o : Output) : (s.send o).mirror = s.mirror := rfl
@[simp] theorem State.send_stands (o : Output) : (s.send o).stands = s.stands := rfl
@[simp] theorem State.send_groves (o : Output) : (s.send o).groves = s.groves := rfl
@[simp] theorem State.send_tiles (o : Output) : (s.send o).tiles = s.tiles := rfl
@[simp] theorem State.send_ctxs (o : Output) : (s.send o).ctxs = s.ctxs := rfl
@[simp] theorem State.send_slots (o : Output) : (s.send o).slots = s.slots := rfl
@[simp] theorem State.send_freed (o : Output) : (s.send o).freed = s.freed := rfl
@[simp] theorem State.send_rootStacks (o : Output) : (s.send o).rootStacks = s.rootStacks := rfl
@[simp] theorem State.send_windowTaken (o : Output) : (s.send o).windowTaken = s.windowTaken := rfl
@[simp] theorem State.send_patrol (o : Output) : (s.send o).patrol = s.patrol := rfl
@[simp] theorem State.send_fifos (o : Output) : (s.send o).fifos = s.fifos := rfl
@[simp] theorem State.send_rx (o : Output) : (s.send o).rx = s.rx := rfl
@[simp] theorem State.send_outst (o : Output) : (s.send o).outst = s.outst := rfl
@[simp] theorem State.send_mismatches (o : Output) : (s.send o).mismatches = s.mismatches := rfl
@[simp] theorem State.send_turns (o : Output) : (s.send o).turns = s.turns := rfl
@[simp] theorem State.send_treeDebts (o : Output) : (s.send o).treeDebts = s.treeDebts := rfl
@[simp] theorem State.send_treeOff (o : Output) : (s.send o).treeOff = s.treeOff := rfl
@[simp] theorem State.send_treeSent (o : Output) : (s.send o).treeSent = s.treeSent := rfl
@[simp] theorem State.send_treeMasks (o : Output) : (s.send o).treeMasks = s.treeMasks := rfl
@[simp] theorem State.send_ports (o : Output) : (s.send o).ports = s.ports := rfl
@[simp] theorem State.send_lanes (o : Output) : (s.send o).lanes = s.lanes := rfl
@[simp] theorem State.send_xrefs (o : Output) : (s.send o).xrefs = s.xrefs := rfl
@[simp] theorem State.send_jobs (o : Output) : (s.send o).jobs = s.jobs := rfl
@[simp] theorem State.send_abortLog (o : Output) : (s.send o).abortLog = s.abortLog := rfl
@[simp] theorem State.send_clearings (o : Output) : (s.send o).clearings = s.clearings := rfl
@[simp] theorem State.send_flops (o : Output) : (s.send o).flops = s.flops := rfl
@[simp] theorem State.send_wires (o : Output) : (s.send o).wires = s.wires := rfl
@[simp] theorem State.send_pins (o : Output) : (s.send o).pins = s.pins := rfl
@[simp] theorem State.send_pairs (o : Output) : (s.send o).pairs = s.pairs := rfl
@[simp] theorem State.send_nv (o : Output) : (s.send o).nv = s.nv := rfl
@[simp] theorem State.send_bootCopies (o : Output) : (s.send o).bootCopies = s.bootCopies := rfl
@[simp] theorem State.send_cfg (o : Output) : (s.send o).cfg = s.cfg := rfl
@[simp] theorem State.send_cfgDiff (o : Output) : (s.send o).cfgDiff = s.cfgDiff := rfl
@[simp] theorem State.send_shadow (o : Output) : (s.send o).shadow = s.shadow := rfl
@[simp] theorem State.send_shadowDiff (o : Output) : (s.send o).shadowDiff = s.shadowDiff := rfl
@[simp] theorem State.send_decoded (o : Output) : (s.send o).decoded = s.decoded := rfl
@[simp] theorem State.send_frameMap (o : Output) : (s.send o).frameMap = s.frameMap := rfl
@[simp] theorem State.send_shadowRelease (o : Output) : (s.send o).shadowRelease = s.shadowRelease := rfl
@[simp] theorem State.send_switch (o : Output) : (s.send o).switch = s.switch := rfl
@[simp] theorem State.send_groveNext (o : Output) : (s.send o).groveNext = s.groveNext := rfl
@[simp] theorem State.send_scrubAt (o : Output) : (s.send o).scrubAt = s.scrubAt := rfl
@[simp] theorem State.send_captures (o : Output) : (s.send o).captures = s.captures := rfl
@[simp] theorem State.send_rxFrames (o : Output) : (s.send o).rxFrames = s.rxFrames := rfl
@[simp] theorem State.send_plcaOk (o : Output) : (s.send o).plcaOk = s.plcaOk := rfl
@[simp] theorem State.send_plcaDown (o : Output) : (s.send o).plcaDown = s.plcaDown := rfl
@[simp] theorem State.send_revert (o : Output) : (s.send o).revert = s.revert := rfl
@[simp] theorem State.send_sessions (o : Output) : (s.send o).sessions = s.sessions := rfl
@[simp] theorem State.send_halfOpen (o : Output) : (s.send o).halfOpen = s.halfOpen := rfl
@[simp] theorem State.send_lastSession (o : Output) : (s.send o).lastSession = s.lastSession := rfl
@[simp] theorem State.send_sessionUse (o : Output) : (s.send o).sessionUse = s.sessionUse := rfl
@[simp] theorem State.send_challenge (o : Output) : (s.send o).challenge = s.challenge := rfl
@[simp] theorem State.send_actions (o : Output) : (s.send o).actions = s.actions := rfl
@[simp] theorem State.send_snapAreas (o : Output) : (s.send o).snapAreas = s.snapAreas := rfl
@[simp] theorem State.send_snapNewest (o : Output) : (s.send o).snapNewest = s.snapNewest := rfl
@[simp] theorem State.send_kept (o : Output) : (s.send o).kept = s.kept := rfl
@[simp] theorem State.send_nextReport (o : Output) : (s.send o).nextReport = s.nextReport := rfl
@[simp] theorem State.send_ats (o : Output) : (s.send o).ats = s.ats := rfl
@[simp] theorem State.send_hostOff (o : Output) : (s.send o).hostOff = s.hostOff := rfl
@[simp] theorem State.send_funcs (o : Output) : (s.send o).funcs = s.funcs := rfl
@[simp] theorem State.send_bells (o : Output) : (s.send o).bells = s.bells := rfl
@[simp] theorem State.send_heldBar0 (o : Output) : (s.send o).heldBar0 = s.heldBar0 := rfl
@[simp] theorem State.send_latches (o : Output) : (s.send o).latches = s.latches := rfl
@[simp] theorem State.send_endpointReady (o : Output) : (s.send o).endpointReady = s.endpointReady := rfl
@[simp] theorem State.send_statusSent (o : Output) : (s.send o).statusSent = s.statusSent := rfl
@[simp] theorem State.send_sensors (o : Output) : (s.send o).sensors = s.sensors := rfl
@[simp] theorem State.send_packageSamples (o : Output) : (s.send o).packageSamples = s.packageSamples := rfl
@[simp] theorem State.send_energyRest (o : Output) : (s.send o).energyRest = s.energyRest := rfl
@[simp] theorem State.send_telemetrySamples (o : Output) : (s.send o).telemetrySamples = s.telemetrySamples := rfl
@[simp] theorem State.send_diePower (o : Output) : (s.send o).diePower = s.diePower := rfl
@[simp] theorem State.send_stackHot (o : Output) : (s.send o).stackHot = s.stackHot := rfl
@[simp] theorem State.send_ranger (o : Output) : (s.send o).ranger = s.ranger := rfl
@[simp] theorem State.send_watchdog (o : Output) : (s.send o).watchdog = s.watchdog := rfl
@[simp] theorem State.send_rerouteDue (o : Output) : (s.send o).rerouteDue = s.rerouteDue := rfl
@[simp] theorem State.send_heldRecords (o : Output) : (s.send o).heldRecords = s.heldRecords := rfl
@[simp] theorem State.send_stewards (o : Output) : (s.send o).stewards = s.stewards := rfl
@[simp] theorem State.send_stalls (o : Output) : (s.send o).stalls = s.stalls := rfl
@[simp] theorem State.send_logSerial (o : Output) : (s.send o).logSerial = s.logSerial := rfl
@[simp] theorem State.send_logUnread (o : Output) : (s.send o).logUnread = s.logUnread := rfl
@[simp] theorem State.send_tests (o : Output) : (s.send o).tests = s.tests := rfl
@[simp] theorem State.send_selfTest (o : Output) : (s.send o).selfTest = s.selfTest := rfl
@[simp] theorem State.send_hssMarks (o : Output) : (s.send o).hssMarks = s.hssMarks := rfl
@[simp] theorem State.send_minimaOk (o : Output) : (s.send o).minimaOk = s.minimaOk := rfl
@[simp] theorem State.send_spdmSecured (o : Output) : (s.send o).spdmSecured = s.spdmSecured := rfl
@[simp] theorem State.send_ideKeys (o : Output) : (s.send o).ideKeys = s.ideKeys := rfl
@[simp] theorem State.send_devRstN (o : Output) : (s.send o).devRstN = s.devRstN := rfl
@[simp] theorem State.send_perstN (o : Output) : (s.send o).perstN = s.perstN := rfl
@[simp] theorem State.send_mclkLocked (o : Output) : (s.send o).mclkLocked = s.mclkLocked := rfl
@[simp] theorem State.send_booted (o : Output) : (s.send o).booted = s.booted := rfl
@[simp] theorem State.send_arefLost (o : Output) : (s.send o).arefLost = s.arefLost := rfl
@[simp] theorem State.send_computeReady (o : Output) : (s.send o).computeReady = s.computeReady := rfl
@[simp] theorem State.send_coreRetry (o : Output) : (s.send o).coreRetry = s.coreRetry := rfl
@[simp] theorem State.send_refreshOff (o : Output) : (s.send o).refreshOff = s.refreshOff := rfl

/-! ## setStand -/

@[simp] theorem State.setStand_pending (d : Nat) (x : Stand) : (s.setStand d x).pending = s.pending := rfl
@[simp] theorem State.setStand_free (d : Nat) (x : Stand) : (s.setStand d x).free = s.free := rfl
@[simp] theorem State.setStand_out (d : Nat) (x : Stand) : (s.setStand d x).out = s.out := rfl
@[simp] theorem State.setStand_dict (d : Nat) (x : Stand) : (s.setStand d x).dict = s.dict := rfl
@[simp] theorem State.setStand_accepted (d : Nat) (x : Stand) : (s.setStand d x).accepted = s.accepted := rfl
@[simp] theorem State.setStand_mem (d : Nat) (x : Stand) : (s.setStand d x).mem = s.mem := rfl
@[simp] theorem State.setStand_scram (d : Nat) (x : Stand) : (s.setStand d x).scram = s.scram := rfl
@[simp] theorem State.setStand_writeBack (d : Nat) (x : Stand) : (s.setStand d x).writeBack = s.writeBack := rfl
@[simp] theorem State.setStand_reports (d : Nat) (x : Stand) : (s.setStand d x).reports = s.reports := rfl
@[simp] theorem State.setStand_sramDiff (d : Nat) (x : Stand) : (s.setStand d x).sramDiff = s.sramDiff := rfl
@[simp] theorem State.setStand_stackDiff (d : Nat) (x : Stand) : (s.setStand d x).stackDiff = s.stackDiff := rfl
@[simp] theorem State.setStand_written (d : Nat) (x : Stand) : (s.setStand d x).written = s.written := rfl
@[simp] theorem State.setStand_mirror (d : Nat) (x : Stand) : (s.setStand d x).mirror = s.mirror := rfl
@[simp] theorem State.setStand_stands (d : Nat) (x : Stand) : (s.setStand d x).stands = SMap.set Stand.reset s.stands d x := rfl
@[simp] theorem State.setStand_groves (d : Nat) (x : Stand) : (s.setStand d x).groves = s.groves := rfl
@[simp] theorem State.setStand_tiles (d : Nat) (x : Stand) : (s.setStand d x).tiles = s.tiles := rfl
@[simp] theorem State.setStand_ctxs (d : Nat) (x : Stand) : (s.setStand d x).ctxs = s.ctxs := rfl
@[simp] theorem State.setStand_slots (d : Nat) (x : Stand) : (s.setStand d x).slots = s.slots := rfl
@[simp] theorem State.setStand_freed (d : Nat) (x : Stand) : (s.setStand d x).freed = s.freed := rfl
@[simp] theorem State.setStand_rootStacks (d : Nat) (x : Stand) : (s.setStand d x).rootStacks = s.rootStacks := rfl
@[simp] theorem State.setStand_windowTaken (d : Nat) (x : Stand) : (s.setStand d x).windowTaken = s.windowTaken := rfl
@[simp] theorem State.setStand_patrol (d : Nat) (x : Stand) : (s.setStand d x).patrol = s.patrol := rfl
@[simp] theorem State.setStand_fifos (d : Nat) (x : Stand) : (s.setStand d x).fifos = s.fifos := rfl
@[simp] theorem State.setStand_rx (d : Nat) (x : Stand) : (s.setStand d x).rx = s.rx := rfl
@[simp] theorem State.setStand_outst (d : Nat) (x : Stand) : (s.setStand d x).outst = s.outst := rfl
@[simp] theorem State.setStand_mismatches (d : Nat) (x : Stand) : (s.setStand d x).mismatches = s.mismatches := rfl
@[simp] theorem State.setStand_turns (d : Nat) (x : Stand) : (s.setStand d x).turns = s.turns := rfl
@[simp] theorem State.setStand_treeDebts (d : Nat) (x : Stand) : (s.setStand d x).treeDebts = s.treeDebts := rfl
@[simp] theorem State.setStand_treeOff (d : Nat) (x : Stand) : (s.setStand d x).treeOff = s.treeOff := rfl
@[simp] theorem State.setStand_treeSent (d : Nat) (x : Stand) : (s.setStand d x).treeSent = s.treeSent := rfl
@[simp] theorem State.setStand_treeMasks (d : Nat) (x : Stand) : (s.setStand d x).treeMasks = s.treeMasks := rfl
@[simp] theorem State.setStand_ports (d : Nat) (x : Stand) : (s.setStand d x).ports = s.ports := rfl
@[simp] theorem State.setStand_lanes (d : Nat) (x : Stand) : (s.setStand d x).lanes = s.lanes := rfl
@[simp] theorem State.setStand_xrefs (d : Nat) (x : Stand) : (s.setStand d x).xrefs = s.xrefs := rfl
@[simp] theorem State.setStand_jobs (d : Nat) (x : Stand) : (s.setStand d x).jobs = s.jobs := rfl
@[simp] theorem State.setStand_abortLog (d : Nat) (x : Stand) : (s.setStand d x).abortLog = s.abortLog := rfl
@[simp] theorem State.setStand_clearings (d : Nat) (x : Stand) : (s.setStand d x).clearings = s.clearings := rfl
@[simp] theorem State.setStand_flops (d : Nat) (x : Stand) : (s.setStand d x).flops = s.flops := rfl
@[simp] theorem State.setStand_wires (d : Nat) (x : Stand) : (s.setStand d x).wires = s.wires := rfl
@[simp] theorem State.setStand_pins (d : Nat) (x : Stand) : (s.setStand d x).pins = s.pins := rfl
@[simp] theorem State.setStand_pairs (d : Nat) (x : Stand) : (s.setStand d x).pairs = s.pairs := rfl
@[simp] theorem State.setStand_nv (d : Nat) (x : Stand) : (s.setStand d x).nv = s.nv := rfl
@[simp] theorem State.setStand_bootCopies (d : Nat) (x : Stand) : (s.setStand d x).bootCopies = s.bootCopies := rfl
@[simp] theorem State.setStand_cfg (d : Nat) (x : Stand) : (s.setStand d x).cfg = s.cfg := rfl
@[simp] theorem State.setStand_cfgDiff (d : Nat) (x : Stand) : (s.setStand d x).cfgDiff = s.cfgDiff := rfl
@[simp] theorem State.setStand_shadow (d : Nat) (x : Stand) : (s.setStand d x).shadow = s.shadow := rfl
@[simp] theorem State.setStand_shadowDiff (d : Nat) (x : Stand) : (s.setStand d x).shadowDiff = s.shadowDiff := rfl
@[simp] theorem State.setStand_decoded (d : Nat) (x : Stand) : (s.setStand d x).decoded = s.decoded := rfl
@[simp] theorem State.setStand_frameMap (d : Nat) (x : Stand) : (s.setStand d x).frameMap = s.frameMap := rfl
@[simp] theorem State.setStand_shadowRelease (d : Nat) (x : Stand) : (s.setStand d x).shadowRelease = s.shadowRelease := rfl
@[simp] theorem State.setStand_switch (d : Nat) (x : Stand) : (s.setStand d x).switch = s.switch := rfl
@[simp] theorem State.setStand_groveNext (d : Nat) (x : Stand) : (s.setStand d x).groveNext = s.groveNext := rfl
@[simp] theorem State.setStand_scrubAt (d : Nat) (x : Stand) : (s.setStand d x).scrubAt = s.scrubAt := rfl
@[simp] theorem State.setStand_captures (d : Nat) (x : Stand) : (s.setStand d x).captures = s.captures := rfl
@[simp] theorem State.setStand_rxFrames (d : Nat) (x : Stand) : (s.setStand d x).rxFrames = s.rxFrames := rfl
@[simp] theorem State.setStand_plcaOk (d : Nat) (x : Stand) : (s.setStand d x).plcaOk = s.plcaOk := rfl
@[simp] theorem State.setStand_plcaDown (d : Nat) (x : Stand) : (s.setStand d x).plcaDown = s.plcaDown := rfl
@[simp] theorem State.setStand_revert (d : Nat) (x : Stand) : (s.setStand d x).revert = s.revert := rfl
@[simp] theorem State.setStand_sessions (d : Nat) (x : Stand) : (s.setStand d x).sessions = s.sessions := rfl
@[simp] theorem State.setStand_halfOpen (d : Nat) (x : Stand) : (s.setStand d x).halfOpen = s.halfOpen := rfl
@[simp] theorem State.setStand_lastSession (d : Nat) (x : Stand) : (s.setStand d x).lastSession = s.lastSession := rfl
@[simp] theorem State.setStand_sessionUse (d : Nat) (x : Stand) : (s.setStand d x).sessionUse = s.sessionUse := rfl
@[simp] theorem State.setStand_challenge (d : Nat) (x : Stand) : (s.setStand d x).challenge = s.challenge := rfl
@[simp] theorem State.setStand_actions (d : Nat) (x : Stand) : (s.setStand d x).actions = s.actions := rfl
@[simp] theorem State.setStand_snapAreas (d : Nat) (x : Stand) : (s.setStand d x).snapAreas = s.snapAreas := rfl
@[simp] theorem State.setStand_snapNewest (d : Nat) (x : Stand) : (s.setStand d x).snapNewest = s.snapNewest := rfl
@[simp] theorem State.setStand_kept (d : Nat) (x : Stand) : (s.setStand d x).kept = s.kept := rfl
@[simp] theorem State.setStand_nextReport (d : Nat) (x : Stand) : (s.setStand d x).nextReport = s.nextReport := rfl
@[simp] theorem State.setStand_ats (d : Nat) (x : Stand) : (s.setStand d x).ats = s.ats := rfl
@[simp] theorem State.setStand_hostOff (d : Nat) (x : Stand) : (s.setStand d x).hostOff = s.hostOff := rfl
@[simp] theorem State.setStand_funcs (d : Nat) (x : Stand) : (s.setStand d x).funcs = s.funcs := rfl
@[simp] theorem State.setStand_bells (d : Nat) (x : Stand) : (s.setStand d x).bells = s.bells := rfl
@[simp] theorem State.setStand_heldBar0 (d : Nat) (x : Stand) : (s.setStand d x).heldBar0 = s.heldBar0 := rfl
@[simp] theorem State.setStand_latches (d : Nat) (x : Stand) : (s.setStand d x).latches = s.latches := rfl
@[simp] theorem State.setStand_endpointReady (d : Nat) (x : Stand) : (s.setStand d x).endpointReady = s.endpointReady := rfl
@[simp] theorem State.setStand_statusSent (d : Nat) (x : Stand) : (s.setStand d x).statusSent = s.statusSent := rfl
@[simp] theorem State.setStand_sensors (d : Nat) (x : Stand) : (s.setStand d x).sensors = s.sensors := rfl
@[simp] theorem State.setStand_packageSamples (d : Nat) (x : Stand) : (s.setStand d x).packageSamples = s.packageSamples := rfl
@[simp] theorem State.setStand_energyRest (d : Nat) (x : Stand) : (s.setStand d x).energyRest = s.energyRest := rfl
@[simp] theorem State.setStand_telemetrySamples (d : Nat) (x : Stand) : (s.setStand d x).telemetrySamples = s.telemetrySamples := rfl
@[simp] theorem State.setStand_diePower (d : Nat) (x : Stand) : (s.setStand d x).diePower = s.diePower := rfl
@[simp] theorem State.setStand_stackHot (d : Nat) (x : Stand) : (s.setStand d x).stackHot = s.stackHot := rfl
@[simp] theorem State.setStand_ranger (d : Nat) (x : Stand) : (s.setStand d x).ranger = s.ranger := rfl
@[simp] theorem State.setStand_watchdog (d : Nat) (x : Stand) : (s.setStand d x).watchdog = s.watchdog := rfl
@[simp] theorem State.setStand_rerouteDue (d : Nat) (x : Stand) : (s.setStand d x).rerouteDue = s.rerouteDue := rfl
@[simp] theorem State.setStand_heldRecords (d : Nat) (x : Stand) : (s.setStand d x).heldRecords = s.heldRecords := rfl
@[simp] theorem State.setStand_stewards (d : Nat) (x : Stand) : (s.setStand d x).stewards = s.stewards := rfl
@[simp] theorem State.setStand_stalls (d : Nat) (x : Stand) : (s.setStand d x).stalls = s.stalls := rfl
@[simp] theorem State.setStand_logSerial (d : Nat) (x : Stand) : (s.setStand d x).logSerial = s.logSerial := rfl
@[simp] theorem State.setStand_logUnread (d : Nat) (x : Stand) : (s.setStand d x).logUnread = s.logUnread := rfl
@[simp] theorem State.setStand_tests (d : Nat) (x : Stand) : (s.setStand d x).tests = s.tests := rfl
@[simp] theorem State.setStand_selfTest (d : Nat) (x : Stand) : (s.setStand d x).selfTest = s.selfTest := rfl
@[simp] theorem State.setStand_hssMarks (d : Nat) (x : Stand) : (s.setStand d x).hssMarks = s.hssMarks := rfl
@[simp] theorem State.setStand_minimaOk (d : Nat) (x : Stand) : (s.setStand d x).minimaOk = s.minimaOk := rfl
@[simp] theorem State.setStand_spdmSecured (d : Nat) (x : Stand) : (s.setStand d x).spdmSecured = s.spdmSecured := rfl
@[simp] theorem State.setStand_ideKeys (d : Nat) (x : Stand) : (s.setStand d x).ideKeys = s.ideKeys := rfl
@[simp] theorem State.setStand_devRstN (d : Nat) (x : Stand) : (s.setStand d x).devRstN = s.devRstN := rfl
@[simp] theorem State.setStand_perstN (d : Nat) (x : Stand) : (s.setStand d x).perstN = s.perstN := rfl
@[simp] theorem State.setStand_mclkLocked (d : Nat) (x : Stand) : (s.setStand d x).mclkLocked = s.mclkLocked := rfl
@[simp] theorem State.setStand_booted (d : Nat) (x : Stand) : (s.setStand d x).booted = s.booted := rfl
@[simp] theorem State.setStand_arefLost (d : Nat) (x : Stand) : (s.setStand d x).arefLost = s.arefLost := rfl
@[simp] theorem State.setStand_computeReady (d : Nat) (x : Stand) : (s.setStand d x).computeReady = s.computeReady := rfl
@[simp] theorem State.setStand_coreRetry (d : Nat) (x : Stand) : (s.setStand d x).coreRetry = s.coreRetry := rfl
@[simp] theorem State.setStand_refreshOff (d : Nat) (x : Stand) : (s.setStand d x).refreshOff = s.refreshOff := rfl

/-! ## setGrove -/

@[simp] theorem State.setGrove_pending (n : Nat) (x : Grove) : (s.setGrove n x).pending = s.pending := rfl
@[simp] theorem State.setGrove_free (n : Nat) (x : Grove) : (s.setGrove n x).free = s.free := rfl
@[simp] theorem State.setGrove_out (n : Nat) (x : Grove) : (s.setGrove n x).out = s.out := rfl
@[simp] theorem State.setGrove_dict (n : Nat) (x : Grove) : (s.setGrove n x).dict = s.dict := rfl
@[simp] theorem State.setGrove_accepted (n : Nat) (x : Grove) : (s.setGrove n x).accepted = s.accepted := rfl
@[simp] theorem State.setGrove_mem (n : Nat) (x : Grove) : (s.setGrove n x).mem = s.mem := rfl
@[simp] theorem State.setGrove_scram (n : Nat) (x : Grove) : (s.setGrove n x).scram = s.scram := rfl
@[simp] theorem State.setGrove_writeBack (n : Nat) (x : Grove) : (s.setGrove n x).writeBack = s.writeBack := rfl
@[simp] theorem State.setGrove_reports (n : Nat) (x : Grove) : (s.setGrove n x).reports = s.reports := rfl
@[simp] theorem State.setGrove_sramDiff (n : Nat) (x : Grove) : (s.setGrove n x).sramDiff = s.sramDiff := rfl
@[simp] theorem State.setGrove_stackDiff (n : Nat) (x : Grove) : (s.setGrove n x).stackDiff = s.stackDiff := rfl
@[simp] theorem State.setGrove_written (n : Nat) (x : Grove) : (s.setGrove n x).written = s.written := rfl
@[simp] theorem State.setGrove_mirror (n : Nat) (x : Grove) : (s.setGrove n x).mirror = s.mirror := rfl
@[simp] theorem State.setGrove_stands (n : Nat) (x : Grove) : (s.setGrove n x).stands = s.stands := rfl
@[simp] theorem State.setGrove_groves (n : Nat) (x : Grove) : (s.setGrove n x).groves = SMap.set Grove.reset s.groves n x := rfl
@[simp] theorem State.setGrove_tiles (n : Nat) (x : Grove) : (s.setGrove n x).tiles = s.tiles := rfl
@[simp] theorem State.setGrove_ctxs (n : Nat) (x : Grove) : (s.setGrove n x).ctxs = s.ctxs := rfl
@[simp] theorem State.setGrove_slots (n : Nat) (x : Grove) : (s.setGrove n x).slots = s.slots := rfl
@[simp] theorem State.setGrove_freed (n : Nat) (x : Grove) : (s.setGrove n x).freed = s.freed := rfl
@[simp] theorem State.setGrove_rootStacks (n : Nat) (x : Grove) : (s.setGrove n x).rootStacks = s.rootStacks := rfl
@[simp] theorem State.setGrove_windowTaken (n : Nat) (x : Grove) : (s.setGrove n x).windowTaken = s.windowTaken := rfl
@[simp] theorem State.setGrove_patrol (n : Nat) (x : Grove) : (s.setGrove n x).patrol = s.patrol := rfl
@[simp] theorem State.setGrove_fifos (n : Nat) (x : Grove) : (s.setGrove n x).fifos = s.fifos := rfl
@[simp] theorem State.setGrove_rx (n : Nat) (x : Grove) : (s.setGrove n x).rx = s.rx := rfl
@[simp] theorem State.setGrove_outst (n : Nat) (x : Grove) : (s.setGrove n x).outst = s.outst := rfl
@[simp] theorem State.setGrove_mismatches (n : Nat) (x : Grove) : (s.setGrove n x).mismatches = s.mismatches := rfl
@[simp] theorem State.setGrove_turns (n : Nat) (x : Grove) : (s.setGrove n x).turns = s.turns := rfl
@[simp] theorem State.setGrove_treeDebts (n : Nat) (x : Grove) : (s.setGrove n x).treeDebts = s.treeDebts := rfl
@[simp] theorem State.setGrove_treeOff (n : Nat) (x : Grove) : (s.setGrove n x).treeOff = s.treeOff := rfl
@[simp] theorem State.setGrove_treeSent (n : Nat) (x : Grove) : (s.setGrove n x).treeSent = s.treeSent := rfl
@[simp] theorem State.setGrove_treeMasks (n : Nat) (x : Grove) : (s.setGrove n x).treeMasks = s.treeMasks := rfl
@[simp] theorem State.setGrove_ports (n : Nat) (x : Grove) : (s.setGrove n x).ports = s.ports := rfl
@[simp] theorem State.setGrove_lanes (n : Nat) (x : Grove) : (s.setGrove n x).lanes = s.lanes := rfl
@[simp] theorem State.setGrove_xrefs (n : Nat) (x : Grove) : (s.setGrove n x).xrefs = s.xrefs := rfl
@[simp] theorem State.setGrove_jobs (n : Nat) (x : Grove) : (s.setGrove n x).jobs = s.jobs := rfl
@[simp] theorem State.setGrove_abortLog (n : Nat) (x : Grove) : (s.setGrove n x).abortLog = s.abortLog := rfl
@[simp] theorem State.setGrove_clearings (n : Nat) (x : Grove) : (s.setGrove n x).clearings = s.clearings := rfl
@[simp] theorem State.setGrove_flops (n : Nat) (x : Grove) : (s.setGrove n x).flops = s.flops := rfl
@[simp] theorem State.setGrove_wires (n : Nat) (x : Grove) : (s.setGrove n x).wires = s.wires := rfl
@[simp] theorem State.setGrove_pins (n : Nat) (x : Grove) : (s.setGrove n x).pins = s.pins := rfl
@[simp] theorem State.setGrove_pairs (n : Nat) (x : Grove) : (s.setGrove n x).pairs = s.pairs := rfl
@[simp] theorem State.setGrove_nv (n : Nat) (x : Grove) : (s.setGrove n x).nv = s.nv := rfl
@[simp] theorem State.setGrove_bootCopies (n : Nat) (x : Grove) : (s.setGrove n x).bootCopies = s.bootCopies := rfl
@[simp] theorem State.setGrove_cfg (n : Nat) (x : Grove) : (s.setGrove n x).cfg = s.cfg := rfl
@[simp] theorem State.setGrove_cfgDiff (n : Nat) (x : Grove) : (s.setGrove n x).cfgDiff = s.cfgDiff := rfl
@[simp] theorem State.setGrove_shadow (n : Nat) (x : Grove) : (s.setGrove n x).shadow = s.shadow := rfl
@[simp] theorem State.setGrove_shadowDiff (n : Nat) (x : Grove) : (s.setGrove n x).shadowDiff = s.shadowDiff := rfl
@[simp] theorem State.setGrove_decoded (n : Nat) (x : Grove) : (s.setGrove n x).decoded = s.decoded := rfl
@[simp] theorem State.setGrove_frameMap (n : Nat) (x : Grove) : (s.setGrove n x).frameMap = s.frameMap := rfl
@[simp] theorem State.setGrove_shadowRelease (n : Nat) (x : Grove) : (s.setGrove n x).shadowRelease = s.shadowRelease := rfl
@[simp] theorem State.setGrove_switch (n : Nat) (x : Grove) : (s.setGrove n x).switch = s.switch := rfl
@[simp] theorem State.setGrove_groveNext (n : Nat) (x : Grove) : (s.setGrove n x).groveNext = s.groveNext := rfl
@[simp] theorem State.setGrove_scrubAt (n : Nat) (x : Grove) : (s.setGrove n x).scrubAt = s.scrubAt := rfl
@[simp] theorem State.setGrove_captures (n : Nat) (x : Grove) : (s.setGrove n x).captures = s.captures := rfl
@[simp] theorem State.setGrove_rxFrames (n : Nat) (x : Grove) : (s.setGrove n x).rxFrames = s.rxFrames := rfl
@[simp] theorem State.setGrove_plcaOk (n : Nat) (x : Grove) : (s.setGrove n x).plcaOk = s.plcaOk := rfl
@[simp] theorem State.setGrove_plcaDown (n : Nat) (x : Grove) : (s.setGrove n x).plcaDown = s.plcaDown := rfl
@[simp] theorem State.setGrove_revert (n : Nat) (x : Grove) : (s.setGrove n x).revert = s.revert := rfl
@[simp] theorem State.setGrove_sessions (n : Nat) (x : Grove) : (s.setGrove n x).sessions = s.sessions := rfl
@[simp] theorem State.setGrove_halfOpen (n : Nat) (x : Grove) : (s.setGrove n x).halfOpen = s.halfOpen := rfl
@[simp] theorem State.setGrove_lastSession (n : Nat) (x : Grove) : (s.setGrove n x).lastSession = s.lastSession := rfl
@[simp] theorem State.setGrove_sessionUse (n : Nat) (x : Grove) : (s.setGrove n x).sessionUse = s.sessionUse := rfl
@[simp] theorem State.setGrove_challenge (n : Nat) (x : Grove) : (s.setGrove n x).challenge = s.challenge := rfl
@[simp] theorem State.setGrove_actions (n : Nat) (x : Grove) : (s.setGrove n x).actions = s.actions := rfl
@[simp] theorem State.setGrove_snapAreas (n : Nat) (x : Grove) : (s.setGrove n x).snapAreas = s.snapAreas := rfl
@[simp] theorem State.setGrove_snapNewest (n : Nat) (x : Grove) : (s.setGrove n x).snapNewest = s.snapNewest := rfl
@[simp] theorem State.setGrove_kept (n : Nat) (x : Grove) : (s.setGrove n x).kept = s.kept := rfl
@[simp] theorem State.setGrove_nextReport (n : Nat) (x : Grove) : (s.setGrove n x).nextReport = s.nextReport := rfl
@[simp] theorem State.setGrove_ats (n : Nat) (x : Grove) : (s.setGrove n x).ats = s.ats := rfl
@[simp] theorem State.setGrove_hostOff (n : Nat) (x : Grove) : (s.setGrove n x).hostOff = s.hostOff := rfl
@[simp] theorem State.setGrove_funcs (n : Nat) (x : Grove) : (s.setGrove n x).funcs = s.funcs := rfl
@[simp] theorem State.setGrove_bells (n : Nat) (x : Grove) : (s.setGrove n x).bells = s.bells := rfl
@[simp] theorem State.setGrove_heldBar0 (n : Nat) (x : Grove) : (s.setGrove n x).heldBar0 = s.heldBar0 := rfl
@[simp] theorem State.setGrove_latches (n : Nat) (x : Grove) : (s.setGrove n x).latches = s.latches := rfl
@[simp] theorem State.setGrove_endpointReady (n : Nat) (x : Grove) : (s.setGrove n x).endpointReady = s.endpointReady := rfl
@[simp] theorem State.setGrove_statusSent (n : Nat) (x : Grove) : (s.setGrove n x).statusSent = s.statusSent := rfl
@[simp] theorem State.setGrove_sensors (n : Nat) (x : Grove) : (s.setGrove n x).sensors = s.sensors := rfl
@[simp] theorem State.setGrove_packageSamples (n : Nat) (x : Grove) : (s.setGrove n x).packageSamples = s.packageSamples := rfl
@[simp] theorem State.setGrove_energyRest (n : Nat) (x : Grove) : (s.setGrove n x).energyRest = s.energyRest := rfl
@[simp] theorem State.setGrove_telemetrySamples (n : Nat) (x : Grove) : (s.setGrove n x).telemetrySamples = s.telemetrySamples := rfl
@[simp] theorem State.setGrove_diePower (n : Nat) (x : Grove) : (s.setGrove n x).diePower = s.diePower := rfl
@[simp] theorem State.setGrove_stackHot (n : Nat) (x : Grove) : (s.setGrove n x).stackHot = s.stackHot := rfl
@[simp] theorem State.setGrove_ranger (n : Nat) (x : Grove) : (s.setGrove n x).ranger = s.ranger := rfl
@[simp] theorem State.setGrove_watchdog (n : Nat) (x : Grove) : (s.setGrove n x).watchdog = s.watchdog := rfl
@[simp] theorem State.setGrove_rerouteDue (n : Nat) (x : Grove) : (s.setGrove n x).rerouteDue = s.rerouteDue := rfl
@[simp] theorem State.setGrove_heldRecords (n : Nat) (x : Grove) : (s.setGrove n x).heldRecords = s.heldRecords := rfl
@[simp] theorem State.setGrove_stewards (n : Nat) (x : Grove) : (s.setGrove n x).stewards = s.stewards := rfl
@[simp] theorem State.setGrove_stalls (n : Nat) (x : Grove) : (s.setGrove n x).stalls = s.stalls := rfl
@[simp] theorem State.setGrove_logSerial (n : Nat) (x : Grove) : (s.setGrove n x).logSerial = s.logSerial := rfl
@[simp] theorem State.setGrove_logUnread (n : Nat) (x : Grove) : (s.setGrove n x).logUnread = s.logUnread := rfl
@[simp] theorem State.setGrove_tests (n : Nat) (x : Grove) : (s.setGrove n x).tests = s.tests := rfl
@[simp] theorem State.setGrove_selfTest (n : Nat) (x : Grove) : (s.setGrove n x).selfTest = s.selfTest := rfl
@[simp] theorem State.setGrove_hssMarks (n : Nat) (x : Grove) : (s.setGrove n x).hssMarks = s.hssMarks := rfl
@[simp] theorem State.setGrove_minimaOk (n : Nat) (x : Grove) : (s.setGrove n x).minimaOk = s.minimaOk := rfl
@[simp] theorem State.setGrove_spdmSecured (n : Nat) (x : Grove) : (s.setGrove n x).spdmSecured = s.spdmSecured := rfl
@[simp] theorem State.setGrove_ideKeys (n : Nat) (x : Grove) : (s.setGrove n x).ideKeys = s.ideKeys := rfl
@[simp] theorem State.setGrove_devRstN (n : Nat) (x : Grove) : (s.setGrove n x).devRstN = s.devRstN := rfl
@[simp] theorem State.setGrove_perstN (n : Nat) (x : Grove) : (s.setGrove n x).perstN = s.perstN := rfl
@[simp] theorem State.setGrove_mclkLocked (n : Nat) (x : Grove) : (s.setGrove n x).mclkLocked = s.mclkLocked := rfl
@[simp] theorem State.setGrove_booted (n : Nat) (x : Grove) : (s.setGrove n x).booted = s.booted := rfl
@[simp] theorem State.setGrove_arefLost (n : Nat) (x : Grove) : (s.setGrove n x).arefLost = s.arefLost := rfl
@[simp] theorem State.setGrove_computeReady (n : Nat) (x : Grove) : (s.setGrove n x).computeReady = s.computeReady := rfl
@[simp] theorem State.setGrove_coreRetry (n : Nat) (x : Grove) : (s.setGrove n x).coreRetry = s.coreRetry := rfl
@[simp] theorem State.setGrove_refreshOff (n : Nat) (x : Grove) : (s.setGrove n x).refreshOff = s.refreshOff := rfl

/-! ## setTile -/

@[simp] theorem State.setTile_pending (t : Nat) (x : Tile) : (s.setTile t x).pending = s.pending := rfl
@[simp] theorem State.setTile_free (t : Nat) (x : Tile) : (s.setTile t x).free = s.free := rfl
@[simp] theorem State.setTile_out (t : Nat) (x : Tile) : (s.setTile t x).out = s.out := rfl
@[simp] theorem State.setTile_dict (t : Nat) (x : Tile) : (s.setTile t x).dict = s.dict := rfl
@[simp] theorem State.setTile_accepted (t : Nat) (x : Tile) : (s.setTile t x).accepted = s.accepted := rfl
@[simp] theorem State.setTile_mem (t : Nat) (x : Tile) : (s.setTile t x).mem = s.mem := rfl
@[simp] theorem State.setTile_scram (t : Nat) (x : Tile) : (s.setTile t x).scram = s.scram := rfl
@[simp] theorem State.setTile_writeBack (t : Nat) (x : Tile) : (s.setTile t x).writeBack = s.writeBack := rfl
@[simp] theorem State.setTile_reports (t : Nat) (x : Tile) : (s.setTile t x).reports = s.reports := rfl
@[simp] theorem State.setTile_sramDiff (t : Nat) (x : Tile) : (s.setTile t x).sramDiff = s.sramDiff := rfl
@[simp] theorem State.setTile_stackDiff (t : Nat) (x : Tile) : (s.setTile t x).stackDiff = s.stackDiff := rfl
@[simp] theorem State.setTile_written (t : Nat) (x : Tile) : (s.setTile t x).written = s.written := rfl
@[simp] theorem State.setTile_mirror (t : Nat) (x : Tile) : (s.setTile t x).mirror = s.mirror := rfl
@[simp] theorem State.setTile_stands (t : Nat) (x : Tile) : (s.setTile t x).stands = s.stands := rfl
@[simp] theorem State.setTile_groves (t : Nat) (x : Tile) : (s.setTile t x).groves = s.groves := rfl
@[simp] theorem State.setTile_tiles (t : Nat) (x : Tile) : (s.setTile t x).tiles = SMap.set Tile.reset s.tiles t x := rfl
@[simp] theorem State.setTile_ctxs (t : Nat) (x : Tile) : (s.setTile t x).ctxs = s.ctxs := rfl
@[simp] theorem State.setTile_slots (t : Nat) (x : Tile) : (s.setTile t x).slots = s.slots := rfl
@[simp] theorem State.setTile_freed (t : Nat) (x : Tile) : (s.setTile t x).freed = s.freed := rfl
@[simp] theorem State.setTile_rootStacks (t : Nat) (x : Tile) : (s.setTile t x).rootStacks = s.rootStacks := rfl
@[simp] theorem State.setTile_windowTaken (t : Nat) (x : Tile) : (s.setTile t x).windowTaken = s.windowTaken := rfl
@[simp] theorem State.setTile_patrol (t : Nat) (x : Tile) : (s.setTile t x).patrol = s.patrol := rfl
@[simp] theorem State.setTile_fifos (t : Nat) (x : Tile) : (s.setTile t x).fifos = s.fifos := rfl
@[simp] theorem State.setTile_rx (t : Nat) (x : Tile) : (s.setTile t x).rx = s.rx := rfl
@[simp] theorem State.setTile_outst (t : Nat) (x : Tile) : (s.setTile t x).outst = s.outst := rfl
@[simp] theorem State.setTile_mismatches (t : Nat) (x : Tile) : (s.setTile t x).mismatches = s.mismatches := rfl
@[simp] theorem State.setTile_turns (t : Nat) (x : Tile) : (s.setTile t x).turns = s.turns := rfl
@[simp] theorem State.setTile_treeDebts (t : Nat) (x : Tile) : (s.setTile t x).treeDebts = s.treeDebts := rfl
@[simp] theorem State.setTile_treeOff (t : Nat) (x : Tile) : (s.setTile t x).treeOff = s.treeOff := rfl
@[simp] theorem State.setTile_treeSent (t : Nat) (x : Tile) : (s.setTile t x).treeSent = s.treeSent := rfl
@[simp] theorem State.setTile_treeMasks (t : Nat) (x : Tile) : (s.setTile t x).treeMasks = s.treeMasks := rfl
@[simp] theorem State.setTile_ports (t : Nat) (x : Tile) : (s.setTile t x).ports = s.ports := rfl
@[simp] theorem State.setTile_lanes (t : Nat) (x : Tile) : (s.setTile t x).lanes = s.lanes := rfl
@[simp] theorem State.setTile_xrefs (t : Nat) (x : Tile) : (s.setTile t x).xrefs = s.xrefs := rfl
@[simp] theorem State.setTile_jobs (t : Nat) (x : Tile) : (s.setTile t x).jobs = s.jobs := rfl
@[simp] theorem State.setTile_abortLog (t : Nat) (x : Tile) : (s.setTile t x).abortLog = s.abortLog := rfl
@[simp] theorem State.setTile_clearings (t : Nat) (x : Tile) : (s.setTile t x).clearings = s.clearings := rfl
@[simp] theorem State.setTile_flops (t : Nat) (x : Tile) : (s.setTile t x).flops = s.flops := rfl
@[simp] theorem State.setTile_wires (t : Nat) (x : Tile) : (s.setTile t x).wires = s.wires := rfl
@[simp] theorem State.setTile_pins (t : Nat) (x : Tile) : (s.setTile t x).pins = s.pins := rfl
@[simp] theorem State.setTile_pairs (t : Nat) (x : Tile) : (s.setTile t x).pairs = s.pairs := rfl
@[simp] theorem State.setTile_nv (t : Nat) (x : Tile) : (s.setTile t x).nv = s.nv := rfl
@[simp] theorem State.setTile_bootCopies (t : Nat) (x : Tile) : (s.setTile t x).bootCopies = s.bootCopies := rfl
@[simp] theorem State.setTile_cfg (t : Nat) (x : Tile) : (s.setTile t x).cfg = s.cfg := rfl
@[simp] theorem State.setTile_cfgDiff (t : Nat) (x : Tile) : (s.setTile t x).cfgDiff = s.cfgDiff := rfl
@[simp] theorem State.setTile_shadow (t : Nat) (x : Tile) : (s.setTile t x).shadow = s.shadow := rfl
@[simp] theorem State.setTile_shadowDiff (t : Nat) (x : Tile) : (s.setTile t x).shadowDiff = s.shadowDiff := rfl
@[simp] theorem State.setTile_decoded (t : Nat) (x : Tile) : (s.setTile t x).decoded = s.decoded := rfl
@[simp] theorem State.setTile_frameMap (t : Nat) (x : Tile) : (s.setTile t x).frameMap = s.frameMap := rfl
@[simp] theorem State.setTile_shadowRelease (t : Nat) (x : Tile) : (s.setTile t x).shadowRelease = s.shadowRelease := rfl
@[simp] theorem State.setTile_switch (t : Nat) (x : Tile) : (s.setTile t x).switch = s.switch := rfl
@[simp] theorem State.setTile_groveNext (t : Nat) (x : Tile) : (s.setTile t x).groveNext = s.groveNext := rfl
@[simp] theorem State.setTile_scrubAt (t : Nat) (x : Tile) : (s.setTile t x).scrubAt = s.scrubAt := rfl
@[simp] theorem State.setTile_captures (t : Nat) (x : Tile) : (s.setTile t x).captures = s.captures := rfl
@[simp] theorem State.setTile_rxFrames (t : Nat) (x : Tile) : (s.setTile t x).rxFrames = s.rxFrames := rfl
@[simp] theorem State.setTile_plcaOk (t : Nat) (x : Tile) : (s.setTile t x).plcaOk = s.plcaOk := rfl
@[simp] theorem State.setTile_plcaDown (t : Nat) (x : Tile) : (s.setTile t x).plcaDown = s.plcaDown := rfl
@[simp] theorem State.setTile_revert (t : Nat) (x : Tile) : (s.setTile t x).revert = s.revert := rfl
@[simp] theorem State.setTile_sessions (t : Nat) (x : Tile) : (s.setTile t x).sessions = s.sessions := rfl
@[simp] theorem State.setTile_halfOpen (t : Nat) (x : Tile) : (s.setTile t x).halfOpen = s.halfOpen := rfl
@[simp] theorem State.setTile_lastSession (t : Nat) (x : Tile) : (s.setTile t x).lastSession = s.lastSession := rfl
@[simp] theorem State.setTile_sessionUse (t : Nat) (x : Tile) : (s.setTile t x).sessionUse = s.sessionUse := rfl
@[simp] theorem State.setTile_challenge (t : Nat) (x : Tile) : (s.setTile t x).challenge = s.challenge := rfl
@[simp] theorem State.setTile_actions (t : Nat) (x : Tile) : (s.setTile t x).actions = s.actions := rfl
@[simp] theorem State.setTile_snapAreas (t : Nat) (x : Tile) : (s.setTile t x).snapAreas = s.snapAreas := rfl
@[simp] theorem State.setTile_snapNewest (t : Nat) (x : Tile) : (s.setTile t x).snapNewest = s.snapNewest := rfl
@[simp] theorem State.setTile_kept (t : Nat) (x : Tile) : (s.setTile t x).kept = s.kept := rfl
@[simp] theorem State.setTile_nextReport (t : Nat) (x : Tile) : (s.setTile t x).nextReport = s.nextReport := rfl
@[simp] theorem State.setTile_ats (t : Nat) (x : Tile) : (s.setTile t x).ats = s.ats := rfl
@[simp] theorem State.setTile_hostOff (t : Nat) (x : Tile) : (s.setTile t x).hostOff = s.hostOff := rfl
@[simp] theorem State.setTile_funcs (t : Nat) (x : Tile) : (s.setTile t x).funcs = s.funcs := rfl
@[simp] theorem State.setTile_bells (t : Nat) (x : Tile) : (s.setTile t x).bells = s.bells := rfl
@[simp] theorem State.setTile_heldBar0 (t : Nat) (x : Tile) : (s.setTile t x).heldBar0 = s.heldBar0 := rfl
@[simp] theorem State.setTile_latches (t : Nat) (x : Tile) : (s.setTile t x).latches = s.latches := rfl
@[simp] theorem State.setTile_endpointReady (t : Nat) (x : Tile) : (s.setTile t x).endpointReady = s.endpointReady := rfl
@[simp] theorem State.setTile_statusSent (t : Nat) (x : Tile) : (s.setTile t x).statusSent = s.statusSent := rfl
@[simp] theorem State.setTile_sensors (t : Nat) (x : Tile) : (s.setTile t x).sensors = s.sensors := rfl
@[simp] theorem State.setTile_packageSamples (t : Nat) (x : Tile) : (s.setTile t x).packageSamples = s.packageSamples := rfl
@[simp] theorem State.setTile_energyRest (t : Nat) (x : Tile) : (s.setTile t x).energyRest = s.energyRest := rfl
@[simp] theorem State.setTile_telemetrySamples (t : Nat) (x : Tile) : (s.setTile t x).telemetrySamples = s.telemetrySamples := rfl
@[simp] theorem State.setTile_diePower (t : Nat) (x : Tile) : (s.setTile t x).diePower = s.diePower := rfl
@[simp] theorem State.setTile_stackHot (t : Nat) (x : Tile) : (s.setTile t x).stackHot = s.stackHot := rfl
@[simp] theorem State.setTile_ranger (t : Nat) (x : Tile) : (s.setTile t x).ranger = s.ranger := rfl
@[simp] theorem State.setTile_watchdog (t : Nat) (x : Tile) : (s.setTile t x).watchdog = s.watchdog := rfl
@[simp] theorem State.setTile_rerouteDue (t : Nat) (x : Tile) : (s.setTile t x).rerouteDue = s.rerouteDue := rfl
@[simp] theorem State.setTile_heldRecords (t : Nat) (x : Tile) : (s.setTile t x).heldRecords = s.heldRecords := rfl
@[simp] theorem State.setTile_stewards (t : Nat) (x : Tile) : (s.setTile t x).stewards = s.stewards := rfl
@[simp] theorem State.setTile_stalls (t : Nat) (x : Tile) : (s.setTile t x).stalls = s.stalls := rfl
@[simp] theorem State.setTile_logSerial (t : Nat) (x : Tile) : (s.setTile t x).logSerial = s.logSerial := rfl
@[simp] theorem State.setTile_logUnread (t : Nat) (x : Tile) : (s.setTile t x).logUnread = s.logUnread := rfl
@[simp] theorem State.setTile_tests (t : Nat) (x : Tile) : (s.setTile t x).tests = s.tests := rfl
@[simp] theorem State.setTile_selfTest (t : Nat) (x : Tile) : (s.setTile t x).selfTest = s.selfTest := rfl
@[simp] theorem State.setTile_hssMarks (t : Nat) (x : Tile) : (s.setTile t x).hssMarks = s.hssMarks := rfl
@[simp] theorem State.setTile_minimaOk (t : Nat) (x : Tile) : (s.setTile t x).minimaOk = s.minimaOk := rfl
@[simp] theorem State.setTile_spdmSecured (t : Nat) (x : Tile) : (s.setTile t x).spdmSecured = s.spdmSecured := rfl
@[simp] theorem State.setTile_ideKeys (t : Nat) (x : Tile) : (s.setTile t x).ideKeys = s.ideKeys := rfl
@[simp] theorem State.setTile_devRstN (t : Nat) (x : Tile) : (s.setTile t x).devRstN = s.devRstN := rfl
@[simp] theorem State.setTile_perstN (t : Nat) (x : Tile) : (s.setTile t x).perstN = s.perstN := rfl
@[simp] theorem State.setTile_mclkLocked (t : Nat) (x : Tile) : (s.setTile t x).mclkLocked = s.mclkLocked := rfl
@[simp] theorem State.setTile_booted (t : Nat) (x : Tile) : (s.setTile t x).booted = s.booted := rfl
@[simp] theorem State.setTile_arefLost (t : Nat) (x : Tile) : (s.setTile t x).arefLost = s.arefLost := rfl
@[simp] theorem State.setTile_computeReady (t : Nat) (x : Tile) : (s.setTile t x).computeReady = s.computeReady := rfl
@[simp] theorem State.setTile_coreRetry (t : Nat) (x : Tile) : (s.setTile t x).coreRetry = s.coreRetry := rfl
@[simp] theorem State.setTile_refreshOff (t : Nat) (x : Tile) : (s.setTile t x).refreshOff = s.refreshOff := rfl

/-! ## setCtx -/

@[simp] theorem State.setCtx_pending (c : Nat) (x : Context) : (s.setCtx c x).pending = s.pending := rfl
@[simp] theorem State.setCtx_free (c : Nat) (x : Context) : (s.setCtx c x).free = s.free := rfl
@[simp] theorem State.setCtx_out (c : Nat) (x : Context) : (s.setCtx c x).out = s.out := rfl
@[simp] theorem State.setCtx_dict (c : Nat) (x : Context) : (s.setCtx c x).dict = s.dict := rfl
@[simp] theorem State.setCtx_accepted (c : Nat) (x : Context) : (s.setCtx c x).accepted = s.accepted := rfl
@[simp] theorem State.setCtx_mem (c : Nat) (x : Context) : (s.setCtx c x).mem = s.mem := rfl
@[simp] theorem State.setCtx_scram (c : Nat) (x : Context) : (s.setCtx c x).scram = s.scram := rfl
@[simp] theorem State.setCtx_writeBack (c : Nat) (x : Context) : (s.setCtx c x).writeBack = s.writeBack := rfl
@[simp] theorem State.setCtx_reports (c : Nat) (x : Context) : (s.setCtx c x).reports = s.reports := rfl
@[simp] theorem State.setCtx_sramDiff (c : Nat) (x : Context) : (s.setCtx c x).sramDiff = s.sramDiff := rfl
@[simp] theorem State.setCtx_stackDiff (c : Nat) (x : Context) : (s.setCtx c x).stackDiff = s.stackDiff := rfl
@[simp] theorem State.setCtx_written (c : Nat) (x : Context) : (s.setCtx c x).written = s.written := rfl
@[simp] theorem State.setCtx_mirror (c : Nat) (x : Context) : (s.setCtx c x).mirror = s.mirror := rfl
@[simp] theorem State.setCtx_stands (c : Nat) (x : Context) : (s.setCtx c x).stands = s.stands := rfl
@[simp] theorem State.setCtx_groves (c : Nat) (x : Context) : (s.setCtx c x).groves = s.groves := rfl
@[simp] theorem State.setCtx_tiles (c : Nat) (x : Context) : (s.setCtx c x).tiles = s.tiles := rfl
@[simp] theorem State.setCtx_ctxs (c : Nat) (x : Context) : (s.setCtx c x).ctxs = SMap.set Context.reset s.ctxs c x := rfl
@[simp] theorem State.setCtx_slots (c : Nat) (x : Context) : (s.setCtx c x).slots = s.slots := rfl
@[simp] theorem State.setCtx_freed (c : Nat) (x : Context) : (s.setCtx c x).freed = s.freed := rfl
@[simp] theorem State.setCtx_rootStacks (c : Nat) (x : Context) : (s.setCtx c x).rootStacks = s.rootStacks := rfl
@[simp] theorem State.setCtx_windowTaken (c : Nat) (x : Context) : (s.setCtx c x).windowTaken = s.windowTaken := rfl
@[simp] theorem State.setCtx_patrol (c : Nat) (x : Context) : (s.setCtx c x).patrol = s.patrol := rfl
@[simp] theorem State.setCtx_fifos (c : Nat) (x : Context) : (s.setCtx c x).fifos = s.fifos := rfl
@[simp] theorem State.setCtx_rx (c : Nat) (x : Context) : (s.setCtx c x).rx = s.rx := rfl
@[simp] theorem State.setCtx_outst (c : Nat) (x : Context) : (s.setCtx c x).outst = s.outst := rfl
@[simp] theorem State.setCtx_mismatches (c : Nat) (x : Context) : (s.setCtx c x).mismatches = s.mismatches := rfl
@[simp] theorem State.setCtx_turns (c : Nat) (x : Context) : (s.setCtx c x).turns = s.turns := rfl
@[simp] theorem State.setCtx_treeDebts (c : Nat) (x : Context) : (s.setCtx c x).treeDebts = s.treeDebts := rfl
@[simp] theorem State.setCtx_treeOff (c : Nat) (x : Context) : (s.setCtx c x).treeOff = s.treeOff := rfl
@[simp] theorem State.setCtx_treeSent (c : Nat) (x : Context) : (s.setCtx c x).treeSent = s.treeSent := rfl
@[simp] theorem State.setCtx_treeMasks (c : Nat) (x : Context) : (s.setCtx c x).treeMasks = s.treeMasks := rfl
@[simp] theorem State.setCtx_ports (c : Nat) (x : Context) : (s.setCtx c x).ports = s.ports := rfl
@[simp] theorem State.setCtx_lanes (c : Nat) (x : Context) : (s.setCtx c x).lanes = s.lanes := rfl
@[simp] theorem State.setCtx_xrefs (c : Nat) (x : Context) : (s.setCtx c x).xrefs = s.xrefs := rfl
@[simp] theorem State.setCtx_jobs (c : Nat) (x : Context) : (s.setCtx c x).jobs = s.jobs := rfl
@[simp] theorem State.setCtx_abortLog (c : Nat) (x : Context) : (s.setCtx c x).abortLog = s.abortLog := rfl
@[simp] theorem State.setCtx_clearings (c : Nat) (x : Context) : (s.setCtx c x).clearings = s.clearings := rfl
@[simp] theorem State.setCtx_flops (c : Nat) (x : Context) : (s.setCtx c x).flops = s.flops := rfl
@[simp] theorem State.setCtx_wires (c : Nat) (x : Context) : (s.setCtx c x).wires = s.wires := rfl
@[simp] theorem State.setCtx_pins (c : Nat) (x : Context) : (s.setCtx c x).pins = s.pins := rfl
@[simp] theorem State.setCtx_pairs (c : Nat) (x : Context) : (s.setCtx c x).pairs = s.pairs := rfl
@[simp] theorem State.setCtx_nv (c : Nat) (x : Context) : (s.setCtx c x).nv = s.nv := rfl
@[simp] theorem State.setCtx_bootCopies (c : Nat) (x : Context) : (s.setCtx c x).bootCopies = s.bootCopies := rfl
@[simp] theorem State.setCtx_cfg (c : Nat) (x : Context) : (s.setCtx c x).cfg = s.cfg := rfl
@[simp] theorem State.setCtx_cfgDiff (c : Nat) (x : Context) : (s.setCtx c x).cfgDiff = s.cfgDiff := rfl
@[simp] theorem State.setCtx_shadow (c : Nat) (x : Context) : (s.setCtx c x).shadow = s.shadow := rfl
@[simp] theorem State.setCtx_shadowDiff (c : Nat) (x : Context) : (s.setCtx c x).shadowDiff = s.shadowDiff := rfl
@[simp] theorem State.setCtx_decoded (c : Nat) (x : Context) : (s.setCtx c x).decoded = s.decoded := rfl
@[simp] theorem State.setCtx_frameMap (c : Nat) (x : Context) : (s.setCtx c x).frameMap = s.frameMap := rfl
@[simp] theorem State.setCtx_shadowRelease (c : Nat) (x : Context) : (s.setCtx c x).shadowRelease = s.shadowRelease := rfl
@[simp] theorem State.setCtx_switch (c : Nat) (x : Context) : (s.setCtx c x).switch = s.switch := rfl
@[simp] theorem State.setCtx_groveNext (c : Nat) (x : Context) : (s.setCtx c x).groveNext = s.groveNext := rfl
@[simp] theorem State.setCtx_scrubAt (c : Nat) (x : Context) : (s.setCtx c x).scrubAt = s.scrubAt := rfl
@[simp] theorem State.setCtx_captures (c : Nat) (x : Context) : (s.setCtx c x).captures = s.captures := rfl
@[simp] theorem State.setCtx_rxFrames (c : Nat) (x : Context) : (s.setCtx c x).rxFrames = s.rxFrames := rfl
@[simp] theorem State.setCtx_plcaOk (c : Nat) (x : Context) : (s.setCtx c x).plcaOk = s.plcaOk := rfl
@[simp] theorem State.setCtx_plcaDown (c : Nat) (x : Context) : (s.setCtx c x).plcaDown = s.plcaDown := rfl
@[simp] theorem State.setCtx_revert (c : Nat) (x : Context) : (s.setCtx c x).revert = s.revert := rfl
@[simp] theorem State.setCtx_sessions (c : Nat) (x : Context) : (s.setCtx c x).sessions = s.sessions := rfl
@[simp] theorem State.setCtx_halfOpen (c : Nat) (x : Context) : (s.setCtx c x).halfOpen = s.halfOpen := rfl
@[simp] theorem State.setCtx_lastSession (c : Nat) (x : Context) : (s.setCtx c x).lastSession = s.lastSession := rfl
@[simp] theorem State.setCtx_sessionUse (c : Nat) (x : Context) : (s.setCtx c x).sessionUse = s.sessionUse := rfl
@[simp] theorem State.setCtx_challenge (c : Nat) (x : Context) : (s.setCtx c x).challenge = s.challenge := rfl
@[simp] theorem State.setCtx_actions (c : Nat) (x : Context) : (s.setCtx c x).actions = s.actions := rfl
@[simp] theorem State.setCtx_snapAreas (c : Nat) (x : Context) : (s.setCtx c x).snapAreas = s.snapAreas := rfl
@[simp] theorem State.setCtx_snapNewest (c : Nat) (x : Context) : (s.setCtx c x).snapNewest = s.snapNewest := rfl
@[simp] theorem State.setCtx_kept (c : Nat) (x : Context) : (s.setCtx c x).kept = s.kept := rfl
@[simp] theorem State.setCtx_nextReport (c : Nat) (x : Context) : (s.setCtx c x).nextReport = s.nextReport := rfl
@[simp] theorem State.setCtx_ats (c : Nat) (x : Context) : (s.setCtx c x).ats = s.ats := rfl
@[simp] theorem State.setCtx_hostOff (c : Nat) (x : Context) : (s.setCtx c x).hostOff = s.hostOff := rfl
@[simp] theorem State.setCtx_funcs (c : Nat) (x : Context) : (s.setCtx c x).funcs = s.funcs := rfl
@[simp] theorem State.setCtx_bells (c : Nat) (x : Context) : (s.setCtx c x).bells = s.bells := rfl
@[simp] theorem State.setCtx_heldBar0 (c : Nat) (x : Context) : (s.setCtx c x).heldBar0 = s.heldBar0 := rfl
@[simp] theorem State.setCtx_latches (c : Nat) (x : Context) : (s.setCtx c x).latches = s.latches := rfl
@[simp] theorem State.setCtx_endpointReady (c : Nat) (x : Context) : (s.setCtx c x).endpointReady = s.endpointReady := rfl
@[simp] theorem State.setCtx_statusSent (c : Nat) (x : Context) : (s.setCtx c x).statusSent = s.statusSent := rfl
@[simp] theorem State.setCtx_sensors (c : Nat) (x : Context) : (s.setCtx c x).sensors = s.sensors := rfl
@[simp] theorem State.setCtx_packageSamples (c : Nat) (x : Context) : (s.setCtx c x).packageSamples = s.packageSamples := rfl
@[simp] theorem State.setCtx_energyRest (c : Nat) (x : Context) : (s.setCtx c x).energyRest = s.energyRest := rfl
@[simp] theorem State.setCtx_telemetrySamples (c : Nat) (x : Context) : (s.setCtx c x).telemetrySamples = s.telemetrySamples := rfl
@[simp] theorem State.setCtx_diePower (c : Nat) (x : Context) : (s.setCtx c x).diePower = s.diePower := rfl
@[simp] theorem State.setCtx_stackHot (c : Nat) (x : Context) : (s.setCtx c x).stackHot = s.stackHot := rfl
@[simp] theorem State.setCtx_ranger (c : Nat) (x : Context) : (s.setCtx c x).ranger = s.ranger := rfl
@[simp] theorem State.setCtx_watchdog (c : Nat) (x : Context) : (s.setCtx c x).watchdog = s.watchdog := rfl
@[simp] theorem State.setCtx_rerouteDue (c : Nat) (x : Context) : (s.setCtx c x).rerouteDue = s.rerouteDue := rfl
@[simp] theorem State.setCtx_heldRecords (c : Nat) (x : Context) : (s.setCtx c x).heldRecords = s.heldRecords := rfl
@[simp] theorem State.setCtx_stewards (c : Nat) (x : Context) : (s.setCtx c x).stewards = s.stewards := rfl
@[simp] theorem State.setCtx_stalls (c : Nat) (x : Context) : (s.setCtx c x).stalls = s.stalls := rfl
@[simp] theorem State.setCtx_logSerial (c : Nat) (x : Context) : (s.setCtx c x).logSerial = s.logSerial := rfl
@[simp] theorem State.setCtx_logUnread (c : Nat) (x : Context) : (s.setCtx c x).logUnread = s.logUnread := rfl
@[simp] theorem State.setCtx_tests (c : Nat) (x : Context) : (s.setCtx c x).tests = s.tests := rfl
@[simp] theorem State.setCtx_selfTest (c : Nat) (x : Context) : (s.setCtx c x).selfTest = s.selfTest := rfl
@[simp] theorem State.setCtx_hssMarks (c : Nat) (x : Context) : (s.setCtx c x).hssMarks = s.hssMarks := rfl
@[simp] theorem State.setCtx_minimaOk (c : Nat) (x : Context) : (s.setCtx c x).minimaOk = s.minimaOk := rfl
@[simp] theorem State.setCtx_spdmSecured (c : Nat) (x : Context) : (s.setCtx c x).spdmSecured = s.spdmSecured := rfl
@[simp] theorem State.setCtx_ideKeys (c : Nat) (x : Context) : (s.setCtx c x).ideKeys = s.ideKeys := rfl
@[simp] theorem State.setCtx_devRstN (c : Nat) (x : Context) : (s.setCtx c x).devRstN = s.devRstN := rfl
@[simp] theorem State.setCtx_perstN (c : Nat) (x : Context) : (s.setCtx c x).perstN = s.perstN := rfl
@[simp] theorem State.setCtx_mclkLocked (c : Nat) (x : Context) : (s.setCtx c x).mclkLocked = s.mclkLocked := rfl
@[simp] theorem State.setCtx_booted (c : Nat) (x : Context) : (s.setCtx c x).booted = s.booted := rfl
@[simp] theorem State.setCtx_arefLost (c : Nat) (x : Context) : (s.setCtx c x).arefLost = s.arefLost := rfl
@[simp] theorem State.setCtx_computeReady (c : Nat) (x : Context) : (s.setCtx c x).computeReady = s.computeReady := rfl
@[simp] theorem State.setCtx_coreRetry (c : Nat) (x : Context) : (s.setCtx c x).coreRetry = s.coreRetry := rfl
@[simp] theorem State.setCtx_refreshOff (c : Nat) (x : Context) : (s.setCtx c x).refreshOff = s.refreshOff := rfl

/-! ## setSlot -/

@[simp] theorem State.setSlot_pending (q : Nat) (x : Slot) : (s.setSlot q x).pending = s.pending := rfl
@[simp] theorem State.setSlot_free (q : Nat) (x : Slot) : (s.setSlot q x).free = s.free := rfl
@[simp] theorem State.setSlot_out (q : Nat) (x : Slot) : (s.setSlot q x).out = s.out := rfl
@[simp] theorem State.setSlot_dict (q : Nat) (x : Slot) : (s.setSlot q x).dict = s.dict := rfl
@[simp] theorem State.setSlot_accepted (q : Nat) (x : Slot) : (s.setSlot q x).accepted = s.accepted := rfl
@[simp] theorem State.setSlot_mem (q : Nat) (x : Slot) : (s.setSlot q x).mem = s.mem := rfl
@[simp] theorem State.setSlot_scram (q : Nat) (x : Slot) : (s.setSlot q x).scram = s.scram := rfl
@[simp] theorem State.setSlot_writeBack (q : Nat) (x : Slot) : (s.setSlot q x).writeBack = s.writeBack := rfl
@[simp] theorem State.setSlot_reports (q : Nat) (x : Slot) : (s.setSlot q x).reports = s.reports := rfl
@[simp] theorem State.setSlot_sramDiff (q : Nat) (x : Slot) : (s.setSlot q x).sramDiff = s.sramDiff := rfl
@[simp] theorem State.setSlot_stackDiff (q : Nat) (x : Slot) : (s.setSlot q x).stackDiff = s.stackDiff := rfl
@[simp] theorem State.setSlot_written (q : Nat) (x : Slot) : (s.setSlot q x).written = s.written := rfl
@[simp] theorem State.setSlot_mirror (q : Nat) (x : Slot) : (s.setSlot q x).mirror = s.mirror := rfl
@[simp] theorem State.setSlot_stands (q : Nat) (x : Slot) : (s.setSlot q x).stands = s.stands := rfl
@[simp] theorem State.setSlot_groves (q : Nat) (x : Slot) : (s.setSlot q x).groves = s.groves := rfl
@[simp] theorem State.setSlot_tiles (q : Nat) (x : Slot) : (s.setSlot q x).tiles = s.tiles := rfl
@[simp] theorem State.setSlot_ctxs (q : Nat) (x : Slot) : (s.setSlot q x).ctxs = s.ctxs := rfl
@[simp] theorem State.setSlot_slots (q : Nat) (x : Slot) : (s.setSlot q x).slots = SMap.set Slot.reset s.slots q x := rfl
@[simp] theorem State.setSlot_freed (q : Nat) (x : Slot) : (s.setSlot q x).freed = s.freed := rfl
@[simp] theorem State.setSlot_rootStacks (q : Nat) (x : Slot) : (s.setSlot q x).rootStacks = s.rootStacks := rfl
@[simp] theorem State.setSlot_windowTaken (q : Nat) (x : Slot) : (s.setSlot q x).windowTaken = s.windowTaken := rfl
@[simp] theorem State.setSlot_patrol (q : Nat) (x : Slot) : (s.setSlot q x).patrol = s.patrol := rfl
@[simp] theorem State.setSlot_fifos (q : Nat) (x : Slot) : (s.setSlot q x).fifos = s.fifos := rfl
@[simp] theorem State.setSlot_rx (q : Nat) (x : Slot) : (s.setSlot q x).rx = s.rx := rfl
@[simp] theorem State.setSlot_outst (q : Nat) (x : Slot) : (s.setSlot q x).outst = s.outst := rfl
@[simp] theorem State.setSlot_mismatches (q : Nat) (x : Slot) : (s.setSlot q x).mismatches = s.mismatches := rfl
@[simp] theorem State.setSlot_turns (q : Nat) (x : Slot) : (s.setSlot q x).turns = s.turns := rfl
@[simp] theorem State.setSlot_treeDebts (q : Nat) (x : Slot) : (s.setSlot q x).treeDebts = s.treeDebts := rfl
@[simp] theorem State.setSlot_treeOff (q : Nat) (x : Slot) : (s.setSlot q x).treeOff = s.treeOff := rfl
@[simp] theorem State.setSlot_treeSent (q : Nat) (x : Slot) : (s.setSlot q x).treeSent = s.treeSent := rfl
@[simp] theorem State.setSlot_treeMasks (q : Nat) (x : Slot) : (s.setSlot q x).treeMasks = s.treeMasks := rfl
@[simp] theorem State.setSlot_ports (q : Nat) (x : Slot) : (s.setSlot q x).ports = s.ports := rfl
@[simp] theorem State.setSlot_lanes (q : Nat) (x : Slot) : (s.setSlot q x).lanes = s.lanes := rfl
@[simp] theorem State.setSlot_xrefs (q : Nat) (x : Slot) : (s.setSlot q x).xrefs = s.xrefs := rfl
@[simp] theorem State.setSlot_jobs (q : Nat) (x : Slot) : (s.setSlot q x).jobs = s.jobs := rfl
@[simp] theorem State.setSlot_abortLog (q : Nat) (x : Slot) : (s.setSlot q x).abortLog = s.abortLog := rfl
@[simp] theorem State.setSlot_clearings (q : Nat) (x : Slot) : (s.setSlot q x).clearings = s.clearings := rfl
@[simp] theorem State.setSlot_flops (q : Nat) (x : Slot) : (s.setSlot q x).flops = s.flops := rfl
@[simp] theorem State.setSlot_wires (q : Nat) (x : Slot) : (s.setSlot q x).wires = s.wires := rfl
@[simp] theorem State.setSlot_pins (q : Nat) (x : Slot) : (s.setSlot q x).pins = s.pins := rfl
@[simp] theorem State.setSlot_pairs (q : Nat) (x : Slot) : (s.setSlot q x).pairs = s.pairs := rfl
@[simp] theorem State.setSlot_nv (q : Nat) (x : Slot) : (s.setSlot q x).nv = s.nv := rfl
@[simp] theorem State.setSlot_bootCopies (q : Nat) (x : Slot) : (s.setSlot q x).bootCopies = s.bootCopies := rfl
@[simp] theorem State.setSlot_cfg (q : Nat) (x : Slot) : (s.setSlot q x).cfg = s.cfg := rfl
@[simp] theorem State.setSlot_cfgDiff (q : Nat) (x : Slot) : (s.setSlot q x).cfgDiff = s.cfgDiff := rfl
@[simp] theorem State.setSlot_shadow (q : Nat) (x : Slot) : (s.setSlot q x).shadow = s.shadow := rfl
@[simp] theorem State.setSlot_shadowDiff (q : Nat) (x : Slot) : (s.setSlot q x).shadowDiff = s.shadowDiff := rfl
@[simp] theorem State.setSlot_decoded (q : Nat) (x : Slot) : (s.setSlot q x).decoded = s.decoded := rfl
@[simp] theorem State.setSlot_frameMap (q : Nat) (x : Slot) : (s.setSlot q x).frameMap = s.frameMap := rfl
@[simp] theorem State.setSlot_shadowRelease (q : Nat) (x : Slot) : (s.setSlot q x).shadowRelease = s.shadowRelease := rfl
@[simp] theorem State.setSlot_switch (q : Nat) (x : Slot) : (s.setSlot q x).switch = s.switch := rfl
@[simp] theorem State.setSlot_groveNext (q : Nat) (x : Slot) : (s.setSlot q x).groveNext = s.groveNext := rfl
@[simp] theorem State.setSlot_scrubAt (q : Nat) (x : Slot) : (s.setSlot q x).scrubAt = s.scrubAt := rfl
@[simp] theorem State.setSlot_captures (q : Nat) (x : Slot) : (s.setSlot q x).captures = s.captures := rfl
@[simp] theorem State.setSlot_rxFrames (q : Nat) (x : Slot) : (s.setSlot q x).rxFrames = s.rxFrames := rfl
@[simp] theorem State.setSlot_plcaOk (q : Nat) (x : Slot) : (s.setSlot q x).plcaOk = s.plcaOk := rfl
@[simp] theorem State.setSlot_plcaDown (q : Nat) (x : Slot) : (s.setSlot q x).plcaDown = s.plcaDown := rfl
@[simp] theorem State.setSlot_revert (q : Nat) (x : Slot) : (s.setSlot q x).revert = s.revert := rfl
@[simp] theorem State.setSlot_sessions (q : Nat) (x : Slot) : (s.setSlot q x).sessions = s.sessions := rfl
@[simp] theorem State.setSlot_halfOpen (q : Nat) (x : Slot) : (s.setSlot q x).halfOpen = s.halfOpen := rfl
@[simp] theorem State.setSlot_lastSession (q : Nat) (x : Slot) : (s.setSlot q x).lastSession = s.lastSession := rfl
@[simp] theorem State.setSlot_sessionUse (q : Nat) (x : Slot) : (s.setSlot q x).sessionUse = s.sessionUse := rfl
@[simp] theorem State.setSlot_challenge (q : Nat) (x : Slot) : (s.setSlot q x).challenge = s.challenge := rfl
@[simp] theorem State.setSlot_actions (q : Nat) (x : Slot) : (s.setSlot q x).actions = s.actions := rfl
@[simp] theorem State.setSlot_snapAreas (q : Nat) (x : Slot) : (s.setSlot q x).snapAreas = s.snapAreas := rfl
@[simp] theorem State.setSlot_snapNewest (q : Nat) (x : Slot) : (s.setSlot q x).snapNewest = s.snapNewest := rfl
@[simp] theorem State.setSlot_kept (q : Nat) (x : Slot) : (s.setSlot q x).kept = s.kept := rfl
@[simp] theorem State.setSlot_nextReport (q : Nat) (x : Slot) : (s.setSlot q x).nextReport = s.nextReport := rfl
@[simp] theorem State.setSlot_ats (q : Nat) (x : Slot) : (s.setSlot q x).ats = s.ats := rfl
@[simp] theorem State.setSlot_hostOff (q : Nat) (x : Slot) : (s.setSlot q x).hostOff = s.hostOff := rfl
@[simp] theorem State.setSlot_funcs (q : Nat) (x : Slot) : (s.setSlot q x).funcs = s.funcs := rfl
@[simp] theorem State.setSlot_bells (q : Nat) (x : Slot) : (s.setSlot q x).bells = s.bells := rfl
@[simp] theorem State.setSlot_heldBar0 (q : Nat) (x : Slot) : (s.setSlot q x).heldBar0 = s.heldBar0 := rfl
@[simp] theorem State.setSlot_latches (q : Nat) (x : Slot) : (s.setSlot q x).latches = s.latches := rfl
@[simp] theorem State.setSlot_endpointReady (q : Nat) (x : Slot) : (s.setSlot q x).endpointReady = s.endpointReady := rfl
@[simp] theorem State.setSlot_statusSent (q : Nat) (x : Slot) : (s.setSlot q x).statusSent = s.statusSent := rfl
@[simp] theorem State.setSlot_sensors (q : Nat) (x : Slot) : (s.setSlot q x).sensors = s.sensors := rfl
@[simp] theorem State.setSlot_packageSamples (q : Nat) (x : Slot) : (s.setSlot q x).packageSamples = s.packageSamples := rfl
@[simp] theorem State.setSlot_energyRest (q : Nat) (x : Slot) : (s.setSlot q x).energyRest = s.energyRest := rfl
@[simp] theorem State.setSlot_telemetrySamples (q : Nat) (x : Slot) : (s.setSlot q x).telemetrySamples = s.telemetrySamples := rfl
@[simp] theorem State.setSlot_diePower (q : Nat) (x : Slot) : (s.setSlot q x).diePower = s.diePower := rfl
@[simp] theorem State.setSlot_stackHot (q : Nat) (x : Slot) : (s.setSlot q x).stackHot = s.stackHot := rfl
@[simp] theorem State.setSlot_ranger (q : Nat) (x : Slot) : (s.setSlot q x).ranger = s.ranger := rfl
@[simp] theorem State.setSlot_watchdog (q : Nat) (x : Slot) : (s.setSlot q x).watchdog = s.watchdog := rfl
@[simp] theorem State.setSlot_rerouteDue (q : Nat) (x : Slot) : (s.setSlot q x).rerouteDue = s.rerouteDue := rfl
@[simp] theorem State.setSlot_heldRecords (q : Nat) (x : Slot) : (s.setSlot q x).heldRecords = s.heldRecords := rfl
@[simp] theorem State.setSlot_stewards (q : Nat) (x : Slot) : (s.setSlot q x).stewards = s.stewards := rfl
@[simp] theorem State.setSlot_stalls (q : Nat) (x : Slot) : (s.setSlot q x).stalls = s.stalls := rfl
@[simp] theorem State.setSlot_logSerial (q : Nat) (x : Slot) : (s.setSlot q x).logSerial = s.logSerial := rfl
@[simp] theorem State.setSlot_logUnread (q : Nat) (x : Slot) : (s.setSlot q x).logUnread = s.logUnread := rfl
@[simp] theorem State.setSlot_tests (q : Nat) (x : Slot) : (s.setSlot q x).tests = s.tests := rfl
@[simp] theorem State.setSlot_selfTest (q : Nat) (x : Slot) : (s.setSlot q x).selfTest = s.selfTest := rfl
@[simp] theorem State.setSlot_hssMarks (q : Nat) (x : Slot) : (s.setSlot q x).hssMarks = s.hssMarks := rfl
@[simp] theorem State.setSlot_minimaOk (q : Nat) (x : Slot) : (s.setSlot q x).minimaOk = s.minimaOk := rfl
@[simp] theorem State.setSlot_spdmSecured (q : Nat) (x : Slot) : (s.setSlot q x).spdmSecured = s.spdmSecured := rfl
@[simp] theorem State.setSlot_ideKeys (q : Nat) (x : Slot) : (s.setSlot q x).ideKeys = s.ideKeys := rfl
@[simp] theorem State.setSlot_devRstN (q : Nat) (x : Slot) : (s.setSlot q x).devRstN = s.devRstN := rfl
@[simp] theorem State.setSlot_perstN (q : Nat) (x : Slot) : (s.setSlot q x).perstN = s.perstN := rfl
@[simp] theorem State.setSlot_mclkLocked (q : Nat) (x : Slot) : (s.setSlot q x).mclkLocked = s.mclkLocked := rfl
@[simp] theorem State.setSlot_booted (q : Nat) (x : Slot) : (s.setSlot q x).booted = s.booted := rfl
@[simp] theorem State.setSlot_arefLost (q : Nat) (x : Slot) : (s.setSlot q x).arefLost = s.arefLost := rfl
@[simp] theorem State.setSlot_computeReady (q : Nat) (x : Slot) : (s.setSlot q x).computeReady = s.computeReady := rfl
@[simp] theorem State.setSlot_coreRetry (q : Nat) (x : Slot) : (s.setSlot q x).coreRetry = s.coreRetry := rfl
@[simp] theorem State.setSlot_refreshOff (q : Nat) (x : Slot) : (s.setSlot q x).refreshOff = s.refreshOff := rfl

/-! ## setByte -/

@[simp] theorem State.setByte_pending (a : Nat) (b : Byte) : (s.setByte a b).pending = s.pending := rfl
@[simp] theorem State.setByte_free (a : Nat) (b : Byte) : (s.setByte a b).free = s.free := rfl
@[simp] theorem State.setByte_out (a : Nat) (b : Byte) : (s.setByte a b).out = s.out := rfl
@[simp] theorem State.setByte_dict (a : Nat) (b : Byte) : (s.setByte a b).dict = s.dict := rfl
@[simp] theorem State.setByte_accepted (a : Nat) (b : Byte) : (s.setByte a b).accepted = s.accepted := rfl
@[simp] theorem State.setByte_mem (a : Nat) (b : Byte) : (s.setByte a b).mem = SMap.set (unlistedByte s.scram a) s.mem a b := rfl
@[simp] theorem State.setByte_scram (a : Nat) (b : Byte) : (s.setByte a b).scram = s.scram := rfl
@[simp] theorem State.setByte_writeBack (a : Nat) (b : Byte) : (s.setByte a b).writeBack = s.writeBack := rfl
@[simp] theorem State.setByte_reports (a : Nat) (b : Byte) : (s.setByte a b).reports = s.reports := rfl
@[simp] theorem State.setByte_sramDiff (a : Nat) (b : Byte) : (s.setByte a b).sramDiff = s.sramDiff := rfl
@[simp] theorem State.setByte_stackDiff (a : Nat) (b : Byte) : (s.setByte a b).stackDiff = s.stackDiff := rfl
@[simp] theorem State.setByte_written (a : Nat) (b : Byte) : (s.setByte a b).written = s.written := rfl
@[simp] theorem State.setByte_mirror (a : Nat) (b : Byte) : (s.setByte a b).mirror = s.mirror := rfl
@[simp] theorem State.setByte_stands (a : Nat) (b : Byte) : (s.setByte a b).stands = s.stands := rfl
@[simp] theorem State.setByte_groves (a : Nat) (b : Byte) : (s.setByte a b).groves = s.groves := rfl
@[simp] theorem State.setByte_tiles (a : Nat) (b : Byte) : (s.setByte a b).tiles = s.tiles := rfl
@[simp] theorem State.setByte_ctxs (a : Nat) (b : Byte) : (s.setByte a b).ctxs = s.ctxs := rfl
@[simp] theorem State.setByte_slots (a : Nat) (b : Byte) : (s.setByte a b).slots = s.slots := rfl
@[simp] theorem State.setByte_freed (a : Nat) (b : Byte) : (s.setByte a b).freed = s.freed := rfl
@[simp] theorem State.setByte_rootStacks (a : Nat) (b : Byte) : (s.setByte a b).rootStacks = s.rootStacks := rfl
@[simp] theorem State.setByte_windowTaken (a : Nat) (b : Byte) : (s.setByte a b).windowTaken = s.windowTaken := rfl
@[simp] theorem State.setByte_patrol (a : Nat) (b : Byte) : (s.setByte a b).patrol = s.patrol := rfl
@[simp] theorem State.setByte_fifos (a : Nat) (b : Byte) : (s.setByte a b).fifos = s.fifos := rfl
@[simp] theorem State.setByte_rx (a : Nat) (b : Byte) : (s.setByte a b).rx = s.rx := rfl
@[simp] theorem State.setByte_outst (a : Nat) (b : Byte) : (s.setByte a b).outst = s.outst := rfl
@[simp] theorem State.setByte_mismatches (a : Nat) (b : Byte) : (s.setByte a b).mismatches = s.mismatches := rfl
@[simp] theorem State.setByte_turns (a : Nat) (b : Byte) : (s.setByte a b).turns = s.turns := rfl
@[simp] theorem State.setByte_treeDebts (a : Nat) (b : Byte) : (s.setByte a b).treeDebts = s.treeDebts := rfl
@[simp] theorem State.setByte_treeOff (a : Nat) (b : Byte) : (s.setByte a b).treeOff = s.treeOff := rfl
@[simp] theorem State.setByte_treeSent (a : Nat) (b : Byte) : (s.setByte a b).treeSent = s.treeSent := rfl
@[simp] theorem State.setByte_treeMasks (a : Nat) (b : Byte) : (s.setByte a b).treeMasks = s.treeMasks := rfl
@[simp] theorem State.setByte_ports (a : Nat) (b : Byte) : (s.setByte a b).ports = s.ports := rfl
@[simp] theorem State.setByte_lanes (a : Nat) (b : Byte) : (s.setByte a b).lanes = s.lanes := rfl
@[simp] theorem State.setByte_xrefs (a : Nat) (b : Byte) : (s.setByte a b).xrefs = s.xrefs := rfl
@[simp] theorem State.setByte_jobs (a : Nat) (b : Byte) : (s.setByte a b).jobs = s.jobs := rfl
@[simp] theorem State.setByte_abortLog (a : Nat) (b : Byte) : (s.setByte a b).abortLog = s.abortLog := rfl
@[simp] theorem State.setByte_clearings (a : Nat) (b : Byte) : (s.setByte a b).clearings = s.clearings := rfl
@[simp] theorem State.setByte_flops (a : Nat) (b : Byte) : (s.setByte a b).flops = s.flops := rfl
@[simp] theorem State.setByte_wires (a : Nat) (b : Byte) : (s.setByte a b).wires = s.wires := rfl
@[simp] theorem State.setByte_pins (a : Nat) (b : Byte) : (s.setByte a b).pins = s.pins := rfl
@[simp] theorem State.setByte_pairs (a : Nat) (b : Byte) : (s.setByte a b).pairs = s.pairs := rfl
@[simp] theorem State.setByte_nv (a : Nat) (b : Byte) : (s.setByte a b).nv = s.nv := rfl
@[simp] theorem State.setByte_bootCopies (a : Nat) (b : Byte) : (s.setByte a b).bootCopies = s.bootCopies := rfl
@[simp] theorem State.setByte_cfg (a : Nat) (b : Byte) : (s.setByte a b).cfg = s.cfg := rfl
@[simp] theorem State.setByte_cfgDiff (a : Nat) (b : Byte) : (s.setByte a b).cfgDiff = s.cfgDiff := rfl
@[simp] theorem State.setByte_shadow (a : Nat) (b : Byte) : (s.setByte a b).shadow = s.shadow := rfl
@[simp] theorem State.setByte_shadowDiff (a : Nat) (b : Byte) : (s.setByte a b).shadowDiff = s.shadowDiff := rfl
@[simp] theorem State.setByte_decoded (a : Nat) (b : Byte) : (s.setByte a b).decoded = s.decoded := rfl
@[simp] theorem State.setByte_frameMap (a : Nat) (b : Byte) : (s.setByte a b).frameMap = s.frameMap := rfl
@[simp] theorem State.setByte_shadowRelease (a : Nat) (b : Byte) : (s.setByte a b).shadowRelease = s.shadowRelease := rfl
@[simp] theorem State.setByte_switch (a : Nat) (b : Byte) : (s.setByte a b).switch = s.switch := rfl
@[simp] theorem State.setByte_groveNext (a : Nat) (b : Byte) : (s.setByte a b).groveNext = s.groveNext := rfl
@[simp] theorem State.setByte_scrubAt (a : Nat) (b : Byte) : (s.setByte a b).scrubAt = s.scrubAt := rfl
@[simp] theorem State.setByte_captures (a : Nat) (b : Byte) : (s.setByte a b).captures = s.captures := rfl
@[simp] theorem State.setByte_rxFrames (a : Nat) (b : Byte) : (s.setByte a b).rxFrames = s.rxFrames := rfl
@[simp] theorem State.setByte_plcaOk (a : Nat) (b : Byte) : (s.setByte a b).plcaOk = s.plcaOk := rfl
@[simp] theorem State.setByte_plcaDown (a : Nat) (b : Byte) : (s.setByte a b).plcaDown = s.plcaDown := rfl
@[simp] theorem State.setByte_revert (a : Nat) (b : Byte) : (s.setByte a b).revert = s.revert := rfl
@[simp] theorem State.setByte_sessions (a : Nat) (b : Byte) : (s.setByte a b).sessions = s.sessions := rfl
@[simp] theorem State.setByte_halfOpen (a : Nat) (b : Byte) : (s.setByte a b).halfOpen = s.halfOpen := rfl
@[simp] theorem State.setByte_lastSession (a : Nat) (b : Byte) : (s.setByte a b).lastSession = s.lastSession := rfl
@[simp] theorem State.setByte_sessionUse (a : Nat) (b : Byte) : (s.setByte a b).sessionUse = s.sessionUse := rfl
@[simp] theorem State.setByte_challenge (a : Nat) (b : Byte) : (s.setByte a b).challenge = s.challenge := rfl
@[simp] theorem State.setByte_actions (a : Nat) (b : Byte) : (s.setByte a b).actions = s.actions := rfl
@[simp] theorem State.setByte_snapAreas (a : Nat) (b : Byte) : (s.setByte a b).snapAreas = s.snapAreas := rfl
@[simp] theorem State.setByte_snapNewest (a : Nat) (b : Byte) : (s.setByte a b).snapNewest = s.snapNewest := rfl
@[simp] theorem State.setByte_kept (a : Nat) (b : Byte) : (s.setByte a b).kept = s.kept := rfl
@[simp] theorem State.setByte_nextReport (a : Nat) (b : Byte) : (s.setByte a b).nextReport = s.nextReport := rfl
@[simp] theorem State.setByte_ats (a : Nat) (b : Byte) : (s.setByte a b).ats = s.ats := rfl
@[simp] theorem State.setByte_hostOff (a : Nat) (b : Byte) : (s.setByte a b).hostOff = s.hostOff := rfl
@[simp] theorem State.setByte_funcs (a : Nat) (b : Byte) : (s.setByte a b).funcs = s.funcs := rfl
@[simp] theorem State.setByte_bells (a : Nat) (b : Byte) : (s.setByte a b).bells = s.bells := rfl
@[simp] theorem State.setByte_heldBar0 (a : Nat) (b : Byte) : (s.setByte a b).heldBar0 = s.heldBar0 := rfl
@[simp] theorem State.setByte_latches (a : Nat) (b : Byte) : (s.setByte a b).latches = s.latches := rfl
@[simp] theorem State.setByte_endpointReady (a : Nat) (b : Byte) : (s.setByte a b).endpointReady = s.endpointReady := rfl
@[simp] theorem State.setByte_statusSent (a : Nat) (b : Byte) : (s.setByte a b).statusSent = s.statusSent := rfl
@[simp] theorem State.setByte_sensors (a : Nat) (b : Byte) : (s.setByte a b).sensors = s.sensors := rfl
@[simp] theorem State.setByte_packageSamples (a : Nat) (b : Byte) : (s.setByte a b).packageSamples = s.packageSamples := rfl
@[simp] theorem State.setByte_energyRest (a : Nat) (b : Byte) : (s.setByte a b).energyRest = s.energyRest := rfl
@[simp] theorem State.setByte_telemetrySamples (a : Nat) (b : Byte) : (s.setByte a b).telemetrySamples = s.telemetrySamples := rfl
@[simp] theorem State.setByte_diePower (a : Nat) (b : Byte) : (s.setByte a b).diePower = s.diePower := rfl
@[simp] theorem State.setByte_stackHot (a : Nat) (b : Byte) : (s.setByte a b).stackHot = s.stackHot := rfl
@[simp] theorem State.setByte_ranger (a : Nat) (b : Byte) : (s.setByte a b).ranger = s.ranger := rfl
@[simp] theorem State.setByte_watchdog (a : Nat) (b : Byte) : (s.setByte a b).watchdog = s.watchdog := rfl
@[simp] theorem State.setByte_rerouteDue (a : Nat) (b : Byte) : (s.setByte a b).rerouteDue = s.rerouteDue := rfl
@[simp] theorem State.setByte_heldRecords (a : Nat) (b : Byte) : (s.setByte a b).heldRecords = s.heldRecords := rfl
@[simp] theorem State.setByte_stewards (a : Nat) (b : Byte) : (s.setByte a b).stewards = s.stewards := rfl
@[simp] theorem State.setByte_stalls (a : Nat) (b : Byte) : (s.setByte a b).stalls = s.stalls := rfl
@[simp] theorem State.setByte_logSerial (a : Nat) (b : Byte) : (s.setByte a b).logSerial = s.logSerial := rfl
@[simp] theorem State.setByte_logUnread (a : Nat) (b : Byte) : (s.setByte a b).logUnread = s.logUnread := rfl
@[simp] theorem State.setByte_tests (a : Nat) (b : Byte) : (s.setByte a b).tests = s.tests := rfl
@[simp] theorem State.setByte_selfTest (a : Nat) (b : Byte) : (s.setByte a b).selfTest = s.selfTest := rfl
@[simp] theorem State.setByte_hssMarks (a : Nat) (b : Byte) : (s.setByte a b).hssMarks = s.hssMarks := rfl
@[simp] theorem State.setByte_minimaOk (a : Nat) (b : Byte) : (s.setByte a b).minimaOk = s.minimaOk := rfl
@[simp] theorem State.setByte_spdmSecured (a : Nat) (b : Byte) : (s.setByte a b).spdmSecured = s.spdmSecured := rfl
@[simp] theorem State.setByte_ideKeys (a : Nat) (b : Byte) : (s.setByte a b).ideKeys = s.ideKeys := rfl
@[simp] theorem State.setByte_devRstN (a : Nat) (b : Byte) : (s.setByte a b).devRstN = s.devRstN := rfl
@[simp] theorem State.setByte_perstN (a : Nat) (b : Byte) : (s.setByte a b).perstN = s.perstN := rfl
@[simp] theorem State.setByte_mclkLocked (a : Nat) (b : Byte) : (s.setByte a b).mclkLocked = s.mclkLocked := rfl
@[simp] theorem State.setByte_booted (a : Nat) (b : Byte) : (s.setByte a b).booted = s.booted := rfl
@[simp] theorem State.setByte_arefLost (a : Nat) (b : Byte) : (s.setByte a b).arefLost = s.arefLost := rfl
@[simp] theorem State.setByte_computeReady (a : Nat) (b : Byte) : (s.setByte a b).computeReady = s.computeReady := rfl
@[simp] theorem State.setByte_coreRetry (a : Nat) (b : Byte) : (s.setByte a b).coreRetry = s.coreRetry := rfl
@[simp] theorem State.setByte_refreshOff (a : Nat) (b : Byte) : (s.setByte a b).refreshOff = s.refreshOff := rfl

/-! ## setPort -/

@[simp] theorem State.setPort_pending (p : Nat) (x : Port) : (s.setPort p x).pending = s.pending := rfl
@[simp] theorem State.setPort_free (p : Nat) (x : Port) : (s.setPort p x).free = s.free := rfl
@[simp] theorem State.setPort_out (p : Nat) (x : Port) : (s.setPort p x).out = s.out := rfl
@[simp] theorem State.setPort_dict (p : Nat) (x : Port) : (s.setPort p x).dict = s.dict := rfl
@[simp] theorem State.setPort_accepted (p : Nat) (x : Port) : (s.setPort p x).accepted = s.accepted := rfl
@[simp] theorem State.setPort_mem (p : Nat) (x : Port) : (s.setPort p x).mem = s.mem := rfl
@[simp] theorem State.setPort_scram (p : Nat) (x : Port) : (s.setPort p x).scram = s.scram := rfl
@[simp] theorem State.setPort_writeBack (p : Nat) (x : Port) : (s.setPort p x).writeBack = s.writeBack := rfl
@[simp] theorem State.setPort_reports (p : Nat) (x : Port) : (s.setPort p x).reports = s.reports := rfl
@[simp] theorem State.setPort_sramDiff (p : Nat) (x : Port) : (s.setPort p x).sramDiff = s.sramDiff := rfl
@[simp] theorem State.setPort_stackDiff (p : Nat) (x : Port) : (s.setPort p x).stackDiff = s.stackDiff := rfl
@[simp] theorem State.setPort_written (p : Nat) (x : Port) : (s.setPort p x).written = s.written := rfl
@[simp] theorem State.setPort_mirror (p : Nat) (x : Port) : (s.setPort p x).mirror = s.mirror := rfl
@[simp] theorem State.setPort_stands (p : Nat) (x : Port) : (s.setPort p x).stands = s.stands := rfl
@[simp] theorem State.setPort_groves (p : Nat) (x : Port) : (s.setPort p x).groves = s.groves := rfl
@[simp] theorem State.setPort_tiles (p : Nat) (x : Port) : (s.setPort p x).tiles = s.tiles := rfl
@[simp] theorem State.setPort_ctxs (p : Nat) (x : Port) : (s.setPort p x).ctxs = s.ctxs := rfl
@[simp] theorem State.setPort_slots (p : Nat) (x : Port) : (s.setPort p x).slots = s.slots := rfl
@[simp] theorem State.setPort_freed (p : Nat) (x : Port) : (s.setPort p x).freed = s.freed := rfl
@[simp] theorem State.setPort_rootStacks (p : Nat) (x : Port) : (s.setPort p x).rootStacks = s.rootStacks := rfl
@[simp] theorem State.setPort_windowTaken (p : Nat) (x : Port) : (s.setPort p x).windowTaken = s.windowTaken := rfl
@[simp] theorem State.setPort_patrol (p : Nat) (x : Port) : (s.setPort p x).patrol = s.patrol := rfl
@[simp] theorem State.setPort_fifos (p : Nat) (x : Port) : (s.setPort p x).fifos = s.fifos := rfl
@[simp] theorem State.setPort_rx (p : Nat) (x : Port) : (s.setPort p x).rx = s.rx := rfl
@[simp] theorem State.setPort_outst (p : Nat) (x : Port) : (s.setPort p x).outst = s.outst := rfl
@[simp] theorem State.setPort_mismatches (p : Nat) (x : Port) : (s.setPort p x).mismatches = s.mismatches := rfl
@[simp] theorem State.setPort_turns (p : Nat) (x : Port) : (s.setPort p x).turns = s.turns := rfl
@[simp] theorem State.setPort_treeDebts (p : Nat) (x : Port) : (s.setPort p x).treeDebts = s.treeDebts := rfl
@[simp] theorem State.setPort_treeOff (p : Nat) (x : Port) : (s.setPort p x).treeOff = s.treeOff := rfl
@[simp] theorem State.setPort_treeSent (p : Nat) (x : Port) : (s.setPort p x).treeSent = s.treeSent := rfl
@[simp] theorem State.setPort_treeMasks (p : Nat) (x : Port) : (s.setPort p x).treeMasks = s.treeMasks := rfl
@[simp] theorem State.setPort_ports (p : Nat) (x : Port) : (s.setPort p x).ports = SMap.set Port.reset s.ports p x := rfl
@[simp] theorem State.setPort_lanes (p : Nat) (x : Port) : (s.setPort p x).lanes = s.lanes := rfl
@[simp] theorem State.setPort_xrefs (p : Nat) (x : Port) : (s.setPort p x).xrefs = s.xrefs := rfl
@[simp] theorem State.setPort_jobs (p : Nat) (x : Port) : (s.setPort p x).jobs = s.jobs := rfl
@[simp] theorem State.setPort_abortLog (p : Nat) (x : Port) : (s.setPort p x).abortLog = s.abortLog := rfl
@[simp] theorem State.setPort_clearings (p : Nat) (x : Port) : (s.setPort p x).clearings = s.clearings := rfl
@[simp] theorem State.setPort_flops (p : Nat) (x : Port) : (s.setPort p x).flops = s.flops := rfl
@[simp] theorem State.setPort_wires (p : Nat) (x : Port) : (s.setPort p x).wires = s.wires := rfl
@[simp] theorem State.setPort_pins (p : Nat) (x : Port) : (s.setPort p x).pins = s.pins := rfl
@[simp] theorem State.setPort_pairs (p : Nat) (x : Port) : (s.setPort p x).pairs = s.pairs := rfl
@[simp] theorem State.setPort_nv (p : Nat) (x : Port) : (s.setPort p x).nv = s.nv := rfl
@[simp] theorem State.setPort_bootCopies (p : Nat) (x : Port) : (s.setPort p x).bootCopies = s.bootCopies := rfl
@[simp] theorem State.setPort_cfg (p : Nat) (x : Port) : (s.setPort p x).cfg = s.cfg := rfl
@[simp] theorem State.setPort_cfgDiff (p : Nat) (x : Port) : (s.setPort p x).cfgDiff = s.cfgDiff := rfl
@[simp] theorem State.setPort_shadow (p : Nat) (x : Port) : (s.setPort p x).shadow = s.shadow := rfl
@[simp] theorem State.setPort_shadowDiff (p : Nat) (x : Port) : (s.setPort p x).shadowDiff = s.shadowDiff := rfl
@[simp] theorem State.setPort_decoded (p : Nat) (x : Port) : (s.setPort p x).decoded = s.decoded := rfl
@[simp] theorem State.setPort_frameMap (p : Nat) (x : Port) : (s.setPort p x).frameMap = s.frameMap := rfl
@[simp] theorem State.setPort_shadowRelease (p : Nat) (x : Port) : (s.setPort p x).shadowRelease = s.shadowRelease := rfl
@[simp] theorem State.setPort_switch (p : Nat) (x : Port) : (s.setPort p x).switch = s.switch := rfl
@[simp] theorem State.setPort_groveNext (p : Nat) (x : Port) : (s.setPort p x).groveNext = s.groveNext := rfl
@[simp] theorem State.setPort_scrubAt (p : Nat) (x : Port) : (s.setPort p x).scrubAt = s.scrubAt := rfl
@[simp] theorem State.setPort_captures (p : Nat) (x : Port) : (s.setPort p x).captures = s.captures := rfl
@[simp] theorem State.setPort_rxFrames (p : Nat) (x : Port) : (s.setPort p x).rxFrames = s.rxFrames := rfl
@[simp] theorem State.setPort_plcaOk (p : Nat) (x : Port) : (s.setPort p x).plcaOk = s.plcaOk := rfl
@[simp] theorem State.setPort_plcaDown (p : Nat) (x : Port) : (s.setPort p x).plcaDown = s.plcaDown := rfl
@[simp] theorem State.setPort_revert (p : Nat) (x : Port) : (s.setPort p x).revert = s.revert := rfl
@[simp] theorem State.setPort_sessions (p : Nat) (x : Port) : (s.setPort p x).sessions = s.sessions := rfl
@[simp] theorem State.setPort_halfOpen (p : Nat) (x : Port) : (s.setPort p x).halfOpen = s.halfOpen := rfl
@[simp] theorem State.setPort_lastSession (p : Nat) (x : Port) : (s.setPort p x).lastSession = s.lastSession := rfl
@[simp] theorem State.setPort_sessionUse (p : Nat) (x : Port) : (s.setPort p x).sessionUse = s.sessionUse := rfl
@[simp] theorem State.setPort_challenge (p : Nat) (x : Port) : (s.setPort p x).challenge = s.challenge := rfl
@[simp] theorem State.setPort_actions (p : Nat) (x : Port) : (s.setPort p x).actions = s.actions := rfl
@[simp] theorem State.setPort_snapAreas (p : Nat) (x : Port) : (s.setPort p x).snapAreas = s.snapAreas := rfl
@[simp] theorem State.setPort_snapNewest (p : Nat) (x : Port) : (s.setPort p x).snapNewest = s.snapNewest := rfl
@[simp] theorem State.setPort_kept (p : Nat) (x : Port) : (s.setPort p x).kept = s.kept := rfl
@[simp] theorem State.setPort_nextReport (p : Nat) (x : Port) : (s.setPort p x).nextReport = s.nextReport := rfl
@[simp] theorem State.setPort_ats (p : Nat) (x : Port) : (s.setPort p x).ats = s.ats := rfl
@[simp] theorem State.setPort_hostOff (p : Nat) (x : Port) : (s.setPort p x).hostOff = s.hostOff := rfl
@[simp] theorem State.setPort_funcs (p : Nat) (x : Port) : (s.setPort p x).funcs = s.funcs := rfl
@[simp] theorem State.setPort_bells (p : Nat) (x : Port) : (s.setPort p x).bells = s.bells := rfl
@[simp] theorem State.setPort_heldBar0 (p : Nat) (x : Port) : (s.setPort p x).heldBar0 = s.heldBar0 := rfl
@[simp] theorem State.setPort_latches (p : Nat) (x : Port) : (s.setPort p x).latches = s.latches := rfl
@[simp] theorem State.setPort_endpointReady (p : Nat) (x : Port) : (s.setPort p x).endpointReady = s.endpointReady := rfl
@[simp] theorem State.setPort_statusSent (p : Nat) (x : Port) : (s.setPort p x).statusSent = s.statusSent := rfl
@[simp] theorem State.setPort_sensors (p : Nat) (x : Port) : (s.setPort p x).sensors = s.sensors := rfl
@[simp] theorem State.setPort_packageSamples (p : Nat) (x : Port) : (s.setPort p x).packageSamples = s.packageSamples := rfl
@[simp] theorem State.setPort_energyRest (p : Nat) (x : Port) : (s.setPort p x).energyRest = s.energyRest := rfl
@[simp] theorem State.setPort_telemetrySamples (p : Nat) (x : Port) : (s.setPort p x).telemetrySamples = s.telemetrySamples := rfl
@[simp] theorem State.setPort_diePower (p : Nat) (x : Port) : (s.setPort p x).diePower = s.diePower := rfl
@[simp] theorem State.setPort_stackHot (p : Nat) (x : Port) : (s.setPort p x).stackHot = s.stackHot := rfl
@[simp] theorem State.setPort_ranger (p : Nat) (x : Port) : (s.setPort p x).ranger = s.ranger := rfl
@[simp] theorem State.setPort_watchdog (p : Nat) (x : Port) : (s.setPort p x).watchdog = s.watchdog := rfl
@[simp] theorem State.setPort_rerouteDue (p : Nat) (x : Port) : (s.setPort p x).rerouteDue = s.rerouteDue := rfl
@[simp] theorem State.setPort_heldRecords (p : Nat) (x : Port) : (s.setPort p x).heldRecords = s.heldRecords := rfl
@[simp] theorem State.setPort_stewards (p : Nat) (x : Port) : (s.setPort p x).stewards = s.stewards := rfl
@[simp] theorem State.setPort_stalls (p : Nat) (x : Port) : (s.setPort p x).stalls = s.stalls := rfl
@[simp] theorem State.setPort_logSerial (p : Nat) (x : Port) : (s.setPort p x).logSerial = s.logSerial := rfl
@[simp] theorem State.setPort_logUnread (p : Nat) (x : Port) : (s.setPort p x).logUnread = s.logUnread := rfl
@[simp] theorem State.setPort_tests (p : Nat) (x : Port) : (s.setPort p x).tests = s.tests := rfl
@[simp] theorem State.setPort_selfTest (p : Nat) (x : Port) : (s.setPort p x).selfTest = s.selfTest := rfl
@[simp] theorem State.setPort_hssMarks (p : Nat) (x : Port) : (s.setPort p x).hssMarks = s.hssMarks := rfl
@[simp] theorem State.setPort_minimaOk (p : Nat) (x : Port) : (s.setPort p x).minimaOk = s.minimaOk := rfl
@[simp] theorem State.setPort_spdmSecured (p : Nat) (x : Port) : (s.setPort p x).spdmSecured = s.spdmSecured := rfl
@[simp] theorem State.setPort_ideKeys (p : Nat) (x : Port) : (s.setPort p x).ideKeys = s.ideKeys := rfl
@[simp] theorem State.setPort_devRstN (p : Nat) (x : Port) : (s.setPort p x).devRstN = s.devRstN := rfl
@[simp] theorem State.setPort_perstN (p : Nat) (x : Port) : (s.setPort p x).perstN = s.perstN := rfl
@[simp] theorem State.setPort_mclkLocked (p : Nat) (x : Port) : (s.setPort p x).mclkLocked = s.mclkLocked := rfl
@[simp] theorem State.setPort_booted (p : Nat) (x : Port) : (s.setPort p x).booted = s.booted := rfl
@[simp] theorem State.setPort_arefLost (p : Nat) (x : Port) : (s.setPort p x).arefLost = s.arefLost := rfl
@[simp] theorem State.setPort_computeReady (p : Nat) (x : Port) : (s.setPort p x).computeReady = s.computeReady := rfl
@[simp] theorem State.setPort_coreRetry (p : Nat) (x : Port) : (s.setPort p x).coreRetry = s.coreRetry := rfl
@[simp] theorem State.setPort_refreshOff (p : Nat) (x : Port) : (s.setPort p x).refreshOff = s.refreshOff := rfl

/-! ## setLane -/

@[simp] theorem State.setLane_pending (l : Nat) (x : Lane) : (s.setLane l x).pending = s.pending := rfl
@[simp] theorem State.setLane_free (l : Nat) (x : Lane) : (s.setLane l x).free = s.free := rfl
@[simp] theorem State.setLane_out (l : Nat) (x : Lane) : (s.setLane l x).out = s.out := rfl
@[simp] theorem State.setLane_dict (l : Nat) (x : Lane) : (s.setLane l x).dict = s.dict := rfl
@[simp] theorem State.setLane_accepted (l : Nat) (x : Lane) : (s.setLane l x).accepted = s.accepted := rfl
@[simp] theorem State.setLane_mem (l : Nat) (x : Lane) : (s.setLane l x).mem = s.mem := rfl
@[simp] theorem State.setLane_scram (l : Nat) (x : Lane) : (s.setLane l x).scram = s.scram := rfl
@[simp] theorem State.setLane_writeBack (l : Nat) (x : Lane) : (s.setLane l x).writeBack = s.writeBack := rfl
@[simp] theorem State.setLane_reports (l : Nat) (x : Lane) : (s.setLane l x).reports = s.reports := rfl
@[simp] theorem State.setLane_sramDiff (l : Nat) (x : Lane) : (s.setLane l x).sramDiff = s.sramDiff := rfl
@[simp] theorem State.setLane_stackDiff (l : Nat) (x : Lane) : (s.setLane l x).stackDiff = s.stackDiff := rfl
@[simp] theorem State.setLane_written (l : Nat) (x : Lane) : (s.setLane l x).written = s.written := rfl
@[simp] theorem State.setLane_mirror (l : Nat) (x : Lane) : (s.setLane l x).mirror = s.mirror := rfl
@[simp] theorem State.setLane_stands (l : Nat) (x : Lane) : (s.setLane l x).stands = s.stands := rfl
@[simp] theorem State.setLane_groves (l : Nat) (x : Lane) : (s.setLane l x).groves = s.groves := rfl
@[simp] theorem State.setLane_tiles (l : Nat) (x : Lane) : (s.setLane l x).tiles = s.tiles := rfl
@[simp] theorem State.setLane_ctxs (l : Nat) (x : Lane) : (s.setLane l x).ctxs = s.ctxs := rfl
@[simp] theorem State.setLane_slots (l : Nat) (x : Lane) : (s.setLane l x).slots = s.slots := rfl
@[simp] theorem State.setLane_freed (l : Nat) (x : Lane) : (s.setLane l x).freed = s.freed := rfl
@[simp] theorem State.setLane_rootStacks (l : Nat) (x : Lane) : (s.setLane l x).rootStacks = s.rootStacks := rfl
@[simp] theorem State.setLane_windowTaken (l : Nat) (x : Lane) : (s.setLane l x).windowTaken = s.windowTaken := rfl
@[simp] theorem State.setLane_patrol (l : Nat) (x : Lane) : (s.setLane l x).patrol = s.patrol := rfl
@[simp] theorem State.setLane_fifos (l : Nat) (x : Lane) : (s.setLane l x).fifos = s.fifos := rfl
@[simp] theorem State.setLane_rx (l : Nat) (x : Lane) : (s.setLane l x).rx = s.rx := rfl
@[simp] theorem State.setLane_outst (l : Nat) (x : Lane) : (s.setLane l x).outst = s.outst := rfl
@[simp] theorem State.setLane_mismatches (l : Nat) (x : Lane) : (s.setLane l x).mismatches = s.mismatches := rfl
@[simp] theorem State.setLane_turns (l : Nat) (x : Lane) : (s.setLane l x).turns = s.turns := rfl
@[simp] theorem State.setLane_treeDebts (l : Nat) (x : Lane) : (s.setLane l x).treeDebts = s.treeDebts := rfl
@[simp] theorem State.setLane_treeOff (l : Nat) (x : Lane) : (s.setLane l x).treeOff = s.treeOff := rfl
@[simp] theorem State.setLane_treeSent (l : Nat) (x : Lane) : (s.setLane l x).treeSent = s.treeSent := rfl
@[simp] theorem State.setLane_treeMasks (l : Nat) (x : Lane) : (s.setLane l x).treeMasks = s.treeMasks := rfl
@[simp] theorem State.setLane_ports (l : Nat) (x : Lane) : (s.setLane l x).ports = s.ports := rfl
@[simp] theorem State.setLane_lanes (l : Nat) (x : Lane) : (s.setLane l x).lanes = SMap.set Lane.reset s.lanes l x := rfl
@[simp] theorem State.setLane_xrefs (l : Nat) (x : Lane) : (s.setLane l x).xrefs = s.xrefs := rfl
@[simp] theorem State.setLane_jobs (l : Nat) (x : Lane) : (s.setLane l x).jobs = s.jobs := rfl
@[simp] theorem State.setLane_abortLog (l : Nat) (x : Lane) : (s.setLane l x).abortLog = s.abortLog := rfl
@[simp] theorem State.setLane_clearings (l : Nat) (x : Lane) : (s.setLane l x).clearings = s.clearings := rfl
@[simp] theorem State.setLane_flops (l : Nat) (x : Lane) : (s.setLane l x).flops = s.flops := rfl
@[simp] theorem State.setLane_wires (l : Nat) (x : Lane) : (s.setLane l x).wires = s.wires := rfl
@[simp] theorem State.setLane_pins (l : Nat) (x : Lane) : (s.setLane l x).pins = s.pins := rfl
@[simp] theorem State.setLane_pairs (l : Nat) (x : Lane) : (s.setLane l x).pairs = s.pairs := rfl
@[simp] theorem State.setLane_nv (l : Nat) (x : Lane) : (s.setLane l x).nv = s.nv := rfl
@[simp] theorem State.setLane_bootCopies (l : Nat) (x : Lane) : (s.setLane l x).bootCopies = s.bootCopies := rfl
@[simp] theorem State.setLane_cfg (l : Nat) (x : Lane) : (s.setLane l x).cfg = s.cfg := rfl
@[simp] theorem State.setLane_cfgDiff (l : Nat) (x : Lane) : (s.setLane l x).cfgDiff = s.cfgDiff := rfl
@[simp] theorem State.setLane_shadow (l : Nat) (x : Lane) : (s.setLane l x).shadow = s.shadow := rfl
@[simp] theorem State.setLane_shadowDiff (l : Nat) (x : Lane) : (s.setLane l x).shadowDiff = s.shadowDiff := rfl
@[simp] theorem State.setLane_decoded (l : Nat) (x : Lane) : (s.setLane l x).decoded = s.decoded := rfl
@[simp] theorem State.setLane_frameMap (l : Nat) (x : Lane) : (s.setLane l x).frameMap = s.frameMap := rfl
@[simp] theorem State.setLane_shadowRelease (l : Nat) (x : Lane) : (s.setLane l x).shadowRelease = s.shadowRelease := rfl
@[simp] theorem State.setLane_switch (l : Nat) (x : Lane) : (s.setLane l x).switch = s.switch := rfl
@[simp] theorem State.setLane_groveNext (l : Nat) (x : Lane) : (s.setLane l x).groveNext = s.groveNext := rfl
@[simp] theorem State.setLane_scrubAt (l : Nat) (x : Lane) : (s.setLane l x).scrubAt = s.scrubAt := rfl
@[simp] theorem State.setLane_captures (l : Nat) (x : Lane) : (s.setLane l x).captures = s.captures := rfl
@[simp] theorem State.setLane_rxFrames (l : Nat) (x : Lane) : (s.setLane l x).rxFrames = s.rxFrames := rfl
@[simp] theorem State.setLane_plcaOk (l : Nat) (x : Lane) : (s.setLane l x).plcaOk = s.plcaOk := rfl
@[simp] theorem State.setLane_plcaDown (l : Nat) (x : Lane) : (s.setLane l x).plcaDown = s.plcaDown := rfl
@[simp] theorem State.setLane_revert (l : Nat) (x : Lane) : (s.setLane l x).revert = s.revert := rfl
@[simp] theorem State.setLane_sessions (l : Nat) (x : Lane) : (s.setLane l x).sessions = s.sessions := rfl
@[simp] theorem State.setLane_halfOpen (l : Nat) (x : Lane) : (s.setLane l x).halfOpen = s.halfOpen := rfl
@[simp] theorem State.setLane_lastSession (l : Nat) (x : Lane) : (s.setLane l x).lastSession = s.lastSession := rfl
@[simp] theorem State.setLane_sessionUse (l : Nat) (x : Lane) : (s.setLane l x).sessionUse = s.sessionUse := rfl
@[simp] theorem State.setLane_challenge (l : Nat) (x : Lane) : (s.setLane l x).challenge = s.challenge := rfl
@[simp] theorem State.setLane_actions (l : Nat) (x : Lane) : (s.setLane l x).actions = s.actions := rfl
@[simp] theorem State.setLane_snapAreas (l : Nat) (x : Lane) : (s.setLane l x).snapAreas = s.snapAreas := rfl
@[simp] theorem State.setLane_snapNewest (l : Nat) (x : Lane) : (s.setLane l x).snapNewest = s.snapNewest := rfl
@[simp] theorem State.setLane_kept (l : Nat) (x : Lane) : (s.setLane l x).kept = s.kept := rfl
@[simp] theorem State.setLane_nextReport (l : Nat) (x : Lane) : (s.setLane l x).nextReport = s.nextReport := rfl
@[simp] theorem State.setLane_ats (l : Nat) (x : Lane) : (s.setLane l x).ats = s.ats := rfl
@[simp] theorem State.setLane_hostOff (l : Nat) (x : Lane) : (s.setLane l x).hostOff = s.hostOff := rfl
@[simp] theorem State.setLane_funcs (l : Nat) (x : Lane) : (s.setLane l x).funcs = s.funcs := rfl
@[simp] theorem State.setLane_bells (l : Nat) (x : Lane) : (s.setLane l x).bells = s.bells := rfl
@[simp] theorem State.setLane_heldBar0 (l : Nat) (x : Lane) : (s.setLane l x).heldBar0 = s.heldBar0 := rfl
@[simp] theorem State.setLane_latches (l : Nat) (x : Lane) : (s.setLane l x).latches = s.latches := rfl
@[simp] theorem State.setLane_endpointReady (l : Nat) (x : Lane) : (s.setLane l x).endpointReady = s.endpointReady := rfl
@[simp] theorem State.setLane_statusSent (l : Nat) (x : Lane) : (s.setLane l x).statusSent = s.statusSent := rfl
@[simp] theorem State.setLane_sensors (l : Nat) (x : Lane) : (s.setLane l x).sensors = s.sensors := rfl
@[simp] theorem State.setLane_packageSamples (l : Nat) (x : Lane) : (s.setLane l x).packageSamples = s.packageSamples := rfl
@[simp] theorem State.setLane_energyRest (l : Nat) (x : Lane) : (s.setLane l x).energyRest = s.energyRest := rfl
@[simp] theorem State.setLane_telemetrySamples (l : Nat) (x : Lane) : (s.setLane l x).telemetrySamples = s.telemetrySamples := rfl
@[simp] theorem State.setLane_diePower (l : Nat) (x : Lane) : (s.setLane l x).diePower = s.diePower := rfl
@[simp] theorem State.setLane_stackHot (l : Nat) (x : Lane) : (s.setLane l x).stackHot = s.stackHot := rfl
@[simp] theorem State.setLane_ranger (l : Nat) (x : Lane) : (s.setLane l x).ranger = s.ranger := rfl
@[simp] theorem State.setLane_watchdog (l : Nat) (x : Lane) : (s.setLane l x).watchdog = s.watchdog := rfl
@[simp] theorem State.setLane_rerouteDue (l : Nat) (x : Lane) : (s.setLane l x).rerouteDue = s.rerouteDue := rfl
@[simp] theorem State.setLane_heldRecords (l : Nat) (x : Lane) : (s.setLane l x).heldRecords = s.heldRecords := rfl
@[simp] theorem State.setLane_stewards (l : Nat) (x : Lane) : (s.setLane l x).stewards = s.stewards := rfl
@[simp] theorem State.setLane_stalls (l : Nat) (x : Lane) : (s.setLane l x).stalls = s.stalls := rfl
@[simp] theorem State.setLane_logSerial (l : Nat) (x : Lane) : (s.setLane l x).logSerial = s.logSerial := rfl
@[simp] theorem State.setLane_logUnread (l : Nat) (x : Lane) : (s.setLane l x).logUnread = s.logUnread := rfl
@[simp] theorem State.setLane_tests (l : Nat) (x : Lane) : (s.setLane l x).tests = s.tests := rfl
@[simp] theorem State.setLane_selfTest (l : Nat) (x : Lane) : (s.setLane l x).selfTest = s.selfTest := rfl
@[simp] theorem State.setLane_hssMarks (l : Nat) (x : Lane) : (s.setLane l x).hssMarks = s.hssMarks := rfl
@[simp] theorem State.setLane_minimaOk (l : Nat) (x : Lane) : (s.setLane l x).minimaOk = s.minimaOk := rfl
@[simp] theorem State.setLane_spdmSecured (l : Nat) (x : Lane) : (s.setLane l x).spdmSecured = s.spdmSecured := rfl
@[simp] theorem State.setLane_ideKeys (l : Nat) (x : Lane) : (s.setLane l x).ideKeys = s.ideKeys := rfl
@[simp] theorem State.setLane_devRstN (l : Nat) (x : Lane) : (s.setLane l x).devRstN = s.devRstN := rfl
@[simp] theorem State.setLane_perstN (l : Nat) (x : Lane) : (s.setLane l x).perstN = s.perstN := rfl
@[simp] theorem State.setLane_mclkLocked (l : Nat) (x : Lane) : (s.setLane l x).mclkLocked = s.mclkLocked := rfl
@[simp] theorem State.setLane_booted (l : Nat) (x : Lane) : (s.setLane l x).booted = s.booted := rfl
@[simp] theorem State.setLane_arefLost (l : Nat) (x : Lane) : (s.setLane l x).arefLost = s.arefLost := rfl
@[simp] theorem State.setLane_computeReady (l : Nat) (x : Lane) : (s.setLane l x).computeReady = s.computeReady := rfl
@[simp] theorem State.setLane_coreRetry (l : Nat) (x : Lane) : (s.setLane l x).coreRetry = s.coreRetry := rfl
@[simp] theorem State.setLane_refreshOff (l : Nat) (x : Lane) : (s.setLane l x).refreshOff = s.refreshOff := rfl

/-! ## setDie -/

@[simp] theorem State.setDie_pending (d : Nat) (x : DiePower) : (s.setDie d x).pending = s.pending := rfl
@[simp] theorem State.setDie_free (d : Nat) (x : DiePower) : (s.setDie d x).free = s.free := rfl
@[simp] theorem State.setDie_out (d : Nat) (x : DiePower) : (s.setDie d x).out = s.out := rfl
@[simp] theorem State.setDie_dict (d : Nat) (x : DiePower) : (s.setDie d x).dict = s.dict := rfl
@[simp] theorem State.setDie_accepted (d : Nat) (x : DiePower) : (s.setDie d x).accepted = s.accepted := rfl
@[simp] theorem State.setDie_mem (d : Nat) (x : DiePower) : (s.setDie d x).mem = s.mem := rfl
@[simp] theorem State.setDie_scram (d : Nat) (x : DiePower) : (s.setDie d x).scram = s.scram := rfl
@[simp] theorem State.setDie_writeBack (d : Nat) (x : DiePower) : (s.setDie d x).writeBack = s.writeBack := rfl
@[simp] theorem State.setDie_reports (d : Nat) (x : DiePower) : (s.setDie d x).reports = s.reports := rfl
@[simp] theorem State.setDie_sramDiff (d : Nat) (x : DiePower) : (s.setDie d x).sramDiff = s.sramDiff := rfl
@[simp] theorem State.setDie_stackDiff (d : Nat) (x : DiePower) : (s.setDie d x).stackDiff = s.stackDiff := rfl
@[simp] theorem State.setDie_written (d : Nat) (x : DiePower) : (s.setDie d x).written = s.written := rfl
@[simp] theorem State.setDie_mirror (d : Nat) (x : DiePower) : (s.setDie d x).mirror = s.mirror := rfl
@[simp] theorem State.setDie_stands (d : Nat) (x : DiePower) : (s.setDie d x).stands = s.stands := rfl
@[simp] theorem State.setDie_groves (d : Nat) (x : DiePower) : (s.setDie d x).groves = s.groves := rfl
@[simp] theorem State.setDie_tiles (d : Nat) (x : DiePower) : (s.setDie d x).tiles = s.tiles := rfl
@[simp] theorem State.setDie_ctxs (d : Nat) (x : DiePower) : (s.setDie d x).ctxs = s.ctxs := rfl
@[simp] theorem State.setDie_slots (d : Nat) (x : DiePower) : (s.setDie d x).slots = s.slots := rfl
@[simp] theorem State.setDie_freed (d : Nat) (x : DiePower) : (s.setDie d x).freed = s.freed := rfl
@[simp] theorem State.setDie_rootStacks (d : Nat) (x : DiePower) : (s.setDie d x).rootStacks = s.rootStacks := rfl
@[simp] theorem State.setDie_windowTaken (d : Nat) (x : DiePower) : (s.setDie d x).windowTaken = s.windowTaken := rfl
@[simp] theorem State.setDie_patrol (d : Nat) (x : DiePower) : (s.setDie d x).patrol = s.patrol := rfl
@[simp] theorem State.setDie_fifos (d : Nat) (x : DiePower) : (s.setDie d x).fifos = s.fifos := rfl
@[simp] theorem State.setDie_rx (d : Nat) (x : DiePower) : (s.setDie d x).rx = s.rx := rfl
@[simp] theorem State.setDie_outst (d : Nat) (x : DiePower) : (s.setDie d x).outst = s.outst := rfl
@[simp] theorem State.setDie_mismatches (d : Nat) (x : DiePower) : (s.setDie d x).mismatches = s.mismatches := rfl
@[simp] theorem State.setDie_turns (d : Nat) (x : DiePower) : (s.setDie d x).turns = s.turns := rfl
@[simp] theorem State.setDie_treeDebts (d : Nat) (x : DiePower) : (s.setDie d x).treeDebts = s.treeDebts := rfl
@[simp] theorem State.setDie_treeOff (d : Nat) (x : DiePower) : (s.setDie d x).treeOff = s.treeOff := rfl
@[simp] theorem State.setDie_treeSent (d : Nat) (x : DiePower) : (s.setDie d x).treeSent = s.treeSent := rfl
@[simp] theorem State.setDie_treeMasks (d : Nat) (x : DiePower) : (s.setDie d x).treeMasks = s.treeMasks := rfl
@[simp] theorem State.setDie_ports (d : Nat) (x : DiePower) : (s.setDie d x).ports = s.ports := rfl
@[simp] theorem State.setDie_lanes (d : Nat) (x : DiePower) : (s.setDie d x).lanes = s.lanes := rfl
@[simp] theorem State.setDie_xrefs (d : Nat) (x : DiePower) : (s.setDie d x).xrefs = s.xrefs := rfl
@[simp] theorem State.setDie_jobs (d : Nat) (x : DiePower) : (s.setDie d x).jobs = s.jobs := rfl
@[simp] theorem State.setDie_abortLog (d : Nat) (x : DiePower) : (s.setDie d x).abortLog = s.abortLog := rfl
@[simp] theorem State.setDie_clearings (d : Nat) (x : DiePower) : (s.setDie d x).clearings = s.clearings := rfl
@[simp] theorem State.setDie_flops (d : Nat) (x : DiePower) : (s.setDie d x).flops = s.flops := rfl
@[simp] theorem State.setDie_wires (d : Nat) (x : DiePower) : (s.setDie d x).wires = s.wires := rfl
@[simp] theorem State.setDie_pins (d : Nat) (x : DiePower) : (s.setDie d x).pins = s.pins := rfl
@[simp] theorem State.setDie_pairs (d : Nat) (x : DiePower) : (s.setDie d x).pairs = s.pairs := rfl
@[simp] theorem State.setDie_nv (d : Nat) (x : DiePower) : (s.setDie d x).nv = s.nv := rfl
@[simp] theorem State.setDie_bootCopies (d : Nat) (x : DiePower) : (s.setDie d x).bootCopies = s.bootCopies := rfl
@[simp] theorem State.setDie_cfg (d : Nat) (x : DiePower) : (s.setDie d x).cfg = s.cfg := rfl
@[simp] theorem State.setDie_cfgDiff (d : Nat) (x : DiePower) : (s.setDie d x).cfgDiff = s.cfgDiff := rfl
@[simp] theorem State.setDie_shadow (d : Nat) (x : DiePower) : (s.setDie d x).shadow = s.shadow := rfl
@[simp] theorem State.setDie_shadowDiff (d : Nat) (x : DiePower) : (s.setDie d x).shadowDiff = s.shadowDiff := rfl
@[simp] theorem State.setDie_decoded (d : Nat) (x : DiePower) : (s.setDie d x).decoded = s.decoded := rfl
@[simp] theorem State.setDie_frameMap (d : Nat) (x : DiePower) : (s.setDie d x).frameMap = s.frameMap := rfl
@[simp] theorem State.setDie_shadowRelease (d : Nat) (x : DiePower) : (s.setDie d x).shadowRelease = s.shadowRelease := rfl
@[simp] theorem State.setDie_switch (d : Nat) (x : DiePower) : (s.setDie d x).switch = s.switch := rfl
@[simp] theorem State.setDie_groveNext (d : Nat) (x : DiePower) : (s.setDie d x).groveNext = s.groveNext := rfl
@[simp] theorem State.setDie_scrubAt (d : Nat) (x : DiePower) : (s.setDie d x).scrubAt = s.scrubAt := rfl
@[simp] theorem State.setDie_captures (d : Nat) (x : DiePower) : (s.setDie d x).captures = s.captures := rfl
@[simp] theorem State.setDie_rxFrames (d : Nat) (x : DiePower) : (s.setDie d x).rxFrames = s.rxFrames := rfl
@[simp] theorem State.setDie_plcaOk (d : Nat) (x : DiePower) : (s.setDie d x).plcaOk = s.plcaOk := rfl
@[simp] theorem State.setDie_plcaDown (d : Nat) (x : DiePower) : (s.setDie d x).plcaDown = s.plcaDown := rfl
@[simp] theorem State.setDie_revert (d : Nat) (x : DiePower) : (s.setDie d x).revert = s.revert := rfl
@[simp] theorem State.setDie_sessions (d : Nat) (x : DiePower) : (s.setDie d x).sessions = s.sessions := rfl
@[simp] theorem State.setDie_halfOpen (d : Nat) (x : DiePower) : (s.setDie d x).halfOpen = s.halfOpen := rfl
@[simp] theorem State.setDie_lastSession (d : Nat) (x : DiePower) : (s.setDie d x).lastSession = s.lastSession := rfl
@[simp] theorem State.setDie_sessionUse (d : Nat) (x : DiePower) : (s.setDie d x).sessionUse = s.sessionUse := rfl
@[simp] theorem State.setDie_challenge (d : Nat) (x : DiePower) : (s.setDie d x).challenge = s.challenge := rfl
@[simp] theorem State.setDie_actions (d : Nat) (x : DiePower) : (s.setDie d x).actions = s.actions := rfl
@[simp] theorem State.setDie_snapAreas (d : Nat) (x : DiePower) : (s.setDie d x).snapAreas = s.snapAreas := rfl
@[simp] theorem State.setDie_snapNewest (d : Nat) (x : DiePower) : (s.setDie d x).snapNewest = s.snapNewest := rfl
@[simp] theorem State.setDie_kept (d : Nat) (x : DiePower) : (s.setDie d x).kept = s.kept := rfl
@[simp] theorem State.setDie_nextReport (d : Nat) (x : DiePower) : (s.setDie d x).nextReport = s.nextReport := rfl
@[simp] theorem State.setDie_ats (d : Nat) (x : DiePower) : (s.setDie d x).ats = s.ats := rfl
@[simp] theorem State.setDie_hostOff (d : Nat) (x : DiePower) : (s.setDie d x).hostOff = s.hostOff := rfl
@[simp] theorem State.setDie_funcs (d : Nat) (x : DiePower) : (s.setDie d x).funcs = s.funcs := rfl
@[simp] theorem State.setDie_bells (d : Nat) (x : DiePower) : (s.setDie d x).bells = s.bells := rfl
@[simp] theorem State.setDie_heldBar0 (d : Nat) (x : DiePower) : (s.setDie d x).heldBar0 = s.heldBar0 := rfl
@[simp] theorem State.setDie_latches (d : Nat) (x : DiePower) : (s.setDie d x).latches = s.latches := rfl
@[simp] theorem State.setDie_endpointReady (d : Nat) (x : DiePower) : (s.setDie d x).endpointReady = s.endpointReady := rfl
@[simp] theorem State.setDie_statusSent (d : Nat) (x : DiePower) : (s.setDie d x).statusSent = s.statusSent := rfl
@[simp] theorem State.setDie_sensors (d : Nat) (x : DiePower) : (s.setDie d x).sensors = s.sensors := rfl
@[simp] theorem State.setDie_packageSamples (d : Nat) (x : DiePower) : (s.setDie d x).packageSamples = s.packageSamples := rfl
@[simp] theorem State.setDie_energyRest (d : Nat) (x : DiePower) : (s.setDie d x).energyRest = s.energyRest := rfl
@[simp] theorem State.setDie_telemetrySamples (d : Nat) (x : DiePower) : (s.setDie d x).telemetrySamples = s.telemetrySamples := rfl
@[simp] theorem State.setDie_diePower (d : Nat) (x : DiePower) : (s.setDie d x).diePower = SMap.set DiePower.reset s.diePower d x := rfl
@[simp] theorem State.setDie_stackHot (d : Nat) (x : DiePower) : (s.setDie d x).stackHot = s.stackHot := rfl
@[simp] theorem State.setDie_ranger (d : Nat) (x : DiePower) : (s.setDie d x).ranger = s.ranger := rfl
@[simp] theorem State.setDie_watchdog (d : Nat) (x : DiePower) : (s.setDie d x).watchdog = s.watchdog := rfl
@[simp] theorem State.setDie_rerouteDue (d : Nat) (x : DiePower) : (s.setDie d x).rerouteDue = s.rerouteDue := rfl
@[simp] theorem State.setDie_heldRecords (d : Nat) (x : DiePower) : (s.setDie d x).heldRecords = s.heldRecords := rfl
@[simp] theorem State.setDie_stewards (d : Nat) (x : DiePower) : (s.setDie d x).stewards = s.stewards := rfl
@[simp] theorem State.setDie_stalls (d : Nat) (x : DiePower) : (s.setDie d x).stalls = s.stalls := rfl
@[simp] theorem State.setDie_logSerial (d : Nat) (x : DiePower) : (s.setDie d x).logSerial = s.logSerial := rfl
@[simp] theorem State.setDie_logUnread (d : Nat) (x : DiePower) : (s.setDie d x).logUnread = s.logUnread := rfl
@[simp] theorem State.setDie_tests (d : Nat) (x : DiePower) : (s.setDie d x).tests = s.tests := rfl
@[simp] theorem State.setDie_selfTest (d : Nat) (x : DiePower) : (s.setDie d x).selfTest = s.selfTest := rfl
@[simp] theorem State.setDie_hssMarks (d : Nat) (x : DiePower) : (s.setDie d x).hssMarks = s.hssMarks := rfl
@[simp] theorem State.setDie_minimaOk (d : Nat) (x : DiePower) : (s.setDie d x).minimaOk = s.minimaOk := rfl
@[simp] theorem State.setDie_spdmSecured (d : Nat) (x : DiePower) : (s.setDie d x).spdmSecured = s.spdmSecured := rfl
@[simp] theorem State.setDie_ideKeys (d : Nat) (x : DiePower) : (s.setDie d x).ideKeys = s.ideKeys := rfl
@[simp] theorem State.setDie_devRstN (d : Nat) (x : DiePower) : (s.setDie d x).devRstN = s.devRstN := rfl
@[simp] theorem State.setDie_perstN (d : Nat) (x : DiePower) : (s.setDie d x).perstN = s.perstN := rfl
@[simp] theorem State.setDie_mclkLocked (d : Nat) (x : DiePower) : (s.setDie d x).mclkLocked = s.mclkLocked := rfl
@[simp] theorem State.setDie_booted (d : Nat) (x : DiePower) : (s.setDie d x).booted = s.booted := rfl
@[simp] theorem State.setDie_arefLost (d : Nat) (x : DiePower) : (s.setDie d x).arefLost = s.arefLost := rfl
@[simp] theorem State.setDie_computeReady (d : Nat) (x : DiePower) : (s.setDie d x).computeReady = s.computeReady := rfl
@[simp] theorem State.setDie_coreRetry (d : Nat) (x : DiePower) : (s.setDie d x).coreRetry = s.coreRetry := rfl
@[simp] theorem State.setDie_refreshOff (d : Nat) (x : DiePower) : (s.setDie d x).refreshOff = s.refreshOff := rfl

/-! ## setWaiting -/

@[simp] theorem State.setWaiting_pending (key : Nat) (v : Option U64) : (s.setWaiting key v).pending = s.pending := rfl
@[simp] theorem State.setWaiting_free (key : Nat) (v : Option U64) : (s.setWaiting key v).free = s.free := rfl
@[simp] theorem State.setWaiting_out (key : Nat) (v : Option U64) : (s.setWaiting key v).out = s.out := rfl
@[simp] theorem State.setWaiting_dict (key : Nat) (v : Option U64) : (s.setWaiting key v).dict = s.dict := rfl
@[simp] theorem State.setWaiting_accepted (key : Nat) (v : Option U64) : (s.setWaiting key v).accepted = SMap.set none s.accepted key v := rfl
@[simp] theorem State.setWaiting_mem (key : Nat) (v : Option U64) : (s.setWaiting key v).mem = s.mem := rfl
@[simp] theorem State.setWaiting_scram (key : Nat) (v : Option U64) : (s.setWaiting key v).scram = s.scram := rfl
@[simp] theorem State.setWaiting_writeBack (key : Nat) (v : Option U64) : (s.setWaiting key v).writeBack = s.writeBack := rfl
@[simp] theorem State.setWaiting_reports (key : Nat) (v : Option U64) : (s.setWaiting key v).reports = s.reports := rfl
@[simp] theorem State.setWaiting_sramDiff (key : Nat) (v : Option U64) : (s.setWaiting key v).sramDiff = s.sramDiff := rfl
@[simp] theorem State.setWaiting_stackDiff (key : Nat) (v : Option U64) : (s.setWaiting key v).stackDiff = s.stackDiff := rfl
@[simp] theorem State.setWaiting_written (key : Nat) (v : Option U64) : (s.setWaiting key v).written = s.written := rfl
@[simp] theorem State.setWaiting_mirror (key : Nat) (v : Option U64) : (s.setWaiting key v).mirror = s.mirror := rfl
@[simp] theorem State.setWaiting_stands (key : Nat) (v : Option U64) : (s.setWaiting key v).stands = s.stands := rfl
@[simp] theorem State.setWaiting_groves (key : Nat) (v : Option U64) : (s.setWaiting key v).groves = s.groves := rfl
@[simp] theorem State.setWaiting_tiles (key : Nat) (v : Option U64) : (s.setWaiting key v).tiles = s.tiles := rfl
@[simp] theorem State.setWaiting_ctxs (key : Nat) (v : Option U64) : (s.setWaiting key v).ctxs = s.ctxs := rfl
@[simp] theorem State.setWaiting_slots (key : Nat) (v : Option U64) : (s.setWaiting key v).slots = s.slots := rfl
@[simp] theorem State.setWaiting_freed (key : Nat) (v : Option U64) : (s.setWaiting key v).freed = s.freed := rfl
@[simp] theorem State.setWaiting_rootStacks (key : Nat) (v : Option U64) : (s.setWaiting key v).rootStacks = s.rootStacks := rfl
@[simp] theorem State.setWaiting_windowTaken (key : Nat) (v : Option U64) : (s.setWaiting key v).windowTaken = s.windowTaken := rfl
@[simp] theorem State.setWaiting_patrol (key : Nat) (v : Option U64) : (s.setWaiting key v).patrol = s.patrol := rfl
@[simp] theorem State.setWaiting_fifos (key : Nat) (v : Option U64) : (s.setWaiting key v).fifos = s.fifos := rfl
@[simp] theorem State.setWaiting_rx (key : Nat) (v : Option U64) : (s.setWaiting key v).rx = s.rx := rfl
@[simp] theorem State.setWaiting_outst (key : Nat) (v : Option U64) : (s.setWaiting key v).outst = s.outst := rfl
@[simp] theorem State.setWaiting_mismatches (key : Nat) (v : Option U64) : (s.setWaiting key v).mismatches = s.mismatches := rfl
@[simp] theorem State.setWaiting_turns (key : Nat) (v : Option U64) : (s.setWaiting key v).turns = s.turns := rfl
@[simp] theorem State.setWaiting_treeDebts (key : Nat) (v : Option U64) : (s.setWaiting key v).treeDebts = s.treeDebts := rfl
@[simp] theorem State.setWaiting_treeOff (key : Nat) (v : Option U64) : (s.setWaiting key v).treeOff = s.treeOff := rfl
@[simp] theorem State.setWaiting_treeSent (key : Nat) (v : Option U64) : (s.setWaiting key v).treeSent = s.treeSent := rfl
@[simp] theorem State.setWaiting_treeMasks (key : Nat) (v : Option U64) : (s.setWaiting key v).treeMasks = s.treeMasks := rfl
@[simp] theorem State.setWaiting_ports (key : Nat) (v : Option U64) : (s.setWaiting key v).ports = s.ports := rfl
@[simp] theorem State.setWaiting_lanes (key : Nat) (v : Option U64) : (s.setWaiting key v).lanes = s.lanes := rfl
@[simp] theorem State.setWaiting_xrefs (key : Nat) (v : Option U64) : (s.setWaiting key v).xrefs = s.xrefs := rfl
@[simp] theorem State.setWaiting_jobs (key : Nat) (v : Option U64) : (s.setWaiting key v).jobs = s.jobs := rfl
@[simp] theorem State.setWaiting_abortLog (key : Nat) (v : Option U64) : (s.setWaiting key v).abortLog = s.abortLog := rfl
@[simp] theorem State.setWaiting_clearings (key : Nat) (v : Option U64) : (s.setWaiting key v).clearings = s.clearings := rfl
@[simp] theorem State.setWaiting_flops (key : Nat) (v : Option U64) : (s.setWaiting key v).flops = s.flops := rfl
@[simp] theorem State.setWaiting_wires (key : Nat) (v : Option U64) : (s.setWaiting key v).wires = s.wires := rfl
@[simp] theorem State.setWaiting_pins (key : Nat) (v : Option U64) : (s.setWaiting key v).pins = s.pins := rfl
@[simp] theorem State.setWaiting_pairs (key : Nat) (v : Option U64) : (s.setWaiting key v).pairs = s.pairs := rfl
@[simp] theorem State.setWaiting_nv (key : Nat) (v : Option U64) : (s.setWaiting key v).nv = s.nv := rfl
@[simp] theorem State.setWaiting_bootCopies (key : Nat) (v : Option U64) : (s.setWaiting key v).bootCopies = s.bootCopies := rfl
@[simp] theorem State.setWaiting_cfg (key : Nat) (v : Option U64) : (s.setWaiting key v).cfg = s.cfg := rfl
@[simp] theorem State.setWaiting_cfgDiff (key : Nat) (v : Option U64) : (s.setWaiting key v).cfgDiff = s.cfgDiff := rfl
@[simp] theorem State.setWaiting_shadow (key : Nat) (v : Option U64) : (s.setWaiting key v).shadow = s.shadow := rfl
@[simp] theorem State.setWaiting_shadowDiff (key : Nat) (v : Option U64) : (s.setWaiting key v).shadowDiff = s.shadowDiff := rfl
@[simp] theorem State.setWaiting_decoded (key : Nat) (v : Option U64) : (s.setWaiting key v).decoded = s.decoded := rfl
@[simp] theorem State.setWaiting_frameMap (key : Nat) (v : Option U64) : (s.setWaiting key v).frameMap = s.frameMap := rfl
@[simp] theorem State.setWaiting_shadowRelease (key : Nat) (v : Option U64) : (s.setWaiting key v).shadowRelease = s.shadowRelease := rfl
@[simp] theorem State.setWaiting_switch (key : Nat) (v : Option U64) : (s.setWaiting key v).switch = s.switch := rfl
@[simp] theorem State.setWaiting_groveNext (key : Nat) (v : Option U64) : (s.setWaiting key v).groveNext = s.groveNext := rfl
@[simp] theorem State.setWaiting_scrubAt (key : Nat) (v : Option U64) : (s.setWaiting key v).scrubAt = s.scrubAt := rfl
@[simp] theorem State.setWaiting_captures (key : Nat) (v : Option U64) : (s.setWaiting key v).captures = s.captures := rfl
@[simp] theorem State.setWaiting_rxFrames (key : Nat) (v : Option U64) : (s.setWaiting key v).rxFrames = s.rxFrames := rfl
@[simp] theorem State.setWaiting_plcaOk (key : Nat) (v : Option U64) : (s.setWaiting key v).plcaOk = s.plcaOk := rfl
@[simp] theorem State.setWaiting_plcaDown (key : Nat) (v : Option U64) : (s.setWaiting key v).plcaDown = s.plcaDown := rfl
@[simp] theorem State.setWaiting_revert (key : Nat) (v : Option U64) : (s.setWaiting key v).revert = s.revert := rfl
@[simp] theorem State.setWaiting_sessions (key : Nat) (v : Option U64) : (s.setWaiting key v).sessions = s.sessions := rfl
@[simp] theorem State.setWaiting_halfOpen (key : Nat) (v : Option U64) : (s.setWaiting key v).halfOpen = s.halfOpen := rfl
@[simp] theorem State.setWaiting_lastSession (key : Nat) (v : Option U64) : (s.setWaiting key v).lastSession = s.lastSession := rfl
@[simp] theorem State.setWaiting_sessionUse (key : Nat) (v : Option U64) : (s.setWaiting key v).sessionUse = s.sessionUse := rfl
@[simp] theorem State.setWaiting_challenge (key : Nat) (v : Option U64) : (s.setWaiting key v).challenge = s.challenge := rfl
@[simp] theorem State.setWaiting_actions (key : Nat) (v : Option U64) : (s.setWaiting key v).actions = s.actions := rfl
@[simp] theorem State.setWaiting_snapAreas (key : Nat) (v : Option U64) : (s.setWaiting key v).snapAreas = s.snapAreas := rfl
@[simp] theorem State.setWaiting_snapNewest (key : Nat) (v : Option U64) : (s.setWaiting key v).snapNewest = s.snapNewest := rfl
@[simp] theorem State.setWaiting_kept (key : Nat) (v : Option U64) : (s.setWaiting key v).kept = s.kept := rfl
@[simp] theorem State.setWaiting_nextReport (key : Nat) (v : Option U64) : (s.setWaiting key v).nextReport = s.nextReport := rfl
@[simp] theorem State.setWaiting_ats (key : Nat) (v : Option U64) : (s.setWaiting key v).ats = s.ats := rfl
@[simp] theorem State.setWaiting_hostOff (key : Nat) (v : Option U64) : (s.setWaiting key v).hostOff = s.hostOff := rfl
@[simp] theorem State.setWaiting_funcs (key : Nat) (v : Option U64) : (s.setWaiting key v).funcs = s.funcs := rfl
@[simp] theorem State.setWaiting_bells (key : Nat) (v : Option U64) : (s.setWaiting key v).bells = s.bells := rfl
@[simp] theorem State.setWaiting_heldBar0 (key : Nat) (v : Option U64) : (s.setWaiting key v).heldBar0 = s.heldBar0 := rfl
@[simp] theorem State.setWaiting_latches (key : Nat) (v : Option U64) : (s.setWaiting key v).latches = s.latches := rfl
@[simp] theorem State.setWaiting_endpointReady (key : Nat) (v : Option U64) : (s.setWaiting key v).endpointReady = s.endpointReady := rfl
@[simp] theorem State.setWaiting_statusSent (key : Nat) (v : Option U64) : (s.setWaiting key v).statusSent = s.statusSent := rfl
@[simp] theorem State.setWaiting_sensors (key : Nat) (v : Option U64) : (s.setWaiting key v).sensors = s.sensors := rfl
@[simp] theorem State.setWaiting_packageSamples (key : Nat) (v : Option U64) : (s.setWaiting key v).packageSamples = s.packageSamples := rfl
@[simp] theorem State.setWaiting_energyRest (key : Nat) (v : Option U64) : (s.setWaiting key v).energyRest = s.energyRest := rfl
@[simp] theorem State.setWaiting_telemetrySamples (key : Nat) (v : Option U64) : (s.setWaiting key v).telemetrySamples = s.telemetrySamples := rfl
@[simp] theorem State.setWaiting_diePower (key : Nat) (v : Option U64) : (s.setWaiting key v).diePower = s.diePower := rfl
@[simp] theorem State.setWaiting_stackHot (key : Nat) (v : Option U64) : (s.setWaiting key v).stackHot = s.stackHot := rfl
@[simp] theorem State.setWaiting_ranger (key : Nat) (v : Option U64) : (s.setWaiting key v).ranger = s.ranger := rfl
@[simp] theorem State.setWaiting_watchdog (key : Nat) (v : Option U64) : (s.setWaiting key v).watchdog = s.watchdog := rfl
@[simp] theorem State.setWaiting_rerouteDue (key : Nat) (v : Option U64) : (s.setWaiting key v).rerouteDue = s.rerouteDue := rfl
@[simp] theorem State.setWaiting_heldRecords (key : Nat) (v : Option U64) : (s.setWaiting key v).heldRecords = s.heldRecords := rfl
@[simp] theorem State.setWaiting_stewards (key : Nat) (v : Option U64) : (s.setWaiting key v).stewards = s.stewards := rfl
@[simp] theorem State.setWaiting_stalls (key : Nat) (v : Option U64) : (s.setWaiting key v).stalls = s.stalls := rfl
@[simp] theorem State.setWaiting_logSerial (key : Nat) (v : Option U64) : (s.setWaiting key v).logSerial = s.logSerial := rfl
@[simp] theorem State.setWaiting_logUnread (key : Nat) (v : Option U64) : (s.setWaiting key v).logUnread = s.logUnread := rfl
@[simp] theorem State.setWaiting_tests (key : Nat) (v : Option U64) : (s.setWaiting key v).tests = s.tests := rfl
@[simp] theorem State.setWaiting_selfTest (key : Nat) (v : Option U64) : (s.setWaiting key v).selfTest = s.selfTest := rfl
@[simp] theorem State.setWaiting_hssMarks (key : Nat) (v : Option U64) : (s.setWaiting key v).hssMarks = s.hssMarks := rfl
@[simp] theorem State.setWaiting_minimaOk (key : Nat) (v : Option U64) : (s.setWaiting key v).minimaOk = s.minimaOk := rfl
@[simp] theorem State.setWaiting_spdmSecured (key : Nat) (v : Option U64) : (s.setWaiting key v).spdmSecured = s.spdmSecured := rfl
@[simp] theorem State.setWaiting_ideKeys (key : Nat) (v : Option U64) : (s.setWaiting key v).ideKeys = s.ideKeys := rfl
@[simp] theorem State.setWaiting_devRstN (key : Nat) (v : Option U64) : (s.setWaiting key v).devRstN = s.devRstN := rfl
@[simp] theorem State.setWaiting_perstN (key : Nat) (v : Option U64) : (s.setWaiting key v).perstN = s.perstN := rfl
@[simp] theorem State.setWaiting_mclkLocked (key : Nat) (v : Option U64) : (s.setWaiting key v).mclkLocked = s.mclkLocked := rfl
@[simp] theorem State.setWaiting_booted (key : Nat) (v : Option U64) : (s.setWaiting key v).booted = s.booted := rfl
@[simp] theorem State.setWaiting_arefLost (key : Nat) (v : Option U64) : (s.setWaiting key v).arefLost = s.arefLost := rfl
@[simp] theorem State.setWaiting_computeReady (key : Nat) (v : Option U64) : (s.setWaiting key v).computeReady = s.computeReady := rfl
@[simp] theorem State.setWaiting_coreRetry (key : Nat) (v : Option U64) : (s.setWaiting key v).coreRetry = s.coreRetry := rfl
@[simp] theorem State.setWaiting_refreshOff (key : Nat) (v : Option U64) : (s.setWaiting key v).refreshOff = s.refreshOff := rfl

/-! ## setFunc -/

@[simp] theorem State.setFunc_pending (f : Nat) (x : Func) : (s.setFunc f x).pending = s.pending := rfl
@[simp] theorem State.setFunc_free (f : Nat) (x : Func) : (s.setFunc f x).free = s.free := rfl
@[simp] theorem State.setFunc_out (f : Nat) (x : Func) : (s.setFunc f x).out = s.out := rfl
@[simp] theorem State.setFunc_dict (f : Nat) (x : Func) : (s.setFunc f x).dict = s.dict := rfl
@[simp] theorem State.setFunc_accepted (f : Nat) (x : Func) : (s.setFunc f x).accepted = s.accepted := rfl
@[simp] theorem State.setFunc_mem (f : Nat) (x : Func) : (s.setFunc f x).mem = s.mem := rfl
@[simp] theorem State.setFunc_scram (f : Nat) (x : Func) : (s.setFunc f x).scram = s.scram := rfl
@[simp] theorem State.setFunc_writeBack (f : Nat) (x : Func) : (s.setFunc f x).writeBack = s.writeBack := rfl
@[simp] theorem State.setFunc_reports (f : Nat) (x : Func) : (s.setFunc f x).reports = s.reports := rfl
@[simp] theorem State.setFunc_sramDiff (f : Nat) (x : Func) : (s.setFunc f x).sramDiff = s.sramDiff := rfl
@[simp] theorem State.setFunc_stackDiff (f : Nat) (x : Func) : (s.setFunc f x).stackDiff = s.stackDiff := rfl
@[simp] theorem State.setFunc_written (f : Nat) (x : Func) : (s.setFunc f x).written = s.written := rfl
@[simp] theorem State.setFunc_mirror (f : Nat) (x : Func) : (s.setFunc f x).mirror = s.mirror := rfl
@[simp] theorem State.setFunc_stands (f : Nat) (x : Func) : (s.setFunc f x).stands = s.stands := rfl
@[simp] theorem State.setFunc_groves (f : Nat) (x : Func) : (s.setFunc f x).groves = s.groves := rfl
@[simp] theorem State.setFunc_tiles (f : Nat) (x : Func) : (s.setFunc f x).tiles = s.tiles := rfl
@[simp] theorem State.setFunc_ctxs (f : Nat) (x : Func) : (s.setFunc f x).ctxs = s.ctxs := rfl
@[simp] theorem State.setFunc_slots (f : Nat) (x : Func) : (s.setFunc f x).slots = s.slots := rfl
@[simp] theorem State.setFunc_freed (f : Nat) (x : Func) : (s.setFunc f x).freed = s.freed := rfl
@[simp] theorem State.setFunc_rootStacks (f : Nat) (x : Func) : (s.setFunc f x).rootStacks = s.rootStacks := rfl
@[simp] theorem State.setFunc_windowTaken (f : Nat) (x : Func) : (s.setFunc f x).windowTaken = s.windowTaken := rfl
@[simp] theorem State.setFunc_patrol (f : Nat) (x : Func) : (s.setFunc f x).patrol = s.patrol := rfl
@[simp] theorem State.setFunc_fifos (f : Nat) (x : Func) : (s.setFunc f x).fifos = s.fifos := rfl
@[simp] theorem State.setFunc_rx (f : Nat) (x : Func) : (s.setFunc f x).rx = s.rx := rfl
@[simp] theorem State.setFunc_outst (f : Nat) (x : Func) : (s.setFunc f x).outst = s.outst := rfl
@[simp] theorem State.setFunc_mismatches (f : Nat) (x : Func) : (s.setFunc f x).mismatches = s.mismatches := rfl
@[simp] theorem State.setFunc_turns (f : Nat) (x : Func) : (s.setFunc f x).turns = s.turns := rfl
@[simp] theorem State.setFunc_treeDebts (f : Nat) (x : Func) : (s.setFunc f x).treeDebts = s.treeDebts := rfl
@[simp] theorem State.setFunc_treeOff (f : Nat) (x : Func) : (s.setFunc f x).treeOff = s.treeOff := rfl
@[simp] theorem State.setFunc_treeSent (f : Nat) (x : Func) : (s.setFunc f x).treeSent = s.treeSent := rfl
@[simp] theorem State.setFunc_treeMasks (f : Nat) (x : Func) : (s.setFunc f x).treeMasks = s.treeMasks := rfl
@[simp] theorem State.setFunc_ports (f : Nat) (x : Func) : (s.setFunc f x).ports = s.ports := rfl
@[simp] theorem State.setFunc_lanes (f : Nat) (x : Func) : (s.setFunc f x).lanes = s.lanes := rfl
@[simp] theorem State.setFunc_xrefs (f : Nat) (x : Func) : (s.setFunc f x).xrefs = s.xrefs := rfl
@[simp] theorem State.setFunc_jobs (f : Nat) (x : Func) : (s.setFunc f x).jobs = s.jobs := rfl
@[simp] theorem State.setFunc_abortLog (f : Nat) (x : Func) : (s.setFunc f x).abortLog = s.abortLog := rfl
@[simp] theorem State.setFunc_clearings (f : Nat) (x : Func) : (s.setFunc f x).clearings = s.clearings := rfl
@[simp] theorem State.setFunc_flops (f : Nat) (x : Func) : (s.setFunc f x).flops = s.flops := rfl
@[simp] theorem State.setFunc_wires (f : Nat) (x : Func) : (s.setFunc f x).wires = s.wires := rfl
@[simp] theorem State.setFunc_pins (f : Nat) (x : Func) : (s.setFunc f x).pins = s.pins := rfl
@[simp] theorem State.setFunc_pairs (f : Nat) (x : Func) : (s.setFunc f x).pairs = s.pairs := rfl
@[simp] theorem State.setFunc_nv (f : Nat) (x : Func) : (s.setFunc f x).nv = s.nv := rfl
@[simp] theorem State.setFunc_bootCopies (f : Nat) (x : Func) : (s.setFunc f x).bootCopies = s.bootCopies := rfl
@[simp] theorem State.setFunc_cfg (f : Nat) (x : Func) : (s.setFunc f x).cfg = s.cfg := rfl
@[simp] theorem State.setFunc_cfgDiff (f : Nat) (x : Func) : (s.setFunc f x).cfgDiff = s.cfgDiff := rfl
@[simp] theorem State.setFunc_shadow (f : Nat) (x : Func) : (s.setFunc f x).shadow = s.shadow := rfl
@[simp] theorem State.setFunc_shadowDiff (f : Nat) (x : Func) : (s.setFunc f x).shadowDiff = s.shadowDiff := rfl
@[simp] theorem State.setFunc_decoded (f : Nat) (x : Func) : (s.setFunc f x).decoded = s.decoded := rfl
@[simp] theorem State.setFunc_frameMap (f : Nat) (x : Func) : (s.setFunc f x).frameMap = s.frameMap := rfl
@[simp] theorem State.setFunc_shadowRelease (f : Nat) (x : Func) : (s.setFunc f x).shadowRelease = s.shadowRelease := rfl
@[simp] theorem State.setFunc_switch (f : Nat) (x : Func) : (s.setFunc f x).switch = s.switch := rfl
@[simp] theorem State.setFunc_groveNext (f : Nat) (x : Func) : (s.setFunc f x).groveNext = s.groveNext := rfl
@[simp] theorem State.setFunc_scrubAt (f : Nat) (x : Func) : (s.setFunc f x).scrubAt = s.scrubAt := rfl
@[simp] theorem State.setFunc_captures (f : Nat) (x : Func) : (s.setFunc f x).captures = s.captures := rfl
@[simp] theorem State.setFunc_rxFrames (f : Nat) (x : Func) : (s.setFunc f x).rxFrames = s.rxFrames := rfl
@[simp] theorem State.setFunc_plcaOk (f : Nat) (x : Func) : (s.setFunc f x).plcaOk = s.plcaOk := rfl
@[simp] theorem State.setFunc_plcaDown (f : Nat) (x : Func) : (s.setFunc f x).plcaDown = s.plcaDown := rfl
@[simp] theorem State.setFunc_revert (f : Nat) (x : Func) : (s.setFunc f x).revert = s.revert := rfl
@[simp] theorem State.setFunc_sessions (f : Nat) (x : Func) : (s.setFunc f x).sessions = s.sessions := rfl
@[simp] theorem State.setFunc_halfOpen (f : Nat) (x : Func) : (s.setFunc f x).halfOpen = s.halfOpen := rfl
@[simp] theorem State.setFunc_lastSession (f : Nat) (x : Func) : (s.setFunc f x).lastSession = s.lastSession := rfl
@[simp] theorem State.setFunc_sessionUse (f : Nat) (x : Func) : (s.setFunc f x).sessionUse = s.sessionUse := rfl
@[simp] theorem State.setFunc_challenge (f : Nat) (x : Func) : (s.setFunc f x).challenge = s.challenge := rfl
@[simp] theorem State.setFunc_actions (f : Nat) (x : Func) : (s.setFunc f x).actions = s.actions := rfl
@[simp] theorem State.setFunc_snapAreas (f : Nat) (x : Func) : (s.setFunc f x).snapAreas = s.snapAreas := rfl
@[simp] theorem State.setFunc_snapNewest (f : Nat) (x : Func) : (s.setFunc f x).snapNewest = s.snapNewest := rfl
@[simp] theorem State.setFunc_kept (f : Nat) (x : Func) : (s.setFunc f x).kept = s.kept := rfl
@[simp] theorem State.setFunc_nextReport (f : Nat) (x : Func) : (s.setFunc f x).nextReport = s.nextReport := rfl
@[simp] theorem State.setFunc_ats (f : Nat) (x : Func) : (s.setFunc f x).ats = s.ats := rfl
@[simp] theorem State.setFunc_hostOff (f : Nat) (x : Func) : (s.setFunc f x).hostOff = s.hostOff := rfl
@[simp] theorem State.setFunc_funcs (f : Nat) (x : Func) : (s.setFunc f x).funcs = SMap.set Func.reset s.funcs f x := rfl
@[simp] theorem State.setFunc_bells (f : Nat) (x : Func) : (s.setFunc f x).bells = s.bells := rfl
@[simp] theorem State.setFunc_heldBar0 (f : Nat) (x : Func) : (s.setFunc f x).heldBar0 = s.heldBar0 := rfl
@[simp] theorem State.setFunc_latches (f : Nat) (x : Func) : (s.setFunc f x).latches = s.latches := rfl
@[simp] theorem State.setFunc_endpointReady (f : Nat) (x : Func) : (s.setFunc f x).endpointReady = s.endpointReady := rfl
@[simp] theorem State.setFunc_statusSent (f : Nat) (x : Func) : (s.setFunc f x).statusSent = s.statusSent := rfl
@[simp] theorem State.setFunc_sensors (f : Nat) (x : Func) : (s.setFunc f x).sensors = s.sensors := rfl
@[simp] theorem State.setFunc_packageSamples (f : Nat) (x : Func) : (s.setFunc f x).packageSamples = s.packageSamples := rfl
@[simp] theorem State.setFunc_energyRest (f : Nat) (x : Func) : (s.setFunc f x).energyRest = s.energyRest := rfl
@[simp] theorem State.setFunc_telemetrySamples (f : Nat) (x : Func) : (s.setFunc f x).telemetrySamples = s.telemetrySamples := rfl
@[simp] theorem State.setFunc_diePower (f : Nat) (x : Func) : (s.setFunc f x).diePower = s.diePower := rfl
@[simp] theorem State.setFunc_stackHot (f : Nat) (x : Func) : (s.setFunc f x).stackHot = s.stackHot := rfl
@[simp] theorem State.setFunc_ranger (f : Nat) (x : Func) : (s.setFunc f x).ranger = s.ranger := rfl
@[simp] theorem State.setFunc_watchdog (f : Nat) (x : Func) : (s.setFunc f x).watchdog = s.watchdog := rfl
@[simp] theorem State.setFunc_rerouteDue (f : Nat) (x : Func) : (s.setFunc f x).rerouteDue = s.rerouteDue := rfl
@[simp] theorem State.setFunc_heldRecords (f : Nat) (x : Func) : (s.setFunc f x).heldRecords = s.heldRecords := rfl
@[simp] theorem State.setFunc_stewards (f : Nat) (x : Func) : (s.setFunc f x).stewards = s.stewards := rfl
@[simp] theorem State.setFunc_stalls (f : Nat) (x : Func) : (s.setFunc f x).stalls = s.stalls := rfl
@[simp] theorem State.setFunc_logSerial (f : Nat) (x : Func) : (s.setFunc f x).logSerial = s.logSerial := rfl
@[simp] theorem State.setFunc_logUnread (f : Nat) (x : Func) : (s.setFunc f x).logUnread = s.logUnread := rfl
@[simp] theorem State.setFunc_tests (f : Nat) (x : Func) : (s.setFunc f x).tests = s.tests := rfl
@[simp] theorem State.setFunc_selfTest (f : Nat) (x : Func) : (s.setFunc f x).selfTest = s.selfTest := rfl
@[simp] theorem State.setFunc_hssMarks (f : Nat) (x : Func) : (s.setFunc f x).hssMarks = s.hssMarks := rfl
@[simp] theorem State.setFunc_minimaOk (f : Nat) (x : Func) : (s.setFunc f x).minimaOk = s.minimaOk := rfl
@[simp] theorem State.setFunc_spdmSecured (f : Nat) (x : Func) : (s.setFunc f x).spdmSecured = s.spdmSecured := rfl
@[simp] theorem State.setFunc_ideKeys (f : Nat) (x : Func) : (s.setFunc f x).ideKeys = s.ideKeys := rfl
@[simp] theorem State.setFunc_devRstN (f : Nat) (x : Func) : (s.setFunc f x).devRstN = s.devRstN := rfl
@[simp] theorem State.setFunc_perstN (f : Nat) (x : Func) : (s.setFunc f x).perstN = s.perstN := rfl
@[simp] theorem State.setFunc_mclkLocked (f : Nat) (x : Func) : (s.setFunc f x).mclkLocked = s.mclkLocked := rfl
@[simp] theorem State.setFunc_booted (f : Nat) (x : Func) : (s.setFunc f x).booted = s.booted := rfl
@[simp] theorem State.setFunc_arefLost (f : Nat) (x : Func) : (s.setFunc f x).arefLost = s.arefLost := rfl
@[simp] theorem State.setFunc_computeReady (f : Nat) (x : Func) : (s.setFunc f x).computeReady = s.computeReady := rfl
@[simp] theorem State.setFunc_coreRetry (f : Nat) (x : Func) : (s.setFunc f x).coreRetry = s.coreRetry := rfl
@[simp] theorem State.setFunc_refreshOff (f : Nat) (x : Func) : (s.setFunc f x).refreshOff = s.refreshOff := rfl

/-! ## report -/

/-- All that a report does: it joins those that wait, or is counted as lost (R30, R292). -/
theorem State.report_cases (e : ErrorReport) : s.report e = { s with reports := s.reports ++ [e] } ∨
    ∃ ix sb, lostObject e = some (ix, sb) ∧ s.stewardOut e.die.val = true ∧ s.report e = s.countSat ix sb 56 4 1 := by
  unfold State.report
  split
  · rename_i ix sb h
    split
    · rename_i hc
      simp only [Bool.and_eq_true] at hc
      exact .inr ⟨ix, sb, h, hc.1, rfl⟩
    · exact .inl rfl
  · exact .inl rfl

@[simp] theorem State.report_pending (e : ErrorReport) : (s.report e).pending = s.pending := by
  obtain h | ⟨_, _, _, _, h⟩ := s.report_cases e <;> rw [h] <;> rfl
@[simp] theorem State.report_free (e : ErrorReport) : (s.report e).free = s.free := by
  obtain h | ⟨_, _, _, _, h⟩ := s.report_cases e <;> rw [h] <;> rfl
@[simp] theorem State.report_out (e : ErrorReport) : (s.report e).out = s.out := by
  obtain h | ⟨_, _, _, _, h⟩ := s.report_cases e <;> rw [h] <;> rfl
@[simp] theorem State.report_accepted (e : ErrorReport) : (s.report e).accepted = s.accepted := by
  obtain h | ⟨_, _, _, _, h⟩ := s.report_cases e <;> rw [h] <;> rfl
@[simp] theorem State.report_mem (e : ErrorReport) : (s.report e).mem = s.mem := by
  obtain h | ⟨_, _, _, _, h⟩ := s.report_cases e <;> rw [h] <;> rfl
@[simp] theorem State.report_scram (e : ErrorReport) : (s.report e).scram = s.scram := by
  obtain h | ⟨_, _, _, _, h⟩ := s.report_cases e <;> rw [h] <;> rfl
@[simp] theorem State.report_writeBack (e : ErrorReport) : (s.report e).writeBack = s.writeBack := by
  obtain h | ⟨_, _, _, _, h⟩ := s.report_cases e <;> rw [h] <;> rfl
@[simp] theorem State.report_sramDiff (e : ErrorReport) : (s.report e).sramDiff = s.sramDiff := by
  obtain h | ⟨_, _, _, _, h⟩ := s.report_cases e <;> rw [h] <;> rfl
@[simp] theorem State.report_stackDiff (e : ErrorReport) : (s.report e).stackDiff = s.stackDiff := by
  obtain h | ⟨_, _, _, _, h⟩ := s.report_cases e <;> rw [h] <;> rfl
@[simp] theorem State.report_written (e : ErrorReport) : (s.report e).written = s.written := by
  obtain h | ⟨_, _, _, _, h⟩ := s.report_cases e <;> rw [h] <;> rfl
@[simp] theorem State.report_mirror (e : ErrorReport) : (s.report e).mirror = s.mirror := by
  obtain h | ⟨_, _, _, _, h⟩ := s.report_cases e <;> rw [h] <;> rfl
@[simp] theorem State.report_stands (e : ErrorReport) : (s.report e).stands = s.stands := by
  obtain h | ⟨_, _, _, _, h⟩ := s.report_cases e <;> rw [h] <;> rfl
@[simp] theorem State.report_groves (e : ErrorReport) : (s.report e).groves = s.groves := by
  obtain h | ⟨_, _, _, _, h⟩ := s.report_cases e <;> rw [h] <;> rfl
@[simp] theorem State.report_tiles (e : ErrorReport) : (s.report e).tiles = s.tiles := by
  obtain h | ⟨_, _, _, _, h⟩ := s.report_cases e <;> rw [h] <;> rfl
@[simp] theorem State.report_ctxs (e : ErrorReport) : (s.report e).ctxs = s.ctxs := by
  obtain h | ⟨_, _, _, _, h⟩ := s.report_cases e <;> rw [h] <;> rfl
@[simp] theorem State.report_slots (e : ErrorReport) : (s.report e).slots = s.slots := by
  obtain h | ⟨_, _, _, _, h⟩ := s.report_cases e <;> rw [h] <;> rfl
@[simp] theorem State.report_freed (e : ErrorReport) : (s.report e).freed = s.freed := by
  obtain h | ⟨_, _, _, _, h⟩ := s.report_cases e <;> rw [h] <;> rfl
@[simp] theorem State.report_rootStacks (e : ErrorReport) : (s.report e).rootStacks = s.rootStacks := by
  obtain h | ⟨_, _, _, _, h⟩ := s.report_cases e <;> rw [h] <;> rfl
@[simp] theorem State.report_windowTaken (e : ErrorReport) : (s.report e).windowTaken = s.windowTaken := by
  obtain h | ⟨_, _, _, _, h⟩ := s.report_cases e <;> rw [h] <;> rfl
@[simp] theorem State.report_patrol (e : ErrorReport) : (s.report e).patrol = s.patrol := by
  obtain h | ⟨_, _, _, _, h⟩ := s.report_cases e <;> rw [h] <;> rfl
@[simp] theorem State.report_fifos (e : ErrorReport) : (s.report e).fifos = s.fifos := by
  obtain h | ⟨_, _, _, _, h⟩ := s.report_cases e <;> rw [h] <;> rfl
@[simp] theorem State.report_rx (e : ErrorReport) : (s.report e).rx = s.rx := by
  obtain h | ⟨_, _, _, _, h⟩ := s.report_cases e <;> rw [h] <;> rfl
@[simp] theorem State.report_outst (e : ErrorReport) : (s.report e).outst = s.outst := by
  obtain h | ⟨_, _, _, _, h⟩ := s.report_cases e <;> rw [h] <;> rfl
@[simp] theorem State.report_mismatches (e : ErrorReport) : (s.report e).mismatches = s.mismatches := by
  obtain h | ⟨_, _, _, _, h⟩ := s.report_cases e <;> rw [h] <;> rfl
@[simp] theorem State.report_turns (e : ErrorReport) : (s.report e).turns = s.turns := by
  obtain h | ⟨_, _, _, _, h⟩ := s.report_cases e <;> rw [h] <;> rfl
@[simp] theorem State.report_treeDebts (e : ErrorReport) : (s.report e).treeDebts = s.treeDebts := by
  obtain h | ⟨_, _, _, _, h⟩ := s.report_cases e <;> rw [h] <;> rfl
@[simp] theorem State.report_treeOff (e : ErrorReport) : (s.report e).treeOff = s.treeOff := by
  obtain h | ⟨_, _, _, _, h⟩ := s.report_cases e <;> rw [h] <;> rfl
@[simp] theorem State.report_treeSent (e : ErrorReport) : (s.report e).treeSent = s.treeSent := by
  obtain h | ⟨_, _, _, _, h⟩ := s.report_cases e <;> rw [h] <;> rfl
@[simp] theorem State.report_treeMasks (e : ErrorReport) : (s.report e).treeMasks = s.treeMasks := by
  obtain h | ⟨_, _, _, _, h⟩ := s.report_cases e <;> rw [h] <;> rfl
@[simp] theorem State.report_ports (e : ErrorReport) : (s.report e).ports = s.ports := by
  obtain h | ⟨_, _, _, _, h⟩ := s.report_cases e <;> rw [h] <;> rfl
@[simp] theorem State.report_lanes (e : ErrorReport) : (s.report e).lanes = s.lanes := by
  obtain h | ⟨_, _, _, _, h⟩ := s.report_cases e <;> rw [h] <;> rfl
@[simp] theorem State.report_xrefs (e : ErrorReport) : (s.report e).xrefs = s.xrefs := by
  obtain h | ⟨_, _, _, _, h⟩ := s.report_cases e <;> rw [h] <;> rfl
@[simp] theorem State.report_jobs (e : ErrorReport) : (s.report e).jobs = s.jobs := by
  obtain h | ⟨_, _, _, _, h⟩ := s.report_cases e <;> rw [h] <;> rfl
@[simp] theorem State.report_abortLog (e : ErrorReport) : (s.report e).abortLog = s.abortLog := by
  obtain h | ⟨_, _, _, _, h⟩ := s.report_cases e <;> rw [h] <;> rfl
@[simp] theorem State.report_clearings (e : ErrorReport) : (s.report e).clearings = s.clearings := by
  obtain h | ⟨_, _, _, _, h⟩ := s.report_cases e <;> rw [h] <;> rfl
@[simp] theorem State.report_flops (e : ErrorReport) : (s.report e).flops = s.flops := by
  obtain h | ⟨_, _, _, _, h⟩ := s.report_cases e <;> rw [h] <;> rfl
@[simp] theorem State.report_wires (e : ErrorReport) : (s.report e).wires = s.wires := by
  obtain h | ⟨_, _, _, _, h⟩ := s.report_cases e <;> rw [h] <;> rfl
@[simp] theorem State.report_pins (e : ErrorReport) : (s.report e).pins = s.pins := by
  obtain h | ⟨_, _, _, _, h⟩ := s.report_cases e <;> rw [h] <;> rfl
@[simp] theorem State.report_pairs (e : ErrorReport) : (s.report e).pairs = s.pairs := by
  obtain h | ⟨_, _, _, _, h⟩ := s.report_cases e <;> rw [h] <;> rfl
@[simp] theorem State.report_nv (e : ErrorReport) : (s.report e).nv = s.nv := by
  obtain h | ⟨_, _, _, _, h⟩ := s.report_cases e <;> rw [h] <;> rfl
@[simp] theorem State.report_bootCopies (e : ErrorReport) : (s.report e).bootCopies = s.bootCopies := by
  obtain h | ⟨_, _, _, _, h⟩ := s.report_cases e <;> rw [h] <;> rfl
@[simp] theorem State.report_cfg (e : ErrorReport) : (s.report e).cfg = s.cfg := by
  obtain h | ⟨_, _, _, _, h⟩ := s.report_cases e <;> rw [h] <;> rfl
@[simp] theorem State.report_cfgDiff (e : ErrorReport) : (s.report e).cfgDiff = s.cfgDiff := by
  obtain h | ⟨_, _, _, _, h⟩ := s.report_cases e <;> rw [h] <;> rfl
@[simp] theorem State.report_shadow (e : ErrorReport) : (s.report e).shadow = s.shadow := by
  obtain h | ⟨_, _, _, _, h⟩ := s.report_cases e <;> rw [h] <;> rfl
@[simp] theorem State.report_shadowDiff (e : ErrorReport) : (s.report e).shadowDiff = s.shadowDiff := by
  obtain h | ⟨_, _, _, _, h⟩ := s.report_cases e <;> rw [h] <;> rfl
@[simp] theorem State.report_decoded (e : ErrorReport) : (s.report e).decoded = s.decoded := by
  obtain h | ⟨_, _, _, _, h⟩ := s.report_cases e <;> rw [h] <;> rfl
@[simp] theorem State.report_frameMap (e : ErrorReport) : (s.report e).frameMap = s.frameMap := by
  obtain h | ⟨_, _, _, _, h⟩ := s.report_cases e <;> rw [h] <;> rfl
@[simp] theorem State.report_shadowRelease (e : ErrorReport) : (s.report e).shadowRelease = s.shadowRelease := by
  obtain h | ⟨_, _, _, _, h⟩ := s.report_cases e <;> rw [h] <;> rfl
@[simp] theorem State.report_switch (e : ErrorReport) : (s.report e).switch = s.switch := by
  obtain h | ⟨_, _, _, _, h⟩ := s.report_cases e <;> rw [h] <;> rfl
@[simp] theorem State.report_groveNext (e : ErrorReport) : (s.report e).groveNext = s.groveNext := by
  obtain h | ⟨_, _, _, _, h⟩ := s.report_cases e <;> rw [h] <;> rfl
@[simp] theorem State.report_scrubAt (e : ErrorReport) : (s.report e).scrubAt = s.scrubAt := by
  obtain h | ⟨_, _, _, _, h⟩ := s.report_cases e <;> rw [h] <;> rfl
@[simp] theorem State.report_captures (e : ErrorReport) : (s.report e).captures = s.captures := by
  obtain h | ⟨_, _, _, _, h⟩ := s.report_cases e <;> rw [h] <;> rfl
@[simp] theorem State.report_rxFrames (e : ErrorReport) : (s.report e).rxFrames = s.rxFrames := by
  obtain h | ⟨_, _, _, _, h⟩ := s.report_cases e <;> rw [h] <;> rfl
@[simp] theorem State.report_plcaOk (e : ErrorReport) : (s.report e).plcaOk = s.plcaOk := by
  obtain h | ⟨_, _, _, _, h⟩ := s.report_cases e <;> rw [h] <;> rfl
@[simp] theorem State.report_plcaDown (e : ErrorReport) : (s.report e).plcaDown = s.plcaDown := by
  obtain h | ⟨_, _, _, _, h⟩ := s.report_cases e <;> rw [h] <;> rfl
@[simp] theorem State.report_revert (e : ErrorReport) : (s.report e).revert = s.revert := by
  obtain h | ⟨_, _, _, _, h⟩ := s.report_cases e <;> rw [h] <;> rfl
@[simp] theorem State.report_sessions (e : ErrorReport) : (s.report e).sessions = s.sessions := by
  obtain h | ⟨_, _, _, _, h⟩ := s.report_cases e <;> rw [h] <;> rfl
@[simp] theorem State.report_halfOpen (e : ErrorReport) : (s.report e).halfOpen = s.halfOpen := by
  obtain h | ⟨_, _, _, _, h⟩ := s.report_cases e <;> rw [h] <;> rfl
@[simp] theorem State.report_lastSession (e : ErrorReport) : (s.report e).lastSession = s.lastSession := by
  obtain h | ⟨_, _, _, _, h⟩ := s.report_cases e <;> rw [h] <;> rfl
@[simp] theorem State.report_sessionUse (e : ErrorReport) : (s.report e).sessionUse = s.sessionUse := by
  obtain h | ⟨_, _, _, _, h⟩ := s.report_cases e <;> rw [h] <;> rfl
@[simp] theorem State.report_challenge (e : ErrorReport) : (s.report e).challenge = s.challenge := by
  obtain h | ⟨_, _, _, _, h⟩ := s.report_cases e <;> rw [h] <;> rfl
@[simp] theorem State.report_actions (e : ErrorReport) : (s.report e).actions = s.actions := by
  obtain h | ⟨_, _, _, _, h⟩ := s.report_cases e <;> rw [h] <;> rfl
@[simp] theorem State.report_snapAreas (e : ErrorReport) : (s.report e).snapAreas = s.snapAreas := by
  obtain h | ⟨_, _, _, _, h⟩ := s.report_cases e <;> rw [h] <;> rfl
@[simp] theorem State.report_snapNewest (e : ErrorReport) : (s.report e).snapNewest = s.snapNewest := by
  obtain h | ⟨_, _, _, _, h⟩ := s.report_cases e <;> rw [h] <;> rfl
@[simp] theorem State.report_kept (e : ErrorReport) : (s.report e).kept = s.kept := by
  obtain h | ⟨_, _, _, _, h⟩ := s.report_cases e <;> rw [h] <;> rfl
@[simp] theorem State.report_nextReport (e : ErrorReport) : (s.report e).nextReport = s.nextReport := by
  obtain h | ⟨_, _, _, _, h⟩ := s.report_cases e <;> rw [h] <;> rfl
@[simp] theorem State.report_ats (e : ErrorReport) : (s.report e).ats = s.ats := by
  obtain h | ⟨_, _, _, _, h⟩ := s.report_cases e <;> rw [h] <;> rfl
@[simp] theorem State.report_hostOff (e : ErrorReport) : (s.report e).hostOff = s.hostOff := by
  obtain h | ⟨_, _, _, _, h⟩ := s.report_cases e <;> rw [h] <;> rfl
@[simp] theorem State.report_funcs (e : ErrorReport) : (s.report e).funcs = s.funcs := by
  obtain h | ⟨_, _, _, _, h⟩ := s.report_cases e <;> rw [h] <;> rfl
@[simp] theorem State.report_bells (e : ErrorReport) : (s.report e).bells = s.bells := by
  obtain h | ⟨_, _, _, _, h⟩ := s.report_cases e <;> rw [h] <;> rfl
@[simp] theorem State.report_heldBar0 (e : ErrorReport) : (s.report e).heldBar0 = s.heldBar0 := by
  obtain h | ⟨_, _, _, _, h⟩ := s.report_cases e <;> rw [h] <;> rfl
@[simp] theorem State.report_latches (e : ErrorReport) : (s.report e).latches = s.latches := by
  obtain h | ⟨_, _, _, _, h⟩ := s.report_cases e <;> rw [h] <;> rfl
@[simp] theorem State.report_endpointReady (e : ErrorReport) : (s.report e).endpointReady = s.endpointReady := by
  obtain h | ⟨_, _, _, _, h⟩ := s.report_cases e <;> rw [h] <;> rfl
@[simp] theorem State.report_statusSent (e : ErrorReport) : (s.report e).statusSent = s.statusSent := by
  obtain h | ⟨_, _, _, _, h⟩ := s.report_cases e <;> rw [h] <;> rfl
@[simp] theorem State.report_sensors (e : ErrorReport) : (s.report e).sensors = s.sensors := by
  obtain h | ⟨_, _, _, _, h⟩ := s.report_cases e <;> rw [h] <;> rfl
@[simp] theorem State.report_packageSamples (e : ErrorReport) : (s.report e).packageSamples = s.packageSamples := by
  obtain h | ⟨_, _, _, _, h⟩ := s.report_cases e <;> rw [h] <;> rfl
@[simp] theorem State.report_energyRest (e : ErrorReport) : (s.report e).energyRest = s.energyRest := by
  obtain h | ⟨_, _, _, _, h⟩ := s.report_cases e <;> rw [h] <;> rfl
@[simp] theorem State.report_telemetrySamples (e : ErrorReport) : (s.report e).telemetrySamples = s.telemetrySamples := by
  obtain h | ⟨_, _, _, _, h⟩ := s.report_cases e <;> rw [h] <;> rfl
@[simp] theorem State.report_diePower (e : ErrorReport) : (s.report e).diePower = s.diePower := by
  obtain h | ⟨_, _, _, _, h⟩ := s.report_cases e <;> rw [h] <;> rfl
@[simp] theorem State.report_stackHot (e : ErrorReport) : (s.report e).stackHot = s.stackHot := by
  obtain h | ⟨_, _, _, _, h⟩ := s.report_cases e <;> rw [h] <;> rfl
@[simp] theorem State.report_ranger (e : ErrorReport) : (s.report e).ranger = s.ranger := by
  obtain h | ⟨_, _, _, _, h⟩ := s.report_cases e <;> rw [h] <;> rfl
@[simp] theorem State.report_watchdog (e : ErrorReport) : (s.report e).watchdog = s.watchdog := by
  obtain h | ⟨_, _, _, _, h⟩ := s.report_cases e <;> rw [h] <;> rfl
@[simp] theorem State.report_rerouteDue (e : ErrorReport) : (s.report e).rerouteDue = s.rerouteDue := by
  obtain h | ⟨_, _, _, _, h⟩ := s.report_cases e <;> rw [h] <;> rfl
@[simp] theorem State.report_heldRecords (e : ErrorReport) : (s.report e).heldRecords = s.heldRecords := by
  obtain h | ⟨_, _, _, _, h⟩ := s.report_cases e <;> rw [h] <;> rfl
@[simp] theorem State.report_stewards (e : ErrorReport) : (s.report e).stewards = s.stewards := by
  obtain h | ⟨_, _, _, _, h⟩ := s.report_cases e <;> rw [h] <;> rfl
@[simp] theorem State.report_stalls (e : ErrorReport) : (s.report e).stalls = s.stalls := by
  obtain h | ⟨_, _, _, _, h⟩ := s.report_cases e <;> rw [h] <;> rfl
@[simp] theorem State.report_logSerial (e : ErrorReport) : (s.report e).logSerial = s.logSerial := by
  obtain h | ⟨_, _, _, _, h⟩ := s.report_cases e <;> rw [h] <;> rfl
@[simp] theorem State.report_logUnread (e : ErrorReport) : (s.report e).logUnread = s.logUnread := by
  obtain h | ⟨_, _, _, _, h⟩ := s.report_cases e <;> rw [h] <;> rfl
@[simp] theorem State.report_tests (e : ErrorReport) : (s.report e).tests = s.tests := by
  obtain h | ⟨_, _, _, _, h⟩ := s.report_cases e <;> rw [h] <;> rfl
@[simp] theorem State.report_selfTest (e : ErrorReport) : (s.report e).selfTest = s.selfTest := by
  obtain h | ⟨_, _, _, _, h⟩ := s.report_cases e <;> rw [h] <;> rfl
@[simp] theorem State.report_hssMarks (e : ErrorReport) : (s.report e).hssMarks = s.hssMarks := by
  obtain h | ⟨_, _, _, _, h⟩ := s.report_cases e <;> rw [h] <;> rfl
@[simp] theorem State.report_minimaOk (e : ErrorReport) : (s.report e).minimaOk = s.minimaOk := by
  obtain h | ⟨_, _, _, _, h⟩ := s.report_cases e <;> rw [h] <;> rfl
@[simp] theorem State.report_spdmSecured (e : ErrorReport) : (s.report e).spdmSecured = s.spdmSecured := by
  obtain h | ⟨_, _, _, _, h⟩ := s.report_cases e <;> rw [h] <;> rfl
@[simp] theorem State.report_ideKeys (e : ErrorReport) : (s.report e).ideKeys = s.ideKeys := by
  obtain h | ⟨_, _, _, _, h⟩ := s.report_cases e <;> rw [h] <;> rfl
@[simp] theorem State.report_devRstN (e : ErrorReport) : (s.report e).devRstN = s.devRstN := by
  obtain h | ⟨_, _, _, _, h⟩ := s.report_cases e <;> rw [h] <;> rfl
@[simp] theorem State.report_perstN (e : ErrorReport) : (s.report e).perstN = s.perstN := by
  obtain h | ⟨_, _, _, _, h⟩ := s.report_cases e <;> rw [h] <;> rfl
@[simp] theorem State.report_mclkLocked (e : ErrorReport) : (s.report e).mclkLocked = s.mclkLocked := by
  obtain h | ⟨_, _, _, _, h⟩ := s.report_cases e <;> rw [h] <;> rfl
@[simp] theorem State.report_booted (e : ErrorReport) : (s.report e).booted = s.booted := by
  obtain h | ⟨_, _, _, _, h⟩ := s.report_cases e <;> rw [h] <;> rfl
@[simp] theorem State.report_arefLost (e : ErrorReport) : (s.report e).arefLost = s.arefLost := by
  obtain h | ⟨_, _, _, _, h⟩ := s.report_cases e <;> rw [h] <;> rfl
@[simp] theorem State.report_computeReady (e : ErrorReport) : (s.report e).computeReady = s.computeReady := by
  obtain h | ⟨_, _, _, _, h⟩ := s.report_cases e <;> rw [h] <;> rfl
@[simp] theorem State.report_coreRetry (e : ErrorReport) : (s.report e).coreRetry = s.coreRetry := by
  obtain h | ⟨_, _, _, _, h⟩ := s.report_cases e <;> rw [h] <;> rfl
@[simp] theorem State.report_refreshOff (e : ErrorReport) : (s.report e).refreshOff = s.refreshOff := by
  obtain h | ⟨_, _, _, _, h⟩ := s.report_cases e <;> rw [h] <;> rfl

end Sys2Proof.Machine
end

