-- ==== Sys2Proof/Laws/Stores.lean ====
section
/-! SUPPORT. What the named operations do, said once: a read of a store after a write of it, the dictionary's fields, and the bytes of
memory with the canonical form that every operation over them keeps. -/

namespace Sys2Proof.Machine

variable (s : State)

/-! ## Unit stores: a unit that was set reads as it was set, and every other is left -/

@[simp] theorem State.stand_setStand_self (d : Nat) (x : Stand) : (s.setStand d x).stand d = x := SMap.get_set_self ..
theorem State.stand_setStand_ne {d e : Nat} (x : Stand) (h : e ≠ d) : (s.setStand d x).stand e = s.stand e := SMap.get_set_ne _ _ _ _ h
@[simp] theorem State.grove_setGrove_self (n : Nat) (x : Grove) : (s.setGrove n x).grove n = x := SMap.get_set_self ..
theorem State.grove_setGrove_ne {n m : Nat} (x : Grove) (h : m ≠ n) : (s.setGrove n x).grove m = s.grove m := SMap.get_set_ne _ _ _ _ h
@[simp] theorem State.tile_setTile_self (t : Nat) (x : Tile) : (s.setTile t x).tile t = x := SMap.get_set_self ..
theorem State.tile_setTile_ne {t u : Nat} (x : Tile) (h : u ≠ t) : (s.setTile t x).tile u = s.tile u := SMap.get_set_ne _ _ _ _ h
@[simp] theorem State.ctx_setCtx_self (c : Nat) (x : Context) : (s.setCtx c x).ctx c = x := SMap.get_set_self ..
theorem State.ctx_setCtx_ne {c e : Nat} (x : Context) (h : e ≠ c) : (s.setCtx c x).ctx e = s.ctx e := SMap.get_set_ne _ _ _ _ h
@[simp] theorem State.slot_setSlot_self (q : Nat) (x : Slot) : (s.setSlot q x).slot q = x := SMap.get_set_self ..
theorem State.slot_setSlot_ne {q r : Nat} (x : Slot) (h : r ≠ q) : (s.setSlot q x).slot r = s.slot r := SMap.get_set_ne _ _ _ _ h
@[simp] theorem State.stack_setStack_self (k : Nat) (x : Stack) : (s.setStack k x).stack k = x := SMap.get_set_self ..
theorem State.stack_setStack_ne {k j : Nat} (x : Stack) (h : j ≠ k) : (s.setStack k x).stack j = s.stack j := SMap.get_set_ne _ _ _ _ h
@[simp] theorem State.clearing_setClearing_self (c : Nat) (x : Clearing) : (s.setClearing c x).clearing c = x := SMap.get_set_self ..
theorem State.clearing_setClearing_ne {c e : Nat} (x : Clearing) (h : e ≠ c) : (s.setClearing c x).clearing e = s.clearing e :=
  SMap.get_set_ne _ _ _ _ h
@[simp] theorem State.job_setJob_self (d : Nat) (x : JobState) : (s.setJob d x).job d = x := SMap.get_set_self ..
theorem State.job_setJob_ne {d e : Nat} (x : JobState) (h : e ≠ d) : (s.setJob d x).job e = s.job e := SMap.get_set_ne _ _ _ _ h
@[simp] theorem State.port_setPort_self (p : Nat) (x : Port) : (s.setPort p x).port p = x := SMap.get_set_self ..
theorem State.port_setPort_ne {p q : Nat} (x : Port) (h : q ≠ p) : (s.setPort p x).port q = s.port q := SMap.get_set_ne _ _ _ _ h
@[simp] theorem State.func_setFunc_self (f : Nat) (x : Func) : (s.setFunc f x).func f = x := SMap.get_set_self ..
theorem State.func_setFunc_ne {f g : Nat} (x : Func) (h : g ≠ f) : (s.setFunc f x).func g = s.func g := SMap.get_set_ne _ _ _ _ h
@[simp] theorem State.die_setDie_self (d : Nat) (x : DiePower) : (s.setDie d x).die d = x := SMap.get_set_self ..
theorem State.die_setDie_ne {d e : Nat} (x : DiePower) (h : e ≠ d) : (s.setDie d x).die e = s.die e := SMap.get_set_ne _ _ _ _ h
@[simp] theorem State.session_setSession_self (k : Nat) (x : Option Session) : (s.setSession k x).session k = x := SMap.get_set_self ..
theorem State.session_setSession_ne {k j : Nat} (x : Option Session) (h : j ≠ k) : (s.setSession k x).session j = s.session j :=
  SMap.get_set_ne _ _ _ _ h

/-! ## The dictionary -/

@[simp] theorem State.word_setWord_self (key : Nat) (v : U64) : (s.setWord key v).word key = v := SMap.find?_set_self ..
theorem State.word_setWord_ne {key k : Nat} (v : U64) (h : k ≠ key) : (s.setWord key v).word k = s.word k := by
  simp [State.word, SMap.find?_set_ne _ _ _ h]

theorem State.setObj_eq (ix sb : Nat) (v : U64) : s.setObj ix sb v = s.setWord (objKey 0 ix sb 0) v := rfl
theorem State.setObjW_eq (ix sb w : Nat) (v : U64) : s.setObjW ix sb w v = s.setWord (objKey 0 ix sb w) v := rfl
theorem State.setF_eq (ix sb lo n x : Nat) : s.setF ix sb lo n x = s.setWord (objKey 0 ix sb 0) (setFld (s.obj ix sb) lo n x) := rfl
theorem State.event_eq (ix sb bits : Nat) : s.event ix sb bits = s.setWord (objKey 0 ix sb 0) (statusEvent (s.obj ix sb) bits) := rfl

@[simp] theorem State.obj_setObj_self (ix sb : Nat) (v : U64) : (s.setObj ix sb v).obj ix sb = v := State.word_setWord_self ..
@[simp] theorem State.objW_setObjW_self (ix sb w : Nat) (v : U64) : (s.setObjW ix sb w v).objW ix sb w = v := State.word_setWord_self ..

/-- The field that was set. -/
theorem State.getF_setF_self (ix sb lo n x : Nat) (h : lo + n ≤ 64) : (s.setF ix sb lo n x).getF ix sb lo n = x % 2 ^ n := by
  simp only [State.getF, State.setF, State.obj_setObj_self]
  exact fld_setFld_self _ _ _ _ h

/-- A disjoint field of the object. -/
theorem State.getF_setF_ne (ix sb lo n x lo' n' : Nat) (h : lo' + n' ≤ lo ∨ lo + n ≤ lo') :
    (s.setF ix sb lo n x).getF ix sb lo' n' = s.getF ix sb lo' n' := by
  simp only [State.getF, State.setF, State.obj_setObj_self]
  exact fld_setFld_ne _ _ _ _ _ _ h

/-- Objects have keys of their own. -/
theorem objKey_inj {b ix sb w b' ix' sb' w' : Nat} (hb : ix < 2 ^ 16) (hb' : ix' < 2 ^ 16) (hs : sb < 2 ^ 8) (hs' : sb' < 2 ^ 8)
    (hw : w < 2 ^ 11) (hw' : w' < 2 ^ 11) (h : objKey b ix sb w = objKey b' ix' sb' w') : b = b' ∧ ix = ix' ∧ sb = sb' ∧ w = w' := by
  simp only [objKey] at h
  omega

/-- The dictionary store keeps its canonical form. -/
theorem State.wf_setWord (key : Nat) (v : U64) (h : SMap.wf dictDefault s.dict = true) : SMap.wf dictDefault (s.setWord key v).dict = true :=
  SMap.wf_set _ _ _ _ h

/-! ## The bytes -/

@[simp] theorem State.byte_setByte_self (a : Nat) (b : Byte) : (s.setByte a b).byte a = b := SMap.find?_set_self ..
theorem State.byte_setByte_ne {a c : Nat} (b : Byte) (h : c ≠ a) : (s.setByte a b).byte c = s.byte c := by
  simp [State.byte, SMap.find?_set_ne _ _ _ h]

/-- A write of bytes leaves every byte outside them. -/
theorem State.byte_setBytes_ne (l : List Byte) (a c : Nat) (h : c < a ∨ a + l.length ≤ c) : (s.setBytes a l).byte c = s.byte c := by
  induction l generalizing s a with
  | nil => rfl
  | cons b t ih =>
    simp only [List.length_cons] at h
    simp only [State.setBytes]
    rw [ih _ _ (by omega), State.byte_setByte_ne _ _ (by omega)]

/-- The bytes written are read. -/
theorem State.byte_setBytes (l : List Byte) (a i : Nat) (h : i < l.length) : (s.setBytes a l).byte (a + i) = l[i] := by
  induction l generalizing s a i with
  | nil => simp at h
  | cons b t ih =>
    simp only [State.setBytes]
    cases i with
    | zero => rw [State.byte_setBytes_ne _ _ _ _ (by omega)]; simp
    | succ i =>
      have h2 : i < t.length := by simpa using h
      have := ih (s.setByte a b) (a + 1) i h2
      rw [show a + 1 + i = a + (i + 1) by omega] at this
      simpa using this

/-- A write of a byte keeps the canonical form. -/
theorem State.wf_setByte (a : Nat) (b : Byte) (h : Memory.wf s.scram s.mem = true) : Memory.wf s.scram (s.setByte a b).mem = true :=
  SMap.wf_set _ _ _ _ h

@[simp] theorem State.setBytes_scram (a : Nat) (l : List Byte) : (s.setBytes a l).scram = s.scram := by
  induction l generalizing s a with
  | nil => rfl
  | cons b t ih => simp [State.setBytes, ih]

/-- A write of bytes keeps the canonical form. -/
theorem State.wf_setBytes (a : Nat) (l : List Byte) (h : Memory.wf s.scram s.mem = true) : Memory.wf s.scram (s.setBytes a l).mem = true := by
  induction l generalizing s a with
  | nil => exact h
  | cons b t ih => exact ih (s.setByte a b) (a + 1) (State.wf_setByte s a b h)

/-- Dropping bytes keeps the canonical form. -/
theorem Memory.wf_eraseAll (scram : SMap Nat) (mem : List Host.Cell) (p : Nat → Bool) (h : Memory.wf scram mem = true) :
    Memory.wf scram (SMap.eraseAll mem p) = true := SMap.wf_eraseAll _ _ _ h

/-- A change of what unlisted addresses read as keeps the form where it changes none that is listed. -/
theorem SMap.wfFrom_congr {α : Type} [DecidableEq α] (d e : Nat → α) (m : SMap α) :
    ∀ {lo : Nat}, (∀ x ∈ m, d x.1 = e x.1) → SMap.wfFrom d lo m = true → SMap.wfFrom e lo m = true := by
  induction m with
  | nil => intro _ _ h; exact h
  | cons x t ih =>
    intro lo hx h
    obtain ⟨k, v⟩ := x
    simp only [SMap.wfFrom, Bool.and_eq_true, decide_eq_true_eq] at h ⊢
    refine ⟨⟨h.1.1, ?_⟩, ih (fun y hy => hx y (List.mem_cons_of_mem _ hy)) h.2⟩
    have := hx (k, v) List.mem_cons_self
    simp only at this
    exact this ▸ h.1.2

/-- Making an SRAM unit unpredictable keeps the canonical form. -/
theorem State.wf_scramble (u : Nat) (h : Memory.wf s.scram s.mem = true) : Memory.wf (s.scramble u).scram (s.scramble u).mem = true := by
  show SMap.wfFrom (unlistedByte (SMap.set 0 s.scram u (s.free + 1))) 0 (SMap.eraseAll s.mem (fun a => sramUnit a == some u)) = true
  refine SMap.wfFrom_congr (unlistedByte s.scram) _ _ ?_ (SMap.wf_eraseAll _ _ _ h)
  intro x hx
  have hu : ¬ sramUnit x.1 = some u := by
    have := (List.mem_filter.mp hx).2
    simpa using this
  unfold unlistedByte
  cases hv : sramUnit x.1 with
  | none => rfl
  | some v =>
    have hne : v ≠ u := fun e => hu (by rw [hv, e])
    simp [SMap.get_set_ne _ _ _ _ hne]

/-- The memory of the machine right after reset is in canonical form, and so is its dictionary. -/
theorem State.reset_canonical : Memory.wf State.reset.scram State.reset.mem = true ∧ SMap.wf dictDefault State.reset.dict = true := ⟨rfl, rfl⟩

end Sys2Proof.Machine
end

