-- ==== Sys2Proof/WellFormed.lean ====
section
/-! DEFINITION. Which commands are well-formed: the operands that a type does not bound by itself are as long, and as large, as their
rules say. -/

namespace Sys2Proof

/-- A BAR0 access of 1, 2, 4 or 8 bytes (R453). -/
def Bar0Write.wf (a : Bar0Write) : Bool :=
  a.bytesM1 == 0 || a.bytesM1 == 1 || a.bytesM1 == 3 || a.bytesM1 == 7

/-- A BAR2 request within the payload and read sizes of R494: 1 to 512 bytes written, 1 to 4,096 read, within 4 KiB, with no data on a read
and no poison but on a write. -/
def Bar2Req.wf (q : Bar2Req) : Bool :=
  if q.write then
    decide (1 ≤ q.data.length) && decide (q.data.length ≤ 512) && decide (q.offset.toNat % 4096 + q.data.length ≤ 4096)
  else
    q.data.isEmpty && !q.poisoned && decide (1 ≤ q.len.toNat) && decide (q.offset.toNat % 4096 + q.len.toNat ≤ 4096)

/-- A command entry whose launch list, where it was read, has the RECORDS_M1 + 1 records it names (R500). -/
def HostEntry.wf (e : HostEntry) : Bool :=
  match e.records with
  | some l => l.length == e.w0.toNat / 2 ^ 40 % 256 + 1
  | none => true

/-- A frame as the MAC passes it on: 46 to 1,504 bytes after the Ethernet header (R470, R474). -/
def FieldFrame.wf (f : FieldFrame) : Bool := decide (46 ≤ f.body.length) && decide (f.body.length ≤ 1504)

/-- The sweeps of a training: 64 references for each direction, each lane once (R281). -/
def sweepsWf (l : List LaneSweep) : Bool :=
  l.all (fun x => x.readPass.length == 64 && x.writePass.length == 64) && decide ((l.map (fun x => x.lane)).Nodup)

/-- What a read of one unit or block of host space returned is at most 128 bytes (R231). -/
def ExtRead.wf (e : ExtRead) : Bool :=
  match e with
  | .data b => decide (b.length ≤ 128)
  | .error => true

/-- A near-memory element that a stack reduces is a Hazel16 or a Hazel32 value, at its own alignment (R235, R275). -/
def Reduction.wf (q : Reduction) : Bool :=
  let op := q.opx.toNat / 8
  op == 1 || op == 2

/-- The command's operands are ones its row can have. -/
def Instr.wf (i : Instr) : Bool :=
  match i with
  | .objectWrite a => a.wf
  | .guardLatchLoad a => a.wf
  | .aliasWrite a => a.wf
  | .statusSeqWrite a => a.wf
  | .errorRecord e => decide (e.stands.Nodup)
  | .targetedSelfTest _ failing => decide (failing.Nodup)
  | .smov _ ext => ext.wf
  | .stackReduction _ q => q.wf
  | .stackTraining _ res => sweepsWf res
  | .relearnComplete _ rows => rows.length == 64
  | .laneTrained _ _ line => line.length == 4
  | .macFrameReceive f => f.wf
  | .challengeReq f => f.wf
  | .recovery f => f.wf
  | .step _ e => e.wf
  | .mark _ e => e.wf
  | .bar2Access q => q.wf
  | .ageingUpdate _ ppm => decide (ppm ≠ [])
  | .powerCycle slow => decide (slow.Nodup) && slow.all (fun r => decide (r.val < 4))
  | .keySlotWrite _ _ words => words.length == 13
  | .debugUnlock _ token => token.length == 3740
  | .blockRamPortAccess _ b _ _ => decide (b.toNat < 4608)
  | .error _ => true
  | .guardLatchExpiry _ => true
  | .bar0HoldTimeout _ => true
  | .standEnable _ _ _ => true
  | .standDisable _ _ _ => true
  | .hold _ _ _ => true
  | .assignmentTakesEffect _ => true
  | .drainReport _ _ => true
  | .drainPoint _ => true
  | .commit _ => true
  | .applyPhase _ => true
  | .release _ => true
  | .fence _ _ => true
  | .fenceComplete _ _ => true
  | .unitReset _ => true
  | .groveReset _ => true
  | .clearingReset _ => true
  | .standReset _ => true
  | .computeReset => true
  | .resetTimeout _ => true
  | .configRestore _ => true
  | .mirrorRestore _ => true
  | .rejoin _ => true
  | .hangSample _ => true
  | .heartbeatTimeout _ => true
  | .stewardRestartTimeout _ => true
  | .rangerWatchdog => true
  | .managementReset => true
  | .selfTestReq _ _ => true
  | .tileSelfTest _ _ => true
  | .engineSelfTest _ _ => true
  | .sramLineTest _ _ => true
  | .dramLineTest _ _ => true
  | .dramLinkTest _ _ _ => true
  | .networkLinkTest _ _ _ => true
  | .routerTest _ _ => true
  | .frameReread _ _ => true
  | .streamEngineTest _ _ => true
  | .wload _ _ => true
  | .mmul _ _ _ _ => true
  | .outputWriter _ => true
  | .epiReturn _ => true
  | .vstart _ _ => true
  | .tsig _ _ => true
  | .tsigTokenSignal _ => true
  | .issueSlice _ => true
  | .vadd _ => true
  | .vsub _ => true
  | .vmul _ => true
  | .vmac _ => true
  | .vnmac _ => true
  | .vmin _ => true
  | .vmax _ => true
  | .vabs _ => true
  | .vneg _ => true
  | .vrcp _ => true
  | .vrsqrt _ => true
  | .vexp2 _ => true
  | .vnorm _ => true
  | .vcvt _ => true
  | .vredadd _ => true
  | .vredmax _ => true
  | .vredmin _ => true
  | .vand _ => true
  | .vor _ => true
  | .vxor _ => true
  | .vshl _ => true
  | .vshr _ => true
  | .vsra _ => true
  | .vcmp _ => true
  | .vsel _ => true
  | .vplog _ => true
  | .vmov _ => true
  | .vperm _ => true
  | .vbcast _ => true
  | .vext _ => true
  | .vins _ => true
  | .vlane _ => true
  | .vld _ => true
  | .vst _ => true
  | .vldb _ => true
  | .vstb _ => true
  | .sld _ => true
  | .sst _ => true
  | .sadd _ => true
  | .ssub _ => true
  | .smul _ => true
  | .sand _ => true
  | .sor _ => true
  | .sxor _ => true
  | .sshl _ => true
  | .sshr _ => true
  | .ssra _ => true
  | .saddi _ => true
  | .sli _ => true
  | .slih _ => true
  | .vcmd _ => true
  | .vgetf _ => true
  | .vbr _ => true
  | .vbz _ => true
  | .vbnz _ => true
  | .vbp _ => true
  | .vloop _ => true
  | .vrb _ => true
  | .vsig _ => true
  | .vwait _ => true
  | .vclrf _ => true
  | .vnop _ => true
  | .vtrap _ => true
  | .vend _ => true
  | .launch _ => true
  | .sgen _ => true
  | .sstep _ => true
  | .soff _ => true
  | .spack _ _ => true
  | .scopy _ _ => true
  | .sloop _ => true
  | .snext _ => true
  | .ssig _ => true
  | .swait _ => true
  | .tokenWaitSatisfied _ _ => true
  | .sbtk _ => true
  | .scmd _ => true
  | .sfork _ => true
  | .skill _ => true
  | .send _ => true
  | .streamEnd _ => true
  | .prefetch a => a.ext.wf
  | .translationMiss _ => true
  | .translationCompletion _ _ => true
  | .pageResponse _ _ => true
  | .pageRequestTimeout _ => true
  | .sramWriteBack _ => true
  | .sramPatrol _ => true
  | .stackRequest _ => true
  | .dramSchedule _ _ _ => true
  | .shareWindow _ => true
  | .refresh _ _ _ _ => true
  | .retrainAll _ _ _ => true
  | .relearnReq _ _ _ => true
  | .reshape _ _ => true
  | .stagedCopy _ _ _ => true
  | .fill _ _ _ => true
  | .datapathSlice _ => true
  | .routerHop _ _ _ => true
  | .linkReplay _ _ _ => true
  | .readReq _ => true
  | .readRsp _ => true
  | .write _ => true
  | .writeMasked _ => true
  | .writeAck _ => true
  | .signal _ => true
  | .command _ => true
  | .detach _ => true
  | .mcWrite _ => true
  | .netTimeout _ _ => true
  | .treeDetachTimeout _ _ => true
  | .xrefChange _ _ => true
  | .portEnable _ _ _ => true
  | .trainingFrame _ _ _ _ => true
  | .portUp _ => true
  | .xanTrain _ _ => true
  | .frame _ _ _ => true
  | .idle _ _ => true
  | .retry _ _ => true
  | .retryResendTimer _ => true
  | .controlBlockTimer _ => true
  | .laneMap _ _ => true
  | .deskew _ _ _ => true
  | .xanDown _ => true
  | .xanLane _ _ => true
  | .portReset _ => true
  | .testReq _ _ _ => true
  | .laneTest _ _ _ => true
  | .retrainReq _ _ _ => true
  | .laneEyeUpdate _ _ _ _ => true
  | .deviceIdWrite _ _ => true
  | .topologyWrite _ _ => true
  | .transit _ => true
  | .peerRequest _ => true
  | .peerResponse _ => true
  | .jobTokenSignal _ _ _ => true
  | .barrier _ => true
  | .barrierRelease _ _ => true
  | .barrierTimeout _ => true
  | .abortOriginate _ => true
  | .abort _ _ => true
  | .utxReq _ _ => true
  | .urxReq _ => true
  | .utxRsp _ _ => true
  | .stageIssue _ _ => true
  | .stageAck _ _ => true
  | .releaseStall _ => true
  | .retryRelease _ _ _ => true
  | .reconfiguration _ => true
  | .pllLockLoss _ _ => true
  | .bootLoad => true
  | .partialReq _ _ _ => true
  | .scrubFrame _ => true
  | .cfgScrubParity _ => true
  | .nvWriteReq _ _ _ _ _ => true
  | .switchReq _ => true
  | .firmwareHandoff => true
  | .handoffTimeout => true
  | .switchApply => true
  | .switchCommit => true
  | .abandon _ => true
  | .mailboxRead _ _ => true
  | .mailboxWrite _ _ _ => true
  | .beaconConflict => true
  | .plcaStatusChange _ => true
  | .haripRead => true
  | .haripWrite => true
  | .discover => true
  | .hello => true
  | .finish => true
  | .close => true
  | .halfOpenExpiry => true
  | .sessionIdleTimeout _ => true
  | .fieldRevertTimeout => true
  | .challengeExpiry => true
  | .resetManagementAction => true
  | .faultLogSnapshot _ => true
  | .powerCycleAction => true
  | .attestReq => true
  | .attestGet => true
  | .signRequest _ => true
  | .cmdTail _ _ => true
  | .resume _ _ => true
  | .cplHead _ _ => true
  | .completion _ => true
  | .statusVector _ => true
  | .ringEnable _ _ _ => true
  | .functionLevelReset _ => true
  | .hotReset => true
  | .d3hot _ => true
  | .perstN _ => true
  | .configRequest _ _ => true
  | .invalidateRequest _ _ _ => true
  | .completionTimeout _ _ => true
  | .vendorDefinedRequest _ _ _ => true
  | .keyExchange _ => true
  | .ideKm _ _ _ => true
  | .getMeasurements _ => true
  | .getCertificate _ _ _ => true
  | .sensorSample _ _ _ => true
  | .powerDecision => true
  | .currentLimit _ => true
  | .thermtrip _ => true
  | .railFault _ => true
  | .droop _ => true
  | .pointRaiseSettled _ _ => true
  | .calibrationWrite _ _ _ _ _ => true
  | .calibrationSetWrite _ _ => true
  | .imageKeyRevoke _ _ => true
  | .recoveryKeyWrite _ _ => true
  | .securityMinimumWrite _ _ _ => true
  | .devRstN _ _ _ => true
  | .rangerStart => true
  | .arefLoss _ => true
  | .railDrop _ => true
  | .pllLock _ _ => true
  | .droopEnd _ => true
  | .mclkPllLock => true
  | .testPortAccess _ => true
  | .msixVectorUnmask _ _ => true

end Sys2Proof
end

