-- ==== Sys2Proof/Tests/Slice0.lean ====
section
/-! SUPPORT. The model's own tests: an ill-formed term for each check, small tests whose results the spec states, and for each statement
with hypotheses a state and operands that meet them. -/

namespace Sys2Proof.Tests

open Sys2Proof Sys2Proof.Machine

set_option Elab.async false

/-! ## Small states -/

/-- Stand 0 in its step: it owns grove 0, the one of its default rectangle (R23); the compute rails are on. -/
def stepping : State := (State.reset.setStand 0 { Stand.reset with phase := .stepping }).setF 0x3100 3 4 4 15

/-- Tile 0 of grove 0. -/
def tile0 : TileRef := ⟨0, 0⟩

/-- Context 0 of grove 0 owns the slice and stands at the word `w`, which the instruction cache holds; its AQ holds four words. -/
def vecAt (w : U64) : State :=
  let x : Context := { Context.reset with st := .running, aq := [1, 2, 3, 4] }
  ((stepping.setBytes (storeAddr 0 0) (leBytes 8 w.toNat)).setCtx 0 x).setGrove 0
    { Grove.reset with owner := some 0, sliceLeft := 8, icache := [0] }

/-- A word of format V or M from its OPC, TYPE, VD, VA, VB and the low bits (R138). -/
def vWord (opc ty vd va vb low : Nat) : U64 :=
  BitVec.ofNat 64 (opc * 2 ^ 56 + ty * 2 ^ 53 + vd * 2 ^ 41 + va * 2 ^ 34 + vb * 2 ^ 27 + low)

/-- A word of format S or B from its OPC and the other bits. -/
def sWord (opc low : Nat) : U64 := BitVec.ofNat 64 (opc * 2 ^ 56 + low)

/-! ## The vector engine -/

/-- The opcodes of format V that are legal with TYPE `ty`, vector operands alone and the immediate 0. -/
def plainOpcodes (ty : Nat) : List Nat :=
  (List.range 0x21).filter (fun o => match vForm o with
    | some f => f.types.contains ty && decide (f.dst = .vec) && decide (f.vb ≠ some .scalar) && decide (f.va ≠ some .pred) &&
        vExtra (vWord o ty 0 0 0 0)
    | none => false)

theorem test_plainOpcodes : plainOpcodes 0 ++ plainOpcodes 2 =
    [0x01, 0x02, 0x03, 0x04, 0x05, 0x06, 0x07, 0x08, 0x09, 0x0A, 0x0B, 0x0C, 0x0D, 0x0E, 0x0F, 0x10, 0x11, 0x19, 0x1B, 0x1C, 0x1D] ++
    [0x01, 0x02, 0x03, 0x04, 0x05, 0x06, 0x07, 0x08, 0x09, 0x0E, 0x0F, 0x10, 0x11, 0x12, 0x13, 0x14, 0x15, 0x16, 0x17, 0x19, 0x1B, 0x1C, 0x1D,
      0x20] := by decide +kernel

/-- Every instruction of format V with vector operands issues, with every lane width: the hypothesis of VectorControlTokens, VectorArithmetic,
VectorConvertReduce, VectorBitsPredicates and VectorLanes, as the three below; witness_issues_scalar is that of ScalarOps. -/
theorem witness_issues_vector : ∀ ty, ty < 5 → ∀ o, o ∈ plainOpcodes ty → issues (vecAt (vWord o ty 0 0 0 0)) tile0 o (vWord o ty 0 0 0 0) := by
  decide +kernel

/-- The same, where an EPI command of tile 0 awaits output: AQ as every source and OQ as the destination. -/
def epiAt (w : U64) : State := (vecAt w).setTile 0 { Tile.reset with jobs := [⟨0, 0, BitVec.ofNat 64 (2 ^ 55), 0, 0, 1, 0, []⟩] }

theorem witness_issues_queues : ∀ o, o ∈ plainOpcodes 0 →
    issues (epiAt (vWord o 0 0x41 0x40 0x40 (0x40 * 2 ^ 20))) tile0 o (vWord o 0 0x41 0x40 0x40 (0x40 * 2 ^ 20)) := by
  decide +kernel

theorem witness_issues_predicates : issues (vecAt (vWord 0x18 0 0x50 0 0 6)) tile0 0x18 (vWord 0x18 0 0x50 0 0 6) ∧
    issues (vecAt (vWord 0x1A 7 0x5F 0x50 0x5F 0xF)) tile0 0x1A (vWord 0x1A 7 0x5F 0x50 0x5F 0xF) := by decide +kernel

theorem witness_issues_lanes : issues (vecAt (vWord 0x1E 1 0x60 0 0 63)) tile0 0x1E (vWord 0x1E 1 0x60 0 0 63) ∧
    issues (vecAt (vWord 0x1F 2 0 0 0x7F 127)) tile0 0x1F (vWord 0x1F 2 0 0 0x7F 127) := by decide +kernel

/-- The instructions of ScalarOps and VectorControlTokens. -/
theorem witness_issues_scalar : ∀ o, o ∈ [0x40, 0x41, 0x42, 0x43, 0x44, 0x45, 0x46, 0x47, 0x48, 0x49, 0x4A, 0x4B, 0x4C, 0x4D,
    0x50, 0x51, 0x52, 0x53, 0x54, 0x55, 0x58, 0x59] → issues (vecAt (sWord o 0)) tile0 o (sWord o 0) := by decide +kernel

theorem witness_issues_vend : issues ((vecAt (sWord 0x5B 0)).setCtx 0 { Context.reset with st := .running }) tile0 0x5B (sWord 0x5B 0) := by
  decide +kernel

/-- vsig and vwait of the first and the last counter of the grove's own. -/
theorem witness_VectorControlTokens_vsig : ∀ k, k ∈ [0, 63] →
    tokenCounter 0 (bImm (sWord 0x56 (k * 2 ^ 24))) = some (0, k) ∧ k < 64 ∧
    issues (vecAt (sWord 0x56 (k * 2 ^ 24))) tile0 0x56 (sWord 0x56 (k * 2 ^ 24)) ∧
    (issued (vecAt (sWord 0x56 (k * 2 ^ 24))) tile0 (sWord 0x56 (k * 2 ^ 24))).token 0 k < 0xFFFFFFFF := by decide +kernel

/-- A context at a vwait of counter `k`, which holds `v`. -/
def vwaitAt (k v : Nat) : State := (vecAt (sWord 0x57 (k * 2 ^ 24))).setToken 0 k v

theorem witness_VectorControlTokens_vwait : ∀ k, k ∈ [0, 63] → ∀ v, v ∈ [0, 1] →
    tokenCounter 0 (bImm (sWord 0x57 (k * 2 ^ 24))) = some (0, k) ∧
    (v = 1 → issues (vwaitAt k v) tile0 0x57 (sWord 0x57 (k * 2 ^ 24))) ∧ (vwaitAt k v).ctxRuns 0 = true ∧
    (vwaitAt k v).vecWord 0 = sWord 0x57 (k * 2 ^ 24) ∧ vLegal (sWord 0x57 (k * 2 ^ 24)) = true ∧ ((vwaitAt k v).ctx 0).granted = false ∧
    (vwaitAt k v).waitNow 0 k 1 = decide (1 ≤ v) := by decide +kernel

/-- A context that the wait has let go on. -/
def grantedAt : State := (vecAt (sWord 0x57 0)).setCtx 0 { Context.reset with st := .running, granted := true }

theorem witness_VectorControlTokens_granted : issues grantedAt tile0 0x57 (sWord 0x57 0) ∧ grantedAt.vecWord 0 = sWord 0x57 0 ∧
    (grantedAt.ctx 0).granted = true := by decide +kernel

/-- A vtrap, and a word of no opcode. -/
theorem witness_VectorControlTokens_stops : ∀ o, o ∈ [0x5A, 0] →
    (vecAt (sWord o 0)).ctxRuns 0 = true ∧ ((vecAt (sWord o 0)).grove 0).owner = some 0 ∧ ((vecAt (sWord o 0)).grove 0).sliceLeft ≠ 0 ∧
    ((vecAt (sWord o 0)).grove 0).icache.contains (((vecAt (sWord o 0)).ctx 0).pc.toNat / 256) = true ∧
    (vecAt (sWord o 0)).vecWord 0 = sWord o 0 ∧ (vOpc (sWord o 0) = 0x5A ∨ vLegal (sWord o 0) = false) ∧
    (vecAt (sWord o 0)).bit 0x6200 0x60 3 = false ∧ (vecAt (sWord o 0)).groveOwner 0 = some 0 ∧ ((vecAt (sWord o 0)).stand 0).failure = 0 := by
  decide +kernel

theorem witness_VectorMemory_vst : ∀ ty, ty ∈ [0, 1, 5] → issues (vecAt (vWord 0x31 ty 0 0 0 0)) tile0 0x31 (vWord 0x31 ty 0 0 0 0) ∧
    (issued (vecAt (vWord 0x31 ty 0 0 0 0)) tile0 (vWord 0x31 ty 0 0 0 0)).vecOwned 0 ty 0 128 = true ∧
    (issued (vecAt (vWord 0x31 ty 0 0 0 0)) tile0 (vWord 0x31 ty 0 0 0 0)).badSram (spaceAddr 0 ty 0) 128 = [] := by decide +kernel

/-- A store to a line of tile 0 that no Stand owns: the context runs on while Stand 0 is disabled. -/
theorem witness_VectorMemory_access :
    issues ((vecAt (vWord 0x31 1 0 0 0 0)).setStand 0 Stand.reset) tile0 0x31 (vWord 0x31 1 0 0 0 0) ∧
    (issued ((vecAt (vWord 0x31 1 0 0 0 0)).setStand 0 Stand.reset) tile0 (vWord 0x31 1 0 0 0 0)).vecOwned 0 1 0 128 = false := by decide +kernel

theorem witness_VectorMemory_vld : ∀ ty, ty ∈ [0, 5] → issues (vecAt (vWord 0x30 ty 0 0 0 0)) tile0 0x30 (vWord 0x30 ty 0 0 0 0) ∧
    (issued (vecAt (vWord 0x30 ty 0 0 0 0)) tile0 (vWord 0x30 ty 0 0 0 0)).badSram (spaceAddr 0 ty 0) 128 = [] := by decide +kernel

theorem witness_VectorMemory_blocks : ∀ o, o ∈ [0x32, 0x33] →
    issues (vecAt (vWord o 5 0 0 0 (4 * 2 ^ 16))) tile0 o (vWord o 5 0 0 0 (4 * 2 ^ 16)) ∧
    (issued (vecAt (vWord o 5 0 0 0 (4 * 2 ^ 16))) tile0 (vWord o 5 0 0 0 (4 * 2 ^ 16))).vecOwned 0 5 0 32 = true ∧
    sramSound (issued (vecAt (vWord o 5 0 0 0 (4 * 2 ^ 16))) tile0 (vWord o 5 0 0 0 (4 * 2 ^ 16))) := by decide +kernel

theorem witness_VectorMemory_scalar : ∀ o, o ∈ [0x34, 0x35] → issues (vecAt (vWord o 0 0x60 0 0 0)) tile0 o (vWord o 0 0x60 0 0 0) ∧
    (issued (vecAt (vWord o 0 0x60 0 0 0)) tile0 (vWord o 0 0x60 0 0 0)).badSram (spaceAddr 0 0 0) 8 = [] := by decide +kernel

theorem witness_VectorIssue : (vecAt (vWord 1 0 0 0 0 0)).badSram (storeAddr 0 0) 256 = [] ∧ (vecAt (vWord 1 0 0 0 0 0)).nextOwner 0 = some 0 ∧
    State.reset.nextOwner 0 = none := by decide +kernel

/-! ## The matrix tiles -/

/-- Grove 0 holds the command `w`, and its tiles are as `x`. -/
def queueAt (w : BitVec 128) (x : Tile) : State :=
  ((((stepping.setGrove 0 { Grove.reset with queue := [⟨w, 0⟩] }).setTile 0 x).setTile 1 x).setTile 2 x).setTile 3 x

/-- A command of operation `op` to all four tiles (R102). -/
def command (op low high : Nat) : BitVec 128 := BitVec.ofNat 128 (op * 2 ^ 60 + 0xF * 2 ^ 56 + low + high * 2 ^ 64)

/-- A weight set of Berry4: one nibble, so that its first pass is the final one. -/
def weights : WeightSet := ⟨[], [], 0, 0, false⟩

/-- A wload of its own tile's last 32 lines and of the last two lines. -/
def wloadLast : BitVec 128 := command 1 (4 * 2 ^ 46 + 4064 * 2 ^ 34 + 4094 * 2 ^ 22) 0

theorem witness_Wload : cmdRuns (queueAt wloadLast Tile.reset) 0 0 1 wloadLast wloadCode ∧ sramSound (queueAt wloadLast Tile.reset) ∧
    ∀ t, t < 4 → ((queueAt wloadLast Tile.reset).tile t).shadow = none ∧
      linesPending ((queueAt wloadLast Tile.reset).tile t) (fld wloadLast 34 12) 32 = false ∧
      linesPending ((queueAt wloadLast Tile.reset).tile t) (fld wloadLast 22 12) 2 = false := by decide +kernel

theorem witness_Wload_full : cmdRuns (queueAt wloadLast { Tile.reset with shadow := some weights }) 0 0 1 wloadLast wloadCode ∧
    sramSound (queueAt wloadLast { Tile.reset with shadow := some weights }) ∧
    ∀ t, t < 4 → ((queueAt wloadLast { Tile.reset with shadow := some weights }).tile t).shadow.isSome = true := by decide +kernel

/-- An mmul of one vector from the shadow set with a mask line and a seed. -/
def mmulSeeded : BitVec 128 := command 2 (2 ^ 49 + 2 ^ 50 + 4095 * 2 ^ 18 + 2 ^ 10 + 2 ^ 9 + 2 ^ 8) (4094 * 2 ^ 31)

theorem witness_Mmul : cmdRuns (queueAt mmulSeeded { Tile.reset with shadow := some weights }) 0 0 2 mmulSeeded mmulCode ∧
    sramSound (queueAt mmulSeeded { Tile.reset with shadow := some weights }) ∧
    linesPending ((queueAt mmulSeeded { Tile.reset with shadow := some weights }).tile 0) (fld mmulSeeded 30 12) 1 = false ∧
    linesPending ((queueAt mmulSeeded { Tile.reset with shadow := some weights }).tile 0) (fld mmulSeeded 18 12) 1 = false ∧
    ∀ i, i < 4 → mmulSet ((queueAt mmulSeeded { Tile.reset with shadow := some weights }).tile i) mmulSeeded = some weights ∧
      slotsBusy ((queueAt mmulSeeded { Tile.reset with shadow := some weights }).tile i) (fld mmulSeeded 11 7) 1 = false ∧
      linesPending ((queueAt mmulSeeded { Tile.reset with shadow := some weights }).tile i) (fld mmulSeeded 95 12) 2 = false := by decide +kernel

theorem witness_BitSerialDot : (∀ x, x ∈ [0xFFFFFFFF, 1] → x < 2 ^ 32) ∧ (∀ x, x ∈ [0x80000000] → x < 2 ^ 32) := by decide

theorem witness_VstartTsig_vstart : cmdRuns (queueAt (command 3 0 0) Tile.reset) 0 0 3 (command 3 0 0) vstartCode ∧
    ∀ i, i < 4 → ((queueAt (command 3 0 0) Tile.reset).ctx i).st = .idle := by decide +kernel

/-- A tsig of the last counter of the grove's own, and of grove 0 by its package number. -/
theorem witness_VstartTsig_tsig : ∀ token, token ∈ [0x3F, 0x100] →
    cmdRuns (queueAt (command 4 (token * 2 ^ 40) 0) Tile.reset) 0 0 4 (command 4 (token * 2 ^ 40) 0) tsigCode := by decide +kernel

/-- Grove 0 awaits the end of the commands before a tsig of counter 0, which ended; the counter takes the last count it can hold. -/
def tsigAt : State := (stepping.setGrove 0 { Grove.reset with tsigs := [⟨0x100, 0xFFFF, []⟩] }).setToken 0 0 0xFFFF0000

theorem witness_VstartTsig_signal : (tsigAt.grove 0).tsigs = [⟨0x100, 0xFFFF, []⟩] ∧ tsigReady tsigAt 0 ⟨0x100, 0xFFFF, []⟩ = true ∧
    tokenCounter 0 0x100 = some (0, 0) ∧ tsigAt.token 0 0 + 0xFFFF ≤ 0xFFFFFFFF := by decide +kernel

/-- A writer's job of one vector, its output from line `line` on; `epi` is bit 119 of the command. -/
def job (line epi handed : Nat) : WriterJob := ⟨0, 0, BitVec.ofNat 64 (epi * 2 ^ 55 + line * 2 ^ 43 + 6 * 2 ^ 60), 0, 0, handed, 0, []⟩

/-- Tile 0 holds the job, with 12 words in AQ and 4 in OQ. -/
def jobAt (j : WriterJob) : State :=
  (stepping.setTile 0 { Tile.reset with jobs := [j] }).setCtx 0 { Context.reset with aq := List.replicate 12 0, oq := [1, 2, 3, 4] }

theorem witness_OutputAndReturn_writer : writerNext ((jobAt (job 4094 0 0)).tile 0) = some (job 4094 0 0) ∧ sramSound (jobAt (job 4094 0 0)) ∧
    bitOf (job 4094 0 0).w1 55 = false ∧ fld (job 4094 0 0).w1 60 4 ≤ 6 ∧
    fld (job 4094 0 0).w1 43 12 + outLines (fld (job 4094 0 0).w1 60 4) 1 ≤ 4096 := by decide +kernel

theorem witness_OutputAndReturn_epi : writerNext ((jobAt (job 0 1 0)).tile 0) = some (job 0 1 0) ∧ sramSound (jobAt (job 0 1 0)) ∧
    bitOf (job 0 1 0).w1 55 = true ∧ bitOf (job 0 1 0).w1 56 = false ∧ (job 0 1 0).handed < (fedVectors 1 (job 0 1 0).masked).length ∧
    9 ≤ ((jobAt (job 0 1 0)).ctx 0).aq.length ∧ ((jobAt (job 0 1 0)).ctx 0).aq.length ≤ 12 := by decide +kernel

theorem witness_OutputAndReturn_return :
    ((jobAt (job 4094 1 1)).tile 0).jobs.find? (fun y => bitOf y.w1 55 && decide (y.returned < y.handed)) = some (job 4094 1 1) ∧
    sramSound (jobAt (job 4094 1 1)) ∧ fld (job 4094 1 1).w1 60 4 ≤ 6 ∧
    fld (job 4094 1 1).w1 43 12 + outLines (fld (job 4094 1 1).w1 60 4) (fld (job 4094 1 1).w0 42 7 + 1) ≤ 4096 ∧
    4 ≤ ((jobAt (job 4094 1 1)).ctx 0).oq.length := by decide +kernel

theorem witness_OutputAndReturn_parity : (0 : Fin 128).val < fld (job 4094 0 0).w0 42 7 + 1 ∧ bitOf (job 4094 0 0).masked 0 = false := by decide +kernel

/-! ## Streams -/

/-- Slot 0 of grove 0 is `sl`, and the local store holds the words of an instruction and of its literal. -/
def streamAt' (w0 w1 l0 l1 : Nat) (sl : Slot) : State :=
  (stepping.setBytes (storeAddr 0 0) (leBytes 8 w0 ++ leBytes 8 w1 ++ leBytes 8 l0 ++ leBytes 8 l1)).setSlot 0 sl

/-- A slot that runs with the generators `gs`. -/
def running (gs : SMap (Option Gen)) : Slot := { Slot.reset with st := .running, gens := gs }

/-- Slot 0 of grove 0. -/
def slot0 : SlotRef := ⟨0, 0⟩

/-- A write of slot 0 is outstanding. -/
def writing (s : State) : State := s.setOutst (groveNode 0) 0 (some ⟨.slot 0, true, 0, 1⟩)

/-- A stream without a run has no bytes of one to send: what the witnesses below show of streamAt is streamClear. -/
theorem streamClear_of_run_none {s : State} {u : SlotRef} {d o : Nat} {w0 w1 : U64} (h : streamAt s u d o w0 w1)
    (hr : (s.slot u.num).run = none) : streamClear s u d o w0 w1 := ⟨h, fun r hr' => by rw [hr] at hr'; cases hr'⟩

theorem witness_streamAt : ∀ o, o ∈ [0x01, 0x20, 0x21, 0x22, 0x23, 0x24, 0x25, 0x26, 0x27, 0x28] →
    streamAt (streamAt' (o * 2 ^ 56) 0 0 0 (running [])) slot0 0 o (BitVec.ofNat 64 (o * 2 ^ 56)) 0 ∧
    ((streamAt' (o * 2 ^ 56) 0 0 0 (running [])).slot 0).run = none ∧
    (streamAt' (o * 2 ^ 56) 0 0 0 (running [])).slotWrites 0 = false := by decide +kernel

theorem witness_streamAt_writing : ∀ o, o ∈ [0x22, 0x28] →
    streamAt (writing (streamAt' (o * 2 ^ 56) 0 0 0 (running []))) slot0 0 o (BitVec.ofNat 64 (o * 2 ^ 56)) 0 ∧
    (writing (streamAt' (o * 2 ^ 56) 0 0 0 (running []))).slotWrites 0 = true := by decide +kernel

/-- A snext of level 5 with the extent `e`: it branches back for 2, and leaves the loop for 1. -/
def snextAt (e : BitVec 48) : State := streamAt' (0x21 * 2 ^ 56 + 5 * 2 ^ 53) 0 0 0 { running [] with ext := [(5, e)] }

theorem witness_StreamPrograms_snext : ∀ e, e ∈ [1, 2] →
    streamAt (snextAt (BitVec.ofNat 48 e)) slot0 0 0x21 (BitVec.ofNat 64 (0x21 * 2 ^ 56 + 5 * 2 ^ 53)) 0 ∧
    (SMap.get 0 ((snextAt (BitVec.ofNat 48 e)).slot 0).cnt 5).toNat + 1 = 1 ∧
    (SMap.get 0 ((snextAt (BitVec.ofNat 48 e)).slot 0).ext 5).toNat = e := by decide +kernel

/-- An sgen of the last bytes of the local store. -/
def sgenLinear : Nat := 0x01 * 2 ^ 56 + 3 * 2 ^ 54 + 2 * 2 ^ 48 + 4

theorem witness_StreamPrograms_sgen_linear :
    streamAt (streamAt' sgenLinear 0x3FFFC 0 0 (running [])) slot0 0 0x01 (BitVec.ofNat 64 sgenLinear) 0x3FFFC ∧
    (streamAt' sgenLinear 0x3FFFC 0 0 (running [])).windowOk 0 0 2 0x3FFFC 4 = true := by decide +kernel

/-- A descriptor of `n` Hazel values of format `fmt` in one dimension, at `base` in tile 0 (R194 to R196). -/
def descOf (fmt n base : Nat) : List U64 :=
  [BitVec.ofNat 64 (1 + fmt * 2 ^ 8), BitVec.ofNat 64 (tileAddr 0 base), 0, 0, 0, 0, 0, 0, BitVec.ofNat 64 n,
    BitVec.ofNat 64 (if fmt = 5 then 2 else 4), 0, 0, 0, 0, 0, 0, 0, 0, 0, 0, 0, 0, 0, 0]

/-- The descriptor lies in the local store at 0x40. -/
def sgenDesc : State :=
  (streamAt' (0x01 * 2 ^ 56 + 2 ^ 51 + 2 * 2 ^ 48) 0x40 0 0 (running [])).setBytes (storeAddr 0 0x40) ((descOf 6 1 0).flatMap (fun w => leBytes 8 w.toNat))

theorem witness_StreamPrograms_sgen_descriptor :
    streamAt sgenDesc slot0 0 0x01 (BitVec.ofNat 64 (0x01 * 2 ^ 56 + 2 ^ 51 + 2 * 2 ^ 48)) 0x40 ∧
    ([0, 1].map (fun i => 128 * (storeAddr 0 0x40 / 128 + i))).filter (overNet 0) = [] ∧
    (((streamBase sgenDesc slot0).endRun 0).readNow (some 0) (storeAddr 0 0x40) 192).2.2 = 0 ∧
    (((streamBase sgenDesc slot0).endRun 0).readNow (some 0) (storeAddr 0 0x40) 192).1 = (streamBase sgenDesc slot0).endRun 0 ∧
    descCode (descOf 6 1 0) 0 sgenDesc.deviceId (fun a m => sgenDesc.ownsRange 0 a m) = 0 := by decide +kernel

/-- A linear generator of the first words of tile 0, and generators of one Hazel value at the same tile. -/
def linearGen (a : U64) : Gen := ⟨.linear, 3, a, 64, [], [], []⟩
def localGen (fmt base : Nat) : Gen := ⟨.local, 0, 0, 0, descOf fmt 1 base, [], []⟩

theorem witness_StreamPrograms_steps : ∀ o, o ∈ [0x02, 0x03] →
    streamAt (streamAt' (o * 2 ^ 56) 0 0 0 (running [(0, some (linearGen 0))])) slot0 0 o (BitVec.ofNat 64 (o * 2 ^ 56)) 0 ∧
    ((streamAt' (o * 2 ^ 56) 0 0 0 (running [(0, some (linearGen 0))])).slot 0).gen? 0 = some (linearGen 0) := by decide +kernel

/-- An ssig, an swait or an sbtk of one of counter 63. -/
def tokenAt (o v : Nat) : State := (streamAt' (o * 2 ^ 56) (0x3F * 2 ^ 48) 0 0 (running [])).setToken 0 63 v

theorem witness_StreamTokenWaits : ∀ v, v ∈ [0, 1] → ∀ o, o ∈ [0x22, 0x23, 0x24] →
    tokenCounter 0 (tToken (BitVec.ofNat 64 (0x3F * 2 ^ 48))) = some (0, 63) ∧
    streamAt (tokenAt o v) slot0 0 o (BitVec.ofNat 64 (o * 2 ^ 56)) (BitVec.ofNat 64 (0x3F * 2 ^ 48)) ∧
    (tokenAt o v).slotWrites 0 = false ∧ (tokenAt o v).token 0 63 + 1 ≤ 0xFFFFFFFF ∧ (tokenAt o v).waitNow 0 63 1 = decide (1 ≤ v) := by decide +kernel

/-- The first wait on counter 63 of grove 0, by a context and by a slot. -/
def waitingAt (who : Waiter) : State := (stepping.setGrove 0 { Grove.reset with waits := [⟨63, who, 1⟩] }).setToken 0 63 1

theorem witness_StreamTokenWaits_satisfied : ∀ c, c < 2 →
    firstWait ((waitingAt (if c = 0 then .context 3 else .slot 7)).grove 0) 63 = some ⟨63, if c = 0 then .context 3 else .slot 7, 1⟩ ∧
    1 ≤ (waitingAt (if c = 0 then .context 3 else .slot 7)).token 0 63 := by decide +kernel

/-- A launch record of slot 7; with RATE set, BURST is 0. -/
def record (rate : Nat) : BitVec 128 := BitVec.ofNat 128 (7 * 2 ^ 47 + rate * 2 ^ 35)
def launchAt (rate : Nat) : State := stepping.setGrove 0 { Grove.reset with launches := [record rate] }

theorem witness_StreamLaunchEnd_launch : ((launchAt 0).grove 0).launches = [record 0] ∧ recSlot (record 0) = 7 ∧ ((launchAt 0).slot 7).st = .idle ∧
    (launchAt 0).slotWrites 7 = false ∧ fld (record 0) 35 12 = 0 ∧ (launchAt 0).groveFailed 0 = false := by decide +kernel

theorem witness_StreamLaunchEnd_refused : ((launchAt 1).grove 0).launches = [record 1] ∧ fld (record 1) 35 12 ≠ 0 ∧ fld (record 1) 19 16 = 0 ∧
    (launchAt 1).groveOwner 0 = some 0 ∧ ((launchAt 1).stand 0).failure = 0 := by decide +kernel

theorem witness_StreamLaunchEnd_end : ((streamAt' 0 0 0 0 { running [] with hold := .ending }).slot 0).hold = .ending ∧
    (streamAt' 0 0 0 0 { running [] with hold := .ending }).slotWrites 0 = false := by decide +kernel

/-- A skill of slot 7. -/
def skillAt : State := (streamAt' (0x27 * 2 ^ 56 + 7 * 2 ^ 50) 0 0 0 (running [])).setSlot 7 (running [])

theorem witness_StreamLaunchEnd_skill : streamAt skillAt slot0 0 0x27 (BitVec.ofNat 64 (0x27 * 2 ^ 56 + 7 * 2 ^ 50)) 0 ∧
    fld (BitVec.ofNat 64 (0x27 * 2 ^ 56 + 7 * 2 ^ 50)) 50 3 ≠ 0 ∧ (skillAt.slot 7).st = .running ∧ (skillAt.slot 7).hold = .none ∧
    skillAt.slotWrites 7 = false := by decide +kernel

/-- A move from generator 0 to generator 1. -/
def moveWord : Nat := 0x10 * 2 ^ 56 + 2 ^ 52
def moveAt (gs gd : Gen) : State := streamAt' moveWord 0 0 0 (running [(0, some gs), (1, some gd)])

theorem witness_StreamMoves_linear : streamAt (moveAt (linearGen 0) (linearGen 128)) slot0 0 0x10 (BitVec.ofNat 64 moveWord) 0 ∧
    (linearGen 0).fmt = 7 ∧
    (moveAt (linearGen 0) (linearGen 128)).unitAt 0 ((moveAt (linearGen 0) (linearGen 128)).slot 0) (linearGen 0) =
      some ⟨.device, 7, [(tileAddr 0 0, 4)], false, 1⟩ ∧
    (moveAt (linearGen 0) (linearGen 128)).unitAt 0 ((moveAt (linearGen 0) (linearGen 128)).slot 0) (linearGen 128) =
      some ⟨.device, 7, [(tileAddr 0 128, 4)], false, 1⟩ ∧
    tOp (BitVec.ofNat 64 moveWord) = 0 ∧ tMc (BitVec.ofNat 64 moveWord) = false ∧ isStack (tileAddr 0 0) = false ∧
    (moveAt (linearGen 0) (linearGen 128)).accessCode (some 0) (tileAddr 0 0) 4 = 0 ∧
    (moveAt (linearGen 0) (linearGen 128)).accessCode (some 0) (tileAddr 0 128) 4 = 0 := by decide +kernel

theorem witness_StreamMoves_sound : sramSound (moveAt (linearGen 0) (linearGen 128)) := by decide +kernel

theorem witness_StreamMoves_hazel : ∀ f, f ∈ [5, 6] →
    streamAt (moveAt (localGen f 0) (localGen (11 - f) 128)) slot0 0 0x10 (BitVec.ofNat 64 moveWord) 0 ∧ (localGen f 0).fmt = f ∧
    (moveAt (localGen f 0) (localGen (11 - f) 128)).unitAt 0 ((moveAt (localGen f 0) (localGen (11 - f) 128)).slot 0) (localGen f 0) =
      some ⟨.device, f, [(tileAddr 0 0, (hazelFmt f).width / 8)], false, 1⟩ ∧
    (moveAt (localGen f 0) (localGen (11 - f) 128)).unitAt 0 ((moveAt (localGen f 0) (localGen (11 - f) 128)).slot 0) (localGen (11 - f) 128) =
      some ⟨.device, 11 - f, [(tileAddr 0 128, (hazelFmt (11 - f)).width / 8)], false, 1⟩ := by decide +kernel

/-- An scmd or an sfork, whose literal names slot 7. -/
def literalAt (o : Nat) : State := streamAt' (o * 2 ^ 56) 0 (7 * 2 ^ 47) 0 (running [])

theorem witness_StreamCommandsPrefetch_literal : ∀ o, o ∈ [0x25, 0x26] →
    streamAt (literalAt o) slot0 0 o (BitVec.ofNat 64 (o * 2 ^ 56)) 0 ∧
    ((streamBase (literalAt o) slot0).endRun 0).fetch16 0 16 = ((streamBase (literalAt o) slot0).endRun 0, BitVec.ofNat 64 (7 * 2 ^ 47), 0, 0) ∧
    (literalAt o).slotWrites 0 = false ∧ ((literalAt o).grove 0).queue.length < 32 ∧ ((literalAt o).slot 7).st = .idle ∧
    (literalAt o).slotWrites 7 = false ∧ (literalAt o).groveFailed 0 = false := by decide +kernel

/-- Stand 0 owns groves 0 and 1, and a move reads the second one's SRAM, with 63 blocks in the buffer. -/
def prefetchAt : State :=
  (streamAt' moveWord 0 0 0 { running [(0, some ⟨.linear, 0, BitVec.ofNat 64 (tileAddr 4 0), 64, [], [], []⟩), (1, some (linearGen 0))] with
    buffer := List.replicate 63 ⟨0, 0, none⟩ }).setObj 0x6100 2 0x100

theorem witness_StreamCommandsPrefetch_prefetch : prefetchAt.groveOwner 0 = some 0 ∧ (prefetchAt.slot 0).st = .running ∧
    (prefetchAt.slot 0).hold = .none ∧ (prefetchAt.slot 0).buffer.length < 64 ∧
    prefetchAt.nextFetch 0 0 0 (prefetchAt.slot 0) = some (.device, tileAddr 4 0) ∧ (prefetchAt.readNow (some 0) (tileAddr 4 0) 128).2.2 = 0 ∧
    (prefetchAt.readNow (some 0) (tileAddr 4 0) 128).1 = prefetchAt := by decide +kernel

theorem witness_StreamCommandsPrefetch_none :
    (streamAt' (0x28 * 2 ^ 56) 0 0 0 (running [])).nextFetch 0 0 0 (running []) = none := by decide +kernel

/-- A pack of one block of 32 values for port A, to the last lines of no tile. -/
def packDesc : List U64 :=
  [BitVec.ofNat 64 (1 + 6 * 2 ^ 8 + 2 ^ 12), BitVec.ofNat 64 (tileAddr 1 0), 0, 0, 0, 0, 0, 0, 32, 4, 1, 128, 0, 0, 0, 0, 0, 0, 0, 0, 0, 0, 0, 0]
def packWord : Nat := 0x11 * 2 ^ 56 + 2 ^ 53 + 2 ^ 46 + 4087 * 2 ^ 14
def packGen : Gen := ⟨.local, 0, 0, 0, packDesc, [], []⟩
def packAt : State := streamAt' packWord 0 0 0 (running [(0, some packGen)])
/-- The device's memory as grove 0 reads it for Stand 0. -/
def fromDevice : CopySrc := ⟨groveNode 0, some 0, none⟩

theorem witness_StreamCopies_spack : streamAt packAt slot0 0 0x11 (BitVec.ofNat 64 packWord) 0 ∧ packGen.kind = .local ∧
    packBadDims packDesc (BitVec.ofNat 64 packWord) = false ∧ dSpace packDesc = 0 ∧ pkLine (BitVec.ofNat 64 packWord) + 9 ≤ 4096 ∧
    pkPortA (BitVec.ofNat 64 packWord) = true ∧ waveLines (pkV (BitVec.ofNat 64 packWord)) (berryP (pkFmt (BitVec.ofNat 64 packWord))) = 9 ∧
    (((streamBase packAt slot0).endRun 0).packRun slot0 fromDevice packGen (BitVec.ofNat 64 packWord)).code = 0 := by decide +kernel

theorem witness_StreamCopies_store : (fun c : CopyRun => (c.s.packStore 0 0 (BitVec.ofNat 64 packWord) c.writes).2)
    (((streamBase packAt slot0).endRun 0).packRun slot0 fromDevice packGen (BitVec.ofNat 64 packWord)) = 0 := by decide +kernel

/-- A copy of `n` Hazel32 values of tile 0 to `base`. -/
def copyWord : Nat := 0x12 * 2 ^ 56 + 2 ^ 52
def copyGen (n base : Nat) : Gen := ⟨.local, 0, 0, 0, descOf 6 n base, [], []⟩
def copyAt (n base : Nat) : State := streamAt' copyWord 0 0 0 (running [(0, some (copyGen n 0)), (1, some (copyGen n base))])

theorem witness_StreamCopies_scopy : ∀ n, n ∈ [0, 1] → ∀ base, base ∈ [0, 64] →
    streamAt (copyAt n base) slot0 0 0x12 (BitVec.ofNat 64 copyWord) 0 ∧ dDims (copyGen n 0).desc = dDims (copyGen n base).desc ∧
    permOk (cpPerm (BitVec.ofNat 64 copyWord)) 1 = true ∧ dSplit (copyGen n base).desc = false ∧ dSpace (copyGen n base).desc = 0 ∧
    (extentsAt (copyGen n base).desc ((copyAt n base).ownCoord (copyGen n base).desc)).any (fun e => e == 0) = decide (n = 0) ∧
    copiesOverlap (copyGen n 0).desc (copyGen n base).desc [n] [n] = decide (n = 1 ∧ base = 0) ∧
    footprintBytes (copyGen n 0).desc [n] ≤ 0x4000000 ∧ (((streamBase (copyAt n base) slot0).endRun 0).freeTxn (groveNode 0)).isSome = true ∧
    largeReshape (copyGen n 0).desc (copyGen n base).desc [n] 0 = false := by decide +kernel

theorem witness_StreamCopies_copied : (((streamBase (copyAt 1 64) slot0).endRun 0).copyTensor fromDevice 1 (copyGen 1 0).desc (copyGen 1 64).desc [1] [1]
      (cpPerm (BitVec.ofNat 64 copyWord)) (cpRm (BitVec.ofNat 64 copyWord)) (cpSat (BitVec.ofNat 64 copyWord))
      (fun i k => ((streamBase (copyAt 1 64) slot0).endRun 0).streamDraw 0 0 i k) []).2.2.2 = 0 := by decide +kernel

theorem witness_StreamCopies_source : packAt.groupPending 0 = [] ∧ (copyAt 1 64).groupPending 0 = [] ∧
    unitBlocks 0 ⟨.device, 0, packPieces packDesc (extentsAt packDesc (packAt.ownCoord packDesc))
      (packIndex (packAt.slot 0) packGen (extentsAt packDesc (packAt.ownCoord packDesc))) (BitVec.ofNat 64 packWord), false, 0⟩ = [] ∧
    ((streamBase (copyAt 1 0) slot0).endRun 0).sendRoom (groveNode 0) 0 1 = true := by decide +kernel

theorem witness_StreamCopies_device : ∀ ext, copySource (groveNode 0) (some 0) packDesc (extentsAt packDesc (packAt.ownCoord packDesc)) ext = some fromDevice ∧
    copySource (groveNode 0) (some 0) (copyGen 1 0).desc [1] ext = some fromDevice := fun _ => ⟨rfl, rfl⟩

/-- A move from page 1 of the host's memory. -/
def hostMove : State := streamAt' moveWord 0 0 0 (running [(0, some ⟨.linear, 1, 0x1000, 64, [], [], []⟩), (1, some (linearGen 0))])

/-- A program that moves from the host's memory. -/
theorem witness_StreamCommandsPrefetch_host : (hostMove.slot 0).buffer.length < 64 ∧ (List.replicate 128 (0 : Byte)).length = 128 := by decide +kernel

theorem witness_StreamTranslation_miss : hostMove.groveOwner 0 = some 0 ∧ (hostMove.slot 0).st = .running ∧ (hostMove.slot 0).hold = .none ∧
    (hostMove.slot 0).miss = none ∧ bitOf hostMove.hostOff 1 = false ∧ hostMove.fetch16 0 0 = (hostMove, BitVec.ofNat 64 moveWord, 0, 0) ∧
    tLegal (hostMove.slot 0) (BitVec.ofNat 64 moveWord) = true ∧
    hostMove.hostPieces 0 (hostMove.slot 0) (BitVec.ofNat 64 moveWord) = [(false, 0, [(0x1000, 4)])] ∧
    SMap.get none hostMove.ats (2 * (2 ^ 52 + 1)) = none := by decide +kernel

/-- Slot 0 of grove 0 awaits an answer for host page 1, met at its position or ahead of it. -/
def missOf (pc : Nat) (prg : Option (BitVec 9)) : Miss := ⟨0x1000, true, 3, BitVec.ofNat 18 pc, [], [], prg⟩
def missAt (pc : Nat) (prg : Option (BitVec 9)) : State := stepping.setSlot 0 { running [] with miss := some (missOf pc prg) }

theorem witness_StreamTranslation_answers : ∀ pc, pc ∈ [0, 16] → ∀ asked, asked < 2 →
    let prg : Option (BitVec 9) := if asked = 0 then none else some 511
    ((missAt pc prg).slot 0).miss = some (missOf pc prg) ∧ (missOf pc prg).prg = prg ∧
    (missOf pc prg).here ((missAt pc prg).slot 0) = decide (pc = 0) := by decide +kernel

theorem witness_StreamTranslation_owned : (missAt 0 none).groveOwner 0 = some 0 ∧ (missAt 0 none).pagesAsked 0 < 512 := by decide +kernel

/-! ## Stands' control, the BAR0 window, mailboxes and the objects that act -/

/-- The physical function. -/
def pf : Requester := .func 0

/-- Ranger serves, the endpoint answers, the compute rails are on, and Stand 0 is in the phase `p`. -/
def servingIn (p : Phase) : State :=
  { (State.reset.setStand 0 { Stand.reset with phase := p }).setF 0x3100 3 4 4 15 with ranger := .up, endpointReady := true, booted := true, perstN := true }

/-- The same after a device reset. -/
def serving : State := servingIn .disabled

theorem witness_StandControl_disabled : mayWrite serving pf 0x6100 1 ∧ (serving.stand 0).phase = .disabled ∧ rectValid (serving.rect 0) = true ∧
    (∀ o, o < 8 → o ≠ 0 → serving.enabled o = true → rectsMeet (serving.rect 0) (serving.rect o) = false) ∧
    ∀ k, k < 8 → shareOf (serving.obj 0x6100 3) k + ((serving.others 0).map (fun o => shareOf (serving.obj (standIx o) 3) k)).foldl (· + ·) 0 ≤ 16 := by
  decide +kernel

/-- Stand 0's rectangle meets Stand 1's. -/
theorem witness_StandControl_meets : mayWrite (serving.setStand 1 { Stand.reset with phase := .held }) pf 0x6100 1 ∧
    ((serving.setStand 1 { Stand.reset with phase := .held }).stand 0).phase = .disabled ∧
    (serving.setStand 1 { Stand.reset with phase := .held }).enabled 1 = true ∧
    rectsMeet ((serving.setStand 1 { Stand.reset with phase := .held }).rect 0) ((serving.setStand 1 { Stand.reset with phase := .held }).rect 1) = true := by
  decide +kernel

theorem witness_StandControl_held : mayWrite ((servingIn .held).setObj 0x6100 1 3) pf 0x6100 1 ∧
    (((servingIn .held).setObj 0x6100 1 3).stand 0).phase = .held ∧ (((servingIn .held).setObj 0x6100 1 3).stand 0).unitFailed = false ∧
    bitOf (((servingIn .held).setObj 0x6100 1 3).acceptedWord (objKey 0 0x6100 1 0)) 0 = true ∧
    ((servingIn .held).setObj 0x6100 1 3).inJob 0 = false ∧ (((servingIn .held).setObj 0x6100 1 3).job 0).restored = false := by decide +kernel

theorem witness_StandControl_waits : mayWrite (servingIn .stepping) pf 0x6100 1 ∧ ((servingIn .stepping).stand 0).phase ≠ .disabled ∧
    ((servingIn .stepping).stand 0).phase ≠ .held ∧ bitOf ((servingIn .stepping).acceptedWord (objKey 0 0x6100 1 0)) 1 = false := by decide +kernel

/-- A BAR0 write of four or eight bytes to the slot of an object, or to its alias. -/
def bar0 (ix sb bytes : Nat) (alias_ : Bool) (data : U64) : Bar0Write :=
  ⟨0, BitVec.ofNat 28 (ix * 0x800 + sb * 8 + (if alias_ then 2 ^ 27 else 0)), BitVec.ofNat 6 (bytes - 1), data⟩

/-- FaultLogStatus with the SEQ read, and with another. -/
theorem witness_StatusWrites : ∀ seq, seq ∈ [0, 0xFFFF] → serving.endpointReady = true ∧ serving.serves = true ∧
    serving.bar0Cause (bar0 0xA000 2 4 false (BitVec.ofNat 64 (seq * 2 ^ 16))) = 0 ∧ (statusMask 0xA000 2).isSome = true ∧
    bar0Ix (bar0 0xA000 2 4 false 0).offset = 0xA000 ∧ bar0Sb (bar0 0xA000 2 4 false 0).offset = 2 ∧
    bar0Alias (bar0 0xA000 2 4 false 0).offset = false ∧ isGuarded 0xA000 2 = false ∧ SMap.get none serving.latches 0 = none := by decide +kernel

/-- Every object whose clearable bits R460 names, where only a Stand's own function is left out, has a witness of StatusWrites. -/
theorem witness_StatusWrites_objects : ∀ e, e ∈ [(0x1011, 1), (0x1020, 5), (0x2000, 1), (0x3100, 3), (0x5000, 2), (0x5000, 9), (0x6100, 4),
    (0x62DF, 0x41), (0x62DF, 0x42), (0x62DF, 0x78), (0x63DF, 0x80), (0x6400, 4), (0x7100, 2)] →
    serving.bar0Cause (bar0 e.1 e.2 4 false 0) = 0 ∧ isGuarded e.1 e.2 = false := by decide +kernel

/-- A guarded write is latched; its alias write has the complement. -/
def latched (b : Bar0Write) : State := { serving with latches := [(0, some b)] }

theorem witness_GuardedWrites_load : serving.bar0Cause (bar0 0x2002 5 4 false 1) = 0 ∧ isGuarded 0x2002 5 = true ∧
    bar0Alias (bar0 0x2002 5 4 false 1).offset = false ∧ bar0Ix (bar0 0x2002 5 4 false 1).offset = 0x2002 ∧
    bar0Sb (bar0 0x2002 5 4 false 1).offset = 5 := by decide +kernel

theorem witness_GuardedWrites_alias : ∀ v, v ∈ [0xFFFFFFFE, 0xFFFFFFFF] → let b := bar0 0x2002 5 4 true (BitVec.ofNat 64 v)
    (latched (bar0 0x2002 5 4 false 1)).bar0Cause b = 0 ∧ bar0Alias b.offset = true ∧ isVendor (bar0Ix b.offset) = false ∧
    aliasMatches (bar0 0x2002 5 4 false 1) b = decide (v = 0xFFFFFFFE) ∧ isMailboxCtrl (bar0Ix b.offset) (bar0Sb b.offset) = false ∧
    SMap.get none (latched (bar0 0x2002 5 4 false 1)).latches 0 = some (bar0 0x2002 5 4 false 1) ∧ SMap.get none serving.latches 0 = none ∧
    serving.bar0Cause b = 0 := by decide +kernel

theorem witness_GuardedWrites_mailbox : bar0Ix (bar0 0x1010 0x1F 8 false 0).offset = 0x1010 ∧ bar0Sb (bar0 0x1010 0x1F 8 false 0).offset = 0x1F ∧
    widthBad (bar0 0x1010 0x1F 8 false 0) 64 = false ∧ bar0Sb (bar0 0x1010 0x10 8 false 0).offset = 0x10 ∧
    bar0Sb (bar0 0x1010 1 4 false 0).offset = 1 ∧ widthBad (bar0 0x1010 1 4 false 0) 32 = false ∧
    bar0Alias (bar0 0x1010 1 4 false 0).offset = false := by decide +kernel

/-- A write that breaks a rule, one that is held, and one of the vendor range. -/
theorem witness_GuardedWrites_others : serving.bar0Cause (bar0 0x1010 0 4 false 0) ≠ 0 ∧ ({ serving with ranger := .down } : State).serves = false ∧
    ({ serving with heldBar0 := [bar0 0x1010 1 4 false 0] } : State).heldBar0.find? (fun b => b.func == 0) = some (bar0 0x1010 1 4 false 0) ∧
    serving.bar0Cause (bar0 0xFFFF 0xFF 8 false 0) = 0 ∧ isVendor (bar0Ix (bar0 0xFFFF 0xFF 8 false 0).offset) = true := by decide +kernel

/-- The mailbox of the physical function names an object. -/
def mailbox (ix sb : Nat) : State := serving.setWord (objKey (bankOf pf) 0x1010 1 0) (BitVec.ofNat 64 (ix * 2 ^ 16 + sb * 2 ^ 8))

/-- A read of word 0, and of the last of the words of a record; one beyond it; a write; and a write of the vendor range. -/
theorem witness_MailboxTransfers : (mailbox 0x7001 1).serves = true ∧ (mailbox 0x7001 1).rightOf pf ≠ .none ∧
    (mailbox 0x7001 1).mailboxTarget pf = (0x7001, 1) ∧ (mailbox 0x7001 1).transferErr pf 0x7001 1 0 1 false false = 0 ∧
    (mailbox 0x7001 1).transferErr pf 0x7001 1 1 1 false false = 3 ∧ (mailbox 0x7001 1).transferErr pf 0x7001 1 0 1 true true = 0 ∧
    (mailbox 0x2004 1).transferErr pf 0x2004 1 5 1 false false = 0 ∧ (mailbox 0x2004 1).transferErr pf 0x2004 1 0 6 true false = 0 ∧
    (mailbox 0xF000 0).mailboxTarget pf = (0xF000, 0) ∧ (mailbox 0xF000 0).transferErr pf 0xF000 0 0 1 true false = 0 ∧
    isVendor 0xF000 = true ∧ isVendor 0x7001 = false := by decide +kernel

/-- A self-test of the last tile, of no Stand's. -/
def testTile : U64 := 0x8100037F

theorem witness_RegisterActions_selfTest : maskedWord (serving.acceptedWord (objKey 0 0xA001 2 0)) testTile 0x8F00FFFF = testTile ∧
    mayWrite serving pf 0xA001 2 ∧ serving.rightOf pf = .full ∧ bitOf (serving.acceptedWord (objKey 0 0xA001 2 0)) 31 = false ∧
    serving.selfTest = none ∧ fld testTile 0 16 < testCount (fld testTile 24 4) ∧ bitOf testTile 31 = true ∧
    serving.testOwner (setFld testTile 28 2 0) = none := by decide +kernel

/-- The last stack has failed its training. -/
theorem witness_RegisterActions_stack : mayWrite serving pf 0x8027 1 ∧ (serving.setF 0x8027 2 0 2 3).getF 0x8027 2 0 2 = 3 ∧
    serving.getF 0x8027 2 0 2 ≠ 3 ∧ (∀ lane, lane ∈ [0, 287] → ∀ n, n ∈ [1, 63] → ∀ v : BitVec 32, v = BitVec.ofNat 32 (lane * 2 ^ 16 + n * 2 ^ 8 + 4 * 2 ^ 2) →
      fld v 16 9 < 288 ∧ fld v 2 3 ≤ 4 ∧ fld v 8 8 ≠ 0 ∧ fld v 8 8 ≤ 63 ∧ bitOf v 25 = false ∧ bitOf v 26 = false) := by
  refine ⟨by decide +kernel, by decide +kernel, by decide +kernel, ?_⟩
  intro lane hl n hn v hv
  subst hv
  revert lane n
  decide +kernel

/-- The release of the last Clearing has stalled. -/
theorem witness_RegisterActions_clearing : mayWrite (serving.setF 0x915F 2 0 3 5) pf 0x915F 1 ∧ (serving.setF 0x915F 2 0 3 5).clearingOwner 95 = none ∧
    (serving.setF 0x915F 2 0 3 5).getF 0x915F 2 0 3 = 5 ∧ serving.rightOf pf = .full := by decide +kernel

/-- The largest coordinates that DeviceId and Topology allow, and one beyond. -/
theorem witness_RegisterActions_device : mayWrite serving pf 0x7001 1 ∧ mayWrite serving pf 0x7001 2 ∧ (∀ d, d < 8 → serving.inJob d = false) ∧
    (serving.setObj 0x7001 2 0x70F77).getF 0x7001 2 0 3 = 7 ∧
    (∀ x y z : Nat, x = 7 → y = 7 → z = 15 → fld (BitVec.ofNat 64 (x * 2 ^ 16 + y * 2 ^ 19 + z * 2 ^ 22)) 16 3 ≤ fld (0x70F77 : U64) 0 3 ∧
      fld (BitVec.ofNat 64 (x * 2 ^ 16 + y * 2 ^ 19 + z * 2 ^ 22)) 19 3 ≤ fld (0x70F77 : U64) 4 3 ∧
      fld (BitVec.ofNat 64 (x * 2 ^ 16 + y * 2 ^ 19 + z * 2 ^ 22)) 22 4 ≤ fld (0x70F77 : U64) 8 4) := by
  refine ⟨by decide +kernel, by decide +kernel, by decide +kernel, by decide +kernel, ?_⟩
  intro x y z hx hy hz
  subst hx hy hz
  decide +kernel

theorem witness_RegisterActions_job : (serving.setObj 0x7470 1 0x80000000).inJob 7 = true ∧ mayWrite (serving.setObj 0x7470 1 0x80000000) pf 0x7001 1 := by
  decide +kernel

/-- The smallest and the largest rings and vectors. -/
def ringValue (e v : Nat) : U64 := BitVec.ofNat 64 (1 + v * 2 ^ 3 + e * 2 ^ 14 + e * 2 ^ 19)

theorem witness_RegisterActions_ring : ∀ f, f ∈ [0, 8] → mayWrite serving pf (0x6400 + f) 1 ∧ serving.ringOn f = false ∧
    (serving.setObj (0x6400 + f) 1 (ringValue 4 1)).ringOn f = true ∧
    (∀ e, e ∈ [4, 16] → maskedWord (serving.obj (0x6400 + f) 1) (ringValue e (if f = 0 then 255 else 223)) 0xFFFFF9 = ringValue e (if f = 0 then 255 else 223) ∧
      bitOf (ringValue e 223) 0 = true ∧ inRange 4 16 (fld (ringValue e 223) 19 5) = true ∧ inRange 4 16 (fld (ringValue e 223) 14 5) = true ∧
      inRange 1 (if f = 0 then 255 else 223) (fld (ringValue e (if f = 0 then 255 else 223)) 3 11) = true) := by decide +kernel

theorem witness_RegisterActions_calibration : ∀ v, v ∈ [0x0140, 0xFEC0, 0x0141] → mayWrite serving pf 0x4003 64 ∧ (objInfo 0x4003 64).isSome = true ∧
    refusedLow 0x4003 64 (BitVec.ofNat 64 v) = decide (v = 0x0141) := by decide +kernel

/-! Images: a switch, a write of an image, a partial load. -/

/-- A configuration that runs, with no switch. -/
def configured : State := serving.setF 0x5000 2 0 4 1

/-- A staged switch of slot B, in the state `n`. -/
def switching (n : Nat) : State :=
  { serving.setF 0x5000 2 0 4 n with switch := some ⟨true, ⟨0, [], [], [], false, 0⟩, 0, 0, [], true⟩ }

theorem witness_ImageCommands_switch : mayWrite configured pf 0x5000 1 ∧ configured.bit 0x5000 1 0 = false ∧ configured.switch = none ∧
    configured.imageState = 1 ∧ configured.bit 0x5000 9 0 = false ∧ configured.bit 0x5000 2 4 = false ∧ serving.imageState ≠ 1 ∧
    mayWrite serving pf 0x5000 1 ∧ serving.bit 0x5000 1 0 = false := by decide +kernel

theorem witness_ImageCommands_staged : mayWrite (switching 4) pf 0x5000 1 ∧ (switching 4).switch.isSome = true ∧ (switching 4).imageState = 4 ∧
    (switching 3).imageState ≠ 4 ∧ mayWrite (switching 3) pf 0x5000 1 ∧ ({ switching 5 with ranger := .handoff } : State).imageState = 5 ∧
    ({ switching 5 with ranger := .handoff } : State).heldBar0 = [] := by decide +kernel

/-- The shortest image that an NV write takes, the longest, and lengths beyond. -/
theorem witness_ImageCommands_nvWrite : mayWrite serving pf 0x5000 3 ∧ fld (0 : U64) 0 2 = 0 ∧ serving.bit 0x5000 2 4 = false ∧
    (4103 : U64).toNat < 4104 ∧ 4104 ≤ (4104 : U64).toNat ∧ (4104 : U64).toNat ≤ slotSize ∧ (0x3C000000 : U64).toNat ≤ slotSize ∧
    slotSize < (0x3C000001 : U64).toNat := by decide +kernel

/-- A partial load of the first grove of die 0 from offset 0, of a partial image; no offset that is not a multiple of 4,096 is taken. -/
def partialW1 : U64 := 24 * 2 ^ 2
def partialState : State := { servingIn .stepping with nv := [(partialBase + 0x0A, 3)] }

theorem witness_ImageCommands_partial : mayWrite partialState pf 0x5000 7 ∧ partialState.rightOf pf = .full ∧ bitOf (0 : U64) 63 = false ∧
    24 ≤ fld partialW1 2 7 ∧ fld partialW1 2 7 < 80 ∧ partialState.switch = none ∧ SMap.get none partialState.groveNext 0 = none ∧
    (partialState.clearing 24).next = none ∧ fld (1 : U64) 0 44 % 4096 ≠ 0 ∧ partialSize ≤ fld (0x44000000 : U64) 0 44 ∧
    fld (0 : U64) 0 44 % 4096 = 0 ∧ fld (0 : U64) 0 44 < partialSize ∧ imgKind (partialState.nvImage partialBase) = 3 ∧
    partialState.groveOwner 0 = some 0 ∧ partialState.waitingStand 0 = false := by decide +kernel

/-! Security. -/

theorem witness_SecurityObjects_writes : mayWrite serving pf 0x2002 5 ∧ mayWrite serving pf 0x2004 1 ∧ mayWrite serving pf 0x2003 1 ∧
    mayWrite serving pf 0x2003 8 ∧ mayWrite serving pf 0x2006 2 ∧ (List.replicate 12 (0 : U64) ++ [4]).length = 13 ∧
    3 < fld ((List.replicate 12 (0 : U64) ++ [4]).getD 12 0) 0 8 ∧ fld ((List.replicate 12 (0 : U64) ++ [1]).getD 12 0) 0 8 = 1 := by decide +kernel

/-- Heartwood has the security version 5; the minimum is 0, with one write left. -/
def minimumState : State :=
  (({ configured with nv := [(heartwoodBase + 0x20, 5), (heartwoodBase + 0x21, 0), (heartwoodBase + 0x22, 0), (heartwoodBase + 0x23, 0)] }).setObj 0x2005 1 0).setObj
    0x2005 4 1

theorem witness_SecurityObjects_minimum : mayWrite minimumState pf 0x2005 1 ∧ minimumState.imageState = 1 ∧ minimumState.bit 0x5000 2 4 = false ∧
    minimumState.bit 0x5000 9 0 = false ∧ minimumState.getF 0x2005 1 0 32 < (5 : BitVec 32).toNat ∧
    (5 : BitVec 32).toNat ≤ imgVersion (minimumState.nvImage heartwoodBase) ∧ minimumState.getF 0x2005 4 0 8 ≠ 0 ∧
    imgVersion (minimumState.nvImage heartwoodBase) < (6 : BitVec 32).toNat := by decide +kernel

/-- A calibration record of the device 0x1234 with the version 1 (R534), every offset 0 and every gain 0x40000000: its words. -/
def calibrationWord (i : Nat) : U64 :=
  if i = 0 then 0x1234 else if i = 1 then 1 else if 69 ≤ i ∧ i < 79 then 0x4000000040000000 else 0

/-- It is staged but for its last word. -/
def calibrationState : State :=
  { serving with
    dict := [(objKey 0 0x1020 1 0, 0x1234)]
    accepted := (List.range 84).map (fun i => (objKey stagingBank 0x4100 1 i, some (calibrationWord i))) }

/-- The bytes of word i where the last word is `v`. -/
def calibrationBytes (v : U64) (i : Nat) : List Byte :=
  leBytes 8 ((calibrationState.setWaiting (objKey stagingBank 0x4100 1 84) (some v)).stagedWord i).toNat

def calibrationRecord (v : U64) : List Byte := (List.range 85).flatMap (calibrationBytes v)

theorem crcBytes_append (w poly init : Nat) (a b : List Byte) : crcBytes w poly init (a ++ b) = crcBytes w poly (crcBytes w poly init a) b := by
  simp [crcBytes, crcBits, bitsMsbFirst]

/-- The first 84 words as fourteen pieces of six. -/
def calibrationPiece (k : Nat) : List Byte := (List.range' (6 * k) 6).flatMap (fun i => leBytes 8 (calibrationWord i).toNat)
def calibrationBody : List Byte := (List.range 14).flatMap calibrationPiece

theorem calibrationRecord_eq (v : U64) (h : ∀ i, i < 84 → calibrationBytes v i = leBytes 8 (calibrationWord i).toNat) :
    calibrationRecord v = calibrationBody ++ leBytes 8 v.toNat := by
  have last : calibrationBytes v 84 = leBytes 8 v.toNat := rfl
  have cut : List.range 84 = (List.range 14).flatMap (fun k => List.range' (6 * k) 6) := by decide
  have first : (List.range 84).flatMap (calibrationBytes v) = (List.range 84).flatMap (fun i => leBytes 8 (calibrationWord i).toNat) := by
    rw [List.flatMap, List.flatMap, List.map_congr_left (fun i hi => h i (List.mem_range.mp hi))]
  rw [calibrationRecord, List.range_succ, List.flatMap_append, first, cut, List.flatMap_assoc, List.flatMap_singleton, last]
  rfl

theorem calibrationBody_check : crcBytes 64 0x42F0E1EBA9EA3693 0 calibrationBody = 378919463256410089 := by
  rw [calibrationBody, (by decide : List.range 14 = [0, 1, 2, 3, 4, 5, 6, 7, 8, 9, 10, 11, 12, 13])]
  simp only [List.flatMap_cons, List.flatMap_nil, List.append_nil, crcBytes_append]
  rw [(by decide +kernel : crcBytes 64 0x42F0E1EBA9EA3693 0 (calibrationPiece 0) = 16924845692795201512),
    (by decide +kernel : crcBytes 64 0x42F0E1EBA9EA3693 16924845692795201512 (calibrationPiece 1) = 10185477626632887757),
    (by decide +kernel : crcBytes 64 0x42F0E1EBA9EA3693 10185477626632887757 (calibrationPiece 2) = 7344058035027342810),
    (by decide +kernel : crcBytes 64 0x42F0E1EBA9EA3693 7344058035027342810 (calibrationPiece 3) = 8910188304526970226),
    (by decide +kernel : crcBytes 64 0x42F0E1EBA9EA3693 8910188304526970226 (calibrationPiece 4) = 9171877306924604727),
    (by decide +kernel : crcBytes 64 0x42F0E1EBA9EA3693 9171877306924604727 (calibrationPiece 5) = 15341583513308823074),
    (by decide +kernel : crcBytes 64 0x42F0E1EBA9EA3693 15341583513308823074 (calibrationPiece 6) = 9906609838189949385),
    (by decide +kernel : crcBytes 64 0x42F0E1EBA9EA3693 9906609838189949385 (calibrationPiece 7) = 12532329231528973404),
    (by decide +kernel : crcBytes 64 0x42F0E1EBA9EA3693 12532329231528973404 (calibrationPiece 8) = 5405267697782618002),
    (by decide +kernel : crcBytes 64 0x42F0E1EBA9EA3693 5405267697782618002 (calibrationPiece 9) = 15907074512335379667),
    (by decide +kernel : crcBytes 64 0x42F0E1EBA9EA3693 15907074512335379667 (calibrationPiece 10) = 1406227093835768123),
    (by decide +kernel : crcBytes 64 0x42F0E1EBA9EA3693 1406227093835768123 (calibrationPiece 11) = 18426286945159315213),
    (by decide +kernel : crcBytes 64 0x42F0E1EBA9EA3693 18426286945159315213 (calibrationPiece 12) = 11535156499545863144),
    (by decide +kernel : crcBytes 64 0x42F0E1EBA9EA3693 11535156499545863144 (calibrationPiece 13) = 378919463256410089)]

theorem calibrationBody_length : calibrationBody.length = 0x2A0 := by
  simp only [calibrationBody, calibrationPiece, List.length_flatMap, length_leBytes]
  decide

theorem witness_SecurityObjects_calibration : mayWrite calibrationState pf 0x4100 1 ∧
    ofLe ((calibrationRecord 378919463256410089).take 8) = (calibrationState.obj 0x1020 1).toNat ∧
    ofLe (sliceBytes (calibrationRecord 378919463256410089) 8 4) = 1 ∧
    ofLe (sliceBytes (calibrationRecord 378919463256410089) 0x2A0 8) =
      crcBytes 64 0x42F0E1EBA9EA3693 0 ((calibrationRecord 378919463256410089).take 0x2A0) ∧
    calibrationOk (calibrationRecord 378919463256410089) = true ∧
    ofLe (sliceBytes (calibrationRecord 0) 0x2A0 8) ≠ crcBytes 64 0x42F0E1EBA9EA3693 0 ((calibrationRecord 0).take 0x2A0) := by
  have good : calibrationRecord 378919463256410089 = calibrationBody ++ leBytes 8 378919463256410089 := calibrationRecord_eq _ (by decide +kernel)
  have bad : calibrationRecord 0 = calibrationBody ++ leBytes 8 0 := calibrationRecord_eq _ (by decide +kernel)
  have take (l : List Byte) : (calibrationBody ++ l).take 0x2A0 = calibrationBody := List.take_left' calibrationBody_length
  rw [good, bad, take, take, calibrationBody_check]
  decide +kernel

/-! ## The step discipline, jobs, fabric and images -/

/-- Stand 0 is `x`; Ranger serves. -/
def standAt (x : Stand) : State := serving.setStand 0 x

/-- Stand 0 is `x`, a member of job 5, and `j` is its job unit's state: the root where `root` holds, else its parent is device 1. -/
def jobStand (x : Stand) (j : JobState) (root : Bool) : State :=
  ((standAt x).setObj 0x7400 1 (BitVec.ofNat 64 (2 ^ 31 + 5 * 2 ^ 16 + (if root then 2 ^ 10 else 1)))).setJob 0 j

/-- A STEP fetched from function 0's ring, and function 0's ring as it was then. -/
def work : StepWork := ⟨0, [], 0, 0, 0, 0⟩
def ringOn (s : State) : State := s.setObj 0x6400 1 (ringValue 4 1)

/-- Every die of Stand 0 has reported its drain. -/
def drainedStand : Stand := { Stand.reset with phase := .stepping, drainDies := 1 }

theorem witness_BoundaryStart_report : ((standAt { Stand.reset with phase := .stepping }).diesOf 0).getLsbD 0 = true ∧
    SMap.get 0 (standAt { Stand.reset with phase := .stepping }).stewards 0 = 0 ∧
    (standAt { Stand.reset with phase := .stepping }).dieDrained 0 0 = true := by decide +kernel

theorem witness_BoundaryStart_drain : drainedStand.phase = .stepping ∧ drainedStand.drainDies = (standAt drainedStand).diesOf 0 ∧
    (standAt drainedStand).errorPending 0 = false ∧ drainedStand.failure = 0 ∧ (standAt drainedStand).inJob 0 = false ∧
    drainedStand.commitRec = none := by decide +kernel

/-- A line of tile 0 that a persistent entry names was written in the step. -/
def persistent : State :=
  let s := (standAt { drainedStand with commitRec := some 0 }).setObj 0x6100 5 1
  { s.setObj 0x6101 1 (BitVec.ofNat 64 (2 ^ 63 + 2 ^ 36 + tileAddr 0 0 / 256)) with written := [(tileAddr 0 0 / 256, true)] }

theorem witness_BoundaryStart_flush : persistent.flushLines 0 = [tileAddr 0 0 / 256] ∧ (persistent.stand 0).phase = .stepping ∧
    (persistent.stand 0).drainDies = persistent.diesOf 0 ∧ persistent.errorPending 0 = false ∧ (persistent.stand 0).failure = 0 ∧
    persistent.inJob 0 = false ∧ (persistent.stand 0).commitRec = some 0 ∧ 0 < persistent.stepSeq 0 := by decide +kernel

theorem witness_BoundaryStart_failed : (ringOn (standAt { drainedStand with failure := 1, current := some work })).errorPending 0 = false ∧
    (ringOn (standAt { drainedStand with failure := 1, current := some work })).diesOf 0 = 1 ∧
    (ringOn (standAt { drainedStand with failure := 1, current := some work })).inJob 0 = false ∧
    (ringOn (standAt { drainedStand with failure := 1, current := some work })).ringOn 0 = true ∧
    ((ringOn (standAt { drainedStand with failure := 1, current := some work })).func 0).gen = work.gen := by decide +kernel

theorem witness_BoundaryStart_aborted : (jobStand drainedStand { JobState.reset with aborted := true } false).inJob 0 = true ∧
    ((jobStand drainedStand { JobState.reset with aborted := true } false).job 0).aborted = true ∧
    (jobStand drainedStand { JobState.reset with aborted := true } false).errorPending 0 = false := by decide +kernel

theorem witness_BoundaryStart_commit : ((standAt { Stand.reset with phase := .drained }).stand 0).phase = .drained ∧
    ((standAt { Stand.reset with phase := .drained }).job 0).aborted = false ∧
    (standAt { Stand.reset with phase := .drained }).errorPending 0 = false := by decide +kernel

/-- Everything of the Stand is drained; and one of its tiles still writes back. -/
theorem witness_BoundaryStart_drained : (standAt drainedStand).standDrained 0 = true ∧ persistent.standDrained 0 = true ∧
    (ringOn (standAt { drainedStand with failure := 1, current := some work })).standDrained 0 = true ∧
    (jobStand drainedStand { JobState.reset with aborted := true } false).standDrained 0 = true ∧
    ((standAt drainedStand).setTile 0 { Tile.reset with jobs := [job 0 0 0] }).standDrained 0 = false := by decide +kernel

/-- Stand 0 has committed, and the StandCtrl that it accepted disables it. -/
def leavingStand : State := { standAt { Stand.reset with phase := .committed } with accepted := [(objKey 0 0x6100 1 0, some 0)] }

theorem witness_ApplyAndRelease_apply : (standAt { Stand.reset with phase := .committed }).settleStand 0 = standAt { Stand.reset with phase := .committed } ∧
    ((standAt { Stand.reset with phase := .committed }).groveNext = [] ∧ (standAt { Stand.reset with phase := .committed }).clearings = []) ∧
    (standAt { Stand.reset with phase := .committed }).rerouteDue = false ∧
    leavingStand.accepted = [(objKey 0 (standIx 0) 1 0, some 0)] ∧ bitOf (0 : U64) 0 = false := by decide +kernel

/-- A GroveRect that Stand 0 takes, one outside the map, and one for which another Stand gives up. -/
def rectWaits (v : U64) (t : Phase) : State :=
  { (standAt { Stand.reset with phase := .held }).setStand 1 { Stand.reset with phase := t } with accepted := [(objKey 0 0x6100 2 0, some v)] }

theorem witness_ApplyAndRelease_assignment : ∀ v, v ∈ [0x0000, 0x000F] → ∀ t, t ∈ [Phase.disabled, Phase.held] →
    (rectWaits (BitVec.ofNat 64 v) t).waitingKeys (fun k _ => k == objKey 0 (standIx 0) 2 0) = [objKey 0 (standIx 0) 2 0] ∧
    (rectWaits (BitVec.ofNat 64 v) t).waitingValue (objKey 0 (standIx 0) 2 0) = some (BitVec.ofNat 64 v) ∧
    (rectWaits (BitVec.ofNat 64 v) t).atBoundary 0 = true := by decide +kernel

/-- Stand 0 has finished its boundary; compute is ready. -/
def releasing (x : Stand) : State := { standAt { x with phase := .applied, done := true } with computeReady := true }

theorem witness_ApplyAndRelease_release : (releasing Stand.reset).releaseBlocked 0 = false ∧ ((releasing Stand.reset).job 0).unrun = false ∧
    (releasing Stand.reset).inJob 0 = false ∧ (releasing Stand.reset).bit 0x6100 1 1 = false ∧ (releasing Stand.reset).nextStep 0 = none ∧
    (releasing Stand.reset).mayStep = true ∧ ((releasing Stand.reset).setObj 0x6100 1 2).holds 0 = true ∧ (releasing Stand.reset).holds 0 = false ∧
    (releasing { Stand.reset with fills := [(0, 1)] }).releaseBlocked 0 = true ∧
    (releasing { Stand.reset with steps := [work] }).nextStep 0 = some work ∧ (releasing { Stand.reset with steps := [work] }).releaseBlocked 0 = false ∧
    (∀ n, n ∈ (releasing { Stand.reset with steps := [work] }).grovesOf 0 → (releasing { Stand.reset with steps := [work] }).groveFailed n = false) := by
  decide +kernel

/-- Stand 0 was held, HOLD has been written 0, and a step waits; while its value is 1 it holds. -/
def unheld (v : Nat) : State :=
  { (standAt { Stand.reset with phase := .applied, steps := [work] }).setObj 0x6100 1 3 with
    computeReady := true, accepted := [(objKey 0 0x6100 1 0, some (BitVec.ofNat 64 v))] }

theorem witness_ApplyAndRelease_unheld : ((unheld 1).stand 0).phase = .applied ∧ ((unheld 1).stand 0).done = false ∧ ((unheld 1).stand 0).current = none ∧
    (unheld 1).holds 0 = false ∧ (unheld 3).holds 0 = true ∧ ((unheld 1).stand 0).unitFailed = false ∧ ((unheld 1).stand 0).fills = [] ∧
    (unheld 1).completionsWritten 0 = true ∧ (unheld 1).switchStaged = false ∧ (unheld 1).mayStep = true ∧ (unheld 1).nextStep 0 = some work ∧
    (unheld 1).waitingValue (objKey 0 0x6100 1 0) = some 1 ∧ bitOf (1 : U64) 1 = false ∧
    (∀ n, n ∈ (unheld 1).grovesOf 0 → (unheld 1).groveFailed n = false) := by decide +kernel

/-- The snapshot that the commit made is the write that waits. -/
theorem witness_ApplyAndRelease_due : let s := leavingStand.setStand 0 { Stand.reset with phase := .committed, due := leavingStand.accepted }
    s.accepted = [(objKey 0 (standIx 0) 1 0, some 0)] ∧ (s.stand 0).due = s.accepted ∧ (s.stand 0).phase = .committed := by decide +kernel

/-- Stands 0 and 1, one grove each, wait for each other's; Stand 0 is held for a failed unit, and Stand 1 is in `t`. -/
def swapping (t : Phase) : State :=
  let failed (p : Phase) : Stand := { Stand.reset with phase := p, unitFailed := true }
  { (((standAt (failed .held)).setStand 1 (failed t)).setObj 0x6110 2 1) with
    accepted := [(objKey 0 0x6100 2 0, some 1), (objKey 0 0x6110 2 0, some 0)] }

/-- The exchange takes effect together; alone Stand 0 waits; a rectangle off the map, or on a grove that Stand 1 keeps, is refused. -/
theorem witness_ApplyAndRelease_claims : let key := objKey 0 (standIx 0) 2 0
    let only (v : Nat) : State := { swapping .held with accepted := [(key, some (BitVec.ofNat 64 v))] }
    (swapping .held).claimReady key = true ∧ key ∈ (swapping .held).jointClaims ∧ (swapping .held).enabled 0 = true ∧
    rectsMeet 1 ((swapping .held).rect 1) = true ∧
    (swapping .stepping).claimReady key = true ∧ key ∉ (swapping .stepping).jointClaims ∧ (swapping .stepping).fitsLater key = true ∧
    rectValid 0xE0 = false ∧ rectValid 0xD0 = true ∧ (only 0xE0).claimReady key = true ∧ (only 0xD0).claimReady key = true ∧
    (∀ o, o < 8 → o ≠ 0 → (only 0xD0).enabled o = true → rectsMeet 0xD0 ((only 0xD0).rect o) = false) ∧
    (only 0xD0).claimsWith key = [key] ∧ (swapping .held).claimsWith key = (swapping .held).jointClaims ∧ (only 1).waitingClaims = [key] ∧ (∀ o, o < 8 → (only 1).leaving o = false) ∧
    (∀ v, v ∈ [1, 0xD0, 0xE0] → (only v).waitingKeys (fun k _ => k == key) = [key] ∧ (only v).waitingValue key = some (BitVec.ofNat 64 v)) ∧
    (swapping .held).waitingKeys (fun k _ => k == key) = [key] ∧ (swapping .stepping).waitingValue key = some 1 ∧
    ({ swapping .held with stands := [(0, { Stand.reset with phase := .stepping })] } : State).atBoundary 0 = false := by decide +kernel

/-! Jobs. -/

/-- A committed member; a child of it is device 2. -/
def member : Stand := { Stand.reset with phase := .applied, done := true, barrierDone := false }
def withChild (s : State) : State := s.setObjW 0x7400 2 0 (BitVec.ofNat 64 (2 ^ 15 + 2))

theorem witness_Jobs_barrier : ∀ h, h < 3 → (withChild (jobStand member { JobState.reset with heard := [(2, h)] } false)).ownStatus 0 = some 0 ∧
    (withChild (jobStand member { JobState.reset with heard := [(2, h)] } false)).jobChildren 0 = [2] ∧
    (withChild (jobStand member { JobState.reset with heard := [(2, h)] } false)).jobRoot 0 = false ∧
    (SMap.get 0 ((withChild (jobStand member { JobState.reset with heard := [(2, h)] } false)).job 0).heard 2 = 0 ↔ h = 0) := by decide +kernel

theorem witness_Jobs_root : (jobStand member JobState.reset true).ownStatus 0 = some 0 ∧ (jobStand member JobState.reset true).jobChildren 0 = [] ∧
    (jobStand member JobState.reset true).jobRoot 0 = true ∧ ((jobStand member JobState.reset true).job 0).aborted = false := by decide +kernel

theorem witness_Jobs_release : (jobStand member { JobState.reset with sent := true } false).enabled 0 = true ∧
    (jobStand member { JobState.reset with sent := true } false).inJob 0 = true ∧
    (jobStand member { JobState.reset with sent := true } false).roundSeq 0 = 0xFFFFFFFFFFFFFFFF ∧
    ((jobStand member { JobState.reset with sent := true } false).job 0).sent = true ∧
    (jobStand member { JobState.reset with sent := true } false).jobChildren 0 = [] ∧ member.current = none ∧
    (⟨0, 0, 0⟩ : BarrierMsg).stepSeq ≠ (jobStand member JobState.reset false).roundSeq 0 ∧
    (⟨0, 0, 0⟩ : BarrierMsg).attempt < ((jobStand member { JobState.reset with attempt := 1 } false).job 0).attempt := by decide +kernel

/-- A member whose step failed, on a device with an identifier, with port 11 up. -/
def failing : State :=
  ((jobStand { Stand.reset with phase := .stepping, failure := 1 } JobState.reset false).setObj 0x7001 1 0x80000000).setF 0x710B 2 8 4 3

/-- An ABORT of job 5 and step 7. -/
def abortBlock : U64 := BitVec.ofNat 64 (typeAbort + 5 * 2 ^ 18 + 7 * 2 ^ 30)

theorem witness_Jobs_abort : failing.stepEnded 0 = true ∧ failing.deviceValid = true := by decide +kernel

/-- Its second copy on port 11: a new ABORT, and one that was seen before. -/
def abortHeard (s : State) : State := s.setPort 11 { Port.reset with last := some abortBlock, copies := 1 }

theorem witness_Jobs_abort_heard : fld abortBlock 0 8 = typeAbort ∧ (abortHeard failing).portUp 11 = true ∧
    ((abortHeard failing).port 11).last = some abortBlock ∧ ((abortHeard failing).port 11).copies = 1 ∧
    (abortHeard failing).abortSeen (fld abortBlock 18 12) ≠ some (BitVec.ofNat 16 (fld abortBlock 30 16)) ∧
    ({ abortHeard failing with abortLog := [(5, some 7)] } : State).abortSeen (fld abortBlock 18 12) = some (BitVec.ofNat 16 (fld abortBlock 30 16)) ∧
    ((abortHeard failing).setObj 0x6100 5 7).standInJob (fld abortBlock 18 12) = some 0 ∧
    (((abortHeard failing).setObj 0x6100 5 7).stepSeq 0).toNat % 65536 = fld abortBlock 30 16 := by decide +kernel

/-- The first and the last job token; its entry names the last counter of grove 0, and is VALID where `valid` holds. -/
def tokenEntry (k valid : Nat) : State :=
  (jobStand Stand.reset JobState.reset false).setEntry 0x7400 3 32 k (valid * 2 ^ 31 + 63 * 2 ^ 14)

theorem witness_Jobs_token : ∀ k, k ∈ [0, 0xFFF] → ∀ v, v < 2 →
    ((tokenEntry k v).setStand 0 member).enabled 0 = true ∧ ((tokenEntry k v).setStand 0 member).inJob 0 = true ∧
    ((tokenEntry k v).setStand 0 member).jobEntry 0 (0x8000 + k - 0x8000) = v * 2 ^ 31 + 63 * 2 ^ 14 ∧
    ((tokenEntry k v).setStand 0 member).groveOwner 0 = some 0 ∧ ((tokenEntry k v).setStand 0 member).token 0 63 + 0xFFFF ≤ 0xFFFFFFFF := by
  decide +kernel

/-- The 66 bits of a control block as the line carries it after the scrambler's initial state. -/
def sentBlock (w : U64) : BitVec 66 := BitVec.ofNat 66 (ofBitsLsb (blockLine 0 true w).2)

theorem hears_exists {s : State} {p : Nat} {b : BitVec 66} {w : U64} (h : (s.hearControl p b).2 = (true, w))
    (k : (List.range 8).all (fun k => !lockLost ((s.hearControl p b).1.lane (laneNum p k)).headers) = true) : ∃ u, hears s p b w u := by
  refine ⟨(s.hearControl p b).1, Prod.ext rfl h, fun i hi => ?_⟩
  simpa using List.all_eq_true.mp k i (List.mem_range.mpr hi)

theorem witness_Jobs_hears : ∃ u, hears (abortHeard failing) 11 (sentBlock abortBlock) abortBlock u :=
  hears_exists (by decide +kernel) (by decide +kernel)

/-! Fabric. -/

/-- Clearing 0 is Stand 0's, in STATE `st`. -/
def clearingIn (st : Nat) : State := ((servingIn .held).setObj 0x9100 1 8).setF 0x9100 2 0 3 st

/-- A request of user logic for another device, of a kind. -/
def userReq (kind target : Nat) : UtxReq := ⟨BitVec.ofNat 4 kind, BitVec.ofNat 2 target, 0, 0, 0, 127, 0, 0⟩

theorem witness_FabricCommands_utx : (clearingIn 3).clearingState 0 = 3 ∧ (clearingIn 3).outstAt (clearingNode 0) 127 = none ∧
    (clearingIn 3).clearingOwner 0 = some 0 ∧ ((clearingIn 3).setObj 0x9100 1 0).clearingOwner 0 = none ∧
    (((clearingIn 3).setOutst (clearingNode 0) 127 (some ⟨.slot 0, true, 0, 1⟩)).outstAt (clearingNode 0) 127).isSome = true ∧
    (userReq 1 3).target = 3 ∧ (userReq 2 0).kind ≠ 1 ∧ (userReq 2 0).kind ≠ 3 ∧ (userReq 2 0).kind ≠ 4 ∧ (userReq 2 0).kind ≠ 6 ∧
    (userReq 2 0).kind ≠ 0xA ∧ (userReq 3 1).target = 1 := by decide +kernel

/-- A request of Stand 0 for a node. -/
def flit (kind : Nat) (addr : BitVec 57) (data : BitVec 1024) : Flit := ⟨0, BitVec.ofNat 4 kind, 0, some 0, 0, 0, 0, 5, addr, data, 0⟩

/-- It waits at Clearing 0, and 63 of the tags are taken. -/
def userWaits (kind : Nat) : State :=
  ((clearingIn 3).setRx (clearingNode 0) 0 [flit kind 0 0]).setClearing 0
    { (clearingIn 3).clearing 0 with tags := (List.range 63).map (fun i => (i, some ⟨flit 1 0 0, 0⟩)) }

theorem witness_FabricCommands_urx : ∀ kind, kind ∈ [1, 3, 4] → (userWaits kind).rxQueue (clearingNode 0) 0 = [flit kind 0 0] ∧
    (userWaits kind).forUser (clearingNode 0) (BitVec.ofNat 4 kind) = true ∧ SMap.get none ((userWaits kind).clearing 0).tags 63 = none ∧
    (∀ j, j < 63 → SMap.get none ((userWaits kind).clearing 0).tags j ≠ none) := by decide +kernel

theorem witness_FabricCommands_answers : ∀ kind, kind ∈ [1, 3, 4] →
    SMap.get none (((clearingIn 3).setClearing 0 { (clearingIn 3).clearing 0 with tags := [(63, some ⟨flit kind 0 0, 0⟩)] }).clearing 0).tags 63 =
      some ⟨flit kind 0 0, 0⟩ ∧ (readBlocks (flit kind 0 0)).length = 0 + 1 := by decide +kernel

theorem witness_FabricCommands_stages : ∀ issued, issued < 3 →
    let s := ((clearingIn 2).setF 0x9100 2 3 2 issued).setClearing 0 { (clearingIn 2).clearing 0 with issued := issued }
    s.clearingState 0 = 2 ∧ (s.clearing 0).issued = issued ∧ s.getF 0x9100 2 3 2 = issued := by decide +kernel

theorem witness_FabricCommands_acks : ∀ issued, issued < 3 →
    let s := ((clearingIn 2).setF 0x9100 2 3 2 issued).setClearing 0 { (clearingIn 2).clearing 0 with issued := issued + 1 }
    s.clearingState 0 = 2 ∧ (s.clearing 0).issued ≠ 0 ∧ (s.clearing 0).issued ≤ 3 ∧ (s.clearing 0).acks.contains 0 = false ∧
    s.getF 0x9100 2 3 2 ≠ (s.clearing 0).issued ∧ (s.clearing 0).tags = [] := by decide +kernel

theorem witness_FabricCommands_reconfiguration :
    (((clearingIn 3).setClearing 0 { (clearingIn 3).clearing 0 with next := some ⟨1, [], [], [], false, 0⟩ }).clearing 0).next =
      some ⟨1, [], [], [], false, 0⟩ ∧ (clearingIn 3).mayReconfig 0 = true ∧ ((clearingIn 3).clearing 0).tags = [] := by decide +kernel

theorem witness_FabricCommands_bram : (4607 : BitVec 13).toNat < 4608 ∧ ((serving.setF 0x9117 2 0 3 3)).clearingState (24 * 0 + 4607 / 192) = 3 ∧
    sramSound (serving.setF 0x9117 2 0 3 3) := by decide +kernel

/-- A free TXN, one taken, and the queue of each channel; a request of kind 2 is no request of user logic. -/
theorem witness_FabricCommands_room : (clearingIn 3).txnUsed (clearingNode 0) 127 = false ∧
    ((clearingIn 3).setOutst (clearingNode 0) 127 (some ⟨.slot 0, true, 0, 1⟩)).txnUsed (clearingNode 0) 127 = true ∧
    (∀ kind, kind ∈ [1, 3, 4, 6, 7, 10] → (clearingIn 3).sendRoom (clearingNode 0) (kindChannel (BitVec.ofNat 4 kind)) 1 = true) ∧
    (userReq 6 1).kind = 6 ∧ (userReq 1 1).target = 1 ∧ (userReq 4 1).kind = 4 ∧
    ((clearingIn 3).setFifo (clearingNode 0 / 2) (4 + clearingNode 0 % 2) 0 (List.replicate 64 (flit 1 0 0))).sendRoom (clearingNode 0) 0 1 = false := by
  decide +kernel

/-! Images. -/

/-- The scrubber of die 3 stands at its last frame: a word of it or of the shadow is wrong where `a` or `b` is not 0. -/
def scrubState (wrong : Nat) : State :=
  { serving.setObj 0x5000 10 8 with scrubAt := [(3, 20479)], cfgDiff := if wrong = 0 then [] else [(128 * (20480 * 3 + 20479) + 127, BitVec.ofNat 8 wrong)] }

theorem witness_Images_scrub : ∀ wrong, wrong ∈ [0, 1, 3] → (scrubState wrong).bit 0x5000 10 3 = true ∧
    (scrubState wrong).frameSkipped (20480 * 3 + 20479) = false ∧ (SMap.get 0 (scrubState wrong).frameMap (20480 * 3 + 20479)).getLsbD 1 = false ∧
    allGood (frameFindings (SMap.get 0 (scrubState wrong).cfg (20480 * 3 + 20479))
      (fun i => SMap.get 0 (scrubState wrong).cfgDiff (128 * (20480 * 3 + 20479) + i))) = decide (wrong = 0) ∧
    hasBad (frameFindings (SMap.get 0 (scrubState wrong).cfg (20480 * 3 + 20479))
      (fun i => SMap.get 0 (scrubState wrong).cfgDiff (128 * (20480 * 3 + 20479) + i))) = decide (wrong = 3) ∧
    (∀ i, i < 128 → SMap.get 0 (scrubState wrong).shadowDiff (128 * (20480 * 3 + 20479) + i) = 0) := by decide +kernel

theorem witness_Images_switch : (switching 3).switch.isSome = true ∧ (switching 3).imageState = 3 ∧ (List.range 8).all (switching 3).atBoundary = true ∧
    (switching 3).clearings = [] ∧ (List.range 8).all ({ switching 3 with stands := [(7, { Stand.reset with phase := .stepping })] } : State).atBoundary = false ∧
    (switching 4).imageState = 4 ∧ (switching 4).bit 0x2005 3 0 = false ∧ (∀ k, k < 2 → ((switching 4).bootCopy k).seq ≠ 0xFFFFFFFF) := by
  decide +kernel

/-- A Clearing that changed is not yet released. -/
theorem witness_Images_commit_waits : ([(95, 1)] : SMap Nat).any (fun e => e.2 != 0 && (switching 4).clearingState e.1 != 3) = true ∧
    ([] : SMap Nat).any (fun e => e.2 != 0 && (switching 4).clearingState e.1 != 3) = false := by decide +kernel

theorem witness_Images_boot : serving.booted = true ∧ serving.ranger = .up ∧ serving.imageState = 0 ∧ serving.minimaOk = true ∧
    serving.getF 0x1002 1 0 2 = 0 ∧ ({ serving with minimaOk := false } : State).minimaOk = false ∧
    ({ serving with ranger := .down } : State).ranger = .down := by decide +kernel

/-- A frame of a Clearing that is not in service, and one whose image leaves it out. -/
theorem witness_Images_skipped : serving.clearingState 0 ≠ 3 ∧ serving.frameSkipped 0 = true ∧
    (SMap.get 0 ({ serving with frameMap := [(20480 * 3 + 20479, 2)] } : State).frameMap (20480 * 3 + 20479)).getLsbD 1 = true ∧
    (∀ i, i < 128 → SMap.get 0 (scrubState 0).cfgDiff (128 * (20480 * 3 + 20479) + i) = 0) := by decide +kernel

/-- Every write applied and every test run; a Stand that has committed, and one with a test that waits. -/
theorem witness_Images_apply : (∀ d, d < 8 → ((switching 3).stand d).phase ≠ .committed ∧
      ((switching 3).enabled d = true → (switching 3).testsPending d = false)) ∧
    (({ switching 3 with stands := [(7, { Stand.reset with phase := .committed })] } : State).stand 7).phase = .committed ∧
    (((switching 3).setStand 0 { Stand.reset with phase := .held }).setF 0x6200 0x10 0 1 1).enabled 0 = true ∧
    (((switching 3).setStand 0 { Stand.reset with phase := .held }).setF 0x6200 0x10 0 1 1).testsPending 0 = true ∧
    ((switching 4).switch.map (fun w => w.current)) = some true := by decide +kernel

/-! ## Faults and recovery -/

/-- A tile's residue error of Stand 0; a network error; an uncorrectable line of a stack. -/
def residue : ErrorReport := mkReport .tileResidue 0 (some 0) .tile 0 0x1234
def netRecord : ErrorReport := mkReport .netRoute 0 none .router 1 0

/-- A record waits, Stand 0 in its step; Ranger is `r`, and its die's `held` records wait already. -/
def reported (e : ErrorReport) (r : Ranger) (held : Nat) : State :=
  { servingIn .stepping with reports := [e], ranger := r, heldRecords := List.replicate held netRecord }

theorem witness_ErrorsAndFences_record : (reported residue .up 0).recordMuted residue = false ∧ (reported residue .up 0).reports.contains residue = true ∧
    residue.stands = [0] ∧ residue.err ≠ .stkFail ∧ residue.err ≠ .netLink ∧ (reported residue .up 0).errorStands residue = [0] ∧
    (reported residue .up 0).enabled 0 = true ∧ ((reported residue .up 0).stand 0).stuck = false ∧
    SMap.get 0 (reported residue .up 0).stewards 0 = 0 := by decide +kernel

theorem witness_ErrorsAndFences_down : ownUnit netRecord = false ∧ (reported netRecord .down 63).recordMuted netRecord = false ∧
    (reported netRecord .down 63).reports.contains netRecord = true ∧ ((reported netRecord .down 63).heldRecords.filter (fun r => r.die == netRecord.die)).length < 64 ∧
    64 ≤ ((reported netRecord .down 64).heldRecords.filter (fun r => r.die == netRecord.die)).length ∧ residue.err = .tileResidue ∧
    (reported residue .down 0).recordMuted residue = false := by decide +kernel

/-- The tile is marked failed: its records are muted; and a steward in restart. -/
theorem witness_ErrorsAndFences_muted : ((reported residue .up 0).setObjW 0xA002 1 0 1).recordMuted residue = true ∧
    SMap.get 0 ({ reported residue .up 0 with stewards := [(0, 1)] } : State).stewards residue.die.val ≠ 0 := by decide +kernel

theorem witness_ErrorsAndFences_fence : (standAt { Stand.reset with phase := .fenced, stage := 3 }).recoveryDies 0 = 1 ∧
    (standAt { Stand.reset with phase := .fenced, stage := 3 }).wideMark 12 = false := by decide +kernel

theorem witness_ErrorsAndFences_complete : ∀ level, level ∈ [1, 3] →
    ((standAt { Stand.reset with phase := .fenced, stage := 3, fencedDies := 1, level := level }).stand 0).fencedDies =
      (standAt { Stand.reset with phase := .fenced, stage := 3, fencedDies := 1, level := level }).recoveryDies 0 ∧
    ((standAt { Stand.reset with phase := .fenced, stage := 3, fencedDies := 1, level := level }).standNodes 0).all
      (standAt { Stand.reset with phase := .fenced, stage := 3, fencedDies := 1, level := level }).settledNode = true := by decide +kernel

theorem witness_ErrorsAndFences_stewards : (servingIn .stepping).wideMark 15 = false ∧ (servingIn .stepping).ranger = .up ∧
    SMap.get 0 (servingIn .stepping).stewards 3 = 0 ∧ SMap.get 0 ({ servingIn .stepping with stewards := [(3, 1)] } : State).stewards 3 = 1 ∧
    SMap.get 0 ({ servingIn .stepping with stewards := [(3, 2)] } : State).stewards 3 = 2 := by decide +kernel

/-- Grove errors of a die whose steward is in restart: one that a lost count stands for, and a parity error of an engine. -/
theorem witness_ErrorsAndFences_out : let s : State := { servingIn .stepping with stewards := [(0, 1)] }
    let parity := mkReport .vecRegParity 0 (some 0) .engine 0 0
    s.stewardOut 0 = true ∧ s.recordMuted residue = false ∧ s.reports.contains residue = false ∧ lostObject residue = none ∧
    residue.err ≠ .vecRegParity ∧ s.recordMuted parity = false ∧ s.reports.contains parity = false ∧ parity.err = .vecRegParity ∧
    ({ s with reports := [residue] } : State).reports.contains residue = true ∧ (reported residue .up 0).stewardOut 0 = false := by decide +kernel

/-- The other dies; and a Stand that is not yet fenced. -/
theorem witness_ErrorsAndFences_fences : let x := (standAt { Stand.reset with phase := .fenced, stage := 3 }).stand 0
    x.fencedDies.getLsbD 0 = false ∧ x.stuck = false ∧ ((standAt x).recoveryDies 0).getLsbD 0 = true ∧
    ((reported residue .down 0).stand 0).phase ≠ .fenced ∧ ((reported residue .down 0).stand 0).phase ≠ .recovering := by decide +kernel

/-- Stand 0 recovers at stage 5 of a level, with units and Clearings left. -/
def resetting (level : Nat) (l : List UnitRef) (c : List ClearingId) : State :=
  standAt { Stand.reset with phase := .recovering, stage := 5, level := level, units := l, clearings := c, left := l, leftClearings := c }

theorem witness_Resets_unit : ∀ i, i < 4 →
    ((resetting 1 [[.tile tile0, .engine 0, .stream 0, .iface 0].getD i (.engine 0)] []).resetting (fun l => l == 1)).find?
      (fun b => ((resetting 1 [[.tile tile0, .engine 0, .stream 0, .iface 0].getD i (.engine 0)] []).stand b).left.contains
        ([.tile tile0, .engine 0, .stream 0, .iface 0].getD i (.engine 0))) = some 0 := by decide +kernel

theorem witness_Resets_levels : ((resetting 2 [.engine 0] []).resetting (fun l => l == 2)).find?
      (fun b => ((resetting 2 [.engine 0] []).stand b).left.any (fun u => unitGrove u == 0)) = some 0 ∧
    ((resetting 6 [] [95]).resetting (fun l => l == 1 || l == 2 || l == 6)).find? (fun b => ((resetting 6 [] [95]).stand b).leftClearings.contains 95) = some 0 ∧
    ((resetting 6 [] [95]).clearing 95).tags = [] ∧ ((resetting 3 [] []).resetting (fun l => l == 3)).contains 0 = true ∧
    (resetting 3 [] []).switch = none ∧ (resetting 3 [] []).clearings = [] ∧ (resetting 4 [] []).computeDue 4 = true ∧
    (resetting 3 [] []).computeDue 4 = false := by decide +kernel

theorem witness_Resets_timeout : ∀ level, level ∈ [1, 2, 3, 4, 5, 6] → ((resetting level [.engine 0] []).stand 0).phase = .recovering ∧
    ((resetting level [.engine 0] []).stand 0).stage = 5 ∧ ((resetting level [.engine 0] []).stand 0).level = level ∧
    (resetting level [.engine 0] []).ranger = .up ∧ (resetting level [.engine 0] []).enabled 0 = true ∧
    (resetting level [.engine 0] []).bit 0xA001 1 16 = true ∧ ((resetting level [.engine 0] []).setObj 0xA001 1 0).bit 0xA001 1 16 = false := by
  decide +kernel

/-- The units of each level with their die's cores running. -/
theorem witness_Resets_cores : (∀ i, i < 4 → let u := [.tile tile0, .engine 0, .stream 0, .iface 0].getD i (.engine 0)
      ((resetting 1 [u] []).resetting (fun l => l == 1 && (resetting 1 [u] []).coreOn (groveDie (unitGrove u)))).find?
        (fun b => ((resetting 1 [u] []).stand b).left.contains u) = some 0) ∧
    ((resetting 2 [.engine 0] []).resetting (fun l => l == 2 && (resetting 2 [.engine 0] []).coreOn (groveDie 0))).find?
      (fun b => ((resetting 2 [.engine 0] []).stand b).left.any (fun u => unitGrove u == 0)) = some 0 ∧
    ((resetting 1 [] []).stand 0).left = [] := by decide +kernel

/-- Stand 0 recovers at a later stage. -/
def recovering (stage : Nat) : State := standAt { Stand.reset with phase := .recovering, stage := stage, resetDone := 2, units := [.tile tile0] }

theorem witness_RecoveryEnd_tests : (recovering 6).tests = [] ∧ .tile tile0 ∈ (recovering 6).testedUnits 0 ∧ .engine 0 ∈ (recovering 6).testedUnits 0 ∧
    .stream 0 ∈ (recovering 6).testedUnits 0 := by decide +kernel

theorem witness_RecoveryEnd_restore : SMap.wf (fun _ => (0 : BitVec 8192)) (recovering 7).shadow = true ∧
    SMap.wf (fun _ => (0 : BitVec 8192)) (recovering 7).cfg = true ∧ 0 ∈ (recovering 7).resetGroves 0 ∧
    (recovering 8).resetClearings 0 = [] ∧ (recovering 8).inJob 0 = false ∧ ((recovering 8).stand 0).unitFailed = false ∧
    (((recovering 8).setStand 0 { (recovering 8).stand 0 with unitFailed := true }).stand 0).again = false ∧ ((recovering 8).func 1).flr = false := by
  decide +kernel

/-- A persistent line with a committed copy. -/
theorem witness_RecoveryEnd_mirror : let s : State := { (recovering 8).setObj 0x6101 1 (BitVec.ofNat 64 (2 ^ 63 + 2 ^ 36 + tileAddr 0 0 / 256)) with
      mirror := [(2 * (tileAddr 0 0 / 256), ⟨7, some 0⟩)] }
    s.persistEntries 0 = [(1, tileAddr 0 0 / 256, 1)] ∧ s.bestSlot (some 0) (tileAddr 0 0 / 256) = some 0 := by decide +kernel

theorem witness_RecoveryEnd_rejoin : ((recovering 9).stand 0).again = false ∧ ((recovering 9).func 1).flr = false ∧
    (∀ n, n ∈ (recovering 9).grovesOf 0 → (recovering 9).groveFailed n = false) ∧ (recovering 9).inJob 0 = false ∧
    ((recovering 9).setStand 0 { (recovering 9).stand 0 with current := some work }).inJob 0 = false ∧
    (((recovering 9).setStand 0 { (recovering 9).stand 0 with done := true }).stand 0).done = true := by decide +kernel

theorem witness_RecoveryEnd_step : let s : State := { recovering 9 with computeReady := true }
    s.mayStep = true ∧ (s.stand 0).done = false ∧ (s.stand 0).current = none ∧
    ((s.setStand 0 { s.stand 0 with current := some work }).stand 0).current = some work ∧
    (s.setObj 0x7400 1 (BitVec.ofNat 64 (2 ^ 31 + 5 * 2 ^ 16 + 2 ^ 10))).inJob 0 = true := by decide +kernel

/-! Tests and monitors. -/

/-- SelfTestReq asks for a test of a unit, whose Stand is held. -/
def askedFor (kind unit : Nat) : State := { servingIn .held with selfTest := some (2 ^ 31 + kind * 2 ^ 24 + unit) }

theorem witness_TestsAndMonitors_asked : (askedFor 1 0).asked 1 0 = true ∧ (askedFor 2 0).asked 2 0 = true ∧ (askedFor 3 0).asked 3 0 = true ∧
    (askedFor 4 399).asked 4 399 = true ∧ (askedFor 5 2399).asked 5 (6 * 399 + 5) = true ∧ (askedFor 1 0).mayTest ((askedFor 1 0).groveOwner 0) = true ∧
    (askedFor 1 895).asked 1 895 = true ∧ (askedFor 1 895).mayTest ((askedFor 1 895).groveOwner 223) = true ∧
    ((servingIn .held).setObj 0x62DF 0x41 1).bit 0x62DF (16 * (3 + 1)) 0 = false ∧ ((servingIn .held).setObj 0x62DF 0x40 1).bit 0x62DF (16 * (3 + 1)) 0 = true ∧
    ((servingIn .held).setObj 0x62DF 0x50 1).bit 0x62DF 0x50 0 = true := by decide +kernel

/-- A targeted test of recovery waits. -/
def testing (u : TestUnit) : State := { servingIn .held with tests := [⟨u, []⟩] }

theorem witness_TestsAndMonitors_sram : (testing (.sramLine (tileAddr 0 0))).hasTest (.sramLine (tileAddr 0 0)) = true ∧
    (testing (.sramLine (tileAddr 0 0))).mayTest ((List.range 8).find? (fun d => (testing (.sramLine (tileAddr 0 0))).ownsByte d (tileAddr 0 0))) = true ∧
    sramSound (testing (.sramLine (tileAddr 0 0))) ∧ sramUnit (tileAddr 0 0) ≠ none ∧ 256 * (tileAddr 0 0 / 256) = tileAddr 0 0 := by decide +kernel

theorem witness_TestsAndMonitors_others : (testing (.dramLine 0)).hasTest (.dramLine 0) = true ∧ ((testing (.dramLine 0)).stack 0).poison.length < 256 ∧
    (testing (.dramLink 7 31)).hasTest (.dramLink 7 31) = true ∧ (testing (.netLink 399 5)).hasTest (.netLink 399 5) = true ∧
    (testing (.router 399)).hasTest (.router 399) = true ∧ (testing (.frame 0 2)).tests = [⟨.frame 0 2, []⟩] := by decide +kernel

theorem witness_TestsAndMonitors_monitors : (servingIn .stepping).wideMark 12 = false ∧ ((servingIn .stepping).groveOwner 0).isSome = true ∧
    (servingIn .stepping).engineBusy 0 = false ∧ (servingIn .stepping).streamBusy 0 = false ∧
    ({ servingIn .stepping with ranger := .down } : State).heldRecords = [] ∧
    (∀ d, d < 8 → (({ servingIn .stepping with ranger := .down } : State).stand d).phase ≠ .fenced) := by decide +kernel

theorem witness_TestsAndMonitors_runs : (askedFor 1 0).testRuns 0 ((askedFor 1 0).tileFailed 0) ((askedFor 1 0).asked 1 0) = true ∧
    (askedFor 2 0).testRuns 0 ((askedFor 2 0).engineFailed 0) ((askedFor 2 0).asked 2 0) = true ∧
    (askedFor 3 0).testRuns 0 ((askedFor 3 0).groveFailed 0) true = true ∧
    (askedFor 1 895).testRuns 223 ((askedFor 1 895).tileFailed 895) ((askedFor 1 895).asked 1 895) = true ∧
    ((servingIn .held).setObj 0x6200 0x40 1).testRuns 0 (((servingIn .held).setObj 0x6200 0x40 1).tileFailed 3) false = true ∧
    (testing (.frame 0 0)).tests = [⟨.frame 0 0, []⟩] ∧ (0 : BitVec 32).toNat / 2 ^ 23 % 128 < 24 ∧ (servingIn .stepping).ranger = .up ∧
    ({ servingIn .stepping with ranger := .down } : State).heldBar0 = [] := by decide +kernel

/-! ## Memory -/

/-- An SRAM word with a wrong check bit; it waits for its write-back. -/
def badWord (w : Nat) : State := { stepping with sramDiff := [(w, 1)], writeBack := [(w, true)] }

theorem witness_SramCodesService : SMap.get false (badWord (tileAddr 0 0xFFF8 / 8)).writeBack (tileAddr 0 0xFFF8 / 8) = true ∧
    (badWord (tileAddr 0 0xFFF8 / 8)).sramFinding (tileAddr 0 0xFFF8 / 8) = .corrected 0 ∧
    (badWord (tileAddr 0 0xF8 / 8)).badSram (tileAddr 0 0) 256 = [tileAddr 0 0xF8 / 8] ∧
    (badWord (tileAddr 0 0xF8 / 8)).wordFailed (tileAddr 0 0xF8 / 8) = false ∧ patrolGeometry (.tileSram tile0) = (0, tileAddr 0 0, 0x100000, 256) ∧
    (badWord (tileAddr 0 0x100 / 8)).badSram (tileAddr 0 0) 256 = [] := by decide +kernel

/-- The codes on their first and last bits. -/
theorem witness_SramCodesService_codes : ∀ i, i ∈ [0, 63] → i < 64 ∧ stackAddrField 256 ≠ stackAddrField 0 := by decide +kernel

/-- A word of the shadow of die 0 with a wrong check bit, and the patrol there. -/
theorem witness_SramCodesService_shadow : let s : State := { stepping with shadowDiff := [(5, 1)] }
    (frameFindings (SMap.get 0 s.shadow 0) (fun i => SMap.get 0 s.shadowDiff (128 * 0 + i)))[5]? = some (.corrected 0) ∧
    allGood (frameFindings (SMap.get 0 stepping.shadow 0) (fun i => SMap.get 0 stepping.shadowDiff (128 * 0 + i))) = true ∧
    SMap.get 0 s.patrol 30000 = 0 ∧ s.stewardOut (sramDie (tileAddr 0 0xF8)) = false := by decide +kernel

/-- A 64-byte read of class `cls` by node 0. -/
def stackRead (addr cls : Nat) : StackReq := ⟨false, addr, 64, 0, 0, 0, 0, cls, some 0, 0, 0, 0, 0, 1, 0⟩

/-- Stack 0 holds `x`. -/
def stackOf (x : Stack) : State := (stepping.setStack 0 x).setF 0x8020 2 0 2 2

theorem witness_StackControl_request : ∀ cls, cls ∈ [0, 6, 7] → (∃ r, ((stackOf { Stack.reset with port := [stackRead 0 cls] }).stack 0).port = r :: [] ∧
      r = stackRead 0 cls ∧ (r.cls < 7 ∨ r.cls = 7)) ∧ ownEngine 0 (stackRead 0 cls) = false ∧ regionOf (stackRead 0 cls).addr ≠ .mirror ∧
    (SMap.get [] (((stackOf { Stack.reset with port := [stackRead 0 cls] }).stack 0).pchan (stackMap 0).pc).queues (bankIndex (stackMap 0))).length < 8 := by
  intro cls h
  refine ⟨⟨stackRead 0 cls, ?_, rfl, ?_⟩, ?_, ?_⟩ <;> revert cls <;> decide +kernel

/-- The bank's queue holds eight requests. -/
theorem witness_StackControl_full : let x : Stack := { Stack.reset with port := [stackRead 0 0], pchans := [(0, { PChan.reset with queues := [(0, List.replicate 8 (stackRead 0 0))] })] }
    8 ≤ (SMap.get [] (((stackOf x).stack 0).pchan (stackMap 0).pc).queues (bankIndex (stackMap 0))).length := by decide +kernel

/-- Pseudo-channel 0 of stack 0 is `p`. -/
def pchanOf (p : PChan) : State := stackOf { Stack.reset with pchans := [(0, p)] }

theorem witness_StackControl_schedule : (((pchanOf PChan.reset).stack 0).pchan 0).queues = [] ∧
    (((pchanOf { PChan.reset with busyUntil := 2 }).stack 0).pchan 0).cycle + 1 < 2 ∧
    ∀ row, row ∈ [0, 1] → let p := (((pchanOf { PChan.reset with queues := [(0, [stackRead 0 0])], rows := if row = 0 then [] else [(0, 1)] }).stack 0).pchan 0)
      p.busyUntil ≤ p.cycle + 1 ∧ p.queues = [(0, [stackRead 0 0])] ∧ p.history = [] ∧ (stackRead 0 0).write = false ∧ p.batch = 0 ∧
      SMap.get 0 p.rows 0 = row ∧ (row = 0 ∨ row = (stackMap (stackRead 0 0).addr).row + 1) ∧ (stackRead 0 0).bursts ≤ 1 := by decide +kernel

theorem witness_StackControl_refresh : let s := (pchanOf PChan.reset).setObj 0x8020 1 0
    s.getF 0x8020 2 0 2 ≠ 0 ∧ s.refreshOff = false ∧ ((s.stack 0).pchan 0).queues = [] ∧ s.accepted = [] ∧ (s.stack 0).learned = [] ∧
    fld (s.inWindow 0 0 0x8020 1 0) 0 2 = 0 := by decide +kernel

theorem witness_StackControl_window : let s : State := { pchanOf PChan.reset with accepted := [(objKey 0 0x8020 1 0, some 3)] }
    s.getF 0x8020 2 0 2 ≠ 0 ∧ s.refreshOff = false ∧ ((s.stack 0).pchan 0).queues = [] ∧
    SMap.get none s.accepted (objKey 0 0x8020 1 0) = some 3 := by decide +kernel

/-- A sum into Hazel32 and a maximum into Hazel16 (R275). -/
theorem witness_StackControl_reduction : ∀ x, x ∈ [8, 17] → regionOf 0 = .stackUser ∧ (stackMap 0).stack = 0 ∧ (opxOp x = 1 ∨ opxOp x = 2) ∧
    stepping.accessCode none 0 ((opxFmt x).width / 8) = 0 ∧ stepping.stackDiffAt 0 = 0 ∧ stepping.poisoned 0 = false ∧
    stepping.drainLines 0 ((opxFmt x).width / 8) = stepping := by decide +kernel

/-- A request that the root die refuses: class 7, and the mirror below class 4. -/
def mirrorAddr : Nat := 0x0045C0000000
theorem witness_StackControl_refused : (stackRead 0 7).cls = 7 ∧ (stackRead mirrorAddr 3).cls < 4 ∧ regionOf mirrorAddr = .mirror ∧
    ((stackOf { Stack.reset with port := [stackRead mirrorAddr 3] }).stack 0).port = [stackRead mirrorAddr 3] := by decide +kernel

/-- RELEARN_REQ of the last lane of pseudo-channel 0, and RETRAIN_ALL as the last pseudo-channel takes it. -/
theorem witness_StackControl_asked : ∀ v : Nat, v ∈ [2 ^ 25 + 8 * 2 ^ 16 + 3, 2 ^ 26 + 3] →
    let s : State := { pchanOf PChan.reset with
      accepted := [(objKey 0 0x8020 1 0, some (BitVec.ofNat 64 v))]
      windowTaken := (List.range' 1 31).map (fun c => (256 * objKey 0 0x8020 1 0 + c, 1)) }
    SMap.get none s.accepted (objKey 0 0x8020 1 0) = some (BitVec.ofNat 64 v) ∧ bitOf (s.inWindow 0 0 0x8020 1 0) 25 = false ∧
    (∀ c, c < 32 → c ≠ 0 → SMap.get 0 s.windowTaken (256 * objKey 0 0x8020 1 0 + 32 * 0 + c) = 1) ∧
    (bitOf (BitVec.ofNat 64 v) 25 = true → fld (BitVec.ofNat 64 v) 16 9 / 9 = 0) := by decide +kernel

/-- A refused line of the mirror, and one of Ranger's; a RELEARN_REQ that stands already. -/
theorem witness_StackControl_mirror : (∀ cls, cls ∈ [4, 5, 6] → (stackRead mirrorAddr cls).cls < 7 ∧ 4 ≤ (stackRead mirrorAddr cls).cls ∧
      (SMap.get [] (((stackOf { Stack.reset with port := [stackRead mirrorAddr cls] }).stack 0).pchan (stackMap mirrorAddr).pc).queues
        (bankIndex (stackMap mirrorAddr))).length < 8) ∧
    ownEngine 0 (stackRead 0 0) = false ∧
    (((pchanOf PChan.reset).setObj 0x8020 1 0).stack 0).nmQueue 7 = [] := by decide +kernel

theorem witness_StackTrainingAndCopies_training : ({ State.reset with booted := true } : State).booted = true ∧
    ({ State.reset with booted := true } : State).getF 0x8020 2 0 2 < 2 ∧ isStack 0 = true ∧ (stackMap 0).stack = 0 := by decide +kernel

/-- A sweep that every reference passes over all delays trains its lane; one that none passes does not (R281). -/
theorem test_trainLane : trainLane (List.replicate 64 (BitVec.allOnes 256)) = some (127, 31, 127) ∧
    trainLane (List.replicate 64 0) = none := by decide +kernel

theorem witness_StackTrainingAndCopies_relearn : ((stackOf { Stack.reset with relearn := [575] }).stack 0).relearn = [575] := by decide +kernel

/-- The fill of one byte in the stacks, and of the last of the Understory. -/
theorem witness_StackTrainingAndCopies_fill : ∀ a, a ∈ [0, 0x0045BFFFFFFF, understoryBase + 0xBFFFFFFF] →
    (match regionOf a with | .stackUser => true | .understory _ => true | _ => false) = true ∧ (stackOf Stack.reset).getF 0x8020 2 0 2 = 2 ∧
    ((stepping.setStand 0 { stepping.stand 0 with fills := [(a, 1)] }).stand 0).fills = [(a, 1)] := by decide +kernel

/-- A reshape and a staged copy from and to the descriptors at `a`, in the slot 7 of stack 0. -/
def nmRecord (opc a : Nat) : NmCommand := ⟨BitVec.ofNat 512 (opc * 2 ^ 60 + 7 * 2 ^ 54 + a * 2 ^ 64 + (a + 192) * 2 ^ 128), 0, 3, 5, none⟩
/-- Slot 7 of stack 0 holds the command; it is the one served. -/
def nmState (opc a : Nat) : State := stackOf { Stack.reset with nm := [(7, [nmRecord opc a])] }

theorem witness_StackControl_slice : ((nmState 1 0).stack 0).nmQueue 7 ≠ [] := by decide +kernel

theorem witness_StackTrainingAndCopies_copies : ∀ opc, opc ∈ [1, 2] → ((nmState opc (tileAddr 0 0)).stack 0).nmQueue 7 = [nmRecord opc (tileAddr 0 0)] ∧
    nmOpc (nmRecord opc (tileAddr 0 0)).record = opc ∧ ((nmState opc (tileAddr 0 0)).stack 0).served? = some 7 ∧
    ((nmState opc (tileAddr 4 0)).readNow (some 0) (fld (nmRecord opc (tileAddr 4 0)).record 64 64) 192).2.2 ≠ 0 ∧
    (nmRecord opc (tileAddr 4 0)).descs = none := by decide +kernel

/-- The command as its descriptors were read when it was issued: one Hazel32 value of tile 0 to byte 64; the staging buffer is free, this slot's,
or another slot's. -/
def nmCopy (opc : Nat) : NmCommand := { nmRecord opc 0 with descs := some (descOf 6 1 0, descOf 6 1 64) }
def nmCopyAt (opc : Nat) (held : Option Staged) : State := stackOf { Stack.reset with nm := [(7, [nmCopy opc])], staging := held }

theorem witness_StackTrainingAndCopies_staging : ∀ opc, opc ∈ [1, 2] → ∀ g, g ∈ [6, 7] →
    let s := nmCopyAt opc (some ⟨g, [(tileAddr 0 0, 1)]⟩)
    (s.stack 0).nmQueue 7 = [nmCopy opc] ∧ (s.stack 0).served? = some 7 ∧ (s.nmDescs (nmCopy opc)).2 = (descOf 6 1 0, descOf 6 1 64, 0) ∧
    (s.stack 0).staging = some ⟨g, [(tileAddr 0 0, 1)]⟩ ∧ dMulti (descOf 6 1 0) = false ∧ dMulti (descOf 6 1 64) = false := by decide +kernel

theorem witness_StackTrainingAndCopies_staged : let s := nmCopyAt 2 none
    (s.stack 0).staging = none ∧ (s.nmDescs (nmCopy 2)).1 = s ∧ dSpace (descOf 6 1 0) ≠ 1 ∧
    tensorPieces (descOf 6 1 0) (extentsAt (descOf 6 1 0) (0, 0, 0)) = [(tileAddr 0 0, 4)] ∧
    (s.readNow (some 0) (tileAddr 0 0) 4).2.2 = 0 ∧ dSpace ((2 : U64) ^ 32 :: []) = 1 := by decide +kernel

/-- A command waits in slot 3 while slot 2 is served. -/
theorem witness_StackTrainingAndCopies_waits : let x : Stack := { Stack.reset with nm := [(2, [nmRecord 1 0]), (3, [nmRecord 1 0])], turn := 2 }
    ((stackOf x).stack 0).nmQueue 3 = [nmRecord 1 0] ∧ ((stackOf x).stack 0).served? ≠ some 3 := by decide +kernel

/-! ## The network -/

/-- A flit of Stand 0. -/
def packet (kind : Nat) : Flit := ⟨0, BitVec.ofNat 4 kind, 0, some 0, 0, 0, 0, 0, 0, 0, 0⟩

/-- A flit at the front of input W of router 21, for the channel `c`. -/
def routerWith (f : Flit) : State := stepping.setFifo 21 1 0 [f]

/-- By hop codes to E, by a run, straight on by code 6; the next buffer may be full. -/
theorem witness_RouterHops_mesh : ∀ f, f ∈ [packet 1, { packet 1 with run := 1 }, { packet 1 with route := 6 }] → (routerWith f).fifo 21 1 0 = [f] ∧
    f.kind ≠ 0xA ∧ ((routeStep .w f).map (fun p => p.1)) = some .e ∧ neighbour 21 .e = some 22 ∧ (routerWith f).linkFailed 21 0 = false ∧
    ((routerWith f).fifo 22 1 0).length < 8 ∧ 8 ≤ (((routerWith f).setFifo 22 1 0 (List.replicate 8 f)).fifo 22 1 0).length ∧
    (routerWith f).turnOf 21 0 = some 3 ∧ routerDie 22 = routerDie 21 ∧ ((routerWith f).setFifo 22 1 0 (List.replicate 8 f)).turnOf 21 0 = none ∧
    SMap.get 0 (routerWith f).mismatches (fifoKey 21 1 0) < 3 ∧
    3 ≤ SMap.get 0 ({ routerWith f with mismatches := [(fifoKey 21 1 0, 3)] } : State).mismatches (fifoKey 21 1 0) := by decide +kernel

theorem witness_RouterHops_local : ((routeStep .w { packet 1 with route := 4 }).map (fun p => p.1)) = some .l0 ∧ neighbour 21 .l0 = none ∧
    localNode 21 .l0 = some 42 ∧ (routerWith (packet 1)).linkFailed 21 4 = false ∧ (routerWith { packet 1 with route := 4 }).turnOf 21 4 = some 3 ∧ routeStep .w { packet 1 with route := 7 } = none ∧
    routeStep .l0 { packet 1 with run := 1 } = none := by decide +kernel

/-- An MC_WRITE of tree 0 on the branches E and L0. -/
theorem witness_RouterHops_tree : let s : State := { routerWith (packet 0xA) with treeMasks := [(21, 17)] }
    s.branchOutputs 21 (packet 0xA) = [.e, .l0] ∧ s.turnOf 21 0 = some 3 := by decide +kernel

/-- A flit at the front of the receive queue of a node. -/
def received (node ch : Nat) (f : Flit) : State := stepping.setRx node ch [f]

/-- The address of byte `a` in a flit. -/
def packetAt (kind a : Nat) : Flit := { packet kind with addr := BitVec.ofNat 57 a }

theorem witness_Requests_refused : ∀ kind, kind ∈ [1, 3, 4, 6, 7, 9] → (received 42 0 { packet kind with stand := some 7 }).rxQueue 42 0 = [{ packet kind with stand := some 7 }] ∧
    (stepping.refuses 42 { packet kind with stand := some 7 }).1 ≠ 0 ∧ (stepping.refuses 42 { packet kind with stand := some 7 }).1 ≠ codeBusy ∧
    attachOf 42 = .grove 0 := by decide +kernel

theorem witness_Requests_grove : ∀ kind, kind ∈ [1, 3, 4, 6, 9] → (received 42 0 (packetAt kind (tileAddr 3 0xFFF80))).rxQueue 42 0 = [packetAt kind (tileAddr 3 0xFFF80)] ∧
    ((received 42 0 (packetAt kind 0)).setRx 42 0 []).refuses 42 (packetAt kind (tileAddr 3 0xFFF80)) = (0, 0) ∧ sramSound (received 42 0 (packetAt kind 0)) ∧
    isStack (tileAddr 3 0xFFF80) = false ∧ stepping.accessCode (flitStand (packetAt kind 0)) (tileAddr 3 0xFFF80) 128 = 0 ∧
    stepping.accessCode (flitStand (packetAt kind 0)) (tileAddr 3 0xFFF80 / 64 * 64) 64 = 0 := by decide +kernel

/-- A SIGNAL of its own counter 0x3F, which may just be reached. -/
theorem witness_Requests_signal : waitCounter 0 0x3F = some 0x3F ∧ waitCounter 0 0x100 = some 0 ∧ waitCounter 1 0x17F = some 0x3F ∧
    stepping.token 0 0x3F + fld (BitVec.ofNat 1024 (0xFFFFFFFF * 2 ^ 16 + 0x3F)) 16 32 ≤ 0xFFFFFFFF := by decide +kernel

theorem witness_Requests_command : attachOf 0 = .stack 0 0 ∧ (received 0 0 (packet 7)).rxQueue 0 0 = [packet 7] ∧ stepping.refuses 0 (packet 7) = (0, 0) ∧
    (∀ opc, opc ∈ [1, 2, 0, 3, 15] → nmOpc (BitVec.ofNat 512 (opc * 2 ^ 60)) = opc) := by decide +kernel

/-- A free tag of a Clearing; an answer that has its buffer, and one that has none. -/
theorem witness_Requests_room : (∀ kind, kind ∈ [1, 3, 4, 6, 7, 9] → (received 42 0 (packet kind)).canReserve 42 (packet kind) = true) ∧
    ((received 42 0 (packet 1)).setFifo 21 4 1 (List.replicate 64 (packet 2))).canReserve 42 (packet 1) = false ∧
    ((received (clearingNode 0) 0 (packet 3)).setRx (clearingNode 0) 0 []).refuses (clearingNode 0) (packet 3) ≠ (0, 0) ∧
    SMap.get none (SMap.get Clearing.reset stepping.clearings 0).tags 0 = none := by decide +kernel

/-- Tree 0 has one member, the grove at node 42; TreeCtrl gives it a limit and the rule. -/
def treeOf (off : SMap Nat) (debt : Nat) : State :=
  { ((stepping.setEntry 0x6800 2 16 63 (2 ^ 15 + 42)).setObj 0x6800 1 (BitVec.ofNat 64 (3 * 2 ^ 30))) with
    treeOff := off, treeDebts := [(63, debt)] }

theorem witness_MembersAndResponses_members : ∀ b, b ∈ [0, 1, 2] → let s := (treeOf [(63, b)] 0).setRx 42 2 [packetAt 0xA (tileAddr 0 0)]
    s.rxQueue 42 2 = [packetAt 0xA (tileAddr 0 0)] ∧ (packetAt 0xA 0).kind = 0xA ∧ ((s.setRx 42 2 []).refuses 42 (packetAt 0xA 0)).1 = 0 ∧
    attachOf 42 = .grove 0 ∧ opxOp (packetAt 0xA 0).opx.toNat = 0 ∧ s.canReserve 42 (packetAt 0xA (tileAddr 0 0)) = true ∧ sramSound s ∧
    ((s.treeMembers 0).any (fun m => m.2 == 42 && SMap.get 0 s.treeOff (64 * 0 + m.1) == 2)) = decide (b = 2) ∧
    (s.setRx 42 2 []).accessCode (flitStand (packetAt 0xA 0)) (tileAddr 0 0) 128 = 0 ∧ isStack (tileAddr 0 0) = false := by decide +kernel

theorem witness_MembersAndResponses_detach : ∀ debt, debt ∈ [63, 64] → let s := treeOf [] debt
    (s.treeMembers 0).find? (fun x => x.1 == 63) = some (63, 42) ∧ s.bit 0x6800 1 31 = true ∧ s.bit 0x6800 1 30 = true ∧
    s.treeDetached 0 63 = false ∧ s.sendRoom (s.treeRoot 0) 0 1 = true ∧ SMap.get 0 s.treeDebts 63 = debt := by decide +kernel

/-- Slot 7 of grove 0 awaits two responses of TXN 0x7F. -/
def awaiting (write : Bool) (left : Nat) : State :=
  { ((stepping.setSlot 7 { Slot.reset with st := .running }).setRx 42 1 [{ packet (if write then 5 else 2) with txn := 0x7F }]) with
    outst := [(128 * 42 + 0x7F, some ⟨.slot 7, write, 0, left⟩)] }

theorem witness_MembersAndResponses_responses : ∀ left, left ∈ [1, 2] → ∀ w, w ∈ [false, true] → attachOf 42 = .grove 0 ∧
    (awaiting w left).groveFenced 0 = false ∧ (awaiting w left).outstAt 42 0x7F = some ⟨.slot 7, w, 0, left⟩ ∧ 7 / 8 = 0 ∧
    (awaiting w left).rxQueue 42 1 = [{ packet (if w then 5 else 2) with txn := 0x7F }] ∧ ((awaiting w left).slot 7).st = .running ∧
    ((awaiting w left).slot 7).hold ≠ .ending := by decide +kernel

/-- The ERROR with the largest code. -/
theorem witness_MembersAndResponses_error : ((awaiting false 2).setRx 42 1 [{ packet 8 with txn := 0x7F, data := 15 }]).rxQueue 42 1 =
    [{ packet 8 with txn := 0x7F, data := 15 }] ∧ fld (15 : BitVec 1024) 0 8 < 16 := by decide +kernel

/-- An acknowledgement of an awaited copy, and a write whose member no tree awaits. -/
theorem witness_MembersAndResponses_acks : (awaiting true 1).strayAck 42 { packet 5 with txn := 0x7F } = false ∧
    (awaiting true 1).ackingMember 42 { packet 5 with txn := 0x7F } = none ∧ (awaiting false 2).strayAck 42 { packet 8 with txn := 0x7F, data := 15 } = false ∧
    (treeOf [] 63).sendRoom ((treeOf [] 63).treeRoot 0) 0 1 = true ∧
    ({ awaiting true 1 with outst := [(128 * 42 + 0x7F, some ⟨.slot 7, true, copyMark, 1⟩)] } : State).outstAt 42 0x7F =
      some ⟨.slot 7, true, copyMark, 1⟩ := by decide +kernel

/-! ## The Xannus links -/

/-- Port 0 in STATE `st` with the lanes of `map`; it and its lane 7 are `x` and `y`; PortCtrl is `ctrl`. -/
def portOfState (st map ctrl : Nat) (x : Port) (y : Lane) : State :=
  (((State.reset.setObj 0x7100 1 (BitVec.ofNat 64 ctrl)).setPortState 0 st map).setPort 0 x).setLane 7 y

/-- Ports 0 to 3 lose their reference, and get it back. -/
theorem witness_PortTraining_reference : bitOf ((portOfState 3 0xFF 1 Port.reset Lane.reset).portCtrl 0) 0 = true ∧
    (portOfState 3 0xFF 1 Port.reset Lane.reset).portState 0 ≠ 0 ∧
    bitOf ({ portOfState 1 0 1 Port.reset Lane.reset with xrefs := 6 } : State).xrefs 0 = false ∧ (portOfState 1 0 1 Port.reset Lane.reset).portState 0 = 1 := by
  decide +kernel

/-- A frame whose status word names lane 7, of a port at its training and of one at rest; and a frame whose words are damaged. -/
theorem witness_PortTraining_frame : ∀ st, st ∈ [0, 1] → let s := (portOfState st 0 1 Port.reset Lane.reset).setLaneState 0 7 st
    trainWordOf (trainWord 0x3A00) = some 0x3A00 ∧ s.laneOfFrame 0 3 (trainWordOf (trainWord 0x3A00)) = some 7 ∧
    s.laneTraining 0 7 = decide (st = 1) ∧ s.laneTesting 0 7 = false ∧ trainWordOf 0x00010000 = none := by decide +kernel

theorem witness_PortTraining_trained : let s := (portOfState 2 0 1 Port.reset { Lane.reset with control := 0x200, farReady := 3 }).setLaneState 0 7 1
    s.laneTraining 0 7 = true ∧ bitOf (s.lane 7).control 9 = true ∧ 3 ≤ (s.lane 7).farReady ∧
    bitOf (Lane.reset.control) 9 = false := by decide +kernel

/-! A lane's 4 codewords: the message is 1 0 1 0 …, in which every block has the header 1 0, wherever it starts. -/

/-- `n` pairs of bits 1 0. -/
def pairs (n : Nat) : List Bool := (List.replicate n [true, false]).flatten

theorem pairs_add (m n : Nat) : pairs (m + n) = pairs m ++ pairs n := by
  simp [pairs, ← List.replicate_append_replicate]

theorem pairs_length (n : Nat) : (pairs n).length = 2 * n := by simp [pairs, Nat.mul_comm]

theorem symbolBits_replicate (n : Nat) : symbolBits (List.replicate n 341) = pairs (5 * n) := by
  induction n with
  | zero => rfl
  | succ n ih =>
    rw [List.replicate_succ, Nat.mul_succ, Nat.add_comm, pairs_add, ← ih]
    rfl

/-- The blocks of alternating bits have valid headers, whatever the descrambler's state. -/
theorem lineHeaders_pairs (k n : Nat) (t : BitVec 58) (h : 33 * k ≤ n) : (lineHeaders k t (pairs n)).2 = List.replicate k false := by
  induction k generalizing n t with
  | zero => rfl
  | succ k ih =>
    obtain ⟨m, rfl⟩ : ∃ m, n = 33 + m := ⟨n - 33, by omega⟩
    have h1 : (pairs (33 + m)).take 66 = pairs 33 := by rw [pairs_add, List.take_left' (pairs_length 33)]
    have h2 : (pairs (33 + m)).drop 66 = pairs m := by rw [pairs_add, List.drop_left' (pairs_length 33)]
    have h3 : (lineBlock t (BitVec.ofNat 66 (ofBitsLsb (pairs 33)))).2.1 = .control := by
      have e : (BitVec.ofNat 66 (ofBitsLsb (pairs 33))).toNat % 4 = 1 := by decide +kernel
      unfold lineBlock
      simp only [e]
      decide
    simp only [lineHeaders, h1, h2]
    rw [ih m _ (by omega), h3, List.replicate_succ']
    rfl

/-- The codeword and the level codes of each of the four. -/
def trainedSymbols : List Nat := List.replicate 514 341 ++
  [746, 761, 23, 813, 645, 474, 983, 698, 1023, 23, 524, 486, 727, 909, 353, 1017, 132, 628, 210, 69, 936, 405, 991, 615, 104, 52, 884, 993, 175, 863]
def trainedWord : BitVec 5440 := BitVec.ofNat 5440 (packLevels (levelCodes false 0 (symbolBits trainedSymbols)).1)

set_option maxRecDepth 100000 in
theorem trainedSymbols_sound : rsSyndromes trainedSymbols = List.replicate 30 0 := by decide +kernel

set_option maxRecDepth 100000 in
theorem trainedWord_bits : (levelBits false 0 (unpackLevels false trainedWord)).1 = symbolBits trainedSymbols := by decide +kernel

theorem trainedSymbols_length : trainedSymbols.length = 544 := by decide +kernel
theorem trainedSymbols_small : ∀ c, c ∈ trainedSymbols → c < 1024 := by decide +kernel
theorem trainedSymbols_take : trainedSymbols.take 514 = List.replicate 514 341 := by decide +kernel

theorem rsWord_trained : rsWord (symbolBits trainedSymbols) = some (trainedSymbols, 0) := by
  have h0 : (rsSyndromes trainedSymbols).all (· == 0) = true := by rw [trainedSymbols_sound]; decide +kernel
  have hs : symbolsOf 544 (symbolBits trainedSymbols) = trainedSymbols := by
    have h := symbolsOf_symbolBits _ trainedSymbols_small
    rwa [trainedSymbols_length] at h
  rw [rsWord, hs]
  exact rsDecode_sound h0

/-- What the codewords hold. -/
theorem decodeLine_trained (y k : Nat) : decodeLine false false y (List.replicate k trainedWord) = some (pairs (2570 * k)) := by
  induction k generalizing y with
  | zero => rfl
  | succ k ih =>
    have h := decodeLine_cons (y := y) (l := List.replicate k trainedWord) (inv := false) (pre := false) (w := trainedWord)
      (by rw [levelBits_plain, trainedWord_bits]; exact rsWord_trained) (ih _)
    rw [trainedSymbols_take, symbolBits_replicate, ← pairs_add] at h
    rw [List.replicate_succ, h]
    exact congrArg (fun n => some (pairs n)) (by omega)

theorem lockLost_never (n : Nat) (i : Nat) : lockLost ((List.replicate n false).drop i) = false := by
  simp only [lockLost, List.drop_replicate, List.take_replicate, decide_eq_false_iff_not, Nat.not_le]
  rw [List.countP_replicate]
  simp

/-- The 4 codewords lock a lane that neither inverts nor precodes. -/
theorem lineLocks_trained (s : State) (n : Nat) (hi : s.bit (0x7200 + n) 1 4 = false) (hp : s.bit (0x7200 + n) 1 3 = false) :
    ∃ d, s.lineLocks n (List.replicate 4 trainedWord) = some d := by
  refine ⟨(lineHeaders 311 0 (pairs 10280)).1, ?_⟩
  have h : decodeLine false false 0 (List.replicate 4 trainedWord) = some (pairs 10280) := decodeLine_trained 0 4
  have hh := lineHeaders_pairs 311 10280 0 (by decide)
  have ha : ((List.range 248).any fun i => lockLost ((lineHeaders 311 0 (pairs 10280)).2.drop i)) = false := by
    rw [hh, List.any_eq_false]
    intro i _
    rw [lockLost_never]
    exact Bool.false_ne_true
  unfold State.lineLocks
  rw [if_neg (fun hc => hc List.length_replicate), hi, hp, h]
  exact if_neg (by rw [ha]; decide)

theorem witness_PortTraining_locks : let s := (portOfState 2 0 1 Port.reset { Lane.reset with control := 0x200, farReady := 3 }).setLaneState 0 7 1
    ∃ d, s.lineLocks 7 (List.replicate 4 trainedWord) = some d := lineLocks_trained _ _ (by decide +kernel) (by decide +kernel)

/-- Lane 7 retrains in service, after `k` failures. -/
theorem witness_PortTraining_fails : ∀ k, k ∈ [0, 1, 2] →
    let s := portOfState 4 0x7F 1 { Port.reset with outLane := some (7, .retrain) } { Lane.reset with fails := k }
    s.laneTraining 0 7 = true ∧ s.portUp 0 = true ∧ (s.port 0).outLane = some (7, .retrain) ∧ (s.lane 7).fails = k ∧
    (portOfState 3 0xFF 1 Port.reset Lane.reset).laneTraining 0 7 = false := by decide +kernel

/-- Every lane of port 0 has trained and is aligned. -/
def aligned : State := (List.range 8).foldl (fun s k => s.setLane k { Lane.reset with locked := true, deskew := (1, 16) }) (portOfState 2 0 1 Port.reset Lane.reset)

theorem witness_PortTraining_up : aligned.portState 0 = 2 ∧ (∀ k, k < 8 → (aligned.lane (laneNum 0 k)).locked = true ∧ 16 ≤ (aligned.lane (laneNum 0 k)).deskew.2) ∧
    (aligned.port 0).txq = [] ∧ (portOfState 3 0xFF 1 Port.reset Lane.reset).portState 0 ≠ 2 := by decide +kernel

theorem witness_PortTraining_reset : bitOf ((portOfState 3 0xFF 3 Port.reset Lane.reset).portCtrl 0) 0 = true ∧
    bitOf ((portOfState 3 0xFF 3 Port.reset Lane.reset).portCtrl 0) 1 = true ∧ bitOf ((portOfState 3 0xFF 1 Port.reset Lane.reset).portCtrl 0) 1 = false := by
  decide +kernel

/-- The LANEMAP block without lane 7, as its second or third copy. -/
def dropsLane7 : U64 := BitVec.ofNat 64 (typeLaneMap + 256 * 0x7F)

theorem witness_PortTraining_map : fld dropsLane7 0 8 = typeLaneMap ∧ (Port.reset.last ≠ some dropsLane7) ∧
    (∀ c, c ∈ [1, 2] → let s := portOfState 3 0xFF 1 { Port.reset with last := some dropsLane7, copies := c } Lane.reset
      (s.port 0).last = some dropsLane7 ∧ (s.port 0).copies = c ∧ s.portUp 0 = true ∧ (s.port 0).outLane = none ∧ (s.port 0).failed = none ∧
      s.laneMap 0 / 2 ^ 7 % 2 = 1 ∧ fld dropsLane7 (8 + 7) 1 = 0 ∧ ∀ k, k < 8 → k ≠ 7 → s.laneMap 0 / 2 ^ k % 2 = 1 → fld dropsLane7 (8 + k) 1 = 1) ∧
    (∀ k, k < 8 → (portOfState 4 0x7F 1 Port.reset Lane.reset).laneMap 0 / 2 ^ k % 2 = 1 → fld dropsLane7 (8 + k) 1 = 1) ∧
    fld (BitVec.ofNat 64 typeDeskew) 0 8 ≠ typeLaneMap := by decide +kernel

/-- The fifteenth and the sixteenth agreeing DESKEW block of lane 7, of a port that is up and of one that trains. -/
theorem witness_PortTraining_deskew : ∀ c, c ∈ [14, 15] → ∀ st, st ∈ [2, 4] →
    let s := portOfState st 0x7F 1 { Port.reset with outLane := some (7, .retrain) } { Lane.reset with locked := true, deskew := (if st = 2 then 8 else 2, c) }
    let b : U64 := BitVec.ofNat 64 (typeDeskew + 9 * 2 ^ 16)
    fld b 0 8 = typeDeskew ∧ (s.lane 7).locked = true ∧ s.laneMap 0 / 2 ^ 7 % 2 = 0 ∧ fld b 16 32 = ((s.lane 7).deskew.1 + (if s.portUp 0 then 7 else 1)) % 2 ^ 32 ∧
    (s.lane 7).deskew.2 + 1 = c + 1 ∧ (s.port 0).outLane = some (7, .retrain) ∧ (s.port 0).next = none := by decide +kernel

/-- A copy of LANEMAP, and a DESKEW block, as lane 0 and lane 7 bring them. -/
def mapHeard : State := portOfState 3 0xFF 1 { Port.reset with last := some dropsLane7, copies := 1 } Lane.reset
def deskewHeard : State := portOfState 4 0x7F 1 { Port.reset with outLane := some (7, .retrain) } { Lane.reset with locked := true, deskew := (2, 15) }
def deskewNine : U64 := BitVec.ofNat 64 (typeDeskew + 9 * 2 ^ 16)

theorem witness_PortTraining_hears : (∃ u, hears mapHeard 0 (sentBlock dropsLane7) dropsLane7 u) ∧ ∃ u, hears mapHeard 0 (sentBlock deskewNine) deskewNine u :=
  ⟨hears_exists (by decide +kernel) (by decide +kernel), hears_exists (by decide +kernel) (by decide +kernel)⟩

theorem witness_PortTraining_hearsDeskew : ∃ u, deskewHeard.hearOn 7 (sentBlock deskewNine) = (u, .control, deskewNine) :=
  ⟨(deskewHeard.hearOn 7 (sentBlock deskewNine)).1, Prod.ext rfl (by decide +kernel)⟩

/-- Port 0 is up. -/
def portUpWith (x : Port) : State := portOfState 3 0xFF 1 x Lane.reset

/-- The first frame after port-up, with the largest body. -/
theorem witness_PortFrames_frame : (portUpWith Port.reset).portUp 0 = true ∧ (portOfState 2 0 1 Port.reset Lane.reset).portUp 0 = false ∧
    blockGood typeFrame (portBlockWith Port.reset typeFrame 0 3 (bitsLsb 1216 (2 ^ 1216 - 1))) (bitsLsb 1216 (2 ^ 1216 - 1)) = true ∧
    Port.reset.rxSeq + 1 = 0 ∧ blockGood typeFrame 0 [] = false ∧ Port.reset.asked ≠ some (Port.reset.rxSeq + 1) ∧
    ({ Port.reset with asked := some 0 } : Port).asked = some (Port.reset.rxSeq + 1) :=
  ⟨by decide +kernel, by decide +kernel, blockGood_portBlockWith _ _ _ _ _ (by decide), by decide, by decide +kernel, by decide, by decide⟩

/-- The retry buffer holds one frame; a RETRY from it, at the limit and below it. -/
theorem witness_PortFrames_retry : let x : Port := { Port.reset with retry := [(0xFFE, 3, 0)], retried := 0 }
    let b := portBlockWith Port.reset typeRetry 0xFFE 3 []
    blockGood typeRetry b [] = true ∧ x.txq = [] ∧
    (match x.retry.findIdx? (fun e => e.1 == BitVec.ofNat 12 (fld b 20 12)) with | none => x.retry | some i => x.retry.drop (i + 1)) = x.retry ∧
    x.retry.findIdx? (fun e => e.1 == BitVec.ofNat 12 (fld b 8 12)) = some 0 ∧
    (portUpWith x).getF 0x7000 3 0 8 ≤ 255 ∧ x.retried < ((portUpWith x).setF 0x7000 3 0 8 1).getF 0x7000 3 0 8 ∧
    ((portUpWith x).setF 0x7000 3 0 8 0).getF 0x7000 3 0 8 ≤ x.retried := by decide +kernel

/-- IDLE blocks: a good one that acknowledges and returns credits, and a bad one. -/
theorem witness_PortFrames_idle : blockGood typeIdle (portBlockWith Port.reset typeIdle 0 0xC []) [] = true ∧ blockGood typeIdle 0 [] = false ∧
    Port.reset.txq = [] := by decide +kernel

/-- An IDLE block, a RETRY block, and a block with a wrong CRC. -/
def idleBlock : U64 := portBlockWith Port.reset typeIdle 0 0xC []
def retryBlock : U64 := portBlockWith Port.reset typeRetry 0xFFE 3 []

theorem witness_PortFrames_hears : (∃ u, hears (portUpWith Port.reset) 0 (sentBlock idleBlock) idleBlock u) ∧
    (∃ u, hears (portUpWith Port.reset) 0 (sentBlock retryBlock) retryBlock u) ∧ ∃ u, hears (portUpWith Port.reset) 0 (sentBlock 0) 0 u :=
  ⟨hears_exists (by decide +kernel) (by decide +kernel), hears_exists (by decide +kernel) (by decide +kernel),
   hears_exists (by decide +kernel) (by decide +kernel)⟩

/-- A frame, 20 blocks on the lanes in turn. -/
def sentFrame (s : State) (h : U64) (body : BitVec 1216) : List (BitVec 66) :=
  ((List.range 20).foldl (fun (acc : State × List (BitVec 66)) i =>
    let w : U64 := if i = 0 then h else BitVec.ofNat 64 (body.toNat / 2 ^ (64 * (i - 1)))
    let b := BitVec.ofNat 66 (ofBitsLsb (blockLine (acc.1.lane (i % 8)).descrambled (i == 0) w).2)
    ((acc.1.hearBlock 0 b).1, acc.2 ++ [b])) (s, [])).2
def heardFrame : State × Bool × U64 × BitVec 1216 := (portUpWith Port.reset).hearFrame 0 (sentFrame (portUpWith Port.reset) 5 7)

theorem witness_PortFrames_whole : (sentFrame (portUpWith Port.reset) 5 7).length = 20 ∧ heardFrame.2.1 = true ∧ heardFrame.2.2.1 = 5 ∧ heardFrame.2.2.2 = 7 ∧
    ∀ k, k < 8 → lockLost (heardFrame.1.lane (laneNum 0 k)).headers = false := by decide +kernel

theorem witness_PortLanes_lane : (portUpWith Port.reset).portUp 0 = true ∧ (portUpWith Port.reset).laneMap 0 / 2 ^ 7 % 2 = 1 ∧
    (portOfState 4 0x7F 1 Port.reset Lane.reset).laneMap 0 / 2 ^ 7 % 2 = 0 ∧ Port.reset.outLane = none ∧ Port.reset.failed = none ∧
    ({ Port.reset with failed := some 3 } : Port).failed.isSome = true := by decide +kernel

/-- Lane 7 is tested, in service and after a reset; with as many errors as it may have, and one more (R358). -/
theorem witness_PortLanes_test : let s := portOfState 4 0x7F 1 { Port.reset with outLane := some (7, .test 2) } Lane.reset
    s.laneTesting 0 7 = true ∧ (s.tests.any (fun t => t.unit == TestUnit.lane 7)) = false ∧ (2125#32).toNat ≤ 2125 ∧ 2125 < (2126#32).toNat ∧
    (portUpWith Port.reset).laneTesting 0 7 = false := by decide +kernel

theorem witness_PortLanes_tested : ({ portUpWith Port.reset with tests := [⟨.lane 7, [0]⟩] } : State).tests.any (fun t => t.unit == TestUnit.lane 7) = true := by
  decide +kernel

/-- LaneEye of an active lane that stood below its threshold `k` times, with RETRAIN_AUTO 1. -/
theorem witness_PortLanes_eye : ∀ k, k ∈ [0, 1, 2] → let s := ((portOfState 3 0xFF 5 Port.reset { Lane.reset with low := k }).setLaneState 0 7 2).setObj 0x7000 4 0xFFFF
    s.laneState 0 7 = 2 ∧ ¬(s.getF 0x7000 4 0 8 ≤ (0 : BitVec 8).toNat ∧ s.getF 0x7000 4 8 8 ≤ (0 : BitVec 8).toNat) ∧
    s.getF 0x7000 4 0 8 ≤ (0xFF : BitVec 8).toNat ∧ s.getF 0x7000 4 8 8 ≤ (0xFF : BitVec 8).toNat ∧
    bitOf (s.portCtrl 0) 2 = true ∧ (s.lane 7).low = k ∧ (portUpWith Port.reset).laneState 0 7 ≠ 2 := by decide +kernel

/-- Ranger serves, and port 0 is as `portOfState` says. -/
def ctrlOf (st map ctrl : Nat) (x : Port) : State :=
  { portOfState st map ctrl x Lane.reset with ranger := .up, endpointReady := true, booted := true, perstN := true }

/-- Writes of PortCtrl: presets 3 and 4; enabling, disabling; a test and a retraining of lane 7, of which the second finds lane 3 out. -/
theorem witness_PortLanes_ctrl : mayWrite (ctrlOf 3 0xFF 1 Port.reset) pf 0x7100 1 ∧
    (∀ v, v ∈ [0x18, 0x19, 0x20] → fld (maskedWord ((ctrlOf 0 0 0 Port.reset).acceptedWord (objKey 0 0x7100 1 0)) (BitVec.ofNat 64 v) 0x3FF7F) 3 3 = v / 8 ∧
      bitOf (maskedWord ((ctrlOf 0 0 0 Port.reset).acceptedWord (objKey 0 0x7100 1 0)) (BitVec.ofNat 64 v) 0x3FF7F) 0 = decide (v = 0x19)) ∧
    bitOf ((ctrlOf 0 0 0 Port.reset).portCtrl 0) 0 = false ∧ bitOf ((ctrlOf 3 0xFF 1 Port.reset).portCtrl 0) 0 = true ∧
    (∀ v, v ∈ [0x0701, 0x27001] → let was := (ctrlOf 3 0xFF 1 Port.reset).acceptedWord (objKey 0 0x7100 1 0)
      let w := maskedWord was (withBit (BitVec.ofNat 32 v) (if v = 0x0701 then 11 else 15) true) 0x3FF7F
      bitOf w 0 = true ∧ fld w 3 3 < 4 ∧ bitOf w 15 = decide (v ≠ 0x0701) ∧ bitOf w 11 = decide (v = 0x0701) ∧ fld w 16 2 ≠ 3 ∧
      (v = 0x0701 → fld w 8 3 = 7) ∧ (v ≠ 0x0701 → fld w 12 3 = 7)) ∧ (ctrlOf 3 0xFF 1 Port.reset).portUp 0 = true ∧
    ({ Port.reset with outLane := some (3, .retrain) } : Port).outLane = some (3, .retrain) := by decide +kernel

/-- This device is 5 at (0, 0, 0) of a grid of 4 · 1 · 1 that wraps; device 6 stands at (1, 0, 0), and the entry of device 7 is as `e7`. -/
def device (e7 : Nat) : State :=
  ((((State.reset.setStand 0 { Stand.reset with phase := .stepping }).setObj 0x7001 1 (BitVec.ofNat 64 (2 ^ 31 + 5))).setObj 0x7001 2 (BitVec.ofNat 64 (2 ^ 16 + 3))).setEntry
    0x7001 3 16 6 (2 ^ 15 + 1)).setEntry 0x7001 3 16 7 e7

/-- A flit for device `d`, sent by device 6, with its hops. -/
def peerFlit (kind d hops : Nat) : Flit := { packet kind with route := peerHeader d 6 hops, cls := 3, addr := BitVec.ofNat 57 (tileAddr 0 0) }

/-- The flit stands at the front of port 0's receive buffer. -/
def arrived (s : State) (ch : Nat) (f : Flit) : State := s.setPort 0 { Port.reset with rxq := [(ch, [flitBits f])] }

/-- A flit in transit, from each channel: with a route, with none, with its last hop used up; and at a device that is not VALID. -/
theorem witness_PeerFlits_transit : ∀ kind, kind ∈ [1, 2] → ∀ h, h ∈ [30, 31] → ∀ d, d ∈ [6, 7] → let ch := if kind = 1 then 0 else 1
    let s := arrived (device 0) ch (peerFlit kind d h)
    s.portRx 0 ch = [flitBits (peerFlit kind d h)] ∧ flitOf (flitBits (peerFlit kind d h)) = peerFlit kind d h ∧ s.forMe (peerFlit kind d h) = false ∧
    (∀ c, c < ch → (s.portRx 0 c).head? = none) ∧ s.deviceValid = true ∧ peerHops (peerFlit kind d h) = h ∧ peerDest (peerFlit kind d h) = d ∧
    s.devRoute d = (if d = 6 then some (1, 0, 0) else none) ∧ State.reset.deviceValid = false := by decide +kernel

/-- The port towards device 6, up and not. -/
theorem witness_PeerFlits_hop : (device 0).firstHop (1, 0, 0) 6 6 0 = 0 ∧ (device 0).portUp 0 = false ∧ ((device 0).setPortState 0 3 0xFF).portUp 0 = true := by
  decide +kernel

theorem witness_PeerFlits_request : let s := arrived (device 0) 0 (peerFlit 3 5 0)
    s.portRx 0 0 = [flitBits (peerFlit 3 5 0)] ∧ s.deviceValid = true ∧ s.forMe (flitOf (flitBits (peerFlit 3 5 0))) = true ∧
    s.enabled 0 = true ∧ s.inJob 0 = false ∧ (s.setObj 0x7400 1 (BitVec.ofNat 64 (2 ^ 31))).inJob 0 = true ∧
    (peerFlit 3 5 0).stand = some 0 ∧ (peerFlit 3 5 0).kind ≠ 6 ∧ nodeOfAddr ((peerFlit 3 5 0).addr.toNat % 2 ^ 44) = some (groveNode 0) ∧
    s.freePeerTag 0 = some 0 ∧ peerDest (peerFlit 3 6 0) ≠ s.deviceId := by decide +kernel

/-- The tag `t` is taken in a list of the numbers from `lo` where it is among them. -/
theorem find_taken (lo n t : Nat) (h : lo ≤ t ∧ t < lo + n) (v : PeerTag) :
    SMap.find? ((List.range' lo n).map (fun k => (k, some v))) t = some (some v) := by
  induction n generalizing lo with
  | zero => omega
  | succ n ih =>
    rw [List.range'_succ, List.map_cons]
    unfold SMap.find?
    split
    · rfl
    · exact ih (lo + 1) (by omega)

/-- Every tag of the port is taken. -/
theorem witness_PeerFlits_tags : ({ State.reset with ports := [(0, { Port.reset with
      tags := (List.range' 0 4096).map (fun k => (k, some ⟨6, 0, 0, 1⟩)) })] } : State).freePeerTag 0 = none := by
  unfold State.freePeerTag
  rw [List.find?_eq_none]
  intro t ht
  have h := find_taken 0 4096 t ⟨Nat.zero_le t, by simpa using ht⟩ ⟨6, 0, 0, 1⟩
  simp only [State.port, SMap.get, SMap.find?, if_true, Option.getD_some, h]
  decide

/-- A SIGNAL of the first and the last job token whose entry is not VALID. -/
theorem witness_PeerFlits_signal : ∀ token, token ∈ [0x8000, 0x8FFF] → 0x8000 ≤ token ∧ token ≤ 0x8FFF ∧ token ≠ tokenBarrier ∧ token ≠ tokenRelease ∧
    (device 0).jobEntry 0 (token - 0x8000) / 2 ^ 30 % 2 = 0 ∧ fld ({ peerFlit 6 5 0 with data := BitVec.ofNat 1024 token } : Flit).data 0 16 = token := by
  decide +kernel

/-- A response to a request of the peer tag 0xFFF, with one and with two to come, and with none taken. -/
theorem witness_PeerFlits_response : let f : Flit := { packet 2 with txn := 0x7F, addr := BitVec.ofNat 57 (31 * 2 ^ 52) }
    let s := (device 0).setRx (xannusNode 0) 1 [f]
    s.rxQueue (xannusNode 0) 1 = [f] ∧ peerTagOf f = 0xFFF ∧ SMap.get none (s.port 0).tags 0xFFF = none ∧ s.portUp 0 = false ∧
    SMap.get none ((s.setPort 0 { Port.reset with tags := [(0xFFF, some ⟨6, 0, 0, 2⟩)] }).port 0).tags 0xFFF = some ⟨6, 0, 0, 2⟩ := by decide +kernel

theorem witness_PeerFlits_arrived : ∀ d, d ∈ [5, 6] → let s := arrived (device 0) 1 (peerFlit 2 d 0)
    s.rxQueue (xannusNode 0) 1 = [] ∧ s.portRx 0 1 = [flitBits (peerFlit 2 d 0)] ∧ s.forMe (flitOf (flitBits (peerFlit 2 d 0))) = decide (d = 5) := by
  decide +kernel

theorem txCount_empty {s : State} (h : s.ports = []) (q c : Nat) : s.txCount q c = 0 := by
  have e : (s.port q).txq = [] := by unfold State.port; rw [h]; rfl
  unfold State.txCount
  simp only [e]
  split <;> rfl

theorem witness_PeerFlits_empty : ∀ q c, q < 12 → (device 0).txCount q c < 64 := fun q c _ => by
  rw [txCount_empty (by decide +kernel)]
  decide

theorem witness_PeerFlits_room :
    (device 0).sendRoom (xannusNode 0) 0 1 = true ∧ (device 0).sendRoom (xannusNode 0) 1 1 = true ∧
    ((device 0).setFifo (xannusNode 0 / 2) (4 + xannusNode 0 % 2) 0 (List.replicate 72 (packet 3))).sendRoom (xannusNode 0) 0 1 = false := by decide +kernel

/-! ## The field network -/

/-- A Harip frame to the device's address, whose requester is 1 (R474, R475). -/
def frame (type num seq : Nat) (body : List Byte) : FieldFrame :=
  { dst := 0, src := 1, tagged := false, etherType := 0x88B5, fcsOk := true
    body := haripHeader type 0 num body.length seq ++ body ++ List.replicate (30 - body.length) 0 }

/-- Ranger is `r`, with the frames `l` in its queue. -/
def field (r : Ranger) (l : List FieldFrame) : State :=
  { State.reset with ranger := r, booted := true, rxFrames := l
                     dict := [(objKey 0 0x1020 1 0, 0), (objKey 0 0x1020 2 0, 1), (objKey 0 0x1020 3 0, 0x88B5)] }

theorem witness_FieldFrames_receive : ∀ n, n ∈ [3, 4] → let f := frame 1 0 0 []
    let s := field .up (List.replicate n f)
    s.booted = true ∧ f.fcsOk = true ∧ s.frameForUs f = true ∧ 46 ≤ f.body.length ∧ f.body.length ≤ 1504 ∧ hType f ≠ 0x30 ∧ hType f ≠ 0x32 ∧
    s.rxFrames.length = n ∧ s.ranger = .up ∧ (field .down []).ranger ≠ .up ∧ (field .down []).ranger ≠ .handoff := by decide +kernel

theorem witness_FieldFrames_ignored : (field .up []).frameForUs { frame 1 0 0 [] with dst := 2 } = false ∧
    ({ frame 1 0 0 [] with fcsOk := false } : FieldFrame).fcsOk = false ∧ State.reset.booted = false ∧
    ({ frame 1 0 0 [] with body := [] } : FieldFrame).body.length < 46 := by decide +kernel

/-- CHALLENGE_REQ by broadcast, and RECOVERY, from down Ranger. -/
theorem witness_FieldFrames_hardware : (field .down []).frameForUs { frame 0x30 0 7 [] with dst := BitVec.ofNat 48 (2 ^ 48 - 1) } = true ∧
    hType (frame 0x30 0 7 []) = 0x30 ∧ hNum (frame 0x30 0 7 []) = 0 ∧ hType (frame 0x32 0 7 (List.replicate 72 1)) = 0x32 ∧
    (field .down []).frameForUs (frame 0x32 0 7 (List.replicate 72 1)) = true ∧ 46 ≤ (frame 0x32 0 7 (List.replicate 72 1)).body.length ∧
    (hBody (frame 0x32 0 7 (List.replicate 72 1))).getD 0 0 = 1 := by decide +kernel

theorem witness_FieldFrames_actions : (∀ a, a ∈ [1, 2, 3] → ({ field .up [] with actions := [a] } : State).actions.contains a = true ∧
    (field .up []).actions.contains a = false) ∧ (field .up []).tripped = false ∧ (field .up []).deviceWide = false ∧
    ({ field .up [] with dict := [(objKey 0 0x3100 3 0, 0x400)] } : State).tripped = true := by decide +kernel

/-- The node is PLCA's coordinator, then another node; and a revert waits. -/
theorem witness_FieldFrames_plca : ∀ n, n ∈ [0, 1] → let s : State := { field .up [] with dict := [(objKey 0 0x1020 2 0, BitVec.ofNat 64 (1 + n * 2 ^ 8))] }
    s.plcaUsed = true ∧ s.getF 0x1020 2 8 8 = n ∧ s.plcaDown = false ∧ s.revert = none ∧
    ({ s with revert := some (3, 4) } : State).revert = some (3, 4) := by decide +kernel

/-- Reads of the most and of too many entries, a write of the most entries, and a report's longest read. -/
theorem witness_HaripRequests_public : ∀ e, e ∈ [(0x01, 4 + 4 * 1, 1), (0x01, 4 + 4 * 32, 32), (0x01, 4 + 4 * 33, 33), (0x01, 4, 0), (0x03, 4 + 24 * 16, 16), (0x40, 32, 9),
      (0x40, 31, 9), (0x10, 0, 0)] → let f := frame e.1 0 1 (List.replicate e.2.1 (BitVec.ofNat 8 e.2.2))
    let s := field .up [f]
    s.serves = true ∧ s.rxFrames = [f] ∧ hType f = e.1 ∧ hNum f = 0 ∧ lengthOk f false = true ∧ (hBody f).length = e.2.1 ∧ (((hBody f).getD 0 0).toNat = e.2.2) ∧
    knownType (hType f) = true ∧ (field .down [f]).serves = false := by decide +kernel

/-- Report 5 is kept; the frame asks for its last 1,440 bytes. -/
theorem witness_HaripRequests_report : let f := frame 0x42 0 1 (leBytes 2 5 ++ leBytes 2 1440 ++ leBytes 4 (4744 - 1440))
    hType f = 0x42 ∧ (hBody f).length = 8 ∧ ofLe (sliceBytes (hBody f) 0 2) = 5 ∧ ofLe (sliceBytes (hBody f) 2 2) = 1440 ∧
    ofLe (sliceBytes (hBody f) 4 4) = 3304 ∧ hNum f = 0 ∧ lengthOk f false = true ∧ (field .up [f]).kept.find? (fun x => x.id.toNat == 5) = none ∧
    (({ field .up [f] with kept := [⟨5, 0, []⟩] } : State).kept.find? (fun x => x.id.toNat == 5)).isSome = true := by decide +kernel

/-- Session 9 stands in place 3. -/
def session9 (high ran : Nat) (cache : List (U64 × List Byte)) : Session := ⟨9, 1, 0, 0, BitVec.ofNat 64 high, BitVec.ofNat 64 ran, cache, 0, 0⟩
/-- A frame of session 9 arrives. -/
def inSession (type seq : Nat) (x : Session) : State := { field .up [frame type 9 seq (List.replicate 16 0)] with sessions := [(3, some x)] }

/-- A session's frame that is new, the oldest that is still new, one too old, one already executed, and one repeated; its tag is good or bad. -/
theorem witness_HaripRequests_session : ∀ type, type ∈ [0x01, 0x24] → let f := frame type 9 70 (List.replicate 16 0)
    let s := inSession type 70 (session9 69 1 [])
    s.serves = true ∧ s.rxFrames = [f] ∧ hType f = type ∧ hNum f = 9 ∧ s.sessionPlace (hNum f) = some 3 ∧ s.session 3 = some (session9 69 1 []) ∧
    hSeq f = 70 ∧ s.halfOpen = [] ∧ s.sessionPlace 8 = none := by decide +kernel

/-- The tag's field follows the body, so LENGTH fits with it; and openFrame either opens the frame or does not. -/
theorem witness_HaripRequests_tag : let f : FieldFrame := { frame 0x01 9 70 [] with body := haripHeader 0x01 0 9 0 70 ++ List.replicate 30 0 }
    lengthOk f true = true ∧ (openFrame f (session9 69 1 []) = none ∨ ∃ p, openFrame f (session9 69 1 []) = some p) := by
  refine ⟨by decide +kernel, ?_⟩
  cases openFrame { frame 0x01 9 70 [] with body := haripHeader 0x01 0 9 0 70 ++ List.replicate 30 0 } (session9 69 1 []) with
  | none => exact .inl rfl
  | some p => exact .inr ⟨p, rfl⟩

theorem witness_HaripRequests_fresh : ∀ e, e ∈ [(69, 1, true), (133, 1, true), (134, 1, false), (70, 1, false)] → let x := session9 e.1 e.2.1 []
    (decide (x.high.toNat < 70 ∨ (x.high.toNat - 70 < 64 ∧ bitOf x.ran (x.high.toNat - 70) = false)) = e.2.2) ∧
    x.cache.find? (fun y => y.1.toNat == 70) = none ∧ ((session9 70 1 [(70, [1])]).cache.find? (fun y => y.1.toNat == 70)) = some (70, [1]) := by
  decide +kernel

theorem witness_HaripSessions_hello : ∀ n, n ∈ [131, 132] → let f := frame 0x20 0 1 (List.replicate n 1)
    let s := field .up [f]
    s.serves = true ∧ s.rxFrames = [f] ∧ hType f = 0x20 ∧ hNum f = 0 ∧ hLength f = n ∧ lengthOk f false = true ∧ s.debugOpen = false ∧
    (s.setObj 0x2000 1 0x80).debugOpen = true := by decide +kernel

/-- A half-open exchange of number 9 with an empty slot 0, whose FINISH fails. -/
theorem witness_HaripSessions_finish : let h : HalfOpen := ⟨9, 0, [], 0, 0⟩
    let f := frame 0x22 9 1 (List.replicate 96 1)
    let s : State := { field .up [f] with halfOpen := [h] }
    s.serves = true ∧ s.rxFrames = [f] ∧ hType f = 0x22 ∧ s.halfOpen.find? (fun h => h.num.toNat == hNum f) = some h ∧
    ({ s with rxFrames := [] } : State).finishOk h f = false ∧ ([0, 1, 2, 3] : List (Fin 4)).find? (fun k => (s.session k.val).isNone) = some 0 := by
  decide +kernel

/-! ## The host interface -/

/-- Function `n` with its rings of four entries enabled and the ring state `x`; RingStatus is `st`. -/
def hostRing (n : Nat) (x : Func) (st : Nat) : State :=
  { servingIn .stepping with funcs := [(n, x)], dict := [(objKey 0 (0x6400 + n) 1 0, BitVec.ofNat 64 (1 + 5 * 2 ^ 3 + 2 * 2 ^ 14 + 2 * 2 ^ 19)),
                                                         (objKey 0 (0x6400 + n) 4 0, BitVec.ofNat 64 st)] }

theorem witness_HostRings_doorbell : (hostRing 8 Func.reset 0).endpointReady = true ∧ (hostRing 8 Func.reset 0).tailOk 8 3 = true ∧
    (hostRing 8 Func.reset 0).tailOk 8 4 = false ∧ (hostRing 8 Func.reset 2).tailOk 8 ((3 : BitVec 32) ||| 0x80000000) = true ∧
    (hostRing 8 Func.reset 0).ringOn 8 = true ∧ (0 : BitVec 32).toNat % 65536 < (hostRing 8 Func.reset 0).cplSize 8 ∧
    (hostRing 8 { Func.reset with cplWrite := 3 } 0).cplSize 8 = 4 ∧ ringDistance 4 0 3 ≤ ringDistance 4 0 3 ∧ ¬(ringDistance 4 0 3 ≤ ringDistance 4 0 2) ∧
    (223 : BitVec 11).toNat < vectorCount 8 ∧ vectorCount 8 ≤ (224 : BitVec 11).toNat ∧ (255 : BitVec 11).toNat < vectorCount 0 := by decide +kernel

/-- An entry of OPC `opc` and the step list `l`. -/
def entry (opc w1 : Nat) (l : Option (List (BitVec 128))) : HostEntry := ⟨BitVec.ofNat 64 opc, BitVec.ofNat 64 w1, l⟩
/-- Its ring holds one entry. -/
def fetching : State := hostRing 1 { Func.reset with tail := 1, bells := [0] } 0

theorem witness_HostRings_fetch : fetching.mayFetch 1 = true ∧ (hostRing 1 Func.reset 0).mayFetch 1 = false ∧ (fetching.func 1).marks = [] ∧
    fld (entry 1 0 (some [0])).w0 0 8 = 1 ∧ (entry 1 0 (some [0])).w1.toNat % 16 = 0 ∧ (entry 1 0 none).records = none ∧
    fld (entry 2 0 none).w0 0 8 = 2 ∧ (fld (entry 3 0 none).w0 0 8 ≠ 1 ∧ fld (entry 3 0 none).w0 0 8 ≠ 2) ∧ (entry 1 8 none).w1.toNat % 16 ≠ 0 ∧
    (fetching.func 1).openSteps = [] ∧ (∃ i, i ∈ [0] ∧ i ≤ 0) := by decide +kernel

theorem witness_HostRings_completion : let x : Func := { Func.reset with done := [⟨0, 0, true, 0, none, 0⟩] }
    ((hostRing 1 x 0).func 1).done = [⟨0, 0, true, 0, none, 0⟩] ∧ (hostRing 1 x 0).ringOn 1 = true ∧ (hostRing 1 x 0).cplFree 1 = 3 ∧
    ((hostRing 1 x 0).func 1).marks = [] ∧ (hostRing 1 { x with cplWrite := 3 } 0).cplFree 1 = 0 ∧ SMap.get false x.unmasked 5 = false := by decide +kernel

theorem witness_HostRings_status : (∃ e, e ∈ (hostRing 1 Func.reset 0x10000).statusSeqs 1 ∧ (SMap.get 0 (hostRing 1 Func.reset 0x10000).statusSent e.1).toNat ≠ e.2) ∧
    (∀ e, e ∈ (hostRing 1 Func.reset 0).statusSeqs 1 → (SMap.get 0 (hostRing 1 Func.reset 0).statusSent e.1).toNat = e.2) := by decide +kernel

/-- A BAR2 request of function 1 for the last line of tile 3 of grove 0, where the window lies at that line. -/
def bar2 (write poisoned : Bool) : Bar2Req := ⟨1, 0, write, List.replicate 8 1, 8, poisoned, 3⟩
/-- The window of function 1. -/
def windowAt (a : Nat) (p : Phase) : State := (servingIn p).setObj 0x6401 5 (BitVec.ofNat 64 a)

theorem witness_HostAccess_bar2 : let a := tileAddr 3 0xFFFF8
    (windowAt a .stepping).endpointReady = true ∧ ((windowAt a .stepping).obj 0x6401 5).toNat + (bar2 true false).offset.toNat = a ∧
    ((windowAt a .stepping).stand 0).phase = .stepping ∧ sramSound (windowAt a .stepping) ∧ isStack a = false ∧
    (windowAt a .stepping).accessCode (some 0) a 8 = 0 ∧ ((windowAt a .fenced).stand 0).phase = .fenced ∧
    (windowAt (tileAddr 4 0) .stepping).accessCode (some 0) (tileAddr 4 0) 8 ≠ 0 ∧
    (windowAt (tileAddr 4 0) .stepping).accessCode (some 0) (tileAddr 4 0) 8 ≠ codeBusy ∧ 0 < (bar2 true false).data.length := by decide +kernel

theorem witness_HostAccess_config : (servingIn .held).booted = true ∧ (servingIn .held).perstN = true ∧ (servingIn .held).endpointReady = true ∧
    ({ servingIn .held with endpointReady := false } : State).endpointReady = false ∧ State.reset.booted = false := by decide +kernel

/-- Slot 7 of grove 0 waits for a translation: function 1's first and only request. -/
def translating : State := (servingIn .stepping).setSlot 7 { Slot.reset with st := .running, miss := some ⟨0, false, 0, 0, [], [], none⟩ }

theorem witness_HostAccess_timeout : (translating.hostWaiters 1)[(0 : BitVec 10).toNat]? = some 7 ∧ (translating.slot 7).miss.isSome = true ∧ (servingIn .stepping).hostWaiters 1 = [] ∧
    (servingIn .stepping).pcieReads 1 = [] := by decide +kernel

/-- A poisoned write; a function whose Stand is disabled; a read. -/
theorem witness_HostAccess_ends : (bar2 true true).poisoned = true ∧ ((windowAt 0 .disabled).stand 0).phase = .disabled ∧
    (bar2 false false).write = false := by decide +kernel

theorem witness_FunctionResets : ((servingIn .disabled).stand 0).phase = .disabled ∧ (((servingIn .disabled).func 1).flr = false) ∧
    ((servingIn .fenced).stand 0).stuck = false ∧ ((servingIn .fenced).stand 0).phase = .fenced ∧ ((servingIn .recovering).stand 0).phase = .recovering ∧
    ((servingIn .stepping).stand 0).phase ≠ .disabled ∧ ((servingIn .stepping).stand 0).phase ≠ .fenced ∧ ((servingIn .stepping).stand 0).phase ≠ .recovering ∧
    (({ servingIn .fenced with funcs := [(1, { Func.reset with flr := true })] } : State).func 1).flr = true := by decide +kernel

/-! ## Sensors, power and power-up -/

/-- Words of objects 0x3100 and a die's state. -/
def powered (l : SMap U64) (x : DiePower) : State := { serving with dict := l, diePower := [(0, x)] }

theorem witness_SensorSamples : let s := powered [(objKey 0 0x3001 1 0, 1520), (objKey 0 0x3100 2 0, BitVec.ofNat 64 (95 * 2 ^ 8))] DiePower.reset
    s.criticalC ≤ s.s16 0x3001 1 ∧ (s.die 0).crit = false ∧ (powered [(objKey 0 0x3001 1 0, 1519), (objKey 0 0x3100 2 0, BitVec.ofNat 64 (95 * 2 ^ 8))]
      DiePower.reset).s16 0x3001 1 < 1520 ∧ (s.sensor 0).faulted = false := by decide +kernel

/-- Over the cap, below it without room, and without a limit at all; a value of PowerCtrl waits. -/
theorem witness_OperatingPoints_decision : let s : State := { powered [(objKey 0 0x3100 1 0, BitVec.ofNat 64 (2 ^ 31 + 100))] DiePower.reset with packageSamples := [100001] }
    SMap.get none s.accepted (objKey 0 0x3100 1 0) = none ∧ SMap.get none s.accepted (objKey 0 0x3100 2 0) = none ∧
    (∀ d, d < 4 → (s.die d).fastest < 8) ∧ s.bit 0x3100 1 31 = true ∧ s.packageSamples.length ≠ 0 ∧
    s.getF 0x3100 1 0 12 * 1000 * 1 < s.packageSamples.foldl (· + ·) 0 ∧ ({ s with packageSamples := [100000] } : State).packageSamples.foldl (· + ·) 0 ≤ 100000 ∧
    (powered [(objKey 0 0x3100 1 0, 100)] DiePower.reset).bit 0x3100 1 31 = false ∧
    SMap.get none ({ s with accepted := [(objKey 0 0x3100 2 0, some 5)] } : State).accepted (objKey 0 0x3100 2 0) = some 5 := by decide +kernel

/-- Die 0 is raised to P3; the rail at the edges of 1 %, and beyond. -/
theorem witness_OperatingPoints_raise : let s := powered [] { DiePower.reset with raising := some 3 }
    (s.die 0).raising = some 3 ∧ 3 < 8 ∧ (serving.die 0).raising = none ∧
    (let v := 10 * s.setpoint 0 3
     99 * v ≤ 100 * (BitVec.ofNat 32 v).toNat ∧ 100 * (BitVec.ofNat 32 v).toNat ≤ 101 * v ∧ ¬(99 * v ≤ 100 * (0 : BitVec 32).toNat)) := by decide +kernel

theorem witness_OperatingPoints_limits : let s := powered [(objKey 0 0x3021 1 0, 600001), (objKey 0 0x3010 1 0, 1840)] DiePower.reset
    ¬((s.sensor 288).faulted = true ∨ (s.obj 0x3021 1).toNat ≤ 600000) ∧
    ((powered [(objKey 0 0x3021 1 0, 600000)] DiePower.reset).obj 0x3021 1).toNat ≤ 600000 ∧ tripThreshold (.diode 0 0) = some 1840 ∧
    tripThreshold (.voltage 0) = none ∧ (s.sensor (sensorNum (.diode 0 0))).faulted = false ∧ 1840 ≤ s.s16 0x3010 1 ∧ s.tripped = false ∧
    (serving.s16 0x3010 1) < 1840 := by decide +kernel

/-- A power cycle is asked for, with every Stand disabled, with Stand 0 in its step, and with Stand 0 waiting for it at level 5. -/
theorem witness_OperatingPoints_cycle : let on (s : State) : State := { s with dict := [(objKey 0 0x3100 3 0, 4)] }
    (on serving).bit 0x3100 3 2 = true ∧ (∀ d, d < 8 → (on serving).enabled d = true → ((on serving).stand d).stuck = true) ∧
    (on (servingIn .stepping)).enabled 0 = true ∧ ((on (servingIn .stepping)).stand 0).stuck = false ∧ (on (servingIn .stepping)).computeDue 5 = false ∧
    (on (serving.setStand 0 { Stand.reset with phase := .recovering, stage := 5, level := 5 })).computeDue 5 = true ∧ serving.bit 0x3100 3 2 = false := by
  decide +kernel

theorem witness_OperatingPoints_ageing : serving.ranger = .up ∧ State.reset.ranger ≠ .up ∧ State.reset.ranger ≠ .handoff ∧
    ((serving.die 0).fastest < 8) := by decide +kernel

theorem witness_PowerUp : State.reset.unstored = [] ∧ State.reset.devRstN = false ∧ ({ State.reset with devRstN := true } : State).devRstN = true ∧
    State.reset.booted = false ∧ serving.booted = true ∧ ({ serving with ranger := .off } : State).ranger = .off ∧ serving.heldBar0 = [] ∧
    State.reset.ranger = .off := by decide +kernel

theorem witness_SecurityRequests : serving.booted = true ∧ State.reset.booted = false := by decide

/-! ## Whole machine -/

/-- A command at the front of the queue: the step runs it, and the state that follows keeps its stores in form. -/
theorem witness_StepRunsFrontCommand : State.reset.pending = [] ∧ step { State.reset with pending := [.challengeExpiry] } =
    .next { State.reset with challenge := none, pending := [] } := ⟨rfl, rfl⟩

theorem witness_StepKeepsCanonical : State.reset.canonical = true ∧ ∃ t, step { State.reset with pending := [.hotReset] } = .next t :=
  ⟨by decide +kernel, _, rfl⟩

/-! ## The rules that single functions state -/

/-- A weight set of Damson whose first pass is not its last. -/
def firstPass : WeightSet := { weights with wfmt := 2 }

theorem witness_BitSerialDot_pass : finalPass firstPass = false ∧ nibbleCount (berryP 2) = 2 ∧ firstPass.nib = 0 ∧ (3 : Nat) < 4 := by
  decide +kernel

/-- Results inside their range and just outside it, at the narrowest width and at 32 bits. -/
theorem witness_VectorConvertReduce_narrow : (∀ n, n ∈ [1, 32] → 0 < n) ∧
    (∀ z : Int, z ∈ [-2 ^ 31, 2 ^ 31 - 1] → -2 ^ (32 - 1) ≤ z ∧ z ≤ 2 ^ (32 - 1) - 1) ∧ (-2 ^ 31 - 1 : Int) < -2 ^ (32 - 1) ∧
    (2 ^ (32 - 1) - 1 : Int) < 2 ^ 31 := by decide +kernel

theorem witness_GuardedWrites_slots : (∀ ix, ix ∈ [0, 0xFFFF] → ix < 65536) ∧ ∀ sb, sb ∈ [0, 0xFF] → sb < 256 := by decide

/-- A generator of each kind of place. -/
theorem witness_StreamMoves_address : ∀ sp, sp ∈ [0, 1, 2, 7] → (⟨.linear, sp, 0, 4008, [], [], []⟩ : Gen).kind = .linear := by
  intro sp _
  rfl

/-- A stack word whose check field differs from its data's by `x`. -/
def badStackWord (x : U16) : State := { stepping with stackDiff := [(0, x)] }

/-- An SRAM word with a wrong check bit, and one with two. -/
theorem witness_CheckCodes : (badWord (tileAddr 0 0 / 8)).wordFailed (tileAddr 0 0 / 8) = false ∧ stepping.sramFinding (tileAddr 0 0 / 8) = .ok ∧
    (badWord (tileAddr 0 0 / 8)).sramFinding (tileAddr 0 0 / 8) = .corrected 0 ∧ sramCheckWord 0 3 = .uncorrectable ∧
    stepping.wordFailed (tileAddr 0 0 / 8) = false := by decide +kernel

/-- Stack words: sound, with one wrong bit, with two, and with another line's field. -/
theorem witness_CheckCodes_stack : (badStackWord 0x400).poisoned 0 = false ∧ stepping.stackFinding 0 = .ok ∧
    (badStackWord 1).stackFinding 0 = .corrected 0 ∧ (badStackWord 3).stackFinding 0 = .uncorrectable ∧
    (badStackWord 0x400).stackFinding 0 = .wrongAddress := by decide +kernel

/-- The syndromes at the ends of each clause. -/
theorem witness_CheckCodes_syndromes : sramEncode 0 = 0 ∧ sramColumns.getD 0 0 = 0x07 ∧ sramColumns.getD 63 0 = 0x57 ∧
    (0xFF ∉ sramColumns ∧ ∀ j, j < 8 → 0xFF ≠ 2 ^ j) ∧ stackEncode 0 0 = 0 ∧ stackPositions.getD 0 0 = 3 ∧ stackPositions.getD 255 0 = 265 ∧
    (265 < 0x1FF ∧ parity 10 0x1FF = true) := by decide +kernel

/-- The ends of the coding clauses: both invalid headers, and lengths. -/
theorem witness_CheckCodes_line : (0 : BitVec 66).toNat % 4 = 0 ∧ (3 : BitVec 66).toNat % 4 = 3 ∧ (3 : Nat) < 4 ∧ ([true, false] : List Bool).length % 2 = 0 ∧
    (List.replicate 514 1023).length = 514 ∧ (∀ c, c ∈ [0, 1023] → c < 1024) ∧ (0xFF : Nat) < 256 ∧ 0xFFFF < 2 ^ 16 ∧ 2 ^ 36 - 1 < 2 ^ 36 := by decide +kernel

/-! ## WellFormed: an ill-formed term for each check -/

/-- A commanded write of three bytes; one of eight is well-formed (R453). -/
theorem smoke_bar0 : (∀ b, b ∈ [2, 4, 5, 6, 63] → Bar0Write.wf ⟨0, 0, BitVec.ofNat 6 b, 0⟩ = false) ∧ Bar0Write.wf ⟨0, 0, 7, 0⟩ = true ∧
    Instr.wf (.objectWrite ⟨0, 0, 2, 0⟩) = false ∧ Instr.wf (.guardLatchLoad ⟨0, 0, 2, 0⟩) = false ∧ Instr.wf (.aliasWrite ⟨0, 0, 2, 0⟩) = false ∧
    Instr.wf (.statusSeqWrite ⟨0, 0, 2, 0⟩) = false := by decide +kernel

/-- Writes of nothing, of more than 512 bytes and across 4 KiB; a read with data, with poison, of nothing, and across 4 KiB. -/
theorem smoke_bar2 : Bar2Req.wf ⟨0, 0, true, [], 0, false, 0⟩ = false ∧ Bar2Req.wf ⟨0, 0, true, List.replicate 513 0, 0, false, 0⟩ = false ∧
    Bar2Req.wf ⟨0, 4095, true, [0, 0], 0, false, 0⟩ = false ∧ Bar2Req.wf ⟨0, 0, false, [0], 1, false, 0⟩ = false ∧
    Bar2Req.wf ⟨0, 0, false, [], 1, true, 0⟩ = false ∧ Bar2Req.wf ⟨0, 0, false, [], 0, false, 0⟩ = false ∧
    Instr.wf (.bar2Access ⟨0, 4095, false, [], 2, false, 0⟩) = false ∧ Instr.wf (.bar2Access ⟨0, 0, false, [], 4096, false, 0⟩) = true := by
  decide +kernel

/-- A list that is one record short. -/
theorem smoke_entries : Instr.wf (.step 0 ⟨1, 0, some []⟩) = false ∧ Instr.wf (.mark 0 ⟨2, 0, some []⟩) = false ∧
    Instr.wf (.step 0 ⟨1, 0, some [0]⟩) = true := by decide +kernel

/-- Frames that are too short and too long. -/
theorem smoke_frames : Instr.wf (.macFrameReceive ⟨0, 0, false, 0, true, List.replicate 45 0⟩) = false ∧
    Instr.wf (.challengeReq ⟨0, 0, false, 0, true, []⟩) = false ∧ Instr.wf (.recovery ⟨0, 0, false, 0, true, List.replicate 1505 0⟩) = false ∧
    Instr.wf (.recovery ⟨0, 0, false, 0, true, List.replicate 1504 0⟩) = true := by decide +kernel

/-- A sweep that lacks references, a lane twice, and a relearning that lacks one reference. -/
theorem smoke_sweeps : Instr.wf (.stackTraining 0 [⟨0, [], List.replicate 64 0⟩]) = false ∧ Instr.wf (.stackTraining 0 [⟨0, List.replicate 64 0, []⟩]) = false ∧
    Instr.wf (.stackTraining 0 (List.replicate 2 ⟨0, List.replicate 64 0, List.replicate 64 0⟩)) = false ∧
    Instr.wf (.relearnComplete 0 (List.replicate 63 0)) = false ∧ Instr.wf (.relearnComplete 0 (List.replicate 64 0)) = true := by decide +kernel

/-- A unit, and a block, of more than 128 bytes. -/
theorem smoke_reads : Instr.wf (.smov ⟨0, 0⟩ (.data (List.replicate 129 0))) = false ∧ Instr.wf (.prefetch ⟨⟨0, 0⟩, .data (List.replicate 129 0)⟩) = false ∧
    Instr.wf (.smov ⟨0, 0⟩ .error) = true ∧ Instr.wf (.smov ⟨0, 0⟩ (.data (List.replicate 128 0))) = true := by decide +kernel

/-- Three codewords in place of four. -/
theorem smoke_line : Instr.wf (.laneTrained 0 0 (List.replicate 3 0)) = false ∧ Instr.wf (.laneTrained 0 0 (List.replicate 4 0)) = true := by decide +kernel

/-- Reductions with the OPs of a plain write and of none. -/
theorem smoke_reduction : Instr.wf (.stackReduction 0 ⟨0, 0, 0⟩) = false ∧ Instr.wf (.stackReduction 0 ⟨0, 24, 0⟩) = false ∧
    Instr.wf (.stackReduction 0 ⟨0, 8, 0⟩) = true := by decide +kernel

/-- A Stand twice, a unit twice, no ageing measurement, a rail twice and one that is no core rail, a short key and token, and a block that is none. -/
theorem smoke_others : Instr.wf (.errorRecord ⟨.tileResidue, 0, [0, 0], .tile, 0, 0, 0, false, false⟩) = false ∧
    Instr.wf (.targetedSelfTest 0 [.engine 0, .engine 0]) = false ∧ Instr.wf (.ageingUpdate 0 []) = false ∧ Instr.wf (.powerCycle [0, 0]) = false ∧
    Instr.wf (.powerCycle [4]) = false ∧ Instr.wf (.keySlotWrite (.func 0) 0 (List.replicate 12 0)) = false ∧
    Instr.wf (.debugUnlock (.func 0) []) = false ∧ Instr.wf (.powerCycle [0, 1, 2, 3]) = true := by decide +kernel

/-- Block 4,608 is none of a die's (R397). -/
theorem smoke_block : ∀ pa pb, Instr.wf (.blockRamPortAccess 0 4608 pa pb) = false := fun _ _ => rfl

/-! ## Worked examples of the specification -/

/-- 00_scope.md, worked example: object 0x6010:03 starts at 0x0300_8018, its alias at 0x0B00_8018. -/
theorem test_objectSlot : bar0Ix 0x03008018 = 0x6010 ∧ bar0Sb 0x03008018 = 3 ∧ bar0Alias 0x03008018 = false ∧ bar0Ix 0x0B008018 = 0x6010 ∧
    bar0Sb 0x0B008018 = 3 ∧ bar0Alias 0x0B008018 = true := by decide +kernel

/-- 01_architecture.md, worked example: grove G2.41 stands at (1, 12). -/
theorem test_grovePlace : (groveX (56 * 2 + 41), groveY (56 * 2 + 41)) = (1, 12) ∧ groveAt 1 12 = 56 * 2 + 41 := by decide +kernel

/-- 02_formats.md, worked example: three values narrowed to Hazel16. -/
theorem test_toHazel16 : toHazel hazel16 0 false 0 (hazelVal hazel32 0x40490FDB) = ⟨0x4124, fINX⟩ ∧
    toHazel hazel16 0 false 0 (hazelVal hazel32 0xB0000000) = ⟨0x8000, fUNF ||| fINX⟩ ∧
    toHazel hazel16 0 false 0 (hazelVal hazel32 0x4F800000) = ⟨0x7E00, fOVF ||| fINF ||| fINX⟩ ∧
    toHazel hazel16 0 true 0 (hazelVal hazel32 0x4F800000) = ⟨0x7DFF, fOVF ||| fINX⟩ := by decide +kernel

/-- 02_formats.md, worked example: a block converted to Currant. -/
theorem test_toCurrant : let r := toBlock 4 0 (([0x40780000, 0xBF000000, 0x3FE00000, 0xC07C0000] ++ List.replicate 28 0).map (hazelVal hazel32)) (fun _ => 0)
    r.block.scale = 0x81 ∧ r.block.m.take 4 = [7, -1, 4, -8] ∧ r.flags = fINX := by decide +kernel

/-- 02_formats.md, worked example: an 8-bit sum, saturated and wrapped. -/
theorem test_intResult : intResult 8 true (0x70 + 0x25) = ⟨0x7F, fIOV⟩ ∧ intResult 8 false (0x70 + 0x25) = ⟨0x95, fIOV⟩ := by decide +kernel

/-- 04_vector_engine.md, worked example: the fields of a vmac. -/
theorem test_vmacWord : let w : U64 := 0x0400830328220000
    vOpc w = 0x04 ∧ vType w = 0 ∧ vVd w = 0x41 ∧ vVa w = 0x40 ∧ vVb w = 0x65 ∧ vVc w = 2 ∧ vSat w = true := by decide +kernel

/-- 04_vector_engine.md, worked example: vexp2 of 1.5 and of −0.25. -/
theorem test_vexp2 : vexp2H32 (hazelVal hazel32 0x3FC00000) false = ⟨0x403504F3, fINX⟩ ∧
    vexp2H32 (hazelVal hazel32 0xBE800000) false = ⟨0x3F5744FD, fINX⟩ := by decide +kernel

/-- 08_memory.md, worked example: a stack address. -/
theorem test_stackMap : stackMap 0x000012345600 = ⟨0, 0x0E, 0, 1, 3, 0x48, 0⟩ := by decide +kernel

/-- 08_memory.md, worked example: the sweep of lane 0x05B. -/
theorem test_sweep : trainLane ((List.range 64).map (fun v => if (0x12 ≤ v && v ≤ 0x2C) || (0x30 ≤ v && v ≤ 0x33) then
    BitVec.ofNat 256 (2 ^ 0x9D - 2 ^ 0x63) else 0)) = some (0x7F, 0x1F, 0x1C) := by decide +kernel

/-- 09_network.md, worked example: the default route from router 21 to router 333. -/
theorem test_route : defaultCodes 21 333 = [0, 6, 6, 0, 0, 0, 2, 6, 6, 6, 2, 2, 7] ∧
    packCodes (defaultCodes 21 333) = 0x0000000000000074B6C801B0 := by decide +kernel

/-- 11_multi_device_jobs.md, worked example: the way of a reference torus from (0, 0, 0) to (7, 4, 6), dimension by dimension. -/
theorem test_torus : dimPath 8 0 7 true = (false, 1, true) ∧ (dimPath 8 0 4 true).1 = true ∧ (dimPath 8 0 4 true).2.1 = 4 ∧
    dimPath 16 0 6 true = (true, 6, false) := by decide +kernel

/-- 12_fabric.md, worked example: block 197 of F1. -/
theorem test_blockRam : regionOf 0x0220020C5000 = .blockRam 1 197 ∧ nodeOfAddr 0x0220020C5000 = some (clearingNode 25) ∧ clearingNode 25 = 100 := by decide +kernel

/-- An empty queue idles (log entry 6). -/
theorem test_idle : step State.reset = .next State.reset := rfl

end Sys2Proof.Tests
end

section
/-! SUPPORT. BAR0 (R10, R453, R456 to R463): the slots of the window, the events of DictStatus, the guard latches, and what a BAR0 write does,
one equation for each branch of R456 to R462. -/

namespace Sys2Proof.Machine

/-! ## The slots of BAR0 (R10) -/

/-- The window of the aliases is the upper half of BAR0. -/
theorem bar0Alias_eq (o : BitVec 28) : bar0Alias o = decide (0x8000000 ≤ o.toNat) := by
  have h : bar0Alias o = o.msb := by simp [bar0Alias, bitOf, BitVec.msb_eq_getLsbD_last]
  simpa [h] using BitVec.msb_eq_decide o

/-- The object and the window of an offset that starts a slot. -/
theorem bar0_slot_of_toNat {o : BitVec 28} {ix sb : Nat} {up : Bool} (hix : ix < 65536) (hsb : sb < 256)
    (h : o.toNat = ix * 0x800 + sb * 8 + if up then 0x8000000 else 0) : bar0Ix o = ix ∧ bar0Sb o = sb ∧ bar0Alias o = up := by
  rw [bar0Alias_eq, bar0Ix, bar0Sb]
  cases up <;> simp only [Bool.false_eq_true, if_true, if_false, decide_eq_true_eq, decide_eq_false_iff_not] at h ⊢ <;> omega

/-- Every offset lies in one slot of one window. -/
theorem bar0_offset_split (o : BitVec 28) :
    o.toNat = (if bar0Alias o then 0x8000000 else 0) + bar0Ix o * 0x800 + bar0Sb o * 8 + o.toNat % 8 := by
  have hlt : o.toNat < 2 ^ 28 := o.isLt
  simp only [bar0Alias_eq, bar0Ix, bar0Sb, decide_eq_true_eq]
  split <;> omega

/-! ## Objects -/

/-- The vendor range is not in the object table (R451). -/
theorem objInfo_of_isVendor {ix : Nat} (sb : Nat) (h : isVendor ix = true) : objInfo ix sb = none := by
  have hix : 15 ≤ ix / 0x1000 := by
    have : 0xF000 ≤ ix := of_decide_eq_true h
    omega
  unfold objInfo
  split
  case h_11 => rfl
  all_goals omega

/-- No guarded object lies in the vendor range. -/
theorem isVendor_of_isGuarded {ix sb : Nat} (h : isGuarded ix sb = true) : isVendor ix = false := by
  cases hv : isVendor ix with
  | false => rfl
  | true => simp [isGuarded, objInfo_of_isVendor sb hv] at h

/-- A read-write object is not guarded (R11). -/
theorem isGuarded_of_rwObj {ix sb bits : Nat} (h : objInfo ix sb = rwObj bits) : isGuarded ix sb = false := by
  simp [isGuarded, h, rwObj, scalarObj]

variable (s : State)

/-- A function's bank (R454). -/
theorem bankOf_func (f : FuncId) : bankOf (.func f) = 1 + f.val := rfl

/-! ## Events of DictStatus (R457, R458, R462) -/

section DictEvent

variable (r : Requester) (bits ix sb cause : Nat)

theorem objKey_dictStatus_ne_last (bank : Nat) : objKey bank 0x1011 1 0 ≠ objKey bank 0x1011 2 0 := by
  unfold objKey
  omega

@[simp] theorem State.word_dictEvent_status : (s.dictEvent r bits ix sb cause).word (objKey (bankOf r) 0x1011 1 0) =
    statusEvent (s.word (objKey (bankOf r) 0x1011 1 0)) bits := by
  simp [State.dictEvent, State.eventIn, State.word_setWord_ne _ _ (objKey_dictStatus_ne_last _)]

@[simp] theorem State.word_dictEvent_last : (s.dictEvent r bits ix sb cause).word (objKey (bankOf r) 0x1011 2 0) =
    BitVec.ofNat 64 (2 ^ 16 * ix + 2 ^ 8 * sb + 16 * cause) := by
  simp [State.dictEvent, State.eventIn, State.word_setWord_ne _ _ (objKey_dictStatus_ne_last _).symm]

/-- An event changes DictStatus and DictLastObject of its requester's bank alone. -/
theorem State.sameWordsBut_dictEvent : sameWordsBut s (s.dictEvent r bits ix sb cause)
    (fun k => k = objKey (bankOf r) 0x1011 1 0 ∨ k = objKey (bankOf r) 0x1011 2 0) := by
  intro k hk
  rw [not_or] at hk
  rw [State.dictEvent, State.eventIn, State.word_setWord_ne _ _ hk.1, State.word_setWord_ne _ _ hk.2]

end DictEvent

/-- A bus error shows in the dictionary as its event of DictStatus does. -/
theorem State.word_busError (a : Bar0Write) (cause k : Nat) : (s.busError a cause).word k =
    (s.dictEvent (.func a.func) 0x8000 (bar0Ix a.offset) (bar0Sb a.offset) cause).word k := rfl

/-! ## Guard latches (R458) -/

section Latch

variable {s} {f : FuncId}

theorem State.dropLatch_of_empty (h : SMap.get none s.latches f.val = none) (silent : Bool) : s.dropLatch f silent = s := by
  simp [State.dropLatch, h]

theorem State.dropLatch_silent {b : Bar0Write} (h : SMap.get none s.latches f.val = some b) :
    s.dropLatch f true = { s with latches := SMap.set none s.latches f.val none } := by
  simp [State.dropLatch, h]

theorem State.dropLatch_discards {b : Bar0Write} (h : SMap.get none s.latches f.val = some b) : s.dropLatch f false =
    ({ s with latches := SMap.set none s.latches f.val none } : State).dictEvent (.func f) 0x2000 (bar0Ix b.offset) (bar0Sb b.offset) 6 := by
  simp [State.dropLatch, h]

/-- A silent discard changes the latches alone. -/
theorem State.dropLatch_silent_eq (s : State) (f : FuncId) : s.dropLatch f true = { s with latches := (s.dropLatch f true).latches } := by
  unfold State.dropLatch
  split <;> rfl

/-- A discard leaves the other functions' latches. -/
theorem State.latch_dropLatch_ne (s : State) (f : FuncId) (silent : Bool) {g : Nat} (hg : g ≠ f.val) :
    SMap.get none (s.dropLatch f silent).latches g = SMap.get none s.latches g := by
  cases h : SMap.get none s.latches f.val with
  | none => rw [State.dropLatch_of_empty h]
  | some b =>
    have hset : SMap.get none (SMap.set none s.latches f.val none) g = SMap.get none s.latches g := SMap.get_set_ne _ _ _ _ hg
    cases silent with
    | false => rw [State.dropLatch_discards h]; exact hset
    | true => rw [State.dropLatch_silent h]; exact hset

@[simp] theorem State.latch_loadLatch_self (s : State) (a : Bar0Write) : SMap.get none (s.loadLatch a).latches a.func.val = some a :=
  SMap.get_set_self none s.latches a.func.val (some a)

theorem State.latch_loadLatch_ne (s : State) (a : Bar0Write) {g : Nat} (hg : g ≠ a.func.val) :
    SMap.get none (s.loadLatch a).latches g = SMap.get none s.latches g := SMap.get_set_ne none none s.latches (some a) hg

end Latch

/-- GUARD_FAIL for the write `b` of function `f`: the latch is empty, DictStatus and DictLastObject of the function's bank show the failure, and
nothing else changes (R458). -/
def guardFails (s : State) (f : FuncId) (b : Bar0Write) (t : State) : Prop :=
  SMap.get none t.latches f.val = none ∧
  t.word (objKey (1 + f.val) 0x1011 1 0) = statusEvent (s.word (objKey (1 + f.val) 0x1011 1 0)) 0x2000 ∧
  t.word (objKey (1 + f.val) 0x1011 2 0) = BitVec.ofNat 64 (2 ^ 16 * bar0Ix b.offset + 2 ^ 8 * bar0Sb b.offset + 16 * 6) ∧
  sameWordsBut s t (fun k => k = objKey (1 + f.val) 0x1011 1 0 ∨ k = objKey (1 + f.val) 0x1011 2 0) ∧
  (∀ g, g ≠ f.val → SMap.get none t.latches g = SMap.get none s.latches g) ∧ t = { s with dict := t.dict, latches := t.latches }

/-- The event of GUARD_FAIL over an empty latch. -/
theorem guardFails_dictEvent (f : FuncId) (b : Bar0Write) {l : SMap (Option Bar0Write)} (hl : SMap.get none l f.val = none)
    (hne : ∀ g, g ≠ f.val → SMap.get none l g = SMap.get none s.latches g) :
    guardFails s f b (({ s with latches := l } : State).dictEvent (.func f) 0x2000 (bar0Ix b.offset) (bar0Sb b.offset) 6) :=
  ⟨hl, State.word_dictEvent_status _ (.func f) .., State.word_dictEvent_last _ (.func f) .., State.sameWordsBut_dictEvent _ (.func f) _ _ _ _,
    hne, rfl⟩

/-- A full latch that is discarded fails its guard. -/
theorem guardFails_dropLatch {f : FuncId} {b : Bar0Write} (h : SMap.get none s.latches f.val = some b) :
    guardFails s f b (s.dropLatch f false) := by
  rw [State.dropLatch_discards h]
  exact guardFails_dictEvent s f b (SMap.get_set_self none s.latches f.val none) (fun _ hg => SMap.get_set_ne none none s.latches none hg)

/-! ## A BAR0 write, branch by branch (R456 to R462) -/

section Bar0Write

variable {s} {a : Bar0Write}

/-- A served write (R456). -/
theorem State.bar0Arrives_of_serves (he : s.endpointReady = true) (hs : s.serves = true) : s.bar0Arrives a = .next (s.bar0Write a) := by
  simp [State.bar0Arrives, he, hs]

/-- A write while Ranger is down (R463). -/
theorem State.bar0Arrives_of_not_serves (he : s.endpointReady = true) (hs : s.serves = false) :
    s.bar0Arrives a = .next { s with heldBar0 := s.heldBar0 ++ [a] } := by
  simp [State.bar0Arrives, he, hs]

theorem State.bar0Write_of_cause (hc : s.bar0Cause a ≠ 0) : s.bar0Write a = (s.dropLatch a.func false).busError a (s.bar0Cause a) := by
  simp [State.bar0Write, hc]

theorem State.bar0Write_of_isVendor (hc : s.bar0Cause a = 0) (hv : isVendor (bar0Ix a.offset) = true) :
    s.bar0Write a = s.dropLatch a.func false := by
  simp [State.bar0Write, hc, hv]

section Served

variable (hc : s.bar0Cause a = 0) (hv : isVendor (bar0Ix a.offset) = false)
include hc hv

theorem State.bar0Write_alias_of_empty (ha : bar0Alias a.offset = true) (hl : SMap.get none s.latches a.func.val = none) :
    s.bar0Write a = s.dictEvent (.func a.func) 0x2000 (bar0Ix a.offset) (bar0Sb a.offset) 6 := by
  simp [State.bar0Write, hc, hv, ha, hl]

theorem State.bar0Write_alias_of_mismatch {b : Bar0Write} (ha : bar0Alias a.offset = true)
    (hl : SMap.get none s.latches a.func.val = some b) (hm : aliasMatches b a = false) : s.bar0Write a = s.dropLatch a.func false := by
  simp [State.bar0Write, hc, hv, ha, hl, hm]

theorem State.bar0Write_alias_of_match {b : Bar0Write} (ha : bar0Alias a.offset = true) (hl : SMap.get none s.latches a.func.val = some b)
    (hm : aliasMatches b a = true) (hx : isMailboxCtrl (bar0Ix a.offset) (bar0Sb a.offset) = false) :
    s.bar0Write a =
      ((s.dropLatch a.func true).dictWrite (.func a.func) (bar0Ix a.offset) (bar0Sb a.offset) (bar0Data b) true).1 := by
  simp [State.bar0Write, hc, hv, ha, hl, hm, hx]

theorem State.bar0Write_of_loadsLatch (hl : s.loadsLatch a = true) : s.bar0Write a = (s.dropLatch a.func true).loadLatch a := by
  have ha : bar0Alias a.offset = false := by
    simp only [State.loadsLatch, Bool.and_eq_true, Bool.not_eq_true'] at hl
    exact hl.1
  simp [State.bar0Write, hc, hv, ha, hl]

theorem State.bar0Write_of_plain (ha : bar0Alias a.offset = false) (hl : s.loadsLatch a = false)
    (hx : isMailboxCtrl (bar0Ix a.offset) (bar0Sb a.offset) = false) : s.bar0Write a =
      ((s.dropLatch a.func false).dictWrite (.func a.func) (bar0Ix a.offset) (bar0Sb a.offset) (bar0Data a) true).1 := by
  simp [State.bar0Write, hc, hv, ha, hl, hx]

end Served

/-- A plain write of a guarded object loads the latch. -/
theorem State.loadsLatch_of_isGuarded (ha : bar0Alias a.offset = false) (hg : isGuarded (bar0Ix a.offset) (bar0Sb a.offset) = true) :
    s.loadsLatch a = true := by
  simp [State.loadsLatch, ha, hg]

/-- A write of an object that is neither guarded nor MailboxCtrl loads no latch. -/
theorem State.loadsLatch_eq_false (hg : isGuarded (bar0Ix a.offset) (bar0Sb a.offset) = false)
    (hx : isMailboxCtrl (bar0Ix a.offset) (bar0Sb a.offset) = false) : s.loadsLatch a = false := by
  simp [State.loadsLatch, hg, hx]

end Bar0Write

/-! ## The mailbox's own objects (R464, R468) -/

/-- Every function may write the objects of its bank (R454). -/
theorem State.canWrite_func_of_isBanked (f : FuncId) {ix : Nat} (sb : Nat) (h : isBanked ix = true) : s.canWrite (.func f) ix sb = true := by
  by_cases hf : f.val = 0 <;> simp [State.canWrite, State.rightOf, hf, h]

/-- A write of a mailbox object that is not MailboxCtrl and keeps to its width has no cause for a bus error (R462). -/
theorem State.bar0Cause_mailbox {a : Bar0Write} {bits : Nat} (hix : bar0Ix a.offset = 0x1010)
    (hi : objInfo 0x1010 (bar0Sb a.offset) = rwObj bits) (hw : widthBad a bits = false) (ha : bar0Alias a.offset = false) :
    s.bar0Cause a = 0 := by
  have hc := State.canWrite_func_of_isBanked s a.func (bar0Sb a.offset) (ix := 0x1010) rfl
  simp [State.bar0Cause, hix, isImplemented, isVendor, hi, rwObj, scalarObj, hc, ObjInfo.bits, ObjInfo.mailboxOnly, hw, ha]

/-- A write of a read-write word of the mailbox sets it in the requester's bank. -/
theorem State.dictWrite_mailbox (f : FuncId) {sb bits : Nat} (v : U64) (hi : objInfo 0x1010 sb = rwObj bits) :
    s.dictWrite (.func f) 0x1010 sb v true =
      (s.setWord (objKey (1 + f.val) 0x1010 sb 0)
        (maskedWord (s.word (objKey (1 + f.val) 0x1010 sb 0)) v (BitVec.ofNat 64 (writeMask 0x1010 sb 0 % 2 ^ bits))), true) := by
  have hm : statusMask 0x1010 sb = none := by simp [statusMask]
  have hk : ∀ old w, s.keepOwner (.func f) 0x1010 sb old w = w := by simp [State.keepOwner]
  have hr : ∀ w, refusedLow 0x1010 sb w = false := by simp [refusedLow]
  have hs : ∀ w, s.writeSpecial (.func f) 0x1010 sb w true = none := by simp [State.writeSpecial]
  simp [State.dictWrite, State.writeWord, hi, rwObj, scalarObj, hm, hk, hr, hs, objBank, isBanked, bankOf, mergeWord, maskedWord,
    ObjInfo.bits]

/-- A BAR0 write of a read-write word of the mailbox, where the latch is empty. -/
theorem State.bar0Write_mailbox {a : Bar0Write} {bits : Nat} (hix : bar0Ix a.offset = 0x1010) (hsb : bar0Sb a.offset ≠ 2)
    (hi : objInfo 0x1010 (bar0Sb a.offset) = rwObj bits) (hw : widthBad a bits = false) (ha : bar0Alias a.offset = false)
    (hl : SMap.get none s.latches a.func.val = none) :
    s.bar0Write a = s.setWord (objKey (1 + a.func.val) 0x1010 (bar0Sb a.offset) 0)
      (maskedWord (s.word (objKey (1 + a.func.val) 0x1010 (bar0Sb a.offset) 0)) (bar0Data a)
        (BitVec.ofNat 64 (writeMask 0x1010 (bar0Sb a.offset) 0 % 2 ^ bits))) := by
  have hv : isVendor (bar0Ix a.offset) = false := (congrArg isVendor hix).trans rfl
  have hx : isMailboxCtrl (bar0Ix a.offset) (bar0Sb a.offset) = false := by simp [isMailboxCtrl, hsb]
  have hg : isGuarded (bar0Ix a.offset) (bar0Sb a.offset) = false := by
    rw [hix]
    exact isGuarded_of_rwObj hi
  rw [State.bar0Write_of_plain (State.bar0Cause_mailbox s hix hi hw ha) hv ha (State.loadsLatch_eq_false hg hx) hx,
    State.dropLatch_of_empty hl, hix, State.dictWrite_mailbox s a.func _ hi]

/-- The sixteen words of MailboxData (R468). -/
theorem objInfo_mailboxData {sb : Nat} (h : 0x10 ≤ sb) (h' : sb ≤ 0x1F) : objInfo 0x1010 sb = rwObj 64 := by
  have : ∀ k, k ≤ 0x1F → 0x10 ≤ k → objInfo 0x1010 k = rwObj 64 := by decide
  exact this sb h' h

/-- MailboxData has no reserved bits. -/
theorem writeMask_mailboxData {sb : Nat} (h : 0x10 ≤ sb) : writeMask 0x1010 sb 0 = 2 ^ 64 - 1 := by
  have h1 : sb ≠ 1 := by omega
  have h2 : sb ≠ 2 := by omega
  simp [writeMask, maskLow, h1, h2]

/-- A write without reserved bits gives the written word. -/
theorem maskedWord_allOnes (old v : U64) : maskedWord old v (BitVec.ofNat 64 (2 ^ 64 - 1)) = v := by
  have h : BitVec.ofNat 64 (2 ^ 64 - 1) = BitVec.allOnes 64 := rfl
  rw [maskedWord, h, BitVec.and_allOnes, BitVec.not_allOnes, BitVec.and_zero, BitVec.zero_or]

/-- A write that keeps to the width of a 64-bit object has 8 bytes. -/
theorem bar0Data_of_width64 {a : Bar0Write} (h : widthBad a 64 = false) : bar0Data a = a.data := by
  simp only [widthBad, Bool.or_eq_false_iff] at h
  obtain ⟨⟨_, hn⟩, _⟩ := h
  have h8 : a.bytesM1.toNat = 7 := by simpa using hn
  have : a.bytesM1 = 7 := BitVec.eq_of_toNat_eq h8
  simp [bar0Data, this]

/-! ## The commands -/

theorem exec_objectWrite (a : Bar0Write) : exec (.objectWrite a) s = s.bar0Arrives a := rfl
theorem exec_guardLatchLoad (a : Bar0Write) : exec (.guardLatchLoad a) s = s.bar0Arrives a := rfl
theorem exec_aliasWrite (a : Bar0Write) : exec (.aliasWrite a) s = s.bar0Arrives a := rfl
theorem exec_guardLatchExpiry (f : FuncId) : exec (.guardLatchExpiry f) s = .next (s.dropLatch f false) := rfl

/-- The oldest held write of a function is answered as a bus error (R463). -/
theorem exec_bar0HoldTimeout_of_held {f : FuncId} {a : Bar0Write} (h : s.heldBar0.find? (fun b => b.func == f) = some a) :
    exec (.bar0HoldTimeout f) s = .next { s with heldBar0 := s.heldBar0.erase a, out := s.out ++ [.busError f.val] } := by
  show execBar0HoldTimeout f s = _
  simp [execBar0HoldTimeout, h, State.send]

end Sys2Proof.Machine
end

section
/-! PROOFS. BAR0's slots, guarded writes, and the writes that the bus refuses or holds. -/

namespace Sys2Proof.Machine

/-- Where the slots of BAR0 lie (R10). -/
theorem bar0_slots {ix sb : Nat} (hix : ix < 65536) (hsb : sb < 256) :
    let o : BitVec 28 := BitVec.ofNat 28 (ix * 0x800 + sb * 8)
    let up : BitVec 28 := o + 0x8000000
    bar0Ix o = ix ∧ bar0Sb o = sb ∧ bar0Alias o = false ∧ bar0Ix up = ix ∧ bar0Sb up = sb ∧ bar0Alias up = true ∧
    ix * 0x800 + sb * 8 ≤ 0x7FFFFF8 := by
  intro o up
  have ho : o.toNat = ix * 0x800 + sb * 8 := by
    rw [BitVec.toNat_ofNat]; omega
  have hup : up.toNat = ix * 0x800 + sb * 8 + 0x8000000 := by
    have h8 : (0x8000000 : BitVec 28).toNat = 0x8000000 := rfl
    rw [BitVec.toNat_add, ho, h8]; omega
  obtain ⟨h1, h2, h3⟩ := bar0_slot_of_toNat (up := false) hix hsb (by simpa using ho)
  obtain ⟨h4, h5, h6⟩ := bar0_slot_of_toNat (up := true) hix hsb (by simpa using hup)
  exact ⟨h1, h2, h3, h4, h5, h6, by omega⟩

section Commands

variable {s : State} {a : Bar0Write} (he : s.endpointReady = true) (hs : s.serves = true)
include he hs

/-- The plain slot of a guarded object loads the function's latch (R458). -/
theorem guardLatchLoad_loads (hc : s.bar0Cause a = 0) (hg : isGuarded (bar0Ix a.offset) (bar0Sb a.offset) = true)
    (ha : bar0Alias a.offset = false) : completesTo (.guardLatchLoad a) s (fun t =>
      SMap.get none t.latches a.func.val = some a ∧ (∀ g, g ≠ a.func.val → SMap.get none t.latches g = SMap.get none s.latches g) ∧
      t = { s with latches := t.latches }) := by
  refine ⟨(s.dropLatch a.func true).loadLatch a, ?_, State.latch_loadLatch_self _ a, fun g hg => ?_, ?_⟩
  · rw [exec_guardLatchLoad, State.bar0Arrives_of_serves he hs,
      State.bar0Write_of_loadsLatch hc (isVendor_of_isGuarded hg) (State.loadsLatch_of_isGuarded ha hg)]
  · rw [State.latch_loadLatch_ne _ _ hg, State.latch_dropLatch_ne s a.func true hg]
  · exact congrArg (fun u : State => u.loadLatch a) (State.dropLatch_silent_eq s a.func)

section Aliased

variable (hc : s.bar0Cause a = 0) (ha : bar0Alias a.offset = true) (hv : isVendor (bar0Ix a.offset) = false)
include hc ha hv

/-- The aliased write with the complement empties the latch and performs the write (R458). -/
theorem aliasWrite_performs {b : Bar0Write} (hl : SMap.get none s.latches a.func.val = some b) (hm : aliasMatches b a = true)
    (hx : isMailboxCtrl (bar0Ix a.offset) (bar0Sb a.offset) = false) :
    exec (.aliasWrite a) s = .next (({ s with latches := SMap.set none s.latches a.func.val none } : State).dictWrite (.func a.func)
      (bar0Ix a.offset) (bar0Sb a.offset) (bar0Data b) true).1 := by
  rw [exec_aliasWrite, State.bar0Arrives_of_serves he hs, State.bar0Write_alias_of_match hc hv ha hl hm hx, State.dropLatch_silent hl]

/-- Any other aliased write discards the latched one (R458). -/
theorem aliasWrite_discards {b : Bar0Write} (hl : SMap.get none s.latches a.func.val = some b) (hm : aliasMatches b a = false) :
    completesTo (.aliasWrite a) s (guardFails s a.func b) := by
  refine ⟨s.dropLatch a.func false, ?_, guardFails_dropLatch s hl⟩
  rw [exec_aliasWrite, State.bar0Arrives_of_serves he hs, State.bar0Write_alias_of_mismatch hc hv ha hl hm]

/-- An aliased write without a latched one fails itself (R458). -/
theorem aliasWrite_fails_of_empty (hl : SMap.get none s.latches a.func.val = none) :
    completesTo (.aliasWrite a) s (guardFails s a.func a) := by
  refine ⟨_, ?_, guardFails_dictEvent s a.func a hl (fun _ _ => rfl)⟩
  rw [exec_aliasWrite, State.bar0Arrives_of_serves he hs, State.bar0Write_alias_of_empty hc hv ha hl]

end Aliased

section EmptyLatch

variable (hl : SMap.get none s.latches a.func.val = none)
include hl

/-- A write of MailboxTarget (R468). -/
theorem objectWrite_mailboxTarget (ha : bar0Alias a.offset = false) (hix : bar0Ix a.offset = 0x1010) (hsb : bar0Sb a.offset = 1)
    (hw : widthBad a 32 = false) : exec (.objectWrite a) s = .next (s.setWord (objKey (1 + a.func.val) 0x1010 1 0)
      (maskedWord (s.word (objKey (1 + a.func.val) 0x1010 1 0)) (bar0Data a) 0xFFFFFF00)) := by
  have hi : objInfo 0x1010 (bar0Sb a.offset) = rwObj 32 := (congrArg (objInfo 0x1010) hsb).trans rfl
  have hmask : BitVec.ofNat 64 (writeMask 0x1010 1 0 % 2 ^ 32) = 0xFFFFFF00 := rfl
  rw [exec_objectWrite, State.bar0Arrives_of_serves he hs, State.bar0Write_mailbox s hix (by omega) hi hw ha hl, hsb, hmask]

/-- A write of a word of MailboxData (R468). -/
theorem objectWrite_mailboxData (ha : bar0Alias a.offset = false) (hix : bar0Ix a.offset = 0x1010) (h : 0x10 ≤ bar0Sb a.offset)
    (h' : bar0Sb a.offset ≤ 0x1F) (hw : widthBad a 64 = false) :
    exec (.objectWrite a) s = .next (s.setWord (objKey (1 + a.func.val) 0x1010 (bar0Sb a.offset) 0) a.data) := by
  have hmask : writeMask 0x1010 (bar0Sb a.offset) 0 % 2 ^ 64 = 2 ^ 64 - 1 := by
    rw [writeMask_mailboxData h, Nat.mod_eq_of_lt (by decide)]
  rw [exec_objectWrite, State.bar0Arrives_of_serves he hs, State.bar0Write_mailbox s hix (by omega) (objInfo_mailboxData h h') hw ha hl,
    hmask, maskedWord_allOnes, bar0Data_of_width64 hw]

/-- A write that breaks a rule is answered with a bus error (R462). -/
theorem objectWrite_busError (hc : s.bar0Cause a ≠ 0) : completesTo (.objectWrite a) s (fun t =>
    t.word (objKey (1 + a.func.val) 0x1011 1 0) = statusEvent (s.word (objKey (1 + a.func.val) 0x1011 1 0)) 0x8000 ∧
    t.word (objKey (1 + a.func.val) 0x1011 2 0) =
      BitVec.ofNat 64 (2 ^ 16 * bar0Ix a.offset + 2 ^ 8 * bar0Sb a.offset + 16 * s.bar0Cause a) ∧
    sameWordsBut s t (fun k => k = objKey (1 + a.func.val) 0x1011 1 0 ∨ k = objKey (1 + a.func.val) 0x1011 2 0) ∧
    t = { s with dict := t.dict, out := s.out ++ [.busError a.func.val] }) := by
  refine ⟨s.busError a (s.bar0Cause a), ?_, ?_, ?_, fun k hk => ?_, rfl⟩
  · rw [exec_objectWrite, State.bar0Arrives_of_serves he hs, State.bar0Write_of_cause hc, State.dropLatch_of_empty hl]
  · rw [State.word_busError, ← bankOf_func, State.word_dictEvent_status]
  · rw [State.word_busError, ← bankOf_func, State.word_dictEvent_last]
  · rw [State.word_busError]
    exact State.sameWordsBut_dictEvent s (.func a.func) _ _ _ _ k hk

/-- A write to the vendor range changes nothing of the model's state. -/
theorem objectWrite_vendor (hc : s.bar0Cause a = 0) (hv : isVendor (bar0Ix a.offset) = true) : exec (.objectWrite a) s = .next s := by
  rw [exec_objectWrite, State.bar0Arrives_of_serves he hs, State.bar0Write_of_isVendor hc hv, State.dropLatch_of_empty hl]

end EmptyLatch
end Commands

/-- Settles O23: the slots by arithmetic on the offset, the writes by the branches of `State.bar0Write`. -/
theorem guardedWrites : Obligations.GuardedWrites := by
  unfold Obligations.GuardedWrites
  refine ⟨⟨fun ix sb => bar0_slots, rfl, bar0_offset_split⟩, fun s a => ⟨fun he hs hc => ⟨?load, ?aliased⟩, ?expiry⟩,
    fun s a => ⟨fun he hs hl ha hix => ⟨?target, ?data⟩, ?refused, ?held, ?timeout, ?vendor⟩⟩
  case load => exact guardLatchLoad_loads he hs hc
  case aliased =>
    exact fun ha hv => ⟨fun b hl hm hx => aliasWrite_performs he hs hc ha hv hl hm hx,
      fun b hl hm => aliasWrite_discards he hs hc ha hv hl hm, fun hl => aliasWrite_fails_of_empty he hs hc ha hv hl⟩
  case expiry => exact fun b hl => ⟨_, exec_guardLatchExpiry s a.func, guardFails_dropLatch s hl⟩
  case target => exact objectWrite_mailboxTarget he hs hl ha hix
  case data => exact objectWrite_mailboxData he hs hl ha hix
  case refused => exact fun he hs hl hc => objectWrite_busError he hs hl hc
  case held => exact fun he hs => State.bar0Arrives_of_not_serves he hs
  case timeout => exact fun h => exec_bar0HoldTimeout_of_held s h
  case vendor => exact fun he hs hc hv hl => objectWrite_vendor he hs hl hc hv

end Sys2Proof.Machine
end

section
/-! SUPPORT. The issue of a vector instruction (R136, R137), and what a vector instruction leaves when it has written its lanes (R131, R133,
R146, R160, R161). -/

namespace Sys2Proof.Machine

/-! ## Issue -/

theorem num_div_four (c : TileRef) : c.num / 4 = c.grove.val := by
  have := c.tile.isLt
  unfold TileRef.num
  omega

theorem num_mod_four (c : TileRef) : c.num % 4 = c.tile.val := by
  have := c.tile.isLt
  unfold TileRef.num
  omega

/-- An instruction that issues takes effect in the state `issued`. -/
theorem State.issue_of_issues {s : State} {c : TileRef} {opc : Nat} {w : U64} (h : issues s c opc w) (act : State → U64 → State) :
    s.issue c.num opc act = act (issued s c w) w := by
  obtain ⟨hrun, howner, hword, hlegal, hopc, hcycles, hgo⟩ := h
  simp [State.issue, issued, num_div_four, num_mod_four, hrun, howner, hword, hlegal, hopc, hgo, Nat.not_lt.mpr hcycles]

/-- The same for one that goes on at the next word. -/
theorem State.issueNext_of_issues {s : State} {c : TileRef} {opc : Nat} {w : U64} (h : issues s c opc w) (act : State → U64 → State) :
    s.issueNext c.num opc act = (act (issued s c w) w).setPc c.num ((issued s c w).nextPc c.num) :=
  State.issue_of_issues h _

/-- What a command that goes on at the next word has done, where it issues. -/
theorem completesTo_of_issues {i : Instr} {s : State} {c : TileRef} {opc : Nat} {w : U64} {act : State → U64 → State} {p : State → Prop}
    (h : issues s c opc w) (hexec : exec i s = .next (s.issueNext c.num opc act))
    (hp : p ((act (issued s c w) w).setPc c.num ((issued s c w).nextPc c.num))) : completesTo i s p :=
  ⟨_, hexec, (State.issueNext_of_issues h act).symm ▸ hp⟩

/-! ## Lanes of a register (R131) -/

/-- A digit of a number from its digits, lowest first. -/
theorem foldr_div_pow_mod (w : Nat) (l : List Nat) {i : Nat} (h : i < l.length) :
    l.foldr (fun x acc => x % 2 ^ w + 2 ^ w * acc) 0 / 2 ^ (w * i) % 2 ^ w = l[i] % 2 ^ w := by
  induction l generalizing i with
  | nil => simp at h
  | cons a l ih =>
    have hw : 0 < 2 ^ w := Nat.two_pow_pos w
    cases i with
    | zero => simp
    | succ i =>
      have hi : i < l.length := by simpa using h
      rw [List.foldr_cons, Nat.mul_succ, Nat.add_comm (w * i) w, Nat.pow_add, ← Nat.div_div_eq_div_mul, Nat.add_mul_div_left _ _ hw,
        Nat.div_eq_of_lt (Nat.mod_lt a hw), Nat.zero_add, ih hi]
      simp

/-- A lane of a register packed from lanes. -/
theorem laneAt_packLanes {w : Nat} {l : List Nat} (hl : w * l.length ≤ 1024) {i : Nat} (h : i < l.length) :
    laneAt w i (packLanes w l) = l[i] % 2 ^ w := by
  have hi : w * i + w ≤ 1024 := by
    calc w * i + w = w * (i + 1) := rfl
      _ ≤ w * l.length := Nat.mul_le_mul_left w h
      _ ≤ 1024 := hl
  rw [← foldr_div_pow_mod w l h]
  apply Nat.eq_of_testBit_eq
  intro j
  simp only [laneAt, packLanes, testBit_fld, Nat.testBit_mod_two_pow, Nat.testBit_div_two_pow, BitVec.getLsbD_ofNat]
  by_cases hj : j < w
  · have hlt : j + w * i < 1024 := by omega
    simp [hj, Nat.add_comm (w * i) j, hlt]
  · simp [hj]

/-- A lane fits its width. -/
theorem laneAt_lt (w i : Nat) (v : BitVec 1024) : laneAt w i v < 2 ^ w := fld_lt v _ w

/-! ## Sources and destinations (R133, R146) -/

/-- Reading the sources takes the words that they pop from AQ, and nothing else. -/
theorem takeSources_fst (x : Context) (codes : List Nat) (w : Nat) :
    (takeSources x codes w).1 = { x with aq := x.aq.drop (codes.countP (· == 0x40)) } := by
  induction codes generalizing x with
  | nil => rfl
  | cons code t ih =>
    have h1 : (takeSource x code w).1 = { x with aq := x.aq.drop (if code = 0x40 then 1 else 0) } := by
      unfold takeSource
      split
      · next h => simp [show code ≠ 0x40 by omega]
      · split <;> simp_all
    rw [takeSources]
    simp only [ih, h1, List.countP_cons, List.drop_drop]
    by_cases hc : code = 0x40 <;> simp [hc, Nat.add_comm]

/-- A destination changes the registers and OQ alone. -/
theorem Context.putVec_frame (x : Context) (w : U64) (width : Nat) (l : List LaneOut) :
    x.putVec w width l = { x with v := (x.putVec w width l).v, oq := (x.putVec w width l).oq } := by
  unfold Context.putVec
  split <;> rfl

/-- The lanes of a word pushed to OQ. -/
theorem Context.putVec_push (x : Context) {w : U64} {width : Nat} {l : List LaneOut} (hl : width * l.length ≤ 1024) (hvd : vVd w = 0x41) :
    (x.putVec w width l).v = x.v ∧
    ∃ v, (x.putVec w width l).oq = x.oq ++ [v] ∧ ∀ i (h : i < l.length), laneAt width i v = laneAfter w width l[i] 0 := by
  rw [Context.putVec, if_pos hvd]
  refine ⟨rfl, _, rfl, fun i h => ?_⟩
  rw [laneAt_packLanes (by rwa [List.length_map]) (by rwa [List.length_map]), List.getElem_map]
  cases l[i] <;> simp [laneAfter, hvd]

/-- The lanes of a register that was written. -/
theorem Context.putVec_reg (x : Context) {w : U64} {width : Nat} {l : List LaneOut} (hl : width * l.length ≤ 1024) (hvd : vVd w ≠ 0x41) :
    (x.putVec w width l).oq = x.oq ∧
    (∀ i (h : i < l.length), laneAt width i (SMap.get 0 (x.putVec w width l).v (physReg x (vVd w))) =
      laneAfter w width l[i] (laneAt width i (SMap.get 0 x.v (physReg x (vVd w))))) ∧
    ∀ q, q ≠ physReg x (vVd w) → SMap.get 0 (x.putVec w width l).v q = SMap.get 0 x.v q := by
  rw [Context.putVec, if_neg hvd]
  refine ⟨rfl, fun i h => ?_, fun q hq => SMap.get_set_ne 0 0 x.v _ hq⟩
  rw [SMap.get_set_self, laneAt_packLanes (by rwa [List.length_map, List.length_zipIdx])
    (by rwa [List.length_map, List.length_zipIdx]), List.getElem_map, List.getElem_zipIdx]
  generalize hold : SMap.get 0 x.v (physReg x (vVd w)) = old
  cases l[i] with
  | wr b => rfl
  | off => cases hz : vPz w <;> simp [laneAfter, hvd, hz, Nat.mod_eq_of_lt (laneAt_lt width i old)]
  | keep => simp [laneAfter, hvd, Nat.mod_eq_of_lt (laneAt_lt width i old)]

/-! ## Draws (R160) -/

/-- Each lane has drawn as often as the list names it. -/
theorem Context.get_countDraws (x : Context) (ds : List Nat) (i : Nat) :
    SMap.get 0 (x.countDraws ds).draws i = SMap.get 0 x.draws i + ds.count i := by
  have h : ∀ m : SMap Nat, SMap.get 0 (ds.foldl (fun m i => SMap.set 0 m i (SMap.get 0 m i + 1)) m) i = SMap.get 0 m i + ds.count i := by
    induction ds with
    | nil => intro m; rfl
    | cons d ds ih =>
      intro m
      rw [List.foldl_cons, ih, List.count_cons]
      by_cases hd : d = i
      · subst hd; simp; omega
      · simp [hd, SMap.get_set_ne 0 0 m _ (Ne.symm hd)]
  exact h x.draws

/-- Lanes that draw only under a condition. -/
theorem Context.ite_countDraws (x : Context) (b : Bool) (ds : List Nat) :
    (if b then x.countDraws ds else x) = x.countDraws (if b then ds else []) := by
  cases b <;> rfl

/-- Draws and the destination are apart. -/
theorem Context.putVec_countDraws (x : Context) (w : U64) (width : Nat) (l : List LaneOut) (ds : List Nat) :
    (x.countDraws ds).putVec w width l = (x.putVec w width l).countDraws ds := by
  unfold Context.putVec Context.countDraws
  split <;> rfl

/-! ## What an instruction leaves (R129, R161) -/

/-- The context of an instruction that goes on at the next word with `x` and flags. -/
theorem State.ctx_vecEnd (u : State) (k : Nat) (x : Context) (fl : Flags) (a : Nat) :
    (((u.setCtx k x).raiseVecFlags k fl).setPc k a).ctx k = { x with vf := x.vf ||| fl, pc := BitVec.ofNat 18 a } := by
  have h : ((u.setCtx k x).raiseVecFlags k fl).ctx k = { x with vf := x.vf ||| fl } := by
    unfold State.raiseVecFlags
    simp only [State.ctx_setCtx_self]
    exact State.ctx_setCtx_self _ k _
  rw [State.setPc, State.ctx_setCtx_self, h]

/-- Another context is left. -/
theorem State.ctx_vecEnd_ne (u : State) {k j : Nat} (x : Context) (fl : Flags) (a : Nat) (h : j ≠ k) :
    (((u.setCtx k x).raiseVecFlags k fl).setPc k a).ctx j = u.ctx j := by
  rw [State.setPc, State.ctx_setCtx_ne _ _ h]
  show (((u.setCtx k x).setCtx k _)).ctx j = _
  rw [State.ctx_setCtx_ne _ _ h, State.ctx_setCtx_ne _ _ h]

/-- The dictionary holds the flags in VecFlags of the context. -/
theorem State.word_vecEnd (u : State) (c : TileRef) (x : Context) (fl : Flags) (a : Nat) :
    (((u.setCtx c.num x).raiseVecFlags c.num fl).setPc c.num a).word =
      (u.setWord (objKey 0 (0x6200 + c.grove.val) (0x62 + 8 * c.tile.val) 0)
        (flagEvent (u.word (objKey 0 (0x6200 + c.grove.val) (0x62 + 8 * c.tile.val) 0)) fl.toNat)).word := by
  rw [← num_div_four, ← num_mod_four]
  rfl

/-- The rest of the state is left. -/
theorem State.vecEnd_eq (u : State) (k : Nat) (x : Context) (fl : Flags) (a : Nat) :
    ((u.setCtx k x).raiseVecFlags k fl).setPc k a = { u with
      ctxs := (((u.setCtx k x).raiseVecFlags k fl).setPc k a).ctxs, dict := (((u.setCtx k x).raiseVecFlags k fl).setPc k a).dict } := by
  simp only [State.setPc, State.raiseVecFlags, State.setCtx, State.setObj, State.setWord]

/-- An instruction that has read its sources, written the lanes `l`, counted the draws `ds` and raised its flags, and that goes on at the next
word. -/
theorem vecWrites_putVec {u : State} {c : TileRef} {w : U64} {width : Nat} {out : Nat → LaneOut} {flags fl : Flags}
    {drawn : Nat → Nat} {l : List LaneOut} {ds : List Nat} (srcWidth : Nat) (hl : l.length = 1024 / width)
    (hout : ∀ i (h : i < l.length), l[i] = out i) (hfl : fl = flags) (hds : ∀ i, ds.count i = drawn i) :
    vecWrites u c w width out flags drawn
      (((u.setCtx c.num (((takeSources (u.ctx c.num) (vSources w) srcWidth).1.putVec w width l).countDraws ds)).raiseVecFlags c.num
        fl).setPc c.num (u.nextPc c.num)) := by
  subst hfl
  have hfit : width * l.length ≤ 1024 := hl ▸ Nat.mul_div_le 1024 width
  have hpc : BitVec.ofNat 18 (u.nextPc c.num) = (u.ctx c.num).pc + 8 := by
    rw [State.nextPc, BitVec.ofNat_add, BitVec.ofNat_toNat, BitVec.setWidth_eq]
    rfl
  rw [takeSources_fst, Context.putVec_frame]
  generalize hx : ({ u.ctx c.num with aq := (u.ctx c.num).aq.drop ((vSources w).countP (· == 0x40)) } : Context) = x
  have hr : physReg x (vVd w) = physReg (u.ctx c.num) (vVd w) := by rw [← hx]; rfl
  unfold vecWrites
  simp only [State.ctx_vecEnd, State.word_vecEnd, ← hr, hpc]
  refine ⟨fun hvd => ?push, fun hvd => ?reg, ?_, ?_, fun i => ?draws, trivial, ?_, ?_, ?_, ?_, ?_,
    fun j hj => State.ctx_vecEnd_ne u _ _ _ hj, State.word_setWord_self .., fun k hk => ?words, State.vecEnd_eq ..⟩
  case push =>
    obtain ⟨hv, v, hoq, hlanes⟩ := Context.putVec_push x hfit hvd
    refine ⟨hv.trans (by rw [← hx]), v, hoq.trans (by rw [← hx]), fun i hi => ?_⟩
    rw [← hl] at hi
    rw [hlanes i hi, hout i hi]
  case reg =>
    obtain ⟨hoq, hlanes, hother⟩ := Context.putVec_reg x hfit hvd
    have hvx : x.v = (u.ctx c.num).v := by rw [← hx]
    rw [hvx] at hlanes hother
    refine ⟨hoq.trans (by rw [← hx]), fun i hi => ?_, hother⟩
    rw [← hl] at hi
    exact (hlanes i hi).trans (by rw [hout i hi])
  case draws =>
    rw [← hds, ← hx]
    exact Context.get_countDraws ..
  case words =>
    rw [State.word_vecEnd, State.word_setWord_ne _ _ hk]
  all_goals (rw [← hx]; rfl)

/-! ## Lane operations (R146, R161) -/

/-- The lanes of a list without repetition that draw only under a condition draw once. -/
theorem count_ite_of_nodup {ds : List Nat} (h : ds.Nodup) (b : Bool) (i : Nat) :
    (if b then ds else []).count i = if b ∧ ds.contains i = true then 1 else 0 := by
  cases b <;> simp [h.count]

/-- A choice of lanes names each once. -/
theorem nodup_range_filter (n : Nat) (p : Nat → Bool) : ((List.range n).filter p).Nodup :=
  List.Pairwise.filter p List.nodup_range

/-- PRED enables the same lanes once the sources are read. -/
theorem laneOn_takeSources (u : State) (c : TileRef) (w : U64) (srcWidth width : Nat) :
    laneOn ((takeSources (u.ctx c.num) (vSources w) srcWidth).1.pred (vPred w)) width = enabledLane u c w width := by
  rw [takeSources_fst]
  rfl

/-- A lane operation writes its enabled lanes. -/
theorem laneWise_vecLanes (u : State) (c : TileRef) (w : U64) (width : Nat) (draws : Bool) (f : Nat → Nat → Nat → Nat → Rounded) :
    laneWise u c w width draws f ((u.vecLanes c.num w width draws f).setPc c.num (u.nextPc c.num)) := by
  unfold laneWise State.vecLanes
  simp only [Context.ite_countDraws, laneOn_takeSources]
  refine vecWrites_putVec width (by simp) (fun i h => ?lanes) ?flags (count_ite_of_nodup (nodup_range_filter _ _) _)
  case lanes =>
    simp only [List.getElem_map, List.getElem_range]
    cases enabledLane u c w width i <;> rfl
  case flags =>
    rw [List.foldl_map, List.foldl_filter]
    congr 1
    funext a i
    cases enabledLane u c w width i <;> rfl

end Sys2Proof.Machine
end

section
/-! SUPPORT. Integers of n bits (R79, R80): the two's-complement reading as a balanced remainder, and what an integer result reads as. -/

namespace Sys2Proof.Machine

variable {n : Nat}

/-- A value of n bits. -/
theorem toBits_lt (n : Nat) (z : Int) : toBits n z < 2 ^ n := by
  have h : z % 2 ^ n < ((2 ^ n : Nat) : Int) := by
    rw [Int.natCast_pow]
    exact Int.emod_lt_of_pos z (Int.pow_pos (by decide))
  exact (Int.toNat_lt' (Nat.two_pow_pos n)).mpr h

/-- An integer result in its range keeps its value and raises nothing (R79). -/
theorem intResult_of_fits {z : Int} (sat : Bool) (hlo : -(2 ^ (n - 1) : Nat) ≤ z) (hhi : z ≤ (2 ^ (n - 1) : Nat) - 1) :
    intResult n sat z = ⟨toBits n z, 0⟩ := by
  rw [intResult, if_neg (by omega), if_neg (by omega)]

/-- One below its range is its low bits, or the lower bound (R79). -/
theorem intResult_of_lt {z : Int} (sat : Bool) (h : z < -(2 ^ (n - 1) : Nat)) :
    intResult n sat z = ⟨toBits n (if sat then -(2 ^ (n - 1) : Nat) else z), fIOV⟩ := by
  rw [intResult, if_pos h]

/-- One above its range is its low bits, or the upper bound (R79). -/
theorem intResult_of_gt {z : Int} (sat : Bool) (h : (2 ^ (n - 1) : Nat) - 1 < z) :
    intResult n sat z = ⟨toBits n (if sat then (2 ^ (n - 1) : Nat) - 1 else z), fIOV⟩ := by
  have hpos := Nat.two_pow_pos (n - 1)
  rw [intResult, if_neg (by omega), if_pos h]

variable (hn : 0 < n)
include hn

theorem two_pow_eq_double : 2 ^ n = 2 * 2 ^ (n - 1) := by
  rw [← Nat.pow_succ', Nat.succ_eq_add_one, Nat.sub_add_cancel hn]

theorem int_two_pow_eq_double : (2 : Int) ^ n = ((2 * 2 ^ (n - 1) : Nat) : Int) := by
  rw [← two_pow_eq_double hn, Int.natCast_pow]
  rfl

/-- The two's-complement reading is the remainder nearest 0. -/
theorem signed_eq_bmod (x : Nat) : signed n x = Int.bmod x (2 ^ n) := by
  rw [signed, Int.bmod, int_two_pow_eq_double hn, two_pow_eq_double hn]
  split <;> split <;> omega

/-- The reading of a value of n bits lies in their range. -/
theorem signed_bounds (x : Nat) : -(2 ^ (n - 1) : Nat) ≤ signed n x ∧ signed n x ≤ (2 ^ (n - 1) : Nat) - 1 := by
  have h2 := two_pow_eq_double hn
  have hlt := Nat.mod_lt x (Nat.two_pow_pos n)
  rw [signed, int_two_pow_eq_double hn]
  split <;> omega

/-- The encoding of the least value of n bits. -/
theorem signed_two_pow_pred : signed n (2 ^ (n - 1)) = -(2 ^ (n - 1) : Nat) := by
  have h2 := two_pow_eq_double hn
  have hpos := Nat.two_pow_pos (n - 1)
  rw [signed, Nat.mod_eq_of_lt (by omega), if_neg (Nat.lt_irrefl _), int_two_pow_eq_double hn]
  omega

/-- The encoding of the greatest value of n bits. -/
theorem signed_two_pow_pred_sub_one : signed n (2 ^ (n - 1) - 1) = (2 ^ (n - 1) : Nat) - 1 := by
  have h2 := two_pow_eq_double hn
  have hpos := Nat.two_pow_pos (n - 1)
  rw [signed, Nat.mod_eq_of_lt (by omega), if_pos (by omega)]
  omega

/-- The n low bits of an integer read as the integer's remainder nearest 0. -/
theorem signed_toBits (z : Int) : signed n (toBits n z) = Int.bmod z (2 ^ n) := by
  have h : ((toBits n z : Nat) : Int) = z % ((2 ^ n : Nat) : Int) := by
    rw [toBits, Int.toNat_of_nonneg (Int.emod_nonneg _ (Int.ne_of_gt (Int.pow_pos (by decide)))), Int.natCast_pow]
    rfl
  rw [signed_eq_bmod hn, h, Int.emod_bmod]

/-- An integer of n bits reads as itself. -/
theorem signed_toBits_of_fits {z : Int} (hlo : -(2 ^ (n - 1) : Nat) ≤ z) (hhi : z ≤ (2 ^ (n - 1) : Nat) - 1) :
    signed n (toBits n z) = z := by
  have h2 := two_pow_eq_double hn
  rw [signed_toBits hn, h2]
  exact Int.bmod_eq_of_le (by omega) (by omega)

/-- The low bits of an integer read as the integer but for a multiple of 2^n. -/
theorem exists_signed_toBits (z : Int) : ∃ k : Int, signed n (toBits n z) = z + k * 2 ^ n := by
  refine ⟨-Int.bdiv z (2 ^ n), ?_⟩
  have h := Int.bmod_add_bdiv z (2 ^ n)
  rw [Int.natCast_pow] at h
  rw [signed_toBits hn, Int.neg_mul, Int.mul_comm]
  exact (Int.sub_eq_iff_eq_add.mpr h.symm).symm

/-- The clause of R79 on integer results. -/
theorem intResult_narrows (sat : Bool) (z : Int) :
    let lo : Int := -2 ^ (n - 1)
    let hi : Int := 2 ^ (n - 1) - 1
    let r := intResult n sat z
    (lo ≤ z → z ≤ hi → signed n r.bits = z ∧ r.flags = 0) ∧
    (z < lo ∨ hi < z → r.flags = fIOV ∧ (sat = true → signed n r.bits = if z < lo then lo else hi) ∧
      (sat = false → r.bits < 2 ^ n ∧ ∃ k : Int, signed n r.bits = z + k * 2 ^ n)) := by
  have hpos := Nat.two_pow_pos (n - 1)
  have hc : (2 : Int) ^ (n - 1) = ((2 ^ (n - 1) : Nat) : Int) := by rw [Int.natCast_pow]; rfl
  intro lo hi r
  rw [show lo = _ from congrArg Neg.neg hc, show hi = _ from congrArg (· - 1) hc]
  refine ⟨fun hlo hhi => ?_, ?_⟩
  · rw [show r = _ from intResult_of_fits sat hlo hhi]
    exact ⟨signed_toBits_of_fits hn hlo hhi, rfl⟩
  · rintro (h | h)
    · rw [show r = _ from intResult_of_lt sat h, if_pos h]
      refine ⟨rfl, ?_, ?_⟩
      · rintro rfl
        exact signed_toBits_of_fits hn (Int.le_refl _) (by omega)
      · rintro rfl
        exact ⟨toBits_lt n _, exists_signed_toBits hn z⟩
    · rw [show r = _ from intResult_of_gt sat h, if_neg (show ¬ z < -_ by omega)]
      refine ⟨rfl, ?_, ?_⟩
      · rintro rfl
        exact signed_toBits_of_fits hn (by omega) (Int.le_refl _)
      · rintro rfl
        exact ⟨toBits_lt n _, exists_signed_toBits hn z⟩

end Sys2Proof.Machine
end

section
/-! SUPPORT. The halving tree of R151: where the operation does not depend on the order of its operands, the tree gives the fold of the lanes. -/

namespace Sys2Proof.Machine

/-- On the values `S` the operation is associative and commutative, and `e` is neutral. -/
structure FoldsOn {α : Type} (S : α → Prop) (op : α → α → α) (e : α) : Prop where
  /-- the neutral value is one of them -/
  unit : S e
  /-- results are of them -/
  closed : ∀ a b, S a → S b → S (op a b)
  /-- the operands may be exchanged -/
  comm : ∀ a b, S a → S b → op a b = op b a
  /-- operations may be regrouped -/
  assoc : ∀ a b c, S a → S b → S c → op (op a b) c = op a (op b c)
  /-- the neutral value changes nothing -/
  neutral : ∀ a, S a → op a e = a

section

variable {α : Type} {S : α → Prop} {op : α → α → α} {e : α}

/-- An operation that takes the greater of two ranks, on values that their ranks tell apart. -/
theorem foldsOn_of_rank (r : α → Int) (unit : S e) (closed : ∀ a b, S a → S b → S (op a b))
    (inj : ∀ a b, S a → S b → r a = r b → a = b) (rank : ∀ a b, S a → S b → r (op a b) = max (r a) (r b))
    (least : ∀ a, S a → r e ≤ r a) : FoldsOn S op e where
  unit := unit
  closed := closed
  comm a b ha hb := inj _ _ (closed a b ha hb) (closed b a hb ha) (by rw [rank a b ha hb, rank b a hb ha, Int.max_comm])
  assoc a b c ha hb hc := by
    have hab := closed a b ha hb
    have hbc := closed b c hb hc
    refine inj _ _ (closed _ c hab hc) (closed a _ ha hbc) ?_
    rw [rank _ c hab hc, rank a b ha hb, rank a _ ha hbc, rank b c hb hc, Int.max_assoc]
  neutral a ha := inj _ _ (closed a e ha unit) ha (by rw [rank a e ha unit, Int.max_eq_left (least a ha)])

/-- A list of even length in two halves. -/
theorem eq_append_halves {d : α} {l : List α} {n : Nat} (hlen : l.length = 2 * n) :
    l = (List.range n).map (fun i => l.getD i d) ++ (List.range n).map (fun i => l.getD (i + n) d) := by
  apply List.ext_getElem (by simp; omega)
  intro i h₁ h₂
  rw [List.getElem_append]
  split
  · simp [h₁]
  · next hi =>
    simp only [List.length_map, List.length_range, Nat.not_lt] at hi
    simp [Nat.sub_add_cancel hi, h₁]

namespace FoldsOn

variable (h : FoldsOn S op e)
include h

/-- The middle two of four may be exchanged. -/
theorem swap {a b c d : α} (ha : S a) (hb : S b) (hc : S c) (hd : S d) : op (op a b) (op c d) = op (op a c) (op b d) := by
  rw [h.assoc a b _ ha hb (h.closed c d hc hd), ← h.assoc b c d hb hc hd, h.comm b c hb hc, h.assoc c b d hc hb hd,
    ← h.assoc a c _ ha hc (h.closed b d hb hd)]

/-- A fold of the values is one of them. -/
theorem foldl_mem {l : List α} (hl : ∀ a ∈ l, S a) {a : α} (ha : S a) : S (l.foldl op a) := by
  induction l generalizing a with
  | nil => exact ha
  | cons b l ih =>
    exact ih (fun x hx => hl x (List.mem_cons_of_mem b hx)) (h.closed a b ha (hl b List.mem_cons_self))

/-- A fold from a value is the value with the fold. -/
theorem foldl_eq_op {l : List α} (hl : ∀ a ∈ l, S a) {a : α} (ha : S a) : l.foldl op a = op a (l.foldl op e) := by
  induction l generalizing a with
  | nil => exact (h.neutral a ha).symm
  | cons b l ih =>
    have hb := hl b List.mem_cons_self
    have ht := fun x hx => hl x (List.mem_cons_of_mem b hx)
    rw [List.foldl_cons, List.foldl_cons, ih ht (h.closed a b ha hb), ih ht (h.closed e b h.unit hb), h.comm e b h.unit hb,
      h.neutral b hb, h.assoc a b _ ha hb (h.foldl_mem ht h.unit)]

/-- A fold in two parts. -/
theorem foldl_append {l₁ l₂ : List α} (h₁ : ∀ a ∈ l₁, S a) (h₂ : ∀ a ∈ l₂, S a) :
    (l₁ ++ l₂).foldl op e = op (l₁.foldl op e) (l₂.foldl op e) := by
  rw [List.foldl_append, h.foldl_eq_op h₂ (h.foldl_mem h₁ h.unit)]

/-- Folding pairs is folding both members. -/
theorem foldl_map_op {ι : Type} (f g : ι → α) {l : List ι} (hf : ∀ i ∈ l, S (f i)) (hg : ∀ i ∈ l, S (g i)) :
    (l.map (fun i => op (f i) (g i))).foldl op e = op ((l.map f).foldl op e) ((l.map g).foldl op e) := by
  induction l with
  | nil => exact (h.neutral e h.unit).symm
  | cons i l ih =>
    have hfi := hf i List.mem_cons_self
    have hgi := hg i List.mem_cons_self
    have hft := fun j hj => hf j (List.mem_cons_of_mem i hj)
    have hgt := fun j hj => hg j (List.mem_cons_of_mem i hj)
    have split : ∀ (u : ι → α), S (u i) → (∀ j ∈ l, S (u j)) →
        ((i :: l).map u).foldl op e = op (u i) ((l.map u).foldl op e) := by
      intro u hu ht
      rw [List.map_cons, List.foldl_cons, h.comm e _ h.unit hu, h.neutral _ hu, h.foldl_eq_op (by simpa using ht) hu]
    have hmem : ∀ (u : ι → α), (∀ j ∈ l, S (u j)) → S ((l.map u).foldl op e) :=
      fun u ht => h.foldl_mem (by simpa using ht) h.unit
    rw [split _ (h.closed _ _ hfi hgi) (fun j hj => h.closed _ _ (hft j hj) (hgt j hj)), split f hfi hft, split g hgi hgt, ih hft hgt,
      h.swap hfi hgi (hmem f hft) (hmem g hgt)]

/-- A list of one value folds to it. -/
theorem foldl_of_length_one {l : List α} (hl : ∀ a ∈ l, S a) (hlen : l.length = 1) : [l.foldl op e] = l := by
  obtain ⟨a, rfl⟩ := List.length_eq_one_iff.mp hlen
  have ha := hl a (List.mem_singleton_self a)
  rw [List.foldl_cons, List.foldl_nil, h.comm e a h.unit ha, h.neutral a ha]

/-- The halving tree over a power of two of lanes gives their fold (R151). -/
theorem treeFold_eq (d : α) {fuel k : Nat} (hk : k ≤ fuel) {l : List α} (hlen : l.length = 2 ^ k) (hl : ∀ a ∈ l, S a) (fl : Flags) :
    (treeFold (fun _ _ a b => (op a b, 0)) d fuel l fl).1 = [l.foldl op e] := by
  induction fuel generalizing k l fl with
  | zero =>
    obtain rfl : k = 0 := Nat.le_zero.mp hk
    exact (h.foldl_of_length_one hl hlen).symm
  | succ fuel ih =>
    cases k with
    | zero =>
      rw [treeFold, if_pos (by omega)]
      exact (h.foldl_of_length_one hl hlen).symm
    | succ k =>
      have hhalf : l.length / 2 = 2 ^ k := by omega
      have hlen' : l.length = 2 * 2 ^ k := by omega
      have hget : ∀ i, i < l.length → S (l.getD i d) := fun i hi => by
        rw [← List.getElem_eq_getD (h := hi) d]
        exact hl _ (List.getElem_mem hi)
      have hlo : ∀ i ∈ List.range (2 ^ k), S (l.getD i d) := fun i hi => hget i (by rw [List.mem_range] at hi; omega)
      have hhi : ∀ i ∈ List.range (2 ^ k), S (l.getD (i + 2 ^ k) d) := fun i hi => hget _ (by rw [List.mem_range] at hi; omega)
      have hpairs : ∀ a ∈ (List.range (2 ^ k)).map (fun i => op (l.getD i d) (l.getD (i + 2 ^ k) d)), S a := by
        intro a ha
        obtain ⟨i, hi, rfl⟩ := List.mem_map.mp ha
        exact h.closed _ _ (hlo i hi) (hhi i hi)
      rw [treeFold]
      simp only [hhalf, if_neg (Nat.ne_of_gt (Nat.two_pow_pos k)), List.map_map, Function.comp_def]
      rw [ih (k := k) (by omega) (by simp) hpairs, h.foldl_map_op _ _ hlo hhi, ← h.foldl_append (by simpa using hlo) (by simpa using hhi),
        ← eq_append_halves hlen']

/-- Values that are neutral where lanes are disabled drop out of a fold. -/
theorem foldl_map_ite {ι : Type} (on : ι → Bool) (f : ι → α) {l : List ι} (hf : ∀ i ∈ l, S (f i)) {a : α} (ha : S a) :
    (l.map (fun i => if on i then f i else e)).foldl op a = ((l.filter on).map f).foldl op a := by
  induction l generalizing a with
  | nil => rfl
  | cons i l ih =>
    have ht := fun j hj => hf j (List.mem_cons_of_mem i hj)
    cases hi : on i with
    | true => simpa [hi] using ih ht (h.closed a _ ha (hf i List.mem_cons_self))
    | false => simpa [hi, h.neutral a ha] using ih ht ha

end FoldsOn

end

end Sys2Proof.Machine
end

section
/-! SUPPORT. The order of Hazel values (R148, R151): a rank that tells them apart, by which maxima and minima choose. -/

namespace Sys2Proof.Machine

/-- A value that an encoding of the format may have (R60, R61): a finite one has its leading one in the fraction's place and its exponent in
the format's range. -/
def Val.inFormat (f : HFmt) : Val → Prop
  | .fin _ g q => 2 ^ f.fracW ≤ g ∧ g < 2 ^ (f.fracW + 1) ∧ f.emin ≤ q + f.fracW ∧ q + f.fracW ≤ f.emax
  | _ => True

/-- The greatest exponent field of a number, in terms of the bias. -/
theorem HFmt.expOnes_eq {f : HFmt} (h : 0 < f.expW) : (f.expOnes : Int) = 2 * f.bias + 1 := by
  have h2 := two_pow_eq_double h
  have hpos := Nat.two_pow_pos (f.expW - 1)
  unfold HFmt.expOnes HFmt.bias
  omega

/-- Every encoding has a value of its format. -/
theorem inFormat_hazelVal {f : HFmt} (h : 0 < f.expW) (bits : Nat) : (hazelVal f bits).inFormat f := by
  have hones := HFmt.expOnes_eq h
  have hx := Nat.mod_lt (bits / 2 ^ f.fracW) (Nat.two_pow_pos f.expW)
  have hfrac := Nat.mod_lt bits (Nat.two_pow_pos f.fracW)
  have hmax : 2 ^ f.expW = f.expOnes + 1 := (Nat.sub_add_cancel (Nat.one_le_two_pow)).symm
  rw [hazelVal]
  split
  · trivial
  · split
    · split <;> trivial
    · refine ⟨by omega, ?_, ?_, ?_⟩
      · rw [Nat.pow_succ]; omega
      · unfold HFmt.emin; omega
      · unfold HFmt.emax; omega

/-- A finite value in units. -/
theorem Val.units_fin (u : Int) (neg : Bool) (g : Nat) (q : Int) :
    (Val.fin neg g q).units u = (if neg then -1 else 1) * ((g * 2 ^ (q - u).toNat : Nat) : Int) := by
  cases neg <;> simp [Val.units, Nat.shiftLeft_eq]

/-- Smaller units. -/
theorem Val.units_fin_of_le {v u : Int} (neg : Bool) (g : Nat) {q : Int} (hvu : v ≤ u) (huq : u ≤ q) :
    (Val.fin neg g q).units v = (Val.fin neg g q).units u * ((2 ^ (u - v).toNat : Nat) : Int) := by
  have h : (q - v).toNat = (q - u).toNat + (u - v).toNat := by omega
  rw [Val.units_fin, Val.units_fin, h, Nat.pow_add, ← Nat.mul_assoc, Int.natCast_mul _ (2 ^ (u - v).toNat), Int.mul_assoc]

/-- A comparison does not depend on the units. -/
theorem Val.units_lt_iff {v q p : Int} (a b : Bool) (g h : Nat) (hq : v ≤ q) (hp : v ≤ p) :
    (Val.fin a g q).units (min q p) < (Val.fin b h p).units (min q p) ↔ (Val.fin a g q).units v < (Val.fin b h p).units v := by
  have hv : v ≤ min q p := Int.le_min.mpr ⟨hq, hp⟩
  rw [Val.units_fin_of_le a g hv (Int.min_le_left q p), Val.units_fin_of_le b h hv (Int.min_le_right q p)]
  exact (Int.mul_lt_mul_right (Int.natCast_pos.mpr (Nat.two_pow_pos _))).symm

section

variable {f : HFmt}

/-- A finite value of the format counts a number of its sign. -/
theorem Val.units_sign {neg : Bool} {g : Nat} {q : Int} (h : (Val.fin neg g q).inFormat f) (u : Int) :
    if neg then (Val.fin neg g q).units u ≤ -1 else 1 ≤ (Val.fin neg g q).units u := by
  obtain ⟨hg, -⟩ := h
  have hpos : 0 < g * 2 ^ (q - u).toNat := Nat.mul_pos (Nat.lt_of_lt_of_le (Nat.two_pow_pos _) hg) (Nat.two_pow_pos _)
  rw [Val.units_fin]
  cases neg <;> simp only [Bool.false_eq_true, if_false, if_true] <;> omega

/-- The sign of the count is the sign of the value. -/
theorem Val.units_neg_iff {neg : Bool} {g : Nat} {q : Int} (h : (Val.fin neg g q).inFormat f) (u : Int) :
    (Val.fin neg g q).units u < 0 ↔ neg = true := by
  have hs := Val.units_sign h u
  cases neg <;> simp at hs ⊢ <;> omega

/-! ## The rank of a value -/

/-- A bound of the ranks of finite values. -/
def rankBound (f : HFmt) : Nat := 2 * 2 ^ (f.fracW + 1 + (f.emax - f.emin).toNat)

/-- The rank of a value: finite values by what they count in half units of the least exponent, −0 below +0, infinities outside them, and NaN
at `nan`, outside all. -/
def Val.rank (f : HFmt) (nan : Int) : Val → Int
  | .nan => nan
  | .inf neg => if neg then -(rankBound f : Int) else rankBound f
  | .zero neg => if neg then -1 else 0
  | .fin neg g q => 2 * (Val.fin neg g q).units (f.emin - f.fracW)

@[simp] theorem Val.rank_nan (f : HFmt) (nan : Int) : Val.rank f nan .nan = nan := rfl

theorem two_le_rankBound (f : HFmt) : 2 ≤ rankBound f := Nat.le_mul_of_pos_right 2 (Nat.two_pow_pos _)

variable {nan : Int}

/-- The rank of a finite value lies inside the bound, away from those of the zeros, on the side of its sign. -/
theorem Val.rank_fin_bounds {neg : Bool} {g : Nat} {q : Int} (h : (Val.fin neg g q).inFormat f) :
    if neg then -(rankBound f : Int) < (Val.fin neg g q).rank f nan ∧ (Val.fin neg g q).rank f nan ≤ -2
    else 2 ≤ (Val.fin neg g q).rank f nan ∧ (Val.fin neg g q).rank f nan < rankBound f := by
  have hs := Val.units_sign h (f.emin - f.fracW)
  obtain ⟨-, hg, hmin, hmax⟩ := h
  have hexp : (q - (f.emin - f.fracW)).toNat ≤ (f.emax - f.emin).toNat := by omega
  have hlt : g * 2 ^ (q - (f.emin - f.fracW)).toNat < 2 ^ (f.fracW + 1 + (f.emax - f.emin).toNat) := by
    rw [Nat.pow_add]
    exact Nat.mul_lt_mul_of_lt_of_le hg (Nat.pow_le_pow_right (by decide) hexp) (Nat.two_pow_pos _)
  have hbound : rankBound f = 2 * 2 ^ (f.fracW + 1 + (f.emax - f.emin).toNat) := rfl
  have hunits := Val.units_fin (f.emin - f.fracW) neg g q
  simp only [Val.rank]
  generalize (Val.fin neg g q).units (f.emin - f.fracW) = z at hs hunits ⊢
  generalize g * 2 ^ (q - (f.emin - f.fracW)).toNat = m at hlt hunits
  generalize 2 ^ (f.fracW + 1 + (f.emax - f.emin).toNat) = b at hlt hbound
  cases neg <;> simp only [Bool.false_eq_true, if_false, if_true] at hs hunits ⊢ <;> omega

/-- The rank of a value other than NaN lies within the bound. -/
theorem Val.rank_bounds {a : Val} (ha : a.inFormat f) (hna : a ≠ .nan) :
    -(rankBound f : Int) ≤ a.rank f nan ∧ a.rank f nan ≤ rankBound f := by
  have hB := two_le_rankBound f
  match a with
  | .nan => exact absurd rfl hna
  | .inf m | .zero m => cases m <;> simp only [Val.rank, Bool.false_eq_true, if_false, if_true] <;> omega
  | .fin m _ _ =>
    have hr := Val.rank_fin_bounds (nan := nan) ha
    cases m <;> simp only [Bool.false_eq_true, if_false, if_true] at hr <;> omega

/-- The order of R148 is that of the ranks. -/
theorem Val.ltTotal_iff_rank {a b : Val} (ha : a.inFormat f) (hb : b.inFormat f) (hna : a ≠ .nan) (hnb : b ≠ .nan) :
    a.ltTotal b = true ↔ a.rank f nan < b.rank f nan := by
  have hB := two_le_rankBound f
  match a, b with
  | .nan, _ => exact absurd rfl hna
  | _, .nan => exact absurd rfl hnb
  | .inf m, .inf n | .inf m, .zero n | .zero m, .inf n | .zero m, .zero n =>
    cases m <;> cases n <;> simp only [Val.ltTotal, Val.rank, Bool.and_true, Bool.and_false, Bool.not_true, Bool.not_false,
      Bool.false_eq_true, if_false, if_true, true_iff, false_iff] <;> omega
  | .inf m, .fin n _ _ | .zero m, .fin n _ _ =>
    have hr := Val.rank_fin_bounds (nan := nan) hb
    generalize Val.rank f nan (.fin n _ _) = r at hr ⊢
    cases m <;> cases n <;> simp only [Val.ltTotal, Val.rank, Bool.not_true, Bool.not_false, Bool.false_eq_true, if_false, if_true,
      true_iff, false_iff] at hr ⊢ <;> omega
  | .fin m _ _, .inf n | .fin m _ _, .zero n =>
    have hr := Val.rank_fin_bounds (nan := nan) ha
    generalize Val.rank f nan (.fin m _ _) = r at hr ⊢
    cases m <;> cases n <;> simp only [Val.ltTotal, Val.rank, Bool.not_true, Bool.not_false, Bool.false_eq_true, if_false, if_true,
      true_iff, false_iff] at hr ⊢ <;> omega
  | .fin m g q, .fin n h p =>
    obtain ⟨-, -, hq, -⟩ := ha
    obtain ⟨-, -, hp, -⟩ := hb
    simp only [Val.ltTotal, Val.rank, decide_eq_true_eq, Val.units_lt_iff (v := f.emin - f.fracW) m n g h (Int.sub_right_le_of_le_add hq)
      (Int.sub_right_le_of_le_add hp)]
    omega

/-- A number with its leading one in a fixed place, times a power of two, tells both. -/
theorem eq_of_mul_two_pow_eq {F g h a b : Nat} (hg : 2 ^ F ≤ g) (hg' : g < 2 ^ (F + 1)) (hh : 2 ^ F ≤ h) (hh' : h < 2 ^ (F + 1))
    (heq : g * 2 ^ a = h * 2 ^ b) : g = h ∧ a = b := by
  have place : ∀ {x : Nat} (k : Nat), 2 ^ F ≤ x → x < 2 ^ (F + 1) → (x * 2 ^ k).log2 = F + k := by
    intro x k hx hx'
    have hpos : 0 < x * 2 ^ k := Nat.mul_pos (Nat.lt_of_lt_of_le (Nat.two_pow_pos F) hx) (Nat.two_pow_pos k)
    refine (Nat.log2_eq_iff (Nat.ne_of_gt hpos)).mpr ⟨?_, ?_⟩
    · rw [Nat.pow_add]
      exact Nat.mul_le_mul_right _ hx
    · rw [Nat.add_right_comm, Nat.pow_add]
      exact Nat.mul_lt_mul_of_pos_right hx' (Nat.two_pow_pos k)
  have hab : a = b := Nat.add_left_cancel ((place a hg hg').symm.trans ((congrArg Nat.log2 heq).trans (place b hh hh')))
  subst hab
  exact ⟨Nat.eq_of_mul_eq_mul_right (Nat.two_pow_pos a) heq, rfl⟩

/-- Finite values of a format that count the same are the same. -/
theorem Val.fin_inj_of_units {m n : Bool} {g k : Nat} {q p : Int} (ha : (Val.fin m g q).inFormat f) (hb : (Val.fin n k p).inFormat f)
    (heq : (Val.fin m g q).units (f.emin - f.fracW) = (Val.fin n k p).units (f.emin - f.fracW)) : Val.fin m g q = Val.fin n k p := by
  obtain rfl : m = n := Bool.eq_iff_iff.mpr ((Val.units_neg_iff ha _).symm.trans (heq ▸ Val.units_neg_iff hb _))
  obtain ⟨hg, hg', hq, -⟩ := ha
  obtain ⟨hk, hk', hp, -⟩ := hb
  have hmag : g * 2 ^ (q - (f.emin - f.fracW)).toNat = k * 2 ^ (p - (f.emin - f.fracW)).toNat := by
    rw [Val.units_fin, Val.units_fin] at heq
    cases m <;> simp only [Bool.false_eq_true, if_false, if_true] at heq <;> omega
  obtain ⟨rfl, hexp⟩ := eq_of_mul_two_pow_eq hg hg' hk hk' hmag
  obtain rfl : q = p := by omega
  rfl

/-- The rank tells the values of a format apart, where NaN lies outside the bound. -/
theorem Val.rank_inj {a b : Val} (hn : (rankBound f : Int) < nan ∨ nan < -(rankBound f : Int)) (ha : a.inFormat f) (hb : b.inFormat f)
    (h : a.rank f nan = b.rank f nan) : a = b := by
  have hB := two_le_rankBound f
  by_cases hna : a = .nan
  · subst hna
    by_cases hnb : b = .nan
    · exact hnb.symm
    · have hr := Val.rank_bounds (nan := nan) hb hnb
      rw [Val.rank_nan] at h
      omega
  by_cases hnb : b = .nan
  · subst hnb
    have hr := Val.rank_bounds (nan := nan) ha hna
    rw [Val.rank_nan] at h
    omega
  match a, b with
  | .nan, _ => exact absurd rfl hna
  | _, .nan => exact absurd rfl hnb
  | .inf m, .inf n | .inf m, .zero n | .zero m, .inf n | .zero m, .zero n =>
    cases m <;> cases n <;> simp only [Val.rank, Bool.false_eq_true, if_false, if_true] at h ⊢ <;> omega
  | .inf m, .fin n _ _ | .zero m, .fin n _ _ =>
    have hr := Val.rank_fin_bounds (nan := nan) hb
    rw [← h] at hr
    cases m <;> cases n <;> simp only [Val.rank, Bool.false_eq_true, if_false, if_true] at hr <;> omega
  | .fin m _ _, .inf n | .fin m _ _, .zero n =>
    have hr := Val.rank_fin_bounds (nan := nan) ha
    rw [h] at hr
    cases m <;> cases n <;> simp only [Val.rank, Bool.false_eq_true, if_false, if_true] at hr <;> omega
  | .fin m g q, .fin n k p =>
    refine Val.fin_inj_of_units ha hb ?_
    simp only [Val.rank] at h
    omega

/-! ## Maxima and minima choose by rank (R148) -/

theorem Val.maxV_of_ne_nan {a b : Val} (ha : a ≠ .nan) (hb : b ≠ .nan) : a.maxV b = if a.ltTotal b then b else a := by
  unfold Val.maxV
  split
  · exact absurd rfl ha
  · exact absurd rfl hb
  · rfl

theorem Val.minV_of_ne_nan {a b : Val} (ha : a ≠ .nan) (hb : b ≠ .nan) : a.minV b = if b.ltTotal a then b else a := by
  unfold Val.minV
  split
  · exact absurd rfl ha
  · exact absurd rfl hb
  · rfl

theorem Val.nan_maxV (a : Val) : Val.maxV .nan a = .nan := by cases a <;> rfl
theorem Val.maxV_nan (a : Val) : a.maxV .nan = .nan := by cases a <;> rfl
theorem Val.nan_minV (a : Val) : Val.minV .nan a = .nan := by cases a <;> rfl
theorem Val.minV_nan (a : Val) : a.minV .nan = .nan := by cases a <;> rfl

/-- No rank is above that of a NaN beyond the bound. -/
theorem Val.rank_le_nan {a : Val} (ha : a.inFormat f) (hn : (rankBound f : Int) < nan) : a.rank f nan ≤ nan := by
  by_cases hna : a = .nan
  · exact hna ▸ Int.le_refl nan
  · have hr := Val.rank_bounds (nan := nan) ha hna
    omega

/-- No rank is below that of a NaN beyond the bound. -/
theorem Val.nan_le_rank {a : Val} (ha : a.inFormat f) (hn : nan < -(rankBound f : Int)) : nan ≤ a.rank f nan := by
  by_cases hna : a = .nan
  · exact hna ▸ Int.le_refl nan
  · have hr := Val.rank_bounds (nan := nan) ha hna
    omega

/-- The rank of the greater of two values, NaN above all. -/
theorem Val.rank_maxV {a b : Val} (hn : (rankBound f : Int) < nan) (ha : a.inFormat f) (hb : b.inFormat f) :
    (a.maxV b).rank f nan = max (a.rank f nan) (b.rank f nan) := by
  have hra := Val.rank_le_nan ha hn
  have hrb := Val.rank_le_nan hb hn
  by_cases hna : a = .nan
  · subst hna
    rw [Val.nan_maxV]
    exact (Int.max_eq_left hrb).symm
  by_cases hnb : b = .nan
  · subst hnb
    rw [Val.maxV_nan]
    exact (Int.max_eq_right hra).symm
  have hlt := Val.ltTotal_iff_rank (nan := nan) ha hb hna hnb
  rw [Val.maxV_of_ne_nan hna hnb]
  split
  · next h => rw [Int.max_eq_right (Int.le_of_lt (hlt.mp h))]
  · next h => rw [Int.max_eq_left (Int.not_lt.mp (fun hl => h (hlt.mpr hl)))]

/-- The rank of the lesser of two values, NaN below all. -/
theorem Val.rank_minV {a b : Val} (hn : nan < -(rankBound f : Int)) (ha : a.inFormat f) (hb : b.inFormat f) :
    (a.minV b).rank f nan = min (a.rank f nan) (b.rank f nan) := by
  have hra := Val.nan_le_rank ha hn
  have hrb := Val.nan_le_rank hb hn
  by_cases hna : a = .nan
  · subst hna
    rw [Val.nan_minV]
    exact (Int.min_eq_left hrb).symm
  by_cases hnb : b = .nan
  · subst hnb
    rw [Val.minV_nan]
    exact (Int.min_eq_right hra).symm
  have hlt := Val.ltTotal_iff_rank (nan := nan) hb ha hnb hna
  rw [Val.minV_of_ne_nan hna hnb]
  split
  · next h => rw [Int.min_eq_right (Int.le_of_lt (hlt.mp h))]
  · next h => rw [Int.min_eq_left (Int.not_lt.mp (fun hl => h (hlt.mpr hl)))]

/-- The greater of two values is one of them. -/
theorem Val.inFormat_maxV {a b : Val} (ha : a.inFormat f) (hb : b.inFormat f) : (a.maxV b).inFormat f := by
  unfold Val.maxV
  split
  · trivial
  · trivial
  · split <;> assumption

/-- The lesser of two values is one of them. -/
theorem Val.inFormat_minV {a b : Val} (ha : a.inFormat f) (hb : b.inFormat f) : (a.minV b).inFormat f := by
  unfold Val.minV
  split
  · trivial
  · trivial
  · split <;> assumption

/-- Maxima may be taken in any order, −Inf is neutral. -/
theorem foldsOn_maxV (f : HFmt) : FoldsOn (Val.inFormat f) Val.maxV (.inf true) := by
  have hn : (rankBound f : Int) < rankBound f + 1 := Int.lt_succ _
  refine foldsOn_of_rank (Val.rank f (rankBound f + 1)) trivial (fun a b => Val.inFormat_maxV) (fun a b => Val.rank_inj (.inl hn))
    (fun a b => Val.rank_maxV hn) (fun a ha => ?_)
  by_cases hna : a = .nan
  · exact hna ▸ Val.rank_le_nan trivial hn
  · exact (Val.rank_bounds ha hna).1

/-- Minima may be taken in any order, +Inf is neutral. -/
theorem foldsOn_minV (f : HFmt) : FoldsOn (Val.inFormat f) Val.minV (.inf false) := by
  have hn : -(rankBound f : Int) - 1 < -(rankBound f : Int) := by omega
  refine foldsOn_of_rank (fun v => -Val.rank f (-(rankBound f : Int) - 1) v) trivial (fun a b => Val.inFormat_minV)
    (fun a b ha hb h => Val.rank_inj (.inr hn) ha hb (Int.neg_inj.mp h)) (fun a b ha hb => ?rank) (fun a ha => Int.neg_le_neg ?least)
  case rank =>
    rw [Val.rank_minV hn ha hb]
    omega
  case least =>
    by_cases hna : a = .nan
    · exact hna ▸ Val.nan_le_rank trivial hn
    · exact (Val.rank_bounds ha hna).2

/-- Maxima of integers from a lower bound. -/
theorem foldsOn_max (lo : Int) : FoldsOn (fun z => lo ≤ z) max lo where
  unit := Int.le_refl lo
  closed a b ha _ := Int.le_trans ha (Int.le_max_left a b)
  comm a b _ _ := Int.max_comm a b
  assoc a b c _ _ _ := Int.max_assoc a b c
  neutral _ ha := Int.max_eq_left ha

/-- Minima of integers from an upper bound. -/
theorem foldsOn_min (hi : Int) : FoldsOn (fun z => z ≤ hi) min hi where
  unit := Int.le_refl hi
  closed a b ha _ := Int.le_trans (Int.min_le_left a b) ha
  comm a b _ _ := Int.min_comm a b
  assoc a b c _ _ _ := Int.min_assoc a b c
  neutral _ ha := Int.min_eq_left ha

/-! ## A value of the format keeps its encoding (R69, R78) -/

/-- The flags of a result that is exact: those of a NaN and of an infinity (R78). -/
def Val.exactFlags : Val → Flags
  | .nan => fNAN
  | .inf _ => fINF
  | _ => 0

/-- A finite value of the format needs no rounding. -/
theorem toHazelFin_flags_of_inFormat {neg : Bool} {g : Nat} {q : Int} (h : (Val.fin neg g q).inFormat f) (rm r : Nat) (sat : Bool) :
    (toHazelFin f rm sat r neg g q).flags = 0 := by
  obtain ⟨hg, hg', hmin, hmax⟩ := h
  have hpos : g ≠ 0 := Nat.ne_of_gt (Nat.lt_of_lt_of_le (Nat.two_pow_pos f.fracW) hg)
  have hlen : (bitLength g : Int) = f.fracW + 1 := by
    rw [bitLength, if_neg hpos, (Nat.log2_eq_iff hpos).mpr ⟨hg, hg'⟩]
    rfl
  have he : q + bitLength g - 1 = q + f.fracW := by omega
  have hlsb : q + f.fracW - (f.prec - 1 : Nat) = q := by
    unfold HFmt.prec
    omega
  have hround : roundAt g q q rm r = (g, false) := by simp [roundAt]
  have hm : g ≠ 2 ^ f.prec := Nat.ne_of_lt hg'
  rw [toHazelFin]
  simp only [he, hlsb, hround, if_neg hm, if_neg (Int.not_lt.mpr hmax), if_neg (Int.not_lt.mpr hmin), Bool.false_eq_true, if_false]

/-- A value of the format raises the flags of an exact result. -/
theorem toHazel_flags_of_inFormat {v : Val} (h : v.inFormat f) (rm r : Nat) (sat : Bool) :
    (toHazel f rm sat r v).flags = v.exactFlags := by
  cases v with
  | fin neg g q => exact toHazelFin_flags_of_inFormat h rm r sat
  | _ => rfl

end

end Sys2Proof.Machine
end


section
/-! PROOFS. The base-2 exponential, normalisation, conversion and reductions (R79, R150 to R152, R158, R159). -/

namespace Sys2Proof.Machine

/-! ## Types -/

theorem typeWidth_pos (ty : Nat) : 0 < typeWidth ty := by
  unfold typeWidth
  split <;> decide

/-- The lanes of a register number a power of two, which the seven levels of the tree reach. -/
theorem exists_lanes_eq_two_pow (ty : Nat) : ∃ k, k ≤ 7 ∧ 1024 / typeWidth ty = 2 ^ k := by
  unfold typeWidth
  split
  · exact ⟨5, by decide, rfl⟩
  · exact ⟨6, by decide, rfl⟩
  · exact ⟨7, by decide, rfl⟩
  · exact ⟨6, by decide, rfl⟩
  · exact ⟨5, by decide, rfl⟩

theorem typeHazel_expW_pos (ty : Nat) : 0 < (typeHazel ty).expW := by
  unfold typeHazel
  split <;> decide

theorem hazelVal_infinity (ty : Nat) (neg : Bool) : hazelVal (typeHazel ty) ((typeHazel ty).infinity neg) = .inf neg := by
  unfold typeHazel
  split <;> cases neg <;> rfl

/-! ## Normalisation (R152) -/

/-- A block has an element for each value. -/
theorem length_toBlock (p rm : Nat) (vs : List Val) (r : Nat → Nat) : (toBlock p rm vs r).block.m.length = vs.length := by
  unfold toBlock
  split
  · simp
  · split
    · simp
    · dsimp only
      split <;> simp

theorem length_blockLanes (b : Block) : (blockLanes b).length = b.m.length := List.length_map _

section

variable (u : State) (c : TileRef) (w : U64)

/-- What vnorm writes: the lanes of the block, whatever PRED. -/
theorem vecWrites_vecBlock :
    let b := toBlock (berryP (vImm w % 8)) (vRm w) ((List.range 32).map (fun i => hazelVal hazel32 (srcLane u c w 32 0 i)))
      (fun i => if vRm w = 2 then u.vecDraw c.num i else 0)
    vecWrites u c w 32 (fun i => .wr ((blockLanes b.block).getD i 0)) b.flags (fun i => if vRm w = 2 ∧ i < 32 then 1 else 0)
      ((u.vecBlock c.num w).setPc c.num (u.nextPc c.num)) := by
  intro b
  unfold State.vecBlock
  simp only [Context.ite_countDraws]
  simp only [decide_eq_true_eq]
  refine vecWrites_putVec 32 ?length (fun i h => ?lanes) rfl (fun i => ?draws)
  case length => simp [length_blockLanes, length_toBlock]
  case lanes =>
    simp only [List.length_map] at h
    rw [List.getElem_map, List.getElem_eq_getD (h := h) 0]
    rfl
  case draws =>
    have hd := count_ite_of_nodup (ds := List.range 32) List.nodup_range (decide (vRm w = 2)) i
    simpa using hd

/-! ## Conversion (R150) -/

/-- The value of a lane that the part has. -/
theorem cvtOut_eq_map (i : Nat) : cvtOut u c w i =
    (cvtFrom (typeWidth (vImm w % 8)) (typeWidth (vType w)) (vImm w / 8 % 4) i).map (fun j =>
      cvtLane (vImm w % 8) (vType w) (vRm w) (vSat w) (vIs w)
        (if cvtDraws (vImm w % 8) (vType w) && decide (vRm w = 2) then u.vecDraw c.num i else 0) (srcLane u c w (typeWidth (vImm w % 8)) 0 j)) := by
  rw [cvtOut]
  cases cvtFrom (typeWidth (vImm w % 8)) (typeWidth (vType w)) (vImm w / 8 % 4) i <;> rfl

/-- What vcvt writes. -/
theorem vecWrites_vecConvert :
    let n := typeWidth (vType w)
    let on := (List.range (1024 / n)).filter (fun i => enabledLane u c w n i && (cvtOut u c w i).isSome)
    vecWrites u c w n
      (fun i => match cvtOut u c w i with
        | none => .keep
        | some x => if enabledLane u c w n i then .wr x.bits else .off)
      (on.foldl (fun a i => a ||| ((cvtOut u c w i).map (fun x => x.flags)).getD 0) 0)
      (fun i => if (cvtDraws (vImm w % 8) (vType w) && decide (vRm w = 2)) = true ∧ on.contains i = true then 1 else 0)
      ((u.vecConvert c.num w).setPc c.num (u.nextPc c.num)) := by
  unfold State.vecConvert
  simp only [Context.ite_countDraws, laneOn_takeSources, cvtOut_eq_map, Option.isSome_map]
  refine vecWrites_putVec (typeWidth (vImm w % 8)) (by simp) (fun i h => ?lanes) ?flags (count_ite_of_nodup (nodup_range_filter _ _) _)
  case lanes =>
    simp only [List.getElem_map, List.getElem_range]
    cases cvtFrom (typeWidth (vImm w % 8)) (typeWidth (vType w)) (vImm w / 8 % 4) i with
    | none => rfl
    | some j => cases enabledLane u c w (typeWidth (vType w)) i <;> rfl
  case flags =>
    rw [List.foldl_map, List.foldl_filter]
    congr 1
    funext a i
    cases cvtFrom (typeWidth (vImm w % 8)) (typeWidth (vType w)) (vImm w / 8 % 4) i with
    | none => simp
    | some j => cases enabledLane u c w (typeWidth (vType w)) i <;> simp [srcLane, srcVals]

end

/-! ## Reductions (R151) -/

@[simp] theorem length_redLanes (p : BitVec 128) (width d : Nat) (v : BitVec 1024) : (redLanes p width d v).length = 1024 / width := by
  simp [redLanes]

/-- The values of the lanes, `e` in the disabled ones. -/
theorem redLanes_map {α : Type} {p : BitVec 128} {width d : Nat} {v : BitVec 1024} (f : Nat → α) {e : α} (hd : f d = e) :
    (redLanes p width d v).map f = (List.range (1024 / width)).map (fun i => if laneOn p width i then f (laneAt width i v) else e) := by
  rw [redLanes, List.map_map]
  congr 1
  funext i
  rw [Function.comp_apply, apply_ite f, hd]

/-- The tree over the lanes of a register folds the enabled ones. -/
theorem FoldsOn.treeFold_redLanes {α : Type} {S : α → Prop} {op : α → α → α} {e : α} (h : FoldsOn S op e) (ty : Nat) (p : BitVec 128)
    (v : BitVec 1024) (f : Nat → α) (hf : ∀ x, S (f x)) {d : Nat} (hd : f d = e) (a : α) :
    (treeFold (fun _ _ a b => (op a b, 0)) a 7 ((redLanes p (typeWidth ty) d v).map f) 0).1.headD a =
      (((List.range (1024 / typeWidth ty)).filter (laneOn p (typeWidth ty))).map (fun i => f (laneAt (typeWidth ty) i v))).foldl op e := by
  obtain ⟨k, hk, hlanes⟩ := exists_lanes_eq_two_pow ty
  have hmem : ∀ x ∈ (redLanes p (typeWidth ty) d v).map f, S x := fun x hx => by
    obtain ⟨y, -, rfl⟩ := List.mem_map.mp hx
    exact hf y
  rw [h.treeFold_eq a hk (by rw [List.length_map, length_redLanes, hlanes]) hmem, List.headD_cons, redLanes_map f hd,
    h.foldl_map_ite _ _ (fun _ _ => hf _) h.unit]

/-- Sums of integers may be taken in any order. -/
theorem foldsOn_add : FoldsOn (fun _ : Int => True) (· + ·) 0 where
  unit := trivial
  closed _ _ _ _ := trivial
  comm a b _ _ := Int.add_comm a b
  assoc a b c _ _ _ := Int.add_assoc a b c
  neutral a _ := Int.add_zero a

/-- The sum of the lanes is that of the enabled ones. -/
theorem foldl_add_redLanes (p : BitVec 128) (width : Nat) (v : BitVec 1024) :
    ((redLanes p width 0 v).map (signed width)).foldl (· + ·) 0 =
      (((List.range (1024 / width)).filter (laneOn p width)).map (fun i => signed width (laneAt width i v))).sum := by
  have h0 : signed width 0 = 0 := by simp [signed]
  rw [redLanes_map _ h0, foldsOn_add.foldl_map_ite _ _ (fun _ _ => trivial) trivial, List.sum_eq_foldl]

section

variable (u : State) (c : TileRef) (w : U64)

/-- A reduction writes one value to every lane (log entry 24). -/
theorem vecWrites_vecSpread (width x : Nat) (fl : Flags) {ds : List Nat} {drawn : Nat → Nat} (hds : ∀ i, ds.count i = drawn i) :
    vecWrites u c w width (fun _ => .wr x) fl drawn
      ((u.vecSpread c.num w ((takeSources (u.ctx c.num) (vSources w) width).1.countDraws ds) width x fl).setPc c.num (u.nextPc c.num)) := by
  rw [State.vecSpread, Context.putVec_countDraws]
  exact vecWrites_putVec width List.length_replicate (fun i h => List.getElem_replicate h) rfl hds

/-- The same where no lane draws. -/
theorem vecWrites_vecSpread_zero (width x : Nat) (fl : Flags) :
    vecWrites u c w width (fun _ => .wr x) fl (fun _ => 0)
      ((u.vecSpread c.num w (takeSources (u.ctx c.num) (vSources w) width).1 width x fl).setPc c.num (u.nextPc c.num)) :=
  vecWrites_vecSpread u c w width x fl (ds := []) (fun _ => rfl)

/-- A sum of integers, exact before it is narrowed. -/
theorem vecWrites_vecSum_int (h : 1 < vType w) :
    let n := typeWidth (vType w)
    let on := (List.range (1024 / n)).filter (enabledLane u c w n)
    let x := intResult n (vIs w) (on.map (fun i => signed n (srcLane u c w n 0 i))).sum
    vecWrites u c w n (fun _ => .wr x.bits) x.flags (fun _ => 0) ((u.vecSum c.num w).setPc c.num (u.nextPc c.num)) := by
  unfold State.vecSum
  simp only [if_neg (Nat.not_le.mpr h), foldl_add_redLanes, laneOn_takeSources]
  exact vecWrites_vecSpread_zero u c w _ _ _

/-- A sum of Hazel values, by the tree of R151. -/
theorem vecWrites_vecSum_hazel (h : vType w ≤ 1) :
    let n := typeWidth (vType w)
    let x := u.hazelSum c.num w (typeHazel (vType w)) (redLanes ((u.ctx c.num).pred (vPred w)) n 0 ((srcVals u c w n).getD 0 0))
    vecWrites u c w n (fun _ => .wr x.1) x.2 (fun i => if vRm w = 2 then (sumDraws (1024 / n)).count i else 0)
      ((u.vecSum c.num w).setPc c.num (u.nextPc c.num)) := by
  have hp : (takeSources (u.ctx c.num) (vSources w) (typeWidth (vType w))).1.pred (vPred w) = (u.ctx c.num).pred (vPred w) := by
    rw [takeSources_fst]
    rfl
  unfold State.vecSum
  simp only [if_pos h, hp, length_redLanes]
  by_cases hrm : vRm w = 2
  · simp only [if_pos hrm]
    exact vecWrites_vecSpread u c w _ _ _ (fun _ => rfl)
  · simp only [if_neg hrm]
    exact vecWrites_vecSpread_zero u c w _ _ _

variable {dh : HFmt → Nat} {di : Nat → Nat} {fh : Val → Val → Val} {fi : Int → Int → Int}

/-- An extreme of integers. -/
theorem vecWrites_vecExtreme_int (h : 1 < vType w) {S : Int → Prop} {e : Int} (hfold : FoldsOn S fi e)
    (hS : ∀ x, S (signed (typeWidth (vType w)) x)) (he : signed (typeWidth (vType w)) (di (typeWidth (vType w))) = e) :
    let n := typeWidth (vType w)
    let on := (List.range (1024 / n)).filter (enabledLane u c w n)
    vecWrites u c w n (fun _ => .wr (toBits n ((on.map (fun i => signed n (srcLane u c w n 0 i))).foldl fi e))) 0 (fun _ => 0)
      ((u.vecExtreme c.num w dh di fh fi).setPc c.num (u.nextPc c.num)) := by
  unfold State.vecExtreme
  simp only [if_neg (Nat.not_le.mpr h), hfold.treeFold_redLanes _ _ _ _ hS he, laneOn_takeSources]
  exact vecWrites_vecSpread_zero u c w _ _ _

/-- An extreme of Hazel values, exact, with the flags of the result. -/
theorem vecWrites_vecExtreme_hazel (h : vType w ≤ 1) {e : Val} (hfold : FoldsOn (Val.inFormat (typeHazel (vType w))) fh e)
    (he : hazelVal (typeHazel (vType w)) (dh (typeHazel (vType w))) = e) :
    let n := typeWidth (vType w)
    let on := (List.range (1024 / n)).filter (enabledLane u c w n)
    let x := (on.map (fun i => hazelVal (typeHazel (vType w)) (srcLane u c w n 0 i))).foldl fh e
    vecWrites u c w n (fun _ => .wr (toHazel (typeHazel (vType w)) 0 false 0 x).bits) x.exactFlags (fun _ => 0)
      ((u.vecExtreme c.num w dh di fh fi).setPc c.num (u.nextPc c.num)) := by
  intro n on x
  have hin : ∀ b, (hazelVal (typeHazel (vType w)) b).inFormat (typeHazel (vType w)) := inFormat_hazelVal (typeHazel_expW_pos _)
  have hx : x.inFormat (typeHazel (vType w)) := hfold.foldl_mem (fun v hv => by
    obtain ⟨i, -, rfl⟩ := List.mem_map.mp hv
    exact hin _) hfold.unit
  unfold State.vecExtreme
  simp only [if_pos h, hfold.treeFold_redLanes _ _ _ _ hin he, laneOn_takeSources]
  rw [← toHazel_flags_of_inFormat hx 0 0 false]
  exact vecWrites_vecSpread_zero u c w _ _ _

end

/-! ## The obligation -/

/-- Settles O3: lane operations, conversions and reductions each write what the lemmas of their own say; the integer clause is
`intResult_narrows`. -/
theorem vectorConvertReduce : Obligations.VectorConvertReduce := by
  unfold Obligations.VectorConvertReduce
  refine ⟨fun s c w => ⟨fun h => ?exp2, fun h => ?norm, fun h => ?convert⟩, fun n sat z hn => intResult_narrows hn sat z,
    fun s c w => ⟨fun h hty => ?sumInt, fun h hty => ?sumHazel, fun h hty => ?maxInt, fun h hty => ?minInt,
      fun h hty => ?maxHazel, fun h hty => ?minHazel⟩⟩
  case exp2 =>
    refine completesTo_of_issues h rfl ?_
    by_cases hty : vType w = 0
    · rw [if_pos hty, if_pos hty]
      exact laneWise_vecLanes ..
    · rw [if_neg hty, if_neg hty]
      exact laneWise_vecLanes ..
  case norm =>
    refine completesTo_of_issues h rfl ?_
    by_cases hexp : vImm w / 256 % 2 = 1
    · rw [if_pos hexp, if_neg (by omega)]
      exact laneWise_vecLanes ..
    · rw [if_neg hexp, if_pos (by omega)]
      exact vecWrites_vecBlock ..
  case convert => exact completesTo_of_issues h rfl (vecWrites_vecConvert ..)
  case sumInt => exact completesTo_of_issues h rfl (vecWrites_vecSum_int _ c w hty)
  case sumHazel => exact completesTo_of_issues h rfl (vecWrites_vecSum_hazel _ c w hty)
  case maxInt =>
    exact completesTo_of_issues h rfl (vecWrites_vecExtreme_int _ c w hty (foldsOn_max _)
      (fun x => (signed_bounds (typeWidth_pos _) x).1) (signed_two_pow_pred (typeWidth_pos _)))
  case minInt =>
    exact completesTo_of_issues h rfl (vecWrites_vecExtreme_int _ c w hty (foldsOn_min _)
      (fun x => (signed_bounds (typeWidth_pos _) x).2) (signed_two_pow_pred_sub_one (typeWidth_pos _)))
  case maxHazel =>
    exact completesTo_of_issues h rfl (vecWrites_vecExtreme_hazel _ c w hty (foldsOn_maxV _) (hazelVal_infinity _ _))
  case minHazel =>
    exact completesTo_of_issues h rfl (vecWrites_vecExtreme_hazel _ c w hty (foldsOn_minV _) (hazelVal_infinity _ _))

end Sys2Proof.Machine
end

section
/-! SUPPORT. Sums over planes (R82, R83): ones counted bit by bit, indexed lists as sums over positions, and folds that write one key a step. -/

namespace Sys2Proof.Machine

/-! ## Sums -/

section
variable {ι κ : Type}

theorem sum_map_add_distrib (f g : ι → Int) (l : List ι) : (l.map fun i => f i + g i).sum = (l.map f).sum + (l.map g).sum := by
  induction l with
  | nil => rfl
  | cons i l ih =>
    simp only [List.map_cons, List.sum_cons, ih]
    omega

theorem sum_map_const_mul (a : Int) (f : ι → Int) (l : List ι) : (l.map fun i => a * f i).sum = a * (l.map f).sum := by
  induction l with
  | nil => exact (Int.mul_zero a).symm
  | cons i l ih => simp only [List.map_cons, List.sum_cons, ih, Int.mul_add]

theorem sum_map_mul_const (f : ι → Int) (a : Int) (l : List ι) : (l.map fun i => f i * a).sum = (l.map f).sum * a := by
  simp only [Int.mul_comm _ a, sum_map_const_mul]

/-- The order of a double sum is free. -/
theorem sum_map_sum_comm (f : ι → κ → Int) (l : List ι) (m : List κ) :
    (l.map fun i => (m.map fun j => f i j).sum).sum = (m.map fun j => (l.map fun i => f i j).sum).sum := by
  induction l with
  | nil =>
    have hzero := sum_map_const_mul 0 (fun _ : κ => 0) m
    simp only [Int.zero_mul] at hzero
    exact hzero.symm
  | cons i l ih => simp only [List.map_cons, List.sum_cons, ih, sum_map_add_distrib]

theorem foldl_add_eq_sum_map (f : ι → Int) (l : List ι) : l.foldl (fun acc e => acc + f e) 0 = (l.map f).sum := by
  rw [List.sum_eq_foldl, List.foldl_map]

end

/-- A list with its positions, position by position. -/
theorem zipIdx_eq_map_range {α : Type} (d : α) (l : List α) : l.zipIdx = (List.range l.length).map (fun k => (l.getD k d, k)) := by
  refine List.ext_getElem (by rw [List.length_zipIdx, List.length_map, List.length_range]) (fun k hk _ => ?_)
  have hkl : k < l.length := by rwa [List.length_zipIdx] at hk
  rw [List.getElem_zipIdx, List.getElem_map, List.getElem_range, Nat.zero_add, List.getD_eq_getElem?_getD,
    List.getElem?_eq_getElem hkl, Option.getD_some]

/-- The ones among the low bits, counted bit by bit. -/
theorem popCount_eq_sum (n x : Nat) : (popCount n x : Int) = ((List.range n).map fun i => if x.testBit i then 1 else 0).sum := by
  induction n generalizing x with
  | zero => rfl
  | succ n ih =>
    have hbit : ((x % 2 : Nat) : Int) = if x.testBit 0 then 1 else 0 := by
      rw [Nat.testBit_zero]
      obtain h | h := Nat.mod_two_eq_zero_or_one x <;> rw [h] <;> rfl
    rw [popCount, Int.natCast_add, ih, hbit, List.range_succ_eq_map, List.map_cons, List.sum_cons, List.map_map]
    simp only [Function.comp_def, Nat.testBit_succ]

/-! ## One pass over one block (R83) -/

theorem mul_bit (a : Int) (b : Bool) : (a * if b then 1 else 0) = if b then a else 0 := by
  cases b
  · exact Int.mul_zero a
  · exact Int.mul_one a

/-- The ones that two planes share, times the weight of one of them: the bits of that plane, weighted, at the ones of the other. -/
theorem mul_popCount_and (a : Int) (n x y : Nat) :
    a * (popCount n (x &&& y) : Int) =
      ((List.range n).map fun i => (if x.testBit i then a else 0) * if y.testBit i then 1 else 0).sum := by
  rw [popCount_eq_sum, ← sum_map_const_mul]
  congr 2
  funext i
  rw [Nat.testBit_and, mul_bit, mul_bit]
  cases x.testBit i <;> cases y.testBit i <;> rfl

/-- T_jk: the ones that meet in the planes, weighted, are the nibbles of the cells whose activation bit is 1. -/
theorem tree_eq_sum_nibbleAt (top : Bool) (wp : List Nat) (aw : Nat) :
    (wp.zipIdx.map fun e => nibWeight top e.2 * (popCount 32 (e.1 &&& aw) : Int)).sum =
      ((List.range 32).map fun i => nibbleAt top wp i * if aw.testBit i then 1 else 0).sum := by
  simp only [mul_popCount_and]
  rw [sum_map_sum_comm]
  simp only [sum_map_mul_const, nibbleAt]

/-- P_j (R83), over the activation planes. -/
theorem passSum_eq_sum_zipIdx (top : Bool) (wp ap : List Nat) :
    passSum top wp ap = (ap.zipIdx.map fun e => (if e.2 + 1 = ap.length then -1 else 1) * 2 ^ e.2 *
      ((List.range 32).map fun i => nibbleAt top wp i * if e.1.testBit i then 1 else 0).sum).sum := by
  unfold passSum
  simp only [foldl_add_eq_sum_map, tree_eq_sum_nibbleAt]

/-- One pass is the dot product of the block's nibbles and mantissas. -/
theorem passSum_eq_dot (top : Bool) (wp ap : List Nat) :
    passSum top wp ap = ((List.range 32).map fun i => nibbleAt top wp i * mantissaAt ap i).sum := by
  simp only [passSum_eq_sum_zipIdx, mantissaAt, ← sum_map_const_mul]
  rw [sum_map_sum_comm]
  congr 2
  funext i
  congr 2
  funext e
  rw [Int.mul_left_comm, mul_bit]

/-! ## The pass buffer (R85) -/

namespace SMap

variable {α ι : Type} [DecidableEq α] (d : α) {key : ι → Nat} (hkey : ∀ i j, key i = key j → i = j) (g : ι → α → α)

/-- A fold that rewrites one key a step: the map it leaves. -/
def updateAll (key : ι → Nat) (l : List ι) (m : SMap α) : SMap α := l.foldl (fun m i => set d m (key i) (g i (get d m (key i)))) m

include hkey

theorem get_updateAll_of_notMem {i : ι} {l : List ι} (hi : i ∉ l) (m : SMap α) :
    get d (updateAll d g key l m) (key i) = get d m (key i) := by
  induction l generalizing m with
  | nil => rfl
  | cons j l ih =>
    obtain ⟨hij, hil⟩ := List.ne_and_not_mem_of_not_mem_cons hi
    exact (ih hil _).trans (get_set_ne d d m _ (mt (hkey _ _) hij))

theorem get_updateAll_of_mem {i : ι} {l : List ι} (hl : l.Nodup) (hi : i ∈ l) (m : SMap α) :
    get d (updateAll d g key l m) (key i) = g i (get d m (key i)) := by
  induction l generalizing m with
  | nil => exact absurd hi List.not_mem_nil
  | cons j l ih =>
    obtain ⟨hjl, hl⟩ := List.nodup_cons.mp hl
    obtain rfl | hil := List.mem_cons.mp hi
    · exact (get_updateAll_of_notMem d hkey g hjl _).trans (get_set_self d m _ _)
    · have hij : i ≠ j := fun h => hjl (h ▸ hil)
      exact (ih hl hil _).trans (congrArg (g i) (get_set_ne d d m _ (mt (hkey _ _) hij)))

end SMap

section
variable (ws : WeightSet) (axis : Bool) (pa : Nat) (act : Nat → Nat → Nat)

/-- What a pass before the last makes of the word that the pass buffer holds of a block. -/
def passWord (out b : Nat) (held : BitVec 37) : BitVec 37 :=
  BitVec.ofInt 37 ((if ws.nib.toNat = 0 then 0 else held.toInt) +
    16 ^ ws.nib.toNat * passSum false (weightPlanes ws axis out b) ((List.range pa).map (act b)))

/-- A pass before the last changes the pass buffer at the four blocks of its output. -/
theorem feedOutput_pass_of_not_finalPass (h : finalPass ws = false) (aScale : Nat → Nat) (slot v out : Nat) (x : Tile) :
    (feedOutput ws axis pa act aScale slot v x out).pass =
      SMap.updateAll 0 (passWord ws axis pa act out) (fun b => (128 * v + out) * 4 + b) (List.range 4) x.pass := by
  simp only [feedOutput, h, Bool.false_eq_true, if_false]
  exact (List.foldl_hom Tile.pass fun _ _ => rfl).symm
end

end Sys2Proof.Machine
end

section
/-! PROOFS. The bit-serial dot product (R82, R83, R85). -/

namespace Sys2Proof.Machine

/-- Settles O11: each pass is a dot product with its nibbles, so the weighted sum of the passes is one with the weights; the pass buffer is
written at one key a block. -/
theorem bitSerialDot : Obligations.BitSerialDot := by
  unfold Obligations.BitSerialDot
  refine ⟨fun top wp ap _ _ => ?pass, fun wps ap _ _ => ?passes, ?buffer⟩
  case pass =>
    rw [passSum_eq_sum_zipIdx, zipIdx_eq_map_range 0, List.map_map]
    rfl
  case passes =>
    intro top
    simp only [passSum_eq_dot, ← sum_map_const_mul, ← sum_map_mul_const, Int.mul_assoc]
    exact sum_map_sum_comm _ _ _
  case buffer =>
    intro ws axis pa act aScale slot v out b x hfin hb key
    have hkey : ∀ i j, (128 * v + out) * 4 + i = (128 * v + out) * 4 + j → i = j := fun _ _ => Nat.add_left_cancel
    rw [feedOutput_pass_of_not_finalPass ws axis pa act hfin]
    exact SMap.get_updateAll_of_mem 0 hkey (passWord ws axis pa act out) List.nodup_range (List.mem_range.mpr hb) x.pass

end Sys2Proof.Machine
end

section
/-! SUPPORT. What an instruction that changes its own context alone leaves, one that writes a scalar among them (R129, R142), and an upper field
of a word that was set. -/

namespace Sys2Proof.Machine

/-! ## An instruction that changes its own context alone -/

/-- The address of the next word. -/
theorem State.ofNat_nextPc (u : State) (k : Nat) : BitVec.ofNat 18 (u.nextPc k) = (u.ctx k).pc + 8 := by
  rw [State.nextPc, BitVec.ofNat_add, BitVec.ofNat_toNat, BitVec.setWidth_eq]
  rfl

/-- A context that was set and that goes on at an address. -/
theorem State.ctx_setPc_setCtx (u : State) (k : Nat) (x : Context) (a : Nat) :
    ((u.setCtx k x).setPc k a).ctx k = { x with pc := BitVec.ofNat 18 a } := by
  rw [State.setPc, State.ctx_setCtx_self, State.ctx_setCtx_self]

/-- Another context is left. -/
theorem State.ctx_setPc_setCtx_ne (u : State) {k j : Nat} (x : Context) (a : Nat) (h : j ≠ k) :
    ((u.setCtx k x).setPc k a).ctx j = u.ctx j := by
  rw [State.setPc, State.ctx_setCtx_ne _ _ h, State.ctx_setCtx_ne _ _ h]

/-! ## Scalars (R129) -/

theorem Context.scalar_setScalar (x : Context) (i : Nat) (v : U64) (j : Nat) :
    (x.setScalar i v).scalar j = if j = i ∧ i ≠ 0 then v else x.scalar j := by
  unfold Context.setScalar
  by_cases hi : i = 0
  · rw [if_pos hi, if_neg (fun h => h.2 hi)]
  · rw [if_neg hi]
    by_cases hj : j = i
    · subst hj
      rw [if_pos ⟨rfl, hi⟩, Context.scalar, if_neg hi]
      exact SMap.get_set_self ..
    · rw [if_neg (fun h => hj h.1)]
      unfold Context.scalar
      rw [SMap.get_set_ne _ _ _ _ hj]

/-- A write of a scalar changes the scalars alone. -/
theorem Context.setScalar_frame (x : Context) (i : Nat) (v : U64) : x.setScalar i v = { x with sc := (x.setScalar i v).sc } := by
  unfold Context.setScalar
  split <;> rfl

/-- An instruction that has written scalar `i` and that goes on at the next word. -/
theorem scalarWrites_setScalar (u : State) (c : TileRef) (i : Nat) (v : U64) :
    scalarWrites u c i v ((u.setCtx c.num ((u.ctx c.num).setScalar i v)).setPc c.num (u.nextPc c.num)) := by
  unfold scalarWrites
  simp only [State.ctx_setPc_setCtx, State.ofNat_nextPc]
  refine ⟨Context.scalar_setScalar _ i v, ?_, fun j hj => State.ctx_setPc_setCtx_ne u _ _ hj, rfl⟩
  rw [Context.setScalar_frame]

/-- A write of a scalar raises no flag. -/
theorem scalarWrites.vf_eq {u t : State} {c : TileRef} {i : Nat} {v : U64} (h : scalarWrites u c i v t) :
    (t.ctx c.num).vf = (u.ctx c.num).vf := by
  obtain ⟨-, hctx, -⟩ := h
  rw [hctx]

/-- A command whose effect is to write scalar SD. -/
theorem completesTo_setScalar {i : Instr} {s : State} {c : TileRef} {opc : Nat} {w v : U64} {act : State → U64 → State}
    (h : issues s c opc w) (hexec : exec i s = .next (s.issueNext c.num opc act))
    (hact : act (issued s c w) w = (issued s c w).setCtx c.num (((issued s c w).ctx c.num).setScalar (sSd w) v)) :
    completesTo i s (fun t => scalarWrites (issued s c w) c (sSd w) v t ∧ (t.ctx c.num).vf = ((issued s c w).ctx c.num).vf) := by
  have hwrites := scalarWrites_setScalar (issued s c w) c (sSd w) v
  rw [← hact] at hwrites
  exact completesTo_of_issues h hexec ⟨hwrites, hwrites.vf_eq⟩

/-! ## Fields -/

/-- A value whose upper field was set: the field above what lay below it. -/
theorem setFld_upper {w : Nat} (v : BitVec w) {lo n : Nat} (x : Nat) (h : lo + n = w) :
    setFld v lo n x = BitVec.ofNat w (x * 2 ^ lo + fld v 0 lo) := by
  refine BitVec.eq_of_getLsbD_eq fun i hi => ?_
  rw [getLsbD_setFld, BitVec.getLsbD_ofNat, Nat.mul_comm, Nat.testBit_two_pow_mul_add _ (fld_lt v 0 lo), testBit_fld, Nat.zero_add]
  by_cases hlo : i < lo
  · rw [if_neg (fun hin => Nat.not_le.mpr hlo hin.1), if_pos hlo, decide_eq_true hlo, Bool.true_and]
  · rw [if_pos ⟨Nat.not_lt.mp hlo, h ▸ hi⟩, if_neg hlo]

end Sys2Proof.Machine
end

section
/-! PROOFS. The scalar instructions (R142, R147). -/

namespace Sys2Proof.Machine

/-- The fields of format S make up the word. -/
theorem toNat_eq_fieldsS (w : U64) :
    w.toNat = vOpc w * 2 ^ 56 + sSd w * 2 ^ 51 + sSa w * 2 ^ 46 + sSb w * 2 ^ 41 + w.toNat / 2 ^ 32 % 2 ^ 9 * 2 ^ 32 + fld w 0 32 := by
  have hw : w.toNat < 2 ^ 64 := w.isLt
  simp only [vOpc, sSd, sSa, sSb, fld, Nat.shiftRight_eq_div_pow]
  omega

/-- Settles O7: the effect of each scalar instruction is by definition a write of SD, for which `completesTo_setScalar` says what completes; that
of slih sets the upper half of SD, which `setFld_upper` puts as a number. -/
theorem scalarOps : Obligations.ScalarOps := by
  unfold Obligations.ScalarOps
  intro s c w
  refine ⟨⟨toNat_eq_fieldsS w, fld_lt w 56 8, fld_lt w 51 5, fld_lt w 46 5, fld_lt w 41 5⟩,
    fun h => completesTo_setScalar h rfl rfl, fun h => completesTo_setScalar h rfl rfl, fun h => completesTo_setScalar h rfl rfl,
    fun h => completesTo_setScalar h rfl rfl, fun h => completesTo_setScalar h rfl rfl, fun h => completesTo_setScalar h rfl rfl,
    fun h => completesTo_setScalar h rfl rfl, fun h => completesTo_setScalar h rfl rfl, fun h => completesTo_setScalar h rfl rfl,
    fun h => completesTo_setScalar h rfl rfl, fun h => completesTo_setScalar h rfl rfl,
    fun h => completesTo_setScalar h rfl ?upper, fun h => completesTo_setScalar h rfl rfl⟩
  case upper =>
    have hupper := setFld_upper (((issued s c w).ctx c.num).scalar (sSd w)) (fld w 0 32) (lo := 32) (n := 32) rfl
    rw [← hupper]

end Sys2Proof.Machine
end

section
/-! SUPPORT. SRAM without errors (R262, R263): a read gives the bytes as they stand, and a write puts its bytes in place and keeps every other. -/

namespace Sys2Proof.Machine

/-! ## Bytes of a number -/

/-- A byte of a number that bytes spell. -/
theorem ofLe_div_pow_mod (l : List Byte) {i : Nat} (h : i < l.length) : ofLe l / 256 ^ i % 256 = l[i].toNat := by
  induction l generalizing i with
  | nil => exact absurd h (Nat.not_lt_zero i)
  | cons b l ih =>
    have hb : b.toNat < 256 := b.isLt
    cases i with
    | zero => simpa [ofLe] using Nat.mod_eq_of_lt hb
    | succ i =>
      rw [ofLe, Nat.pow_succ', ← Nat.div_div_eq_div_mul, Nat.add_mul_div_left _ _ (by decide), Nat.div_eq_of_lt hb, Nat.zero_add,
        ih (Nat.lt_of_succ_lt_succ h), List.getElem_cons_succ]

/-- A byte of a word is its field. -/
theorem getElem_leBytes_toNat {w : Nat} (v : BitVec w) {n i : Nat} (h : i < (leBytes n v.toNat).length) :
    (leBytes n v.toNat)[i] = BitVec.ofNat 8 (fld v (8 * i) 8) := by
  have hbyte : ∀ (n x i : Nat) (h : i < (leBytes n x).length), (leBytes n x)[i] = BitVec.ofNat 8 (x / 256 ^ i) := by
    intro n
    induction n with
    | zero => exact fun x i h => absurd h (Nat.not_lt_zero i)
    | succ n ih =>
      intro x i h
      cases i with
      | zero => simp [leBytes]
      | succ i => simp only [leBytes, List.getElem_cons_succ, ih, Nat.div_div_eq_div_mul, Nat.pow_succ']
  apply BitVec.eq_of_toNat_eq
  rw [hbyte, fld, Nat.shiftRight_eq_div_pow, Nat.pow_mul]
  simp

/-- The bytes of a word after some of them are set. -/
theorem fld_foldl_setFld {w : Nat} (p : Nat → Prop) [DecidablePred p] (f : Nat → Nat) (v : BitVec w) (n : Nat) {i : Nat} (h : 8 * i + 8 ≤ w) :
    fld ((List.range n).foldl (fun v j => if p j then setFld v (8 * j) 8 (f j) else v) v) (8 * i) 8 =
      if i < n ∧ p i then f i % 2 ^ 8 else fld v (8 * i) 8 := by
  induction n with
  | zero => simp
  | succ n ih =>
    rw [List.range_succ, List.foldl_append, List.foldl_cons, List.foldl_nil]
    by_cases hin : i = n
    · subst hin
      by_cases hp : p i
      · rw [if_pos hp, fld_setFld_self _ _ _ _ h, if_pos ⟨Nat.lt_succ_self i, hp⟩]
      · rw [if_neg hp, ih, if_neg (fun hi => hp hi.2), if_neg (fun hi => hp hi.2)]
    · have hlt : i < n + 1 ↔ i < n := by omega
      simp only [hlt]
      rw [← ih]
      split
      · exact fld_setFld_ne _ _ _ _ _ _ (by omega)
      · rfl

variable (s : State)

/-! ## Reads -/

@[simp] theorem State.length_bytes (a n : Nat) : (s.bytes a n).length = n := by simp [State.bytes]

/-- A byte of the data of an SRAM word. -/
theorem State.fld_sramData (w : Nat) {j : Nat} (h : j < 8) : fld (s.sramData w) (8 * j) 8 = (s.byte (8 * w + j)).toNat := by
  have hj : j < (s.bytes (8 * w) 8).length := by simpa using h
  have hbyte := ofLe_div_pow_mod _ hj
  have hmem : (s.bytes (8 * w) 8)[j] = s.byte (8 * w + j) := by simp [State.bytes]
  have hpow : 256 ^ j * 256 ^ (8 - j) = 256 ^ 8 := by rw [← Nat.pow_add, Nat.add_sub_cancel' (Nat.le_of_lt h)]
  have h64 : 2 ^ 64 = 256 ^ j * 256 ^ (8 - j) := Eq.trans (by decide : 2 ^ 64 = 256 ^ 8) hpow.symm
  have h256 : 256 ∣ 256 ^ (8 - j) := by
    rw [show 8 - j = 7 - j + 1 by omega, Nat.pow_succ]
    exact Nat.dvd_mul_left 256 _
  rw [fld, State.sramData, State.readNat, BitVec.toNat_ofNat, Nat.shiftRight_eq_div_pow, Nat.pow_mul, h64, ← hmem, ← hbyte]
  change _ % (256 ^ j * 256 ^ (8 - j)) / 256 ^ j % 256 = _
  rw [Nat.mod_mul_right_div_self, Nat.mod_mod_of_dvd _ h256]

variable {s}

/-- No word of sound SRAM is in error. -/
theorem State.badSram_of_sound (h : sramSound s) (a n : Nat) : s.badSram a n = [] := by
  obtain ⟨hdiff, hmarks⟩ := h
  have hfailed : (List.range 256).filterMap (fun i => if bitOf (s.objW 0xA002 2 i) 63 then some (fld (s.objW 0xA002 2 i) 0 44 / 8) else none) = [] :=
    List.filterMap_eq_nil_iff.mpr fun i hi => by simp [hmarks i (List.mem_range.mp hi)]
  simp only [State.badSram, hdiff, hfailed]
  rfl

/-- A word without an error reads as it is stored. -/
theorem State.sramRead_of_sramDiff (h : s.sramDiff = []) (w : Nat) : s.sramRead w = s.sramData w := by
  have hok : s.sramFinding w = .ok := by simp [State.sramFinding, State.sramDiffAt, h, SMap.get, sramCheckWord]
  rw [State.sramRead, hok]

/-- A read of sound SRAM. -/
theorem State.readMem_of_sound (h : sramSound s) {a n : Nat} (hn : 0 < n) (hstack : isStack a = false) (who : Option Nat) (byEngine : Bool) :
    s.readMem a n who byEngine = (s, s.bytes a n, false) := by
  simp [State.readMem, State.badSram_of_sound h, hstack, Nat.ne_of_gt hn]

/-- A write of sound SRAM. -/
theorem State.writeMem_of_sound (h : sramSound s) {a : Nat} {data : List Byte} (hn : 0 < data.length) (hstack : isStack a = false)
    (en : Nat → Bool) (who : Option Nat) : s.writeMem a data en who = (s.mergeSram a data en, false) := by
  simp [State.writeMem, State.badSram_of_sound h, hstack, Nat.ne_of_gt hn]

/-- An access of SRAM finds nothing queued before it, and no stack counts it. -/
theorem State.arrive_of_sram {a : Nat} (hstack : isStack a = false) (who : Option Nat) (n : Nat) : s.arrive who a n = s := by
  simp [State.arrive, State.drainLines, State.countAccess, hstack]

/-- A read of sound SRAM that is not refused. -/
theorem State.readNow_of_sound (h : sramSound s) {who : Option Nat} {a n : Nat} (hn : 0 < n) (hstack : isStack a = false)
    (hcode : s.accessCode who a n = 0) : s.readNow who a n = (s, s.bytes a n, 0) := by
  simp [State.readNow, State.arrive_of_sram hstack, State.readAs, hcode, State.readMem_of_sound h hn hstack]

/-- A write of sound SRAM that is not refused. -/
theorem State.writeNow_of_sound (h : sramSound s) {who : Option Nat} {a : Nat} {data : List Byte} (hn : 0 < data.length)
    (hstack : isStack a = false) (hcode : s.accessCode who a data.length = 0) (en : Nat → Bool) :
    s.writeNow who a data en = (s.mergeSram a data en, 0) := by
  simp [State.writeNow, State.arrive_of_sram hstack, State.writeAs, hcode, State.writeMem_of_sound h hn hstack]

/-! ## What a write of SRAM changes -/

/-- From `s` to `t` a write of SRAM has changed bytes, their codes and marks, and instruction caches: nothing else (R46, R127, R263). -/
def sramOnly (s t : State) : Prop :=
  t = { s with mem := t.mem, sramDiff := t.sramDiff, writeBack := t.writeBack, written := t.written, groves := t.groves }

theorem sramOnly.trans {s t v : State} (h₁ : sramOnly s t) (h₂ : sramOnly t v) : sramOnly s v :=
  Eq.trans h₂ (congrArg (fun x : State =>
    { x with mem := v.mem, sramDiff := v.sramDiff, writeBack := v.writeBack, written := v.written, groves := v.groves }) h₁)

theorem State.setBytes_eq (s : State) (a : Nat) (l : List Byte) : s.setBytes a l = { s with mem := (s.setBytes a l).mem } := by
  induction l generalizing s a with
  | nil => rfl
  | cons b l ih => exact ih (s.setByte a b) (a + 1)

theorem State.markLine_eq (s : State) (a : Nat) :
    s.markLine a = { s with written := (s.markLine a).written, groves := (s.markLine a).groves } := by
  unfold State.markLine
  split
  · dsimp only
    split <;> rfl
  · rfl

/-- The state of `storeWord` before its line is marked. -/
def State.putWord (s : State) (w : Nat) (v : U64) : State :=
  { (s.setBytes (8 * w) (leBytes 8 v.toNat)).setSramDiff w 0 with writeBack := SMap.set false s.writeBack w false }

theorem State.storeWord_eq (s : State) (w : Nat) (v : U64) : s.storeWord w v = (s.putWord w v).markLine (8 * w) := rfl

theorem sramOnly_with (s : State) (mem : List Host.Cell) (diff : SMap Byte) (back written : SMap Bool) (groves : SMap Grove) :
    sramOnly s { s with mem := mem, sramDiff := diff, writeBack := back, written := written, groves := groves } := rfl

theorem State.putWord_eq (s : State) (w : Nat) (v : U64) : s.putWord w v = { s with
    mem := (s.setBytes (8 * w) (leBytes 8 v.toNat)).mem, sramDiff := SMap.set 0 s.sramDiff w 0
    writeBack := SMap.set false s.writeBack w false } := by
  have hbytes := State.setBytes_eq s (8 * w) (leBytes 8 v.toNat)
  unfold State.putWord
  generalize s.setBytes (8 * w) (leBytes 8 v.toNat) = t at hbytes ⊢
  obtain ⟨mem, rfl⟩ : ∃ mem, t = { s with mem := mem } := ⟨_, hbytes⟩
  rfl

theorem sramOnly_storeWord (s : State) (w : Nat) (v : U64) : sramOnly s (s.storeWord w v) := by
  rw [State.storeWord_eq, State.markLine_eq, State.putWord_eq]
  exact sramOnly_with s _ _ _ _ _

/-- A byte depends on the byte store and on which units a reset scrambled. -/
theorem State.byte_congr {s t : State} (hmem : t.mem = s.mem) (hscram : t.scram = s.scram) (c : Nat) : t.byte c = s.byte c := by
  rw [State.byte, State.byte, hmem, hscram]

theorem sramOnly.scram_eq {s t : State} (h : sramOnly s t) : t.scram = s.scram := by
  rw [h]

/-- The bytes after a word is stored. -/
theorem State.byte_storeWord (s : State) (w : Nat) (v : U64) (c : Nat) :
    (s.storeWord w v).byte c = if c / 8 = w then BitVec.ofNat 8 (fld v (8 * (c % 8)) 8) else s.byte c := by
  have hset : (s.storeWord w v).byte c = (s.setBytes (8 * w) (leBytes 8 v.toNat)).byte c :=
    State.byte_congr (by rw [State.storeWord_eq, State.markLine_eq]; rfl)
      ((sramOnly_storeWord s w v).scram_eq.trans (State.setBytes_scram s _ _).symm) c
  rw [hset]
  by_cases hc : c / 8 = w
  · have hlt : c % 8 < (leBytes 8 v.toNat).length := by simpa using Nat.mod_lt c (by decide)
    have hcw : 8 * w + c % 8 = c := by omega
    have hbyte := State.byte_setBytes s (leBytes 8 v.toNat) (8 * w) (c % 8) hlt
    rw [hcw] at hbyte
    rw [hbyte, if_pos hc, getElem_leBytes_toNat]
  · rw [if_neg hc]
    exact State.byte_setBytes_ne s _ _ _ (by rw [length_leBytes]; omega)

/-- A stored word leaves no error behind. -/
theorem State.sramDiff_storeWord (h : s.sramDiff = []) (w : Nat) (v : U64) : (s.storeWord w v).sramDiff = [] := by
  rw [State.storeWord_eq, State.markLine_eq, State.putWord_eq, h]
  rfl

/-! ## A write, word by word -/

/-- The byte at `c` after the enabled bytes of `data` are written at `a`. -/
def State.mergedByte (s : State) (a : Nat) (data : List Byte) (en : Nat → Bool) (c : Nat) : Byte :=
  if a ≤ c ∧ c < a + data.length ∧ en (c - a) = true then data.getD (c - a) 0 else s.byte c

/-- An SRAM word with the bytes of `data` that fall into it. -/
def State.mergedWord (s : State) (a : Nat) (data : List Byte) (en : Nat → Bool) (w : Nat) : U64 :=
  (List.range 8).foldl (fun v j =>
    if a ≤ 8 * w + j ∧ 8 * w + j < a + data.length ∧ en (8 * w + j - a) = true then
      setFld v (8 * j) 8 (data.getD (8 * w + j - a) 0).toNat
    else v) (s.sramRead w)

/-- What a write of `data` does to one SRAM word. -/
def State.mergeWord (s : State) (a : Nat) (data : List Byte) (en : Nat → Bool) (w : Nat) : State :=
  if (wordCover 8 a data.length en w).1 then s.storeWord w (s.mergedWord a data en w) else s

theorem State.mergeSram_eq_foldl (s : State) (a : Nat) (data : List Byte) (en : Nat → Bool) :
    s.mergeSram a data en = (List.range ((a + data.length - 1) / 8 - a / 8 + 1)).foldl (fun s i => s.mergeWord a data en (a / 8 + i)) s := rfl

variable (a : Nat) (data : List Byte) (en : Nat → Bool)

/-- A byte of a merged word. -/
theorem State.fld_mergedWord (h : s.sramDiff = []) (c : Nat) :
    BitVec.ofNat 8 (fld (s.mergedWord a data en (c / 8)) (8 * (c % 8)) 8) = s.mergedByte a data en c := by
  have hlt : c % 8 < 8 := Nat.mod_lt c (by decide)
  rw [State.mergedWord, fld_foldl_setFld (fun j => a ≤ 8 * (c / 8) + j ∧ 8 * (c / 8) + j < a + data.length ∧ en (8 * (c / 8) + j - a) = true)
    (fun j => (data.getD (8 * (c / 8) + j - a) 0).toNat) _ _ (by omega), State.sramRead_of_sramDiff h, State.fld_sramData s _ hlt, Nat.div_add_mod]
  simp only [hlt, true_and, State.mergedByte]
  split
  · rw [Nat.mod_eq_of_lt (data.getD (c - a) 0).isLt, BitVec.ofNat_toNat, BitVec.setWidth_eq]
  · rw [BitVec.ofNat_toNat, BitVec.setWidth_eq]

/-- A word that the write does not reach keeps its bytes. -/
theorem State.mergedByte_of_not_covered {w : Nat} (h : (wordCover 8 a data.length en w).1 = false) {c : Nat} (hc : c / 8 = w) :
    s.mergedByte a data en c = s.byte c := by
  rw [State.mergedByte, if_neg]
  rintro ⟨hlo, hhi, hen⟩
  have hcw : 8 * w + c % 8 = c := by omega
  have hnone := List.any_eq_false.mp h (c % 8) (List.mem_range.mpr (Nat.mod_lt c (by decide)))
  simp [hcw, hlo, hhi, hen] at hnone

theorem State.byte_mergeWord (h : s.sramDiff = []) (w c : Nat) :
    (s.mergeWord a data en w).byte c = if c / 8 = w then s.mergedByte a data en c else s.byte c := by
  unfold State.mergeWord
  split
  · rw [State.byte_storeWord]
    split
    · next hc => rw [← hc, State.fld_mergedWord a data en h]
    · rfl
  · next hcover =>
    split
    · next hc => rw [State.mergedByte_of_not_covered a data en (Bool.eq_false_iff.mpr hcover) hc]
    · rfl

theorem State.sramDiff_mergeWord (h : s.sramDiff = []) (w : Nat) : (s.mergeWord a data en w).sramDiff = [] := by
  unfold State.mergeWord
  split
  · exact State.sramDiff_storeWord h _ _
  · exact h

/-- The first `m` words of a write are done, and no other. -/
theorem State.foldl_mergeWord (h : s.sramDiff = []) (m : Nat) :
    let t := (List.range m).foldl (fun s i => s.mergeWord a data en (a / 8 + i)) s
    t.sramDiff = [] ∧ ∀ c, t.byte c = if a / 8 ≤ c / 8 ∧ c / 8 < a / 8 + m then s.mergedByte a data en c else s.byte c := by
  induction m with
  | zero => exact ⟨h, fun c => (if_neg (by omega)).symm⟩
  | succ m ih =>
    obtain ⟨hdiff, hbyte⟩ := ih
    rw [List.range_succ, List.foldl_append, List.foldl_cons, List.foldl_nil]
    refine ⟨State.sramDiff_mergeWord a data en hdiff _, fun c => ?_⟩
    rw [State.byte_mergeWord a data en hdiff]
    by_cases hc : c / 8 = a / 8 + m
    · have hold := hbyte c
      rw [if_neg (by omega)] at hold
      rw [if_pos hc, if_pos (by omega), State.mergedByte, State.mergedByte, hold]
    · have hdone : a / 8 ≤ c / 8 ∧ c / 8 < a / 8 + (m + 1) ↔ a / 8 ≤ c / 8 ∧ c / 8 < a / 8 + m := by omega
      rw [if_neg hc, hbyte]
      simp only [hdone]

/-- The bytes after a write of SRAM without errors (R263). -/
theorem State.byte_mergeSram (h : s.sramDiff = []) (c : Nat) : (s.mergeSram a data en).byte c = s.mergedByte a data en c := by
  obtain ⟨-, hbyte⟩ := State.foldl_mergeWord a data en h ((a + data.length - 1) / 8 - a / 8 + 1)
  rw [State.mergeSram_eq_foldl, hbyte]
  split
  · rfl
  · next hout =>
    rw [State.mergedByte, if_neg]
    rintro ⟨hlo, hhi, -⟩
    omega

theorem sameBytesBut_mergeSram (h : s.sramDiff = []) : sameBytesBut s (s.mergeSram a data en) a data.length := by
  intro c hc
  rw [State.byte_mergeSram a data en h, State.mergedByte, if_neg (by omega)]

/-- The bytes written are there. -/
theorem State.bytes_mergeSram (h : s.sramDiff = []) : (s.mergeSram a data allBytes).bytes a data.length = data := by
  refine List.ext_getElem (State.length_bytes _ _ _) fun i hi hi' => ?_
  simp only [State.bytes, List.getElem_map, List.getElem_range]
  rw [State.byte_mergeSram a data allBytes h, State.mergedByte,
    if_pos ⟨Nat.le_add_right a i, Nat.add_lt_add_left hi' a, rfl⟩, Nat.add_sub_cancel_left, List.getElem_eq_getD]

theorem sramOnly_mergeSram (s : State) : sramOnly s (s.mergeSram a data en) := by
  rw [State.mergeSram_eq_foldl]
  refine List.foldlRecOn _ _ (motive := sramOnly s) rfl fun t ht i _ => ht.trans ?_
  unfold State.mergeWord
  split
  · exact sramOnly_storeWord _ _ _
  · rfl

end Sys2Proof.Machine
end

section
/-! SUPPORT. Stream instructions (R227, R234): where one takes effect, a unit of sound SRAM as a move reads and writes it (R231, R233), and
the accounts that a stream keeps of its moves (R216, R234, R247, R255). -/

namespace Sys2Proof.Machine

variable {s : State}

/-! ## Where an instruction takes effect (R227) -/

/-- No byte of the run of slot `k` is still to be sent (R234). -/
def State.runSent (s : State) (k : Nat) : Prop := ∀ r, (s.slot k).run = some r → r.out = []

/-- With nothing to send a flush does nothing (R234). -/
theorem State.flushRun_of_runSent {n q : Nat} (h : s.runSent (8 * n + q)) (d : Nat) (all : Bool) : s.flushRun n q d all = (s, .ok 0) := by
  cases hrun : (s.slot (8 * n + q)).run with
  | none => simp only [State.flushRun, hrun]
  | some r => simp [State.flushRun, hrun, h r hrun]

/-- An instruction that is next and legal takes effect in the state `streamBase`. -/
theorem State.stepStream_of_streamClear {u : SlotRef} {d opc : Nat} {w0 w1 : U64} (h : streamClear s u d opc w0 w1)
    (act : State → Nat → U64 → U64 → State) : s.stepStream u opc act = act (streamBase s u) d w0 w1 := by
  obtain ⟨⟨howner, hst, hhold, hfetch, hlegal, hopc⟩, hsent⟩ := h
  have hflush := State.flushRun_of_runSent (s := streamBase s u) (n := u.grove.val) (q := u.slot.val) hsent d true
  unfold streamBase at hflush ⊢
  simp only [State.stepStream, howner, hst, hhold, hfetch, hlegal, hopc, ne_eq, not_true, or_self, if_false, Bool.not_true,
    Bool.false_eq_true, hflush, ite_self]

/-! ## Units of linear generators (R229, R230, R232) -/

theorem foldl_add_eq_add_sum_map {ι : Type} (f : ι → Int) (l : List ι) (x : Int) : l.foldl (fun acc i => acc + f i) x = x + (l.map f).sum := by
  induction l generalizing x with
  | nil => exact (Int.add_zero x).symm
  | cons i l ih => rw [List.foldl_cons, ih, List.map_cons, List.sum_cons, Int.add_assoc]

theorem Slot.index_eq_sum (sl : Slot) (g : Gen) (d : Nat) :
    sl.index g d = SMap.get 0 g.offs d + ((List.range 6).map (fun l => sl.counter l * SMap.get 0 g.steps (8 * l + d))).sum :=
  foldl_add_eq_add_sum_map _ _ _

/-! ## A unit of sound SRAM -/

/-- A unit of `n` bytes at `a` in SRAM that Stand `d` may access. -/
structure SramUnit (s : State) (d : Nat) (x : UnitAt) (a n : Nat) : Prop where
  /-- it is a unit of this device -/
  place : x.place = .device
  /-- it lies in one piece -/
  pieces : x.pieces = [(a, n)]
  /-- in SRAM -/
  sram : isStack a = false
  /-- its access is not refused -/
  code : s.accessCode (some d) a n = 0
  /-- it has bytes -/
  pos : 0 < n

section
variable {d a n : Nat} {x : UnitAt}

theorem SramUnit.meetsGroup (hx : SramUnit s d x a n) {k : Nat} (h : s.groupPending k = []) : s.meetsGroup k x = false := by
  simp only [State.meetsGroup, hx.pieces, h]
  simp only [List.any_cons, List.any_nil, Bool.or_false]
  split <;> simp

/-- An empty read buffer holds nothing of a unit. -/
theorem bufferedBytes_nil (base a : Nat) (h : 0 < n) : bufferedBytes [] base a n = none := by
  obtain ⟨m, rfl⟩ := Nat.exists_eq_succ_of_ne_zero (Nat.ne_of_gt h)
  rw [bufferedBytes, List.range_succ_eq_map, List.foldr_cons]
  split
  · next hfind => exact absurd hfind (by simp)
  · rfl

/-- No error is met where the access is answered. -/
theorem State.errorMet_zero (s : State) (node a : Nat) : s.errorMet node a 0 = s := by
  unfold State.errorMet
  split <;> simp

/-- The bytes that a move reads. -/
theorem SramUnit.readUnit (hx : SramUnit s d x a n) (hs : sramSound s) {g q : Nat} (hbuf : (s.slot (8 * g + q)).buffer = []) (ext : ExtRead) :
    s.readUnit g q d x ext = (s, .ok (s.bytes a n)) := by
  have hread := State.readNow_of_sound hs hx.pos hx.sram hx.code
  simp [State.readUnit, hx.place, State.readPieces, hx.pieces, hbuf, bufferedBytes_nil 0 a hx.pos, hread, State.errorMet_zero]

/-- The bytes that a move writes. -/
theorem SramUnit.writeUnit (hx : SramUnit s d x a n) (hs : sramSound s) {data : List Byte} (hlen : data.length = n) {opx : Nat}
    (hopx : opxOp opx = 0) (g : Nat) : s.writeUnit g d x data opx .here = (s.mergeSram a data allBytes, .ok 0) := by
  subst hlen
  have hwrite := State.writeNow_of_sound hs hx.pos hx.sram hx.code allBytes
  simp [State.writeUnit, hx.place, State.writePieces, hx.pieces, cutPieces, hopx, hwrite, State.errorMet_zero]

theorem SramUnit.moveTarget (hx : SramUnit s d x a n) {w0 : U64} (hmc : tMc w0 = false) (opx : Nat) : moveTarget w0 opx (some x) = .here := by
  simp [Machine.moveTarget, hmc, hx.place]

end

/-! ## Accounts -/

/-- From `s` to `t` a stream in slot `k` has kept its accounts: objects, free values, and what its own slot holds but its place. -/
structure accountsOnly (k : Nat) (s t : State) : Prop where
  /-- all else is left -/
  frame : t = { s with slots := t.slots, dict := t.dict, free := t.free }
  /-- the other slots are left -/
  others : ∀ j, j ≠ k → t.slot j = s.slot j
  /-- the stream stands where it stood -/
  pc : (t.slot k).pc = (s.slot k).pc

namespace accountsOnly

variable {k : Nat} {t v : State}

theorem refl (k : Nat) (s : State) : accountsOnly k s s := ⟨rfl, fun _ _ => rfl, rfl⟩

theorem trans (h₁ : accountsOnly k s t) (h₂ : accountsOnly k t v) : accountsOnly k s v where
  frame := h₂.frame.trans (congrArg (fun x : State => { x with slots := v.slots, dict := v.dict, free := v.free }) h₁.frame)
  others j hj := (h₂.others j hj).trans (h₁.others j hj)
  pc := h₂.pc.trans h₁.pc

theorem objects (k : Nat) (s : State) (dict : SMap U64) (free : Nat) : accountsOnly k s { s with dict := dict, free := free } :=
  ⟨rfl, fun _ _ => rfl, rfl⟩

theorem count (k : Nat) (s : State) (ix sb lo n amount : Nat) : accountsOnly k s (s.count ix sb lo n amount) := objects k s _ s.free

theorem setSlot {x : Slot} (h : x.pc = (s.slot k).pc) : accountsOnly k s (s.setSlot k x) :=
  ⟨rfl, fun _ hj => State.slot_setSlot_ne s x hj, by rw [State.slot_setSlot_self, h]⟩

theorem chargeFlits (s : State) (n q cnt : Nat) (iface : Bool) : accountsOnly (8 * n + q) s (s.chargeFlits n q cnt iface) := by
  unfold State.chargeFlits
  split
  · exact refl _ s
  · extract_lets counted charged sl spent
    have hcharged : accountsOnly (8 * n + q) s charged := by
      refine (count (8 * n + q) s (0x6300 + n) (slotSub q 2) 0 64 cnt).trans ?_
      unfold charged
      split
      · exact count ..
      · exact refl _ counted
    have hspent : accountsOnly (8 * n + q) s spent := hcharged.trans (setSlot rfl)
    split
    · exact hcharged
    · split
      · exact hspent
      · exact hspent.trans (objects _ _ _ _)

theorem chargeBlocks (s : State) (n q : Nat) (blocks : List Nat) : accountsOnly (8 * n + q) s (s.chargeBlocks n q blocks) := by
  refine trans ?_ (chargeFlits _ n q _ _)
  refine List.foldlRecOn _ _ (motive := accountsOnly (8 * n + q) s) (refl _ s) fun t ht b _ => ht.trans ?_
  split
  · exact count ..
  · exact refl _ t

theorem raiseStreamFlags (k : Nat) (s : State) (n q : Nat) (f : Flags) : accountsOnly k s (s.raiseStreamFlags n q f) := objects k s _ s.free

theorem runFlits (s : State) (n q : Nat) (us ud : Option UnitAt) (dest : RunTo) (cells : List (Nat × Byte)) :
    accountsOnly (8 * n + q) s (s.runFlits n q us ud dest cells) :=
  (chargeBlocks s n q _).trans (setSlot rfl)

theorem byte_eq (h : accountsOnly k s t) : t.byte = s.byte := by
  rw [h.frame]
  rfl

end accountsOnly

/-- A unit that brings no bytes for another device or a multicast leaves nothing to be sent. -/
theorem State.runSent_runFlits {n q : Nat} (h : s.runSent (8 * n + q)) (us ud : Option UnitAt) (dest : RunTo) :
    (s.runFlits n q us ud dest []).runSent (8 * n + q) := by
  intro r hr
  simp only [State.runFlits, State.slot_setSlot_self] at hr
  have hout : r.out = (((s.slot (8 * n + q)).runHere.map (fun r => r.out)).getD []) := by
    cases hr
    exact List.append_nil _
  rw [hout]
  cases hrun : (s.slot (8 * n + q)).runHere with
  | none => rfl
  | some v => exact h v (Option.filter_eq_some_iff.mp hrun).1

end Sys2Proof.Machine
end

section
/-! SUPPORT. A move of one unit from sound SRAM to sound SRAM (R231, R233). -/

namespace Sys2Proof.Machine

variable {s : State}

/-! ## The conversion (R71, R233) -/

/-- A linear unit keeps its four bytes. -/
theorem State.convertUnit_linear (s : State) (n q rm : Nat) (sat : Bool) {bytes : List Byte} (h : bytes.length = 4) (split : Bool)
    (dst : UnitAt) (dr : Draws) : (s.convertUnit n q 7 7 rm sat (some (bytes, split)) dst dr).1 = bytes := by
  have hslice : sliceBytes bytes 0 4 = bytes := by
    refine List.ext_getElem (by rw [length_sliceBytes, h]) fun i hi hi' => ?_
    simp only [sliceBytes, List.getElem_map, List.getElem_range]
    rw [Nat.zero_add, List.getElem_eq_getD]
  exact hslice

/-- A Hazel unit goes into the destination's format with the draw of the lane of its place. -/
theorem State.convertUnit_hazel (s : State) (n q : Nat) {sf df : Nat} (rm : Nat) (sat : Bool) (hsf : sf = 5 ∨ sf = 6) (hdf : df = 5 ∨ df = 6)
    (bytes : List Byte) (split : Bool) {dst : UnitAt} {b k : Nat} (hdst : dst.pieces = [(b, k)]) (hk : k = (hazelFmt df).width / 8) (dr : Draws) :
    (s.convertUnit n q sf df rm sat (some (bytes, split)) dst dr).1 = leBytes k (toHazelUnit sf df rm sat (ofLe bytes)
      (hazelVal (hazelFmt sf) (ofLe bytes)) (s.streamDraw n q (b / k % 32) (SMap.get 0 dr (b / k % 32)))).bits := by
  have hberry : ¬ df ≤ 4 := by omega
  have hlinear : ¬ (sf = 7 ∨ df = 7) := by omega
  simp only [State.convertUnit, if_neg hberry, if_neg hlinear, hdst, hk]
  rfl

/-! ## The move -/

/-- A plain move of OP 0 is no operation of R235. -/
theorem opxOp_opxOf_zero (rm : Nat) (sat h16 : Bool) : opxOp (opxOf 0 rm sat h16) = 0 := by
  unfold opxOf opxOp b2n
  split <;> split <;> split <;> rfl

/-- What a move writes at its destination. -/
def State.movedBytes (s : State) (n q : Nat) (w0 : U64) (gs gd : Gen) (x y : UnitAt) (a m : Nat) : List Byte :=
  (s.convertUnit n q gs.fmt gd.fmt (tRm w0) (tSat w0) (some (s.bytes a m, x.split)) y (s.slot (8 * n + q)).draws).1

/-- The smov `w0` in slot `q` of grove `n` moves the unit `x` to `y` within sound SRAM: no operation and no multicast, and nothing of the slot
that was fetched ahead or is still to be sent stands in its way. -/
structure SramMove (s : State) (n q d : Nat) (w0 : U64) (x y : UnitAt) (a m b k : Nat) : Prop where
  /-- no word is in error -/
  sound : sramSound s
  /-- the source -/
  src : SramUnit s d x a m
  /-- the destination -/
  dst : SramUnit s d y b k
  /-- a plain write -/
  op : tOp w0 = 0
  /-- to one place -/
  single : tMc w0 = false
  /-- the run has sent its bytes -/
  sent : s.runSent (8 * n + q)
  /-- its multicasts are acknowledged -/
  group : s.groupPending (8 * n + q) = []
  /-- nothing is fetched ahead -/
  buffer : (s.slot (8 * n + q)).buffer = []

section
variable {d : Nat} {w0 : U64} {gs gd : Gen} {x y : UnitAt} {a m b k : Nat}

/-- A move within sound SRAM: the write of the converted bytes, the stream's accounts, and the next instruction. -/
theorem SramMove.moveUnit {n q : Nat} (h : SramMove s n q d w0 x y a m b k) (hlen : (s.movedBytes n q w0 gs gd x y a m).length = k)
    (ext : ExtRead) :
    ∃ t, accountsOnly (8 * n + q) (s.mergeSram b (s.movedBytes n q w0 gs gd x y a m) allBytes) t ∧
      s.moveUnit n q d w0 gs gd (some x) (some y) ext = t.slotNext (8 * n + q) 16 := by
  obtain ⟨hs, hx, hy, hop, hmc, hsent, hgroup, hbuf⟩ := h
  have hopx : opxOp (opxOf (tOp w0) (tRm w0) (tSat w0) (gd.fmt == 5)) = 0 := by rw [hop, opxOp_opxOf_zero]
  have hread := hx.readUnit hs hbuf ext
  have hwrite := hy.writeUnit hs hlen hopx n
  unfold State.movedBytes at hwrite ⊢
  generalize hc : s.convertUnit n q gs.fmt gd.fmt (tRm w0) (tSat w0) (some (s.bytes a m, x.split)) y (s.slot (8 * n + q)).draws = c at hwrite ⊢
  have hslots : (s.mergeSram b c.1 allBytes).slots = s.slots := by rw [sramOnly_mergeSram b c.1 allBytes s]
  generalize s.mergeSram b c.1 allBytes = v at hwrite hslots ⊢
  have hraised := accountsOnly.raiseStreamFlags (8 * n + q) v n q (c.2.1 ||| 0)
  generalize hr : v.raiseStreamFlags n q (c.2.1 ||| 0) = r at hraised
  generalize hz : r.setSlot (8 * n + q) { r.slot (8 * n + q) with draws := c.2.2 } = z
  have hdrawn : accountsOnly (8 * n + q) v z := hz ▸ hraised.trans (accountsOnly.setSlot rfl)
  have hsent' : z.runSent (8 * n + q) := by
    have hslot : r.slot (8 * n + q) = s.slot (8 * n + q) := by
      rw [← hr]
      exact congrArg (fun m => SMap.get Slot.reset m (8 * n + q)) hslots
    unfold State.runSent
    rw [← hz, State.slot_setSlot_self, hslot]
    exact hsent
  refine ⟨_, hdrawn.trans (accountsOnly.runFlits _ n q (some x) (some y) .here []), ?_⟩
  simp only [State.moveUnit, hy.moveTarget hmc, State.flushRun_of_runSent hsent, hx.meetsGroup hgroup, hy.meetsGroup hgroup,
    Bool.or_self, Bool.false_eq_true, if_false, hread, Option.map_some, hc, hwrite, hr, hz, if_true,
    State.flushRun_of_runSent (State.runSent_runFlits hsent' (some x) (some y) .here)]

/-! ## The instruction -/

/-- The program counter after an instruction. -/
theorem State.pc_slotNext (t : State) (j bytes : Nat) : ((t.slotNext j bytes).slot j).pc = (t.slot j).pc + BitVec.ofNat 18 bytes := by
  simp only [State.slotNext, State.slotGoto, State.slot_setSlot_self, BitVec.ofInt_natCast, BitVec.ofNat_add, BitVec.ofNat_toNat,
    BitVec.setWidth_eq]

variable {u : SlotRef} {w1 : U64}

/-- An smov between units of this device whose codes and pairing are good moves its unit. -/
theorem execSmov_of_device (h : streamClear s u d 0x10 w0 w1) (hgs : (s.slot u.num).gen? (tGs w0) = some gs)
    (hgd : (s.slot u.num).gen? (tGd w0) = some gd) (hus : s.unitAt u.grove.val (s.slot u.num) gs = some x)
    (hud : s.unitAt u.grove.val (s.slot u.num) gd = some y) (hm : SramMove s u.grove.val u.slot.val d w0 x y a m b k)
    (hpair : pairOk gs.fmt gd.fmt = true) (hdf : 4 < gd.fmt) (ext : ExtRead) :
    exec (.smov u ext) s = .next ((streamBase s u).moveUnit u.grove.val u.slot.val d w0 gs gd (some x) (some y) ext) := by
  obtain ⟨⟨-, -, -, -, -, hopc⟩, -⟩ := id h
  have hslot : (streamBase s u).slot u.num = s.slot u.num := rfl
  have hus' : (streamBase s u).unitAt u.grove.val (s.slot u.num) gs = some x := hus
  have hud' : (streamBase s u).unitAt u.grove.val (s.slot u.num) gd = some y := hud
  have hready : (streamBase s u).pagesReady u.grove.val d (s.slot u.num) w0 = true := by
    simp [State.pagesReady, State.missingPages, State.hostPieces, hopc, hgs, hgd, hus', hud', hm.src.place, hm.dst.place]
  have hlow : ∀ z : UnitAt, z.place = .device → hostTooHigh (some z) = false := fun z hz => by simp [hostTooHigh, hz]
  have hexec : exec (.smov u ext) s = execSmov u ext s := rfl
  rw [hexec, execSmov, State.stepStream_of_streamClear h]
  simp [hslot, hgs, hgd, hus', hud', hpair, hm.op, hm.single, hlow x hm.src.place, hlow y hm.dst.place, hready, Nat.not_le.mpr hdf]

/-- From `s` to `t` the stream of slot `u` has gone on at its next instruction: memory is left but for [b, b + k), and so are the other
streams, the contexts, the tiles, the Stands and what left the device. -/
def movedOn (s : State) (u : SlotRef) (b k : Nat) (t : State) : Prop :=
  (t.slot u.num).pc = (s.slot u.num).pc + 16 ∧ sameBytesBut s t b k ∧ (∀ j, j ≠ u.num → t.slot j = s.slot j) ∧
    t.ctxs = s.ctxs ∧ t.tiles = s.tiles ∧ t.stands = s.stands ∧ t.out = s.out

/-- A stream that has written `data` to sound SRAM, kept its accounts and gone on. -/
theorem movedOn_of_mergeSram (hs : sramSound s) {data : List Byte} {t : State}
    (h : accountsOnly u.num ((streamBase s u).mergeSram b data allBytes) t) : movedOn s u b data.length (t.slotNext u.num 16) := by
  have hmerge := sramOnly_mergeSram b data allBytes (streamBase s u)
  have hslot : ∀ j, ((streamBase s u).mergeSram b data allBytes).slot j = s.slot j := fun j => by rw [hmerge]; rfl
  refine ⟨?pc, fun c hc => ?bytes, fun j hj => ?others, ?units⟩
  case pc =>
    rw [State.pc_slotNext, h.pc, hslot]
    rfl
  case bytes =>
    calc (t.slotNext u.num 16).byte c = t.byte c := rfl
      _ = ((streamBase s u).mergeSram b data allBytes).byte c := congrFun h.byte_eq c
      _ = s.byte c := sameBytesBut_mergeSram b data allBytes (s := streamBase s u) hs.1 c hc
  case others =>
    rw [← hslot j, ← h.others j hj]
    exact State.slot_setSlot_ne t _ hj
  case units =>
    rw [h.frame, hmerge]
    exact ⟨rfl, rfl, rfl, rfl⟩

/-- What a move within sound SRAM leaves (R231, R233). -/
theorem completesTo_smov (h : streamClear s u d 0x10 w0 w1) (hgs : (s.slot u.num).gen? (tGs w0) = some gs)
    (hgd : (s.slot u.num).gen? (tGd w0) = some gd) (hus : s.unitAt u.grove.val (s.slot u.num) gs = some x)
    (hud : s.unitAt u.grove.val (s.slot u.num) gd = some y) (hm : SramMove s u.grove.val u.slot.val d w0 x y a m b k)
    (hpair : pairOk gs.fmt gd.fmt = true) (hdf : 4 < gd.fmt) (hlen : (s.movedBytes u.grove.val u.slot.val w0 gs gd x y a m).length = k)
    (ext : ExtRead) :
    completesTo (.smov u ext) s (fun t => movedOn s u b k t ∧ t.bytes b k = s.movedBytes u.grove.val u.slot.val w0 gs gd x y a m) := by
  have hbase : SramMove (streamBase s u) u.grove.val u.slot.val d w0 x y a m b k :=
    ⟨hm.sound, ⟨hm.src.place, hm.src.pieces, hm.src.sram, hm.src.code, hm.src.pos⟩,
      ⟨hm.dst.place, hm.dst.pieces, hm.dst.sram, hm.dst.code, hm.dst.pos⟩, hm.op, hm.single, hm.sent, hm.group, hm.buffer⟩
  obtain ⟨t, hacc, hmove⟩ := hbase.moveUnit (gs := gs) (gd := gd) hlen ext
  subst hlen
  refine ⟨_, (execSmov_of_device h hgs hgd hus hud hm hpair hdf ext).trans (congrArg _ hmove), movedOn_of_mergeSram hm.sound hacc, ?_⟩
  have hbytes := State.bytes_mergeSram b (s.movedBytes u.grove.val u.slot.val w0 gs gd x y a m) (s := streamBase s u) hm.sound.1
  exact Eq.trans (congrArg (fun f : Nat → Byte => (List.range _).map (fun i => f (b + i))) hacc.byte_eq) hbytes

end

end Sys2Proof.Machine
end

section
/-! PROOFS. Linear units and moves of one unit within SRAM (R229, R232, R233). -/

namespace Sys2Proof.Machine

/-- Settles O17: the address is the index of the generator, written as a sum; a move leaves what `completesTo_smov` says, with the bytes that
the conversion gives for linear and for Hazel units. -/
theorem streamMoves : Obligations.StreamMoves := by
  unfold Obligations.StreamMoves
  refine ⟨fun s n sl g hlin => ?address, ?moves⟩
  case address =>
    rw [State.unitAt, if_pos hlin, Slot.index_eq_sum]
    rfl
  case moves =>
    rintro s u d w0 w1 gs gd sf df a m b k real real' split split' sl n h hgs hgd rfl rfl hus hud hop hmc hs ha hb hca hcb hbuf hgroup hm hk
      done
    have hmove : SramMove s n u.slot.val d w0 ⟨.device, gs.fmt, [(a, m)], split, real⟩ ⟨.device, gd.fmt, [(b, k)], split', real'⟩ a m b k :=
      ⟨hs, ⟨rfl, rfl, ha, hca, hm⟩, ⟨rfl, rfl, hb, hcb, hk⟩, hop, hmc, h.2, hgroup, hbuf⟩
    refine ⟨fun hsf hdf hm4 hk4 => ?linear, fun hsf hdf hma hkb => ?hazel⟩
    case linear =>
      subst hm4 hk4
      have hmoved : s.movedBytes n u.slot.val w0 gs gd ⟨.device, gs.fmt, [(a, 4)], split, real⟩ ⟨.device, gd.fmt, [(b, 4)], split', real'⟩ a 4 =
          s.bytes a 4 := by
        rw [State.movedBytes, hsf, hdf]
        exact State.convertUnit_linear s _ _ _ _ (State.length_bytes s a 4) _ _ _
      obtain ⟨t, hexec, hon, hbytes⟩ := completesTo_smov h hgs hgd hus hud hmove (by rw [hsf, hdf]; rfl) (by omega)
        (by rw [hmoved, State.length_bytes]) (.data [])
      exact ⟨t, hexec, hon, congrArg ofLe (hbytes.trans hmoved)⟩
    case hazel =>
      have hmoved := State.convertUnit_hazel s n u.slot.val (tRm w0) (tSat w0) hsf hdf (s.bytes a m) split
        (dst := ⟨.device, gd.fmt, [(b, k)], split', real'⟩) rfl hkb sl.draws
      have hpair : pairOk gs.fmt gd.fmt = true := by
        have hsrc : (gs.fmt == 5 || gs.fmt == 6) = true := by simpa using hsf
        have hdst : (gd.fmt == 5 || gd.fmt == 6) = true := by simpa using hdf
        rw [pairOk, hsrc, hdst, Bool.and_true, Bool.or_true, Bool.true_or, Bool.true_or]
      obtain ⟨t, hexec, hon, hbytes⟩ := completesTo_smov h hgs hgd hus hud hmove hpair (by omega)
        ((congrArg List.length hmoved).trans (length_leBytes k _)) (.data [])
      exact ⟨t, hexec, hon, (congrArg ofLe (hbytes.trans hmoved)).trans (ofLe_leBytes k _)⟩

end Sys2Proof.Machine
end

section
/-! SUPPORT. Codes whose check bits are parities over columns (R262, R266): a check bit as a parity, and the place of a column. -/

namespace Sys2Proof.Machine

/-! ## Parities -/

/-- The parity of the low bits takes those bits alone. -/
theorem popCount_mod_two_pow (n x : Nat) : popCount n (x % 2 ^ n) = popCount n x := by
  induction n generalizing x with
  | zero => rfl
  | succ n ih =>
    have hbit : x % 2 ^ (n + 1) % 2 = x % 2 := Nat.mod_mod_of_dvd x ⟨2 ^ n, Nat.pow_succ'⟩
    have hrest : x % 2 ^ (n + 1) / 2 = x / 2 % 2 ^ n := by rw [Nat.pow_succ', Nat.mod_mul_right_div_self]
    rw [popCount, popCount, hbit, hrest, ih]

theorem parity_mod_two_pow (n x : Nat) : parity n (x % 2 ^ n) = parity n x := by
  rw [parity, parity, popCount_mod_two_pow]

theorem eq_zero_of_popCount_eq_zero {n x : Nat} (hx : x < 2 ^ n) (h : popCount n x = 0) : x = 0 := by
  induction n generalizing x with
  | zero => exact Nat.lt_one_iff.mp hx
  | succ n ih =>
    rw [popCount] at h
    have hhalf : x / 2 = 0 := ih (by omega) (by omega)
    omega

/-- A number with one bit set is a power of two. -/
theorem exists_two_pow_of_popCount_eq_one {n x : Nat} (hx : x < 2 ^ n) (h : popCount n x = 1) : ∃ j, j < n ∧ x = 2 ^ j := by
  induction n generalizing x with
  | zero => exact absurd h Nat.zero_ne_one
  | succ n ih =>
    rw [popCount] at h
    obtain hodd | heven := Nat.mod_two_eq_zero_or_one x |>.symm
    · have hhalf : x / 2 = 0 := eq_zero_of_popCount_eq_zero (n := n) (by omega) (by omega)
      exact ⟨0, n.succ_pos, by omega⟩
    · obtain ⟨j, hj, hx2⟩ := ih (x := x / 2) (by omega) (by omega)
      exact ⟨j + 1, Nat.succ_lt_succ hj, by rw [Nat.pow_succ]; omega⟩

/-- A bit of an exclusive-or of some entries of a list: whether an odd number of them have the bit set. -/
theorem testBit_foldl_xor {α : Type} (p : α → Bool) (f : α → Nat) (l : List α) (a j : Nat) :
    (l.foldl (fun acc e => if p e then acc ^^^ f e else acc) a).testBit j =
      (a.testBit j ^^ decide ((l.filter (fun e => p e && (f e).testBit j)).length % 2 = 1)) := by
  induction l generalizing a with
  | nil => simp
  | cons e l ih =>
    rw [List.foldl_cons, ih]
    cases hp : p e <;> cases hf : (f e).testBit j
    case true.true =>
      obtain h | h := Nat.mod_two_eq_zero_or_one (l.filter (fun e => p e && (f e).testBit j)).length <;>
        simp [hp, hf, h, Nat.add_mod]
    all_goals simp [hp, hf]

/-! ## Columns -/

/-- The exclusive-or of the columns of the bits that are set: the check bits of SRAM (R262) and the syndrome of the stacks (R266). -/
def columnXor {n : Nat} (cols : List Nat) (w : BitVec n) : Nat :=
  cols.zipIdx.foldl (fun acc e => if w.getLsbD e.2 then acc ^^^ e.1 else acc) 0

theorem sramEncode_eq_columnXor (w : U64) : sramEncode w = columnXor sramColumns w := rfl

theorem stackSyndrome_eq_columnXor (w : BitVec 256) : stackSyndrome w = columnXor stackPositions w := rfl

/-- Check bit `j` is the parity of the bits whose column has bit `j` set. -/
theorem testBit_columnXor {n : Nat} (cols : List Nat) (w : BitVec n) (j : Nat) : (columnXor cols w).testBit j =
    decide (((List.range cols.length).filter (fun i => bitOf w i && (cols.getD i 0).testBit j)).length % 2 = 1) := by
  rw [columnXor, testBit_foldl_xor (fun e : Nat × Nat => w.getLsbD e.2) Prod.fst, Nat.zero_testBit, Bool.false_xor,
    zipIdx_eq_map_range 0 cols, List.filter_map, List.length_map]
  rfl

theorem columnXor_lt {n k : Nat} {cols : List Nat} (h : ∀ c ∈ cols, c < 2 ^ k) (w : BitVec n) : columnXor cols w < 2 ^ k := by
  refine List.foldlRecOn (motive := fun acc => acc < 2 ^ k) _ _ (Nat.two_pow_pos k) fun acc hacc e he => ?_
  have hcol : e.1 < 2 ^ k := h _ (List.fst_mem_of_mem_zipIdx he)
  split
  · exact Nat.xor_lt_two_pow hacc hcol
  · exact hacc

/-- A place within the list, read with a default. -/
theorem getD_eq_getElem_of_lt {cols : List Nat} {i : Nat} (hi : i < cols.length) : cols.getD i 0 = cols[i] := by
  rw [List.getD_eq_getElem?_getD, List.getElem?_eq_getElem hi, Option.getD_some]

/-- A column is found at its own place. -/
theorem find?_zipIdx_getD {cols : List Nat} (hcols : cols.Nodup) {i : Nat} (hi : i < cols.length) :
    cols.zipIdx.find? (fun e => e.1 == cols.getD i 0) = some (cols.getD i 0, i) := by
  have hget : cols.getD i 0 = cols[i] := getD_eq_getElem_of_lt hi
  rw [hget, List.find?_eq_some_iff_getElem]
  refine ⟨beq_self_eq_true _, i, by rwa [List.length_zipIdx], by rw [List.getElem_zipIdx, Nat.zero_add], fun j hj => ?_⟩
  have hne : cols[j] ≠ cols[i] := fun heq => Nat.ne_of_lt hj ((List.getElem_inj hcols).mp heq)
  rw [List.getElem_zipIdx, Bool.not_eq_true', beq_eq_false_iff_ne]
  exact hne

/-- What is no column is not found. -/
theorem find?_zipIdx_eq_none {cols : List Nat} {x : Nat} (h : x ∉ cols) : cols.zipIdx.find? (fun e => e.1 == x) = none := by
  refine List.find?_eq_none.mpr fun e he heq => h ?_
  rw [← eq_of_beq heq]
  exact List.fst_mem_of_mem_zipIdx he

theorem mem_iff_exists_getD {cols : List Nat} {x : Nat} : x ∈ cols ↔ ∃ i, i < cols.length ∧ x = cols.getD i 0 := by
  rw [List.mem_iff_getElem]
  exact exists_congr fun i => ⟨fun ⟨hi, h⟩ => ⟨hi, by rw [getD_eq_getElem_of_lt hi, h]⟩,
    fun ⟨hi, h⟩ => ⟨hi, by rw [h, getD_eq_getElem_of_lt hi]⟩⟩

end Sys2Proof.Machine
end

section
/-! SUPPORT. The (72, 64) code of SRAM (R262): its columns, and what a read of every syndrome finds. -/

namespace Sys2Proof.Machine

theorem sramColumns_eq : sramColumns =
    (List.range 256).filter (fun x => popCount 8 x == 3) ++ [0x1F, 0x2F, 0x37, 0x3B, 0x3D, 0x3E, 0x4F, 0x57] := by
  have hlast : (weightCodes 5).take 8 = [0x1F, 0x2F, 0x37, 0x3B, 0x3D, 0x3E, 0x4F, 0x57] := by decide +kernel
  rw [sramColumns, hlast]
  rfl

theorem length_sramColumns : sramColumns.length = 64 := by decide +kernel

theorem nodup_sramColumns : sramColumns.Nodup := by decide +kernel

theorem sramColumns_lt : ∀ c ∈ sramColumns, c < 2 ^ 8 := by decide +kernel

theorem two_pow_notMem_sramColumns : ∀ j, j < 8 → 2 ^ j ∉ sramColumns := by decide +kernel

theorem zero_notMem_sramColumns : 0 ∉ sramColumns := by decide +kernel

theorem popCount_two_pow : ∀ j, j < 8 → popCount 8 (2 ^ j) = 1 := by decide

theorem sramEncode_lt (w : U64) : sramEncode w < 256 := columnXor_lt sramColumns_lt w

theorem testBit_sramEncode (w : U64) (j : Nat) : (sramEncode w).testBit j =
    decide (((List.range 64).filter (fun i => bitOf w i && (sramColumns.getD i 0).testBit j)).length % 2 = 1) := by
  rw [sramEncode_eq_columnXor, testBit_columnXor, length_sramColumns]

section
variable {w : U64} {c : Nat}

theorem sramSyndrome_mod (hc : c < 256) : (sramEncode w ^^^ c) % 256 = sramEncode w ^^^ c :=
  Nat.mod_eq_of_lt (Nat.xor_lt_two_pow (n := 8) (sramEncode_lt w) hc)

theorem sramCheckWord_of_syndrome_zero (h : sramEncode w ^^^ c = 0) : sramCheckWord w c = .ok := by
  rw [sramCheckWord, h, Nat.zero_mod, if_pos rfl]

theorem sramCheckWord_of_column (hc : c < 256) {i : Nat} (hi : i < 64) (h : sramEncode w ^^^ c = sramColumns.getD i 0) :
    sramCheckWord w c = .corrected (w ^^^ BitVec.ofNat 64 (2 ^ i)) := by
  have hlen : i < sramColumns.length := by rwa [length_sramColumns]
  have hzero : sramColumns.getD i 0 ≠ 0 := fun h0 => zero_notMem_sramColumns (mem_iff_exists_getD.mpr ⟨i, hlen, h0.symm⟩)
  have hsyn := (sramSyndrome_mod hc).trans h
  simp only [sramCheckWord, hsyn, if_neg hzero, find?_zipIdx_getD nodup_sramColumns hlen]

theorem sramCheckWord_of_checkBit (hc : c < 256) {j : Nat} (hj : j < 8) (h : sramEncode w ^^^ c = 2 ^ j) :
    sramCheckWord w c = .corrected w := by
  have hsyn := (sramSyndrome_mod hc).trans h
  simp only [sramCheckWord, hsyn, if_neg (Nat.ne_of_gt (Nat.two_pow_pos j)), find?_zipIdx_eq_none (two_pow_notMem_sramColumns j hj),
    popCount_two_pow j hj, if_true]

theorem sramCheckWord_of_other (hc : c < 256) (h0 : sramEncode w ^^^ c ≠ 0)
    (hcol : ∀ i, i < 64 → sramEncode w ^^^ c ≠ sramColumns.getD i 0) (hbit : ∀ j, j < 8 → sramEncode w ^^^ c ≠ 2 ^ j) :
    sramCheckWord w c = .uncorrectable := by
  have hmem : sramEncode w ^^^ c ∉ sramColumns := fun hm => by
    obtain ⟨i, hi, h⟩ := mem_iff_exists_getD.mp hm
    exact hcol i (length_sramColumns ▸ hi) h
  have hweight : popCount 8 (sramEncode w ^^^ c) ≠ 1 := fun h1 => by
    obtain ⟨j, hj, h⟩ := exists_two_pow_of_popCount_eq_one (Nat.xor_lt_two_pow (n := 8) (sramEncode_lt w) hc) h1
    exact hbit j hj h
  simp only [sramCheckWord, sramSyndrome_mod hc, if_neg h0, find?_zipIdx_eq_none hmem, if_neg hweight]

end

end Sys2Proof.Machine
end

section
/-! SUPPORT. The extended Hamming code of the stacks and their address field (R266), and what a read of every syndrome finds. -/

namespace Sys2Proof.Machine

/-! ## Positions -/

/-- No position is cut off: those up to 265 that are no power of two are 256. -/
theorem stackPositions_eq : stackPositions = (List.range 266).filter
    (fun n => 3 ≤ n && n != 4 && n != 8 && n != 16 && n != 32 && n != 64 && n != 128 && n != 256) :=
  List.take_of_length_le (by decide +kernel)

theorem length_stackPositions : stackPositions.length = 256 := by decide +kernel

theorem pairwise_lt_stackPositions : stackPositions.Pairwise (· < ·) := by
  rw [stackPositions_eq]
  exact List.pairwise_lt_range.filter _

theorem mem_stackPositions {p : Nat} : p ∈ stackPositions ↔ 3 ≤ p ∧ p ≤ 265 ∧ ∀ k, k < 9 → p ≠ 2 ^ k := by
  simp only [stackPositions_eq, List.mem_filter, List.mem_range, Bool.and_eq_true, decide_eq_true_eq, bne_iff_ne, and_assoc]
  refine ⟨fun h => ⟨by omega, by omega, fun k hk => ?_⟩, fun ⟨hge, hle, hpow⟩ => ?_⟩
  · have hpow : ∀ k, k < 9 → ¬ (3 ≤ 2 ^ k ∧ 2 ^ k ≠ 4 ∧ 2 ^ k ≠ 8 ∧ 2 ^ k ≠ 16 ∧ 2 ^ k ≠ 32 ∧ 2 ^ k ≠ 64 ∧ 2 ^ k ≠ 128 ∧ 2 ^ k ≠ 256) := by
      decide
    exact fun heq => hpow k hk (heq ▸ h.2)
  · exact ⟨Nat.lt_succ_of_le hle, hge, hpow 2 (by decide), hpow 3 (by decide), hpow 4 (by decide), hpow 5 (by decide), hpow 6 (by decide),
      hpow 7 (by decide), hpow 8 (by decide)⟩

theorem nodup_stackPositions : stackPositions.Nodup := pairwise_lt_stackPositions.imp Nat.ne_of_lt

theorem stackSyndrome_lt (w : BitVec 256) : stackSyndrome w < 512 :=
  columnXor_lt (k := 9) (fun _ hc => Nat.lt_of_le_of_lt (mem_stackPositions.mp hc).2.1 (by decide)) w

/-! ## The check field -/

theorem stackAddrField_eq (line : Nat) : stackAddrField line =
    line % 64 ^^^ line / 2 ^ 6 % 64 ^^^ line / 2 ^ 12 % 64 ^^^ line / 2 ^ 18 % 64 ^^^ line / 2 ^ 24 % 64 ^^^ line / 2 ^ 30 % 64 := by
  simp [stackAddrField, List.range_succ]

theorem stackAddrField_lt (line : Nat) : stackAddrField line < 64 := by
  refine List.foldlRecOn (motive := fun acc => acc < 2 ^ 6) _ _ (Nat.two_pow_pos 6) fun acc hacc i _ => ?_
  exact Nat.xor_lt_two_pow hacc (Nat.mod_lt _ (by decide))

theorem b2n_lt (b : Bool) : b2n b < 2 := by cases b <;> decide

theorem decide_odd_b2n_add (b : Bool) (a : Nat) : decide ((b2n b + 2 * a) % 2 = 1) = b := by cases b <;> simp [b2n, Nat.add_mod]

/-- The three fields that make up the check field. -/
theorem stackEncode_eq (w : BitVec 256) (line : Nat) : stackEncode w line = stackSyndrome w +
    2 ^ 9 * (b2n (parity 256 w.toNat != parity 9 (stackSyndrome w)) + 2 * stackAddrField line) := by
  simp only [stackEncode, Nat.mod_eq_of_lt (stackSyndrome_lt w)]
  omega

section
variable (w : BitVec 256) (line : Nat)

theorem stackEncode_lt : stackEncode w line < 2 ^ 16 := by
  have hsyn := stackSyndrome_lt w
  have hpar := b2n_lt (parity 256 w.toNat != parity 9 (stackSyndrome w))
  have haddr := stackAddrField_lt line
  rw [stackEncode_eq]
  omega

theorem stackEncode_mod : stackEncode w line % 2 ^ 9 = stackSyndrome w := by
  rw [stackEncode_eq, Nat.add_mul_mod_self_left]
  exact Nat.mod_eq_of_lt (stackSyndrome_lt w)

theorem stackEncode_div : stackEncode w line / 1024 = stackAddrField line := by
  have hsyn := stackSyndrome_lt w
  have hpar := b2n_lt (parity 256 w.toNat != parity 9 (stackSyndrome w))
  rw [stackEncode_eq]
  omega

/-- Check bit `k` is the parity of the data bits whose position has bit `k` set. -/
theorem testBit_stackEncode {k : Nat} (hk : k < 9) : (stackEncode w line).testBit k =
    decide (((List.range 256).filter (fun i => bitOf w i && (stackPositions.getD i 0).testBit k)).length % 2 = 1) := by
  have hlow : (stackEncode w line).testBit k = (stackEncode w line % 2 ^ 9).testBit k := by
    rw [Nat.testBit_mod_two_pow, decide_eq_true hk, Bool.true_and]
  rw [hlow, stackEncode_mod, stackSyndrome_eq_columnXor, testBit_columnXor, length_stackPositions]

/-- Bit 9 is the parity of the data bits and the other check bits. -/
theorem testBit_nine_stackEncode : (stackEncode w line).testBit 9 = (parity 256 w.toNat != parity 9 (stackEncode w line)) := by
  have hdiv : stackEncode w line / 2 ^ 9 = b2n (parity 256 w.toNat != parity 9 (stackSyndrome w)) + 2 * stackAddrField line := by
    rw [stackEncode_eq, Nat.add_mul_div_left _ _ (Nat.two_pow_pos 9), Nat.div_eq_of_lt (stackSyndrome_lt w), Nat.zero_add]
  rw [← parity_mod_two_pow 9 (stackEncode w line), stackEncode_mod, Nat.testBit_eq_decide_div_mod_eq, hdiv, decide_odd_b2n_add]

end

/-! ## What a read finds -/

theorem stackCheckWord_of_address {w : BitVec 256} {c line : Nat} (hc : c < 2 ^ 16) (h : c / 1024 ≠ stackEncode w line / 1024) :
    stackCheckWord w c line = .wrongAddress := by
  rw [stackEncode_div, ← Nat.mod_eq_of_lt (show c / 1024 < 64 by omega)] at h
  rw [stackCheckWord, if_pos h]

section
variable {w : BitVec 256} {c line syn : Nat}

theorem stackAddress_agrees (haddr : c / 1024 = stackEncode w line / 1024) : ¬ c / 1024 % 64 ≠ stackAddrField line := by
  rw [haddr, stackEncode_div, Nat.mod_eq_of_lt (stackAddrField_lt line)]
  exact not_not_intro rfl

theorem stackSyndrome_xor_mod (hsyn : (stackEncode w line ^^^ c) % 2 ^ 9 = syn) : (stackSyndrome w ^^^ c) % 512 = syn := by
  rw [Nat.xor_mod_two_pow, stackEncode_mod] at hsyn
  have hself : stackSyndrome w % 2 ^ 9 = stackSyndrome w := Nat.mod_eq_of_lt (stackSyndrome_lt w)
  change (stackSyndrome w ^^^ c) % 2 ^ 9 = syn
  rw [Nat.xor_mod_two_pow, hself, hsyn]

variable (haddr : c / 1024 = stackEncode w line / 1024) (hsyn : (stackEncode w line ^^^ c) % 2 ^ 9 = syn)
include haddr hsyn

theorem stackCheckWord_of_syndrome_zero (h : syn = 0) :
    stackCheckWord w c line = if parity 256 w.toNat != parity 10 c then .corrected w else .ok := by
  simp only [stackCheckWord, if_neg (stackAddress_agrees haddr), stackSyndrome_xor_mod hsyn, h, if_true]

theorem stackCheckWord_of_position {i : Nat} (hi : i < 256) (h : syn = stackPositions.getD i 0)
    (hodd : (parity 256 w.toNat != parity 10 c) = true) : stackCheckWord w c line = .corrected (w ^^^ BitVec.ofNat 256 (2 ^ i)) := by
  have hlen : i < stackPositions.length := by rwa [length_stackPositions]
  obtain ⟨hge, hle, _⟩ := mem_stackPositions.mp (mem_iff_exists_getD.mpr ⟨i, hlen, h⟩)
  have h0 : syn ≠ 0 := by omega
  subst h
  simp only [stackCheckWord, if_neg (stackAddress_agrees haddr), stackSyndrome_xor_mod hsyn, if_neg h0, hodd, decide_eq_true hle, Bool.and_self,
    if_true, find?_zipIdx_getD nodup_stackPositions hlen]

theorem stackCheckWord_of_checkBit {k : Nat} (hk : k < 9) (h : syn = 2 ^ k)
    (hodd : (parity 256 w.toNat != parity 10 c) = true) : stackCheckWord w c line = .corrected w := by
  have hmem : 2 ^ k ∉ stackPositions := fun hm => (mem_stackPositions.mp hm).2.2 k hk rfl
  have hle : 2 ^ k ≤ 265 := Nat.le_trans (Nat.pow_le_pow_right (by decide) (Nat.le_of_lt_succ hk)) (by decide : 2 ^ 8 ≤ 265)
  subst h
  simp only [stackCheckWord, if_neg (stackAddress_agrees haddr), stackSyndrome_xor_mod hsyn, if_neg (Nat.ne_of_gt (Nat.two_pow_pos k)),
    hodd, decide_eq_true hle, Bool.and_self, if_true, find?_zipIdx_eq_none hmem]

theorem stackCheckWord_of_uncorrectable (h0 : syn ≠ 0) (h : (parity 256 w.toNat != parity 10 c) = false ∨ 265 < syn) :
    stackCheckWord w c line = .uncorrectable := by
  have hcond : ((parity 256 w.toNat != parity 10 c) && decide (syn ≤ 265)) = false := by
    obtain hodd | hgt := h
    · rw [hodd, Bool.false_and]
    · rw [decide_eq_false (Nat.not_le.mpr hgt), Bool.and_false]
  simp only [stackCheckWord, if_neg (stackAddress_agrees haddr), stackSyndrome_xor_mod hsyn, if_neg h0, hcond, Bool.false_eq_true, if_false]

end

end Sys2Proof.Machine
end

section
/-! SUPPORT. What a read of a coded word reports (R262, R263, R266, R268), while the steward of its die takes records (R292). -/

namespace Sys2Proof.Machine

/-- What tells whether a steward takes records: its state and the marks of the dictionary (R540, R543). -/
theorem State.stewardOut_congr {s t : State} (hstewards : t.stewards = s.stewards) (hdict : t.dict = s.dict) (d : Nat) :
    t.stewardOut d = s.stewardOut d := by
  simp only [State.stewardOut, State.objW, State.word, hstewards, hdict]

theorem State.reports_setObj (s : State) (ix sb : Nat) (v : U64) : (s.setObj ix sb v).reports = s.reports := rfl

/-- A write of the first word of an object leaves the marks of the stewards (R543). -/
theorem State.stewardOut_setObj (s : State) (ix sb : Nat) (v : U64) (d : Nat) : (s.setObj ix sb v).stewardOut d = s.stewardOut d := by
  have hkey : objKey 0 0xA002 1 33 ≠ objKey 0 ix sb 0 := by
    simp only [objKey]
    omega
  rw [State.stewardOut, State.stewardOut, State.objW, State.objW, State.setObj_eq, State.word_setWord_ne _ _ hkey, State.setWord_stewards]

/-- While the steward of its die takes records, a report joins those that wait. -/
theorem State.reports_report {s : State} {e : ErrorReport} (h : s.stewardOut e.die.val = false) : (s.report e).reports = s.reports ++ [e] := by
  obtain heq | ⟨_, _, _, hout, _⟩ := s.report_cases e
  · rw [heq]
  · exact absurd (h.symm.trans hout) Bool.false_ne_true

theorem mkReport_die {d : Nat} (h : d < 4) (err : CheckedError) (who : Option Nat) (kind : UnitKind) (unit addr : Nat) :
    (mkReport err d who kind unit addr).die.val = d := Nat.mod_eq_of_lt h

/-! ## SRAM -/

/-- The units that a region names are units of the device (R256). -/
def Region.inDevice : Region → Prop
  | .understory d => d < 4
  | .tileSram t => t < 4 * 224
  | .localStore n => n < 4 * 56
  | .blockRam d _ => d < 4
  | .stackUser | .mirror | .gap => True

theorem regionOf_inDevice (a : Nat) : (regionOf a).inDevice := by
  unfold regionOf
  dsimp only
  repeat' refine iteInduction (motive := Region.inDevice) (fun _ => ?_) fun _ => ?_
  all_goals simp only [Region.inDevice]
  all_goals omega

theorem sramDie_lt (a : Nat) : sramDie a < 4 := by
  have hregion := regionOf_inDevice a
  unfold sramDie
  split
  case h_1 d h | h_4 d _ h => rwa [h] at hregion
  case h_2 t h | h_3 t h =>
    rw [h] at hregion
    exact Nat.div_lt_of_lt_mul (Nat.mul_comm 4 _ ▸ hregion)
  case h_5 => decide

section
variable {s : State} {w : Nat} (who : Option Nat) (e : Bool) (hw : s.wordFailed w = false)
include hw

theorem State.touchSram_of_ok (h : s.sramFinding w = .ok) : s.touchSram w who e = (s, false) := by
  simp only [State.touchSram, hw, h, Bool.false_eq_true, if_false]

variable (hout : s.stewardOut (sramDie (8 * w)) = false)
include hout

theorem State.touchSram_of_corrected {v : U64} (h : s.sramFinding w = .corrected v) : (s.touchSram w who e).2 = false ∧
    (s.touchSram w who e).1.reports = s.reports ++ [mkReport .sramCe (sramDie (8 * w)) who .sramWord 0 (8 * w)] := by
  simp only [State.touchSram, hw, h, Bool.false_eq_true, if_false, true_and]
  rw [State.reports_report]
  · rfl
  · rw [mkReport_die (sramDie_lt _)]
    exact (State.stewardOut_setObj _ _ _ _ _).trans hout

theorem State.touchSram_of_uncorrectable (h : s.sramFinding w = .uncorrectable) : (s.touchSram w who e).2 = true ∧
    (s.touchSram w who e).1.reports =
      s.reports ++ [{ mkReport .sramUe (sramDie (8 * w)) who .sramWord 0 (8 * w) with byEngine := e }] := by
  simp only [State.touchSram, hw, h, Bool.false_eq_true, if_false, true_and]
  rw [State.reports_report]
  · rfl
  · dsimp only
    rw [mkReport_die (sramDie_lt _)]
    simp only [State.countSat, State.setF, State.stewardOut_setObj, hout]

end

theorem State.sramRead_of_corrected {s : State} {w : Nat} {v : U64} (h : s.sramFinding w = .corrected v) : s.sramRead w = v := by
  rw [State.sramRead, h]

/-! ## Root stacks -/

theorem stackMap_die_lt (a : Nat) : (stackMap a).stack / 2 < 4 := by
  have hmod : ∀ x, x % 8 < 2 ^ 3 := fun x => Nat.mod_lt x (by decide)
  have hstack : (stackMap a).stack < 2 ^ 3 := Nat.xor_lt_two_pow (Nat.xor_lt_two_pow (hmod _) (hmod _)) (hmod _)
  omega

/-- A whole word stored changes no record and no steward. -/
theorem State.reports_storeStackWord (s : State) (w : Nat) (v : BitVec 256) : (s.storeStackWord w v).reports = s.reports := by
  rw [State.storeStackWord, State.setStackDiff_reports, State.setBytes_eq]

theorem State.stewardOut_storeStackWord (s : State) (w : Nat) (v : BitVec 256) (d : Nat) :
    (s.storeStackWord w v).stewardOut d = s.stewardOut d := by
  have hbytes := State.setBytes_eq s (32 * w) (leBytes 32 v.toNat)
  refine State.stewardOut_congr ?_ ?_ d
  · rw [State.storeStackWord, State.setStackDiff_stewards, hbytes]
  · rw [State.storeStackWord, State.setStackDiff_dict, hbytes]

section
variable {s : State} {w : Nat} (who : Option Nat) (hw : s.poisoned (w / 8) = false)
include hw

theorem State.touchStack_of_ok (h : s.stackFinding w = .ok) : s.touchStack w who = (s, false) := by
  simp only [State.touchStack, hw, h, Bool.false_eq_true, if_false]

variable (hout : s.stewardOut ((stackMap (32 * w)).stack / 2) = false)
include hout

theorem State.touchStack_of_corrected {v : BitVec 256} (h : s.stackFinding w = .corrected v) : (s.touchStack w who).2 = false ∧
    (s.touchStack w who).1.reports = s.reports ++ [mkReport .stkCe ((stackMap (32 * w)).stack / 2) who .stackLine 0 (32 * w)] := by
  simp only [State.touchStack, hw, h, Bool.false_eq_true, if_false, true_and]
  rw [State.reports_report]
  · simp only [State.event, State.countSat, State.setF, State.reports_setObj, State.reports_storeStackWord]
  · rw [mkReport_die (stackMap_die_lt _)]
    simp only [State.event, State.countSat, State.setF, State.stewardOut_setObj, State.stewardOut_storeStackWord, hout]

omit hw in
/-- What an uncorrectable word and a word of another line share: the counts and the record, whatever its error. -/
theorem State.reports_stackError (err : CheckedError) (kind : Nat) :
    ((((s.countSat (0x8020 + (stackMap (32 * w)).stack) 4 24 16 1).stackLastError (stackMap (32 * w)).stack kind who (32 * w)).event
      (0x8020 + (stackMap (32 * w)).stack) 2 0x200).report
        (mkReport err ((stackMap (32 * w)).stack / 2) who .stackLine 0 (32 * w))).reports =
      s.reports ++ [mkReport err ((stackMap (32 * w)).stack / 2) who .stackLine 0 (32 * w)] := by
  rw [State.reports_report]
  · rfl
  · rw [mkReport_die (stackMap_die_lt _)]
    simp only [State.event, State.countSat, State.stackLastError, State.setF, State.stewardOut_setObj, hout]

theorem State.touchStack_of_uncorrectable (h : s.stackFinding w = .uncorrectable) : (s.touchStack w who).2 = true ∧
    (s.touchStack w who).1.reports = s.reports ++ [mkReport .stkUe ((stackMap (32 * w)).stack / 2) who .stackLine 0 (32 * w)] := by
  simp only [State.touchStack, hw, h, Bool.false_eq_true, if_false, true_and]
  exact State.reports_stackError who hout .stkUe 1

theorem State.touchStack_of_wrongAddress (h : s.stackFinding w = .wrongAddress) : (s.touchStack w who).2 = true ∧
    (s.touchStack w who).1.reports = s.reports ++ [mkReport .stkAddr ((stackMap (32 * w)).stack / 2) who .stackLine 0 (32 * w)] := by
  simp only [State.touchStack, hw, h, Bool.false_eq_true, if_false, true_and]
  exact State.reports_stackError who hout .stkAddr 2

end

end Sys2Proof.Machine
end

section
/-! SUPPORT. The coding of a lane, undone (R336, R338, R339): the scrambler, the levels, and the lengths of codewords. -/

namespace Sys2Proof.Machine

/-! ## Bits of a number -/

theorem ofBitsLsb_lt (l : List Bool) : ofBitsLsb l < 2 ^ l.length := by
  induction l with
  | nil => exact Nat.one_pos
  | cons b l ih =>
    have hb : b2n b < 2 := b2n_lt b
    rw [ofBitsLsb, List.length_cons, Nat.pow_succ]
    omega

theorem bitsLsb_ofBitsLsb (l : List Bool) : bitsLsb l.length (ofBitsLsb l) = l := by
  induction l with
  | nil => rfl
  | cons b l ih =>
    have htail : (b2n b + 2 * ofBitsLsb l) / 2 = ofBitsLsb l := by
      rw [Nat.add_mul_div_left _ _ (by decide), Nat.div_eq_of_lt (b2n_lt b), Nat.zero_add]
    rw [List.length_cons, bitsLsb, ofBitsLsb, decide_odd_b2n_add, htail, ih]

/-! ## Blocks and the scrambler (R336) -/

theorem scrambleBit_scrambleBit (t : BitVec 58) (b : Bool) : scrambleBit t (scrambleBit t b) = b := by
  simp only [scrambleBit]
  cases b <;> cases t.getLsbD 38 <;> cases t.getLsbD 57 <;> rfl

theorem length_scrambleBits (t : BitVec 58) (l : List Bool) : (scrambleBits t l).2.length = l.length := by
  induction l generalizing t with
  | nil => rfl
  | cons b l ih => rw [scrambleBits, List.length_cons, List.length_cons, ih]

/-- The descrambler gives back the bits, and ends with the scrambler's own last 58. -/
theorem descrambleBits_scrambleBits (t : BitVec 58) (l : List Bool) :
    descrambleBits t (scrambleBits t l).2 = ((scrambleBits t l).1, l) := by
  induction l generalizing t with
  | nil => rfl
  | cons b l ih => rw [scrambleBits, descrambleBits, ih, scrambleBit_scrambleBit]

theorem length_blockLine (t : BitVec 58) (control : Bool) (payload : U64) : (blockLine t control payload).2.length = 66 := by
  rw [blockLine, List.length_cons, List.length_cons, length_scrambleBits, bitsLsb_length]

/-- A block as a number: its header below its scrambled payload. -/
theorem ofBitsLsb_blockLine (t : BitVec 58) (control : Bool) (payload : U64) : ofBitsLsb (blockLine t control payload).2 =
    (if control then 1 else 2) + 4 * ofBitsLsb (scrambleBits t (bitsLsb 64 payload.toNat)).2 := by
  rw [blockLine, ofBitsLsb, ofBitsLsb]
  cases control <;> simp only [b2n, Bool.not_false, Bool.not_true, Bool.false_eq_true, if_true, if_false] <;> omega

theorem lineBlock_blockLine (t : BitVec 58) (control : Bool) (payload : U64) :
    lineBlock t (BitVec.ofNat 66 (ofBitsLsb (blockLine t control payload).2)) =
      ((blockLine t control payload).1, if control then .control else .data, payload) := by
  have hlt : ofBitsLsb (blockLine t control payload).2 < 2 ^ 66 := length_blockLine t control payload ▸ ofBitsLsb_lt _
  have hlen : (scrambleBits t (bitsLsb 64 payload.toNat)).2.length = 64 := by rw [length_scrambleBits, bitsLsb_length]
  have hbits := bitsLsb_ofBitsLsb (scrambleBits t (bitsLsb 64 payload.toNat)).2
  have hheader : (if control then 1 else 2) < 4 := by cases control <;> decide
  rw [hlen] at hbits
  rw [lineBlock, BitVec.toNat_ofNat, Nat.mod_eq_of_lt hlt, ofBitsLsb_blockLine, Nat.add_mul_mod_self_left, Nat.mod_eq_of_lt hheader,
    Nat.add_mul_div_left _ _ (by decide), Nat.div_eq_of_lt hheader, Nat.zero_add, hbits, descrambleBits_scrambleBits,
    ofBitsLsb_bitsLsb _ _ payload.isLt]
  cases control <;> simp [blockLine]

theorem lineBlock_invalid {b : BitVec 66} (h : b.toNat % 4 = 0 ∨ b.toNat % 4 = 3) (t : BitVec 58) : (lineBlock t b).2.1 = .invalid := by
  obtain h | h := h <;> simp [lineBlock, h]

/-! ## Levels (R339) -/

theorem grayLevel_lt (a b : Bool) : grayLevel a b < 4 := by cases a <;> cases b <;> decide

theorem grayPair_grayLevel (a b : Bool) : grayPair (grayLevel a b) = [a, b] := by cases a <;> cases b <;> rfl

/-- The level code sent for code `x` after level code `y` (R339). -/
def precoded (precode : Bool) (y x : Nat) : Nat := if precode then (x + 4 - y) % 4 else x

theorem precoded_lt (precode : Bool) (y : Nat) {x : Nat} (hx : x < 4) : precoded precode y x < 4 := by
  cases precode
  · exact hx
  · exact Nat.mod_lt _ (by decide)

/-- The receiver undoes the precoding. -/
theorem precoded_undone (precode : Bool) {y x : Nat} (hy : y < 4) (hx : x < 4) :
    (if precode then (precoded precode y x + y) % 4 else precoded precode y x) = x := by
  cases precode <;> simp only [precoded, Bool.false_eq_true, if_true, if_false]
  omega

theorem levelCodes_cons_cons (precode : Bool) (y : Nat) (a b : Bool) (l : List Bool) : levelCodes precode y (a :: b :: l) =
    (precoded precode y (grayLevel a b) :: (levelCodes precode (precoded precode y (grayLevel a b)) l).1,
      (levelCodes precode (precoded precode y (grayLevel a b)) l).2) := rfl

theorem levelCodes_lt (precode : Bool) : ∀ (y : Nat) (l : List Bool) c, c ∈ (levelCodes precode y l).1 → c < 4
  | _, [], _, hc => absurd hc List.not_mem_nil
  | _, [_], _, hc => absurd hc List.not_mem_nil
  | y, a :: b :: l, c, hc => by
    rw [levelCodes_cons_cons] at hc
    obtain rfl | hc := List.mem_cons.mp hc
    · exact precoded_lt precode y (grayLevel_lt a b)
    · exact levelCodes_lt precode _ l c hc

/-- The levels of whole pairs of bits read as those bits, with the same last level. -/
theorem levelBits_levelCodes (precode : Bool) : ∀ {y : Nat} (l : List Bool), y < 4 → l.length % 2 = 0 →
    levelBits precode y (levelCodes precode y l).1 = (l, (levelCodes precode y l).2)
  | _, [], _, _ => rfl
  | _, [_], _, heven => absurd heven Nat.one_ne_zero
  | y, a :: b :: l, hy, heven => by
    have hx := grayLevel_lt a b
    have htail := levelBits_levelCodes precode l (precoded_lt precode y hx) (Nat.add_mod_right l.length 2 ▸ heven)
    rw [levelCodes_cons_cons, levelBits, htail, precoded_undone precode hy hx, grayPair_grayLevel]
    rfl

/-! ## Codewords (R338) -/

theorem length_gfTimes (l : List Nat) (r : Nat) : (gfTimes l r).length = l.length + 1 := by
  rw [gfTimes, List.length_zipWith, List.length_append, List.length_singleton, List.length_cons, Nat.min_self]

/-- g(x) has degree 30. -/
theorem length_rsGenerator : rsGenerator.length = 31 := by
  have hfold : ∀ (is : List Nat) (l : List Nat), (is.foldl (fun l i => gfTimes l (gfAlpha i)) l).length = l.length + is.length := by
    intro is
    induction is with
    | nil => exact fun l => rfl
    | cons i is ih => exact fun l => by rw [List.foldl_cons, ih, length_gfTimes, List.length_cons]; omega
  rw [rsGenerator, hfold, List.length_range, List.length_singleton]

theorem length_rsParity (msg : List Nat) : (rsParity msg).length = 30 := by
  refine List.foldlRecOn (motive := fun rem : List Nat => rem.length = 30) _ _ List.length_replicate fun rem hrem m _ => ?_
  rw [List.length_zipWith, List.length_append, List.length_drop, List.length_drop, length_rsGenerator, hrem]
  rfl

theorem length_rsEncode (msg : List Nat) : (rsEncode msg).length = msg.length + 30 := by
  rw [rsEncode, List.length_append, length_rsParity]

end Sys2Proof.Machine
end

section
/-! PROOFS. The check codes of SRAM and of the stacks, and the coding of a lane (R262, R266, R336, R338, R339). -/

namespace Sys2Proof.Machine

/-- Settles O37: check bits are parities over distinct columns, so a syndrome names the one bit it is the column of; the code finds that bit, the
read reports it, and each stage of a lane's coding has its inverse. -/
theorem checkCodes : Obligations.CheckCodes := by
  unfold Obligations.CheckCodes
  refine ⟨⟨sramColumns_eq, length_sramColumns, fun w j _ => testBit_sramEncode w j, ?sramSyndromes, ?sramReads⟩,
    ⟨length_stackPositions, pairwise_lt_stackPositions, fun p => mem_stackPositions, ?stackField, ?stackSyndromes, ?stackReads⟩,
    fun t control payload => ⟨length_blockLine t control payload, lineBlock_blockLine t control payload⟩,
    fun b t h => lineBlock_invalid h t,
    fun precode y l hy heven => ⟨levelCodes_lt precode y l, levelBits_levelCodes precode l hy heven⟩,
    fun msg hmsg => ⟨by rw [length_rsEncode, hmsg], List.take_left' hmsg⟩,
    symbolsOf_symbolBits⟩
  case sramSyndromes =>
    exact fun w c hc => ⟨sramCheckWord_of_syndrome_zero, fun i => sramCheckWord_of_column hc, fun j => sramCheckWord_of_checkBit hc,
      sramCheckWord_of_other hc⟩
  case sramReads =>
    intro s w who e hw hout
    refine ⟨State.touchSram_of_ok who e hw, fun v h => ?_, State.touchSram_of_uncorrectable who e hw hout⟩
    obtain ⟨hgood, hreports⟩ := State.touchSram_of_corrected who e hw hout h
    exact ⟨hgood, State.sramRead_of_corrected h, hreports⟩
  case stackField =>
    exact fun w line _ => ⟨stackEncode_lt w line, fun k => testBit_stackEncode w line, testBit_nine_stackEncode w line,
      (stackEncode_div w line).trans (stackAddrField_eq line)⟩
  case stackSyndromes =>
    intro w c line hc _
    dsimp only
    split
    next haddr => exact stackCheckWord_of_address hc haddr
    next haddr =>
      have hsame : c / 1024 = stackEncode w line / 1024 := Decidable.not_not.mp haddr
      refine ⟨fun h0 heven => ?_, fun h0 hodd => ?_, fun i => stackCheckWord_of_position hsame rfl, fun k => stackCheckWord_of_checkBit hsame rfl,
        fun h0 heven => stackCheckWord_of_uncorrectable hsame rfl h0 (.inl heven),
        fun hgt => stackCheckWord_of_uncorrectable hsame rfl (Nat.ne_of_gt (Nat.zero_lt_of_lt hgt)) (.inr hgt)⟩
      · rw [stackCheckWord_of_syndrome_zero hsame rfl h0, heven, if_neg Bool.false_ne_true]
      · rw [stackCheckWord_of_syndrome_zero hsame rfl h0, hodd, if_pos rfl]
  case stackReads =>
    exact fun s w who hw hout => ⟨State.touchStack_of_ok who hw, fun v => State.touchStack_of_corrected who hw hout,
      State.touchStack_of_uncorrectable who hw hout, State.touchStack_of_wrongAddress who hw hout⟩

end Sys2Proof.Machine
end
